-- ==== Sys2Proof/Word.lean ====
section
/-!
DEFINITION. The words of the block: register words, bytes of buffers and records, and the sparse store of words.
-/

namespace Sys2Proof

/-- A parameter word or a 32-bit register (R68). -/
abbrev Word := BitVec 32

/-- A byte of a buffer, a record or an entry (R5). -/
abbrev Byte := BitVec 8

/-- Sparse words by key, in one canonical form: keys strictly rising, and no entry equal to what an unlisted key
reads as (the owner of the store names that default). -/
abbrev Store := List (Nat × Word)

end Sys2Proof
end

