-- ==== Sys2Proof/Syntax.lean ====
section
/-!
DEFINITION. The commands of the block: one constructor for each row of spec/opcode_table.json, with its operands. A host command
carries its submission entry; a happening carries what the outside gives it (levels, samples, packets, outcomes of tests).
-/

namespace Sys2Proof

/-- A submission entry (R54) as the unit fetches it from queue `sq`, without its OPCODE, with the bytes that host memory
holds at BUF_ADDR (R58). -/
structure Entry where
  sq : Fin 64
  fence : Bool
  rsv : BitVec 3
  tag : BitVec 12
  unit : BitVec 16
  selector : BitVec 16
  address : BitVec 32
  inline : Vector Byte 36
  bufAddr : BitVec 64
  bufLen : BitVec 32
  crc : BitVec 32
  buf : List Byte
  deriving DecidableEq, Repr

/-- A field of configuration space that the host writes (R34 to R36, R38, R47): sizes in bytes, the timeout in microseconds. -/
inductive ConfigField where
  | memorySpace (en : Bool)
  | maxPayload (bytes : Nat)
  | maxReadRequest (bytes : Nat)
  | relaxedOrdering (en : Bool)
  | noSnoop (en : Bool)
  | extendedTags (en : Bool)
  | tags10 (en : Bool)
  | completionTimeout (us : Nat)
  | msix (enable mask : Bool)
  /-- The base of BAR0, BAR2 or BAR4 (R36). -/
  | bar (n : Fin 3) (base : BitVec 64)
  /-- The power state back to D0 (R34). -/
  | d0
  /-- The error status words of the AER capability, W1C (R34). -/
  | aerCorrectable (v : BitVec 32)
  | aerUncorrectable (v : BitVec 32)
  deriving DecidableEq, Repr

/-- What a slice's calibration against the reference ladder gives (R128): the offset correction that it needs in 1/16 LSB, the gain
correction in ppm, and the greatest spread of its conversions at one level in 1/16 LSB. -/
structure SliceCal where
  group : Nat
  slice : Nat
  offset : Int
  gain : Int
  spread : Nat
  deriving DecidableEq, Repr

/-- An error that a carriage check finds in data that a stage receives (R419): the stage, and whether it was corrected. -/
structure CarriageErr where
  stage : Nat
  corrected : Bool
  deriving DecidableEq, Repr

/-- An error found in the data of a record: by a carriage check, or in the line store at an address in 64 B units (R419, R420). -/
inductive RecordErr where
  | carriage (x : CarriageErr)
  | store (addr : BitVec 32) (corrected : Bool)
  deriving DecidableEq, Repr

/-- The amplitude of a lane below 60 mVppd (R143, R161): for 1 us, or in a dip for less. -/
structure LaneLoss where
  lane : Fin 24
  dip : Bool
  deriving DecidableEq, Repr

/-- For 1 ms the frequency of a lane has differed from its nominal rate by at least so many ppm (R154). -/
structure LaneDrift where
  lane : Fin 24
  ppm : Nat
  deriving DecidableEq, Repr

/-- Bits that a lane under test has received, the first in front (R159). -/
structure TestBits where
  lane : Fin 24
  bits : List Bool
  deriving DecidableEq, Repr

/-- What a foreground calibration measured in the ranges 1 V and 4 V (R374): offsets in codes, gain errors in ppm. -/
structure AuxMeasured where
  offset1 : Int
  gain1 : Int
  offset4 : Int
  gain4 : Int
  deriving DecidableEq, Repr

/-- A face, and the errors that carriage checks found on the way of its next line (R237, R419). -/
structure FacePass where
  face : Fin 2
  errs : List CarriageErr
  deriving DecidableEq, Repr

/-- A window, and the errors found in the data of its oldest record (R407, R419, R420). -/
structure Publication where
  win : Fin 64
  errs : List RecordErr
  deriving DecidableEq, Repr

/-- The commands, in the order of the table. -/
inductive Instr where
  /-- NOP (R66): No effect; RESULT 0. -/
  | nop (e : Entry)
  /-- IDENTIFY (R451): The identity record. -/
  | identify (e : Entry)
  /-- STATE_SET (R29, R535): A transition of the unit state. -/
  | stateSet (e : Entry)
  /-- STATE_GET (R66): The unit state and FAULT_PRESENT. -/
  | stateGet (e : Entry)
  /-- RESET_UNIT (R60, R479): Its completion first, then the warm reset. -/
  | resetUnit (e : Entry)
  /-- RESET_PIPELINE (R483): The flush behind the line in progress. -/
  | resetPipeline (e : Entry)
  /-- RECIPE_LOAD (R445): A recipe is checked whole and its load begins. -/
  | recipeLoad (e : Entry)
  /-- RECIPE_SAVE (R446): The configuration is captured. -/
  | recipeSave (e : Entry)
  /-- PARAM_READ (R71): Parameter words or pending values. -/
  | paramRead (e : Entry)
  /-- PARAM_WRITE (R69, R70): Parameter words written together. -/
  | paramWrite (e : Entry)
  /-- PARAM_STAGE (R69): Pending values of staged words. -/
  | paramStage (e : Entry)
  /-- COMMIT (R72 to R76): A new generation at the chosen boundary. -/
  | commit (e : Entry)
  /-- TABLE_WRITE (R77 to R79): Table words, after DATA_CRC and locks; at work until TABLE_WRITE_APPLY where flash or banks are written. -/
  | tableWrite (e : Entry)
  /-- TABLE_READ (R78): Table words with their CRC-32C. -/
  | tableRead (e : Entry)
  /-- BANK_SWAP (R197): A cross-fade to the other alignment bank. -/
  | bankSwap (e : Entry)
  /-- LINE_START (R103): A run without tracking. -/
  | lineStart (e : Entry)
  /-- LINE_STOP (R103): The run of LINE_START ends. -/
  | lineStop (e : Entry)
  /-- STATS_READ (R112): A held statistics block. -/
  | statsRead (e : Entry)
  /-- LINK_TRAIN (R151): A group goes down and trains. -/
  | linkTrain (e : Entry)
  /-- LINK_TRAIN_COMPLETE (R151): Training of a group has ended. -/
  | linkTrainComplete (g : Fin 6)
  /-- LINK_STATUS (R160): Group status, lane map, heads in link and skew. -/
  | linkStatus (e : Entry)
  /-- LANE_PRBS (R159): A pattern on lanes, its check, or its end. -/
  | lanePrbs (e : Entry)
  /-- HEAD_CONTROL (R157, R160): A user message to a head or peer, or the oldest one of a mailbox. -/
  | headControl (e : Entry)
  /-- TRACKER_STATUS (R266): Open-object counts, storms, free slots. -/
  | trackerStatus (e : Entry)
  /-- STORM_CLEAR (R266): Storms end with the line in progress. -/
  | stormClear (e : Entry)
  /-- COUNTERS_READ (R290): Verdict and shot counters. -/
  | countersRead (e : Entry)
  /-- COUNTERS_CLEAR (R290): Counters cleared by class. -/
  | countersClear (e : Entry)
  /-- VALVE_TEST (R321): Test pulses in HOLD. -/
  | valveTest (e : Entry)
  /-- EJECT_LIVE (R321): To SORTING. -/
  | ejectLive (e : Entry)
  /-- EJECT_DRY (R321): To ARMED. -/
  | ejectDry (e : Entry)
  /-- ENGINE_LOAD (R338): A program into a stopped engine. -/
  | engineLoad (e : Entry)
  /-- ENGINE_START (R339): Stopped engines start on one edge. -/
  | engineStart (e : Entry)
  /-- ENGINE_STOP (R337): Engines stop on one edge. -/
  | engineStop (e : Entry)
  /-- ENGINE_STATUS (R341): Status word and shift register of an engine. -/
  | engineStatus (e : Entry)
  /-- TIMER_CONFIG (R358): Both configuration words of timers. -/
  | timerConfig (e : Entry)
  /-- AUX_SEQUENCE (R377): The auxiliary sequence is checked, started or stopped. -/
  | auxSequence (e : Entry)
  /-- AUX_READ (R377): Latest auxiliary results. -/
  | auxRead (e : Entry)
  /-- RING_ATTACH (R402, R403): An archive window is attached. -/
  | ringAttach (e : Entry)
  /-- RING_RELEASE (R403): An archive window is detached. -/
  | ringRelease (e : Entry)
  /-- TAP_ARM (R220): A tap channel is armed or disarmed. -/
  | tapArm (e : Entry)
  /-- LSYN_CONFIG (R386): The line synthesizer set up. -/
  | lsynConfig (e : Entry)
  /-- LSYN_RAMP (R389): A ramp starts, is replaced or stops. -/
  | lsynRamp (e : Entry)
  /-- LSYN_PHASE_STEP (R391): A phase step. -/
  | lsynPhaseStep (e : Entry)
  /-- TIMEBASE_ALIGN (R398): The timebase read, set, moved or resynchronised. -/
  | timebaseAlign (e : Entry)
  /-- SELFTEST (R486, R487): A test begins. -/
  | selftest (e : Entry)
  /-- SELFTEST_DONE (R487): The running test ends: whether it passed, its failure code, and how long it took. -/
  | selftestDone (pass : Bool) (code : BitVec 32) (us : Nat)
  /-- CALIBRATE (R183): A calibration begins to gather. -/
  | calibrate (e : Entry)
  /-- CALIBRATE_FINAL_STEP (R186): Gathering has ended. -/
  | calibrateFinalStep
  /-- INJECT (R503): An injected occurrence of a source. -/
  | inject (e : Entry)
  /-- FW_STAGE (R438): A chunk of a firmware image. -/
  | fwStage (e : Entry)
  /-- FW_VERIFY (R439): Verification of a staged image begins. -/
  | fwVerify (e : Entry)
  /-- FW_ACTIVATE (R440): The selector write begins. -/
  | fwActivate (e : Entry)
  /-- UNLOCK_UNTESTED (R437): An untested pairing is accepted. -/
  | unlockUntested (e : Entry)
  /-- LOG_READ (R450): Log entries from a sequence number on. -/
  | logRead (e : Entry)
  /-- THERMAL_STATUS (R469): Temperatures and thermal flags. -/
  | thermalStatus (e : Entry)
  /-- DOMAIN_SET (R477): Domains off, then on. -/
  | domainSet (e : Entry)
  /-- ENTRY_CHECK (R55): The next entry fails its ENTRY_CRC. -/
  | entryCheck (opcode : BitVec 16) (e : Entry)
  /-- BAD_OPCODE (R55): The next entry names an opcode that R66 does not list. -/
  | badOpcode (opcode : BitVec 16) (e : Entry)
  /-- CPL_TIMEOUT (R35): A read times out: of the next entry of a queue, or of the buffer of the command in it. -/
  | cplTimeout (sq : Fin 64) (command : Option (BitVec 16 × Entry))
  /-- SQ_TAIL (R51): A tail doorbell. -/
  | sqTail (n : Fin 64) (v : Word)
  /-- CQ_HEAD (R51, R53, R537): A head doorbell. -/
  | cqHead (n : Fin 64) (v : Word)
  /-- SQ_ENABLE (R50): SQ_ENABLE set, with SQ_CQID and SQ_SIZE. -/
  | sqEnable (n : Fin 64) (cqid : Fin 64) (size : BitVec 12)
  /-- SQ_DISABLE (R50): SQ_ENABLE cleared. -/
  | sqDisable (n : Fin 64)
  /-- CQ_ENABLE (R50): CQ_ENABLE set, with CQ_IRQ_EN, CQ_VECTOR and CQ_SIZE. -/
  | cqEnable (n : Fin 64) (irqEn : Bool) (vector : Fin 64) (size : BitVec 12)
  /-- CQ_DISABLE (R50): CQ_ENABLE cleared. -/
  | cqDisable (n : Fin 64)
  /-- CAUSE (R495, R506): CAUSE of a group written (W1C). -/
  | causeWrite (g : Fin 32) (v : Word)
  /-- MASK (R495, R506): MASK of a group written. -/
  | maskWrite (g : Fin 32) (v : Word)
  /-- ROUTE (R494 to R496): ROUTE of a source written. -/
  | routeWrite (source : Fin 1024) (v : Word)
  /-- EVR_ENABLE (R497): EVR_ENABLE written, with EVR_SIZE. -/
  | evrEnable (en : Bool) (size : BitVec 12)
  /-- EVR_HEAD (R497): EVR_HEAD written. -/
  | evrHead (v : Word)
  /-- RP_LO (R408): RP_LO written, alone or with RP_HI in one 64-bit write. -/
  | rpLo (w : Fin 64) (both : Bool) (v : BitVec 64)
  /-- ARM (R348): ARM of a timer. -/
  | timerArm (t : Fin 32)
  /-- STOP (R349): STOP of a timer. -/
  | timerStop (t : Fin 32)
  /-- CAP_LO (R353): CAP_LO of a timer read, alone or with CAP_HI in one 64-bit read. -/
  | capLo (t : Fin 32) (both : Bool)
  /-- PULL_DATA (R340): PULL_DATA of an engine written. -/
  | pullData (n : Fin 16) (v : Word)
  /-- PUSH_DATA (R340): PUSH_DATA of an engine read. -/
  | pushData (n : Fin 16)
  /-- FRAME_MARK (R105): A PARAM_WRITE of the word of FRAME_MARK. -/
  | frameMark (e : Entry)
  /-- FLIP (R162): A PARAM_WRITE of a word of RX_FLIP. -/
  | flip (e : Entry)
  /-- FORCE_STORM (R268): A PARAM_WRITE of a word of FORCE_STORM. -/
  | forceStorm (e : Entry)
  /-- AUTOSTART_SETTINGS_WRITE (R448): A PARAM_WRITE of word 10h of page 0D00h. -/
  | autostartSettingsWrite (e : Entry)
  /-- SHORT (R331): A PARAM_WRITE of a word of SHORT. -/
  | shortClear (e : Entry)
  /-- MSIX_UNMASK (R38): A vector, or the function, is unmasked. -/
  | msixUnmask (vector : Option (Fin 64))
  /-- BAR_ACCESS (R36): A read or a write of any size at an offset of a BAR; narrow and misaligned ones raise BAR_ACCESS. -/
  | barAccess (bar : Fin 8) (off : BitVec 20) (size : Fin 17) (write : Bool) (v : BitVec 64)
  /-- REGISTER_WRITE (R7 to R9, R36): A 32-bit or 64-bit write at an offset of a BAR. -/
  | registerWrite (bar : Fin 8) (off : BitVec 20) (both : Bool) (v : BitVec 64)
  /-- COLD_START (R479): VSTBY is applied. -/
  | coldStart
  /-- VIN_POWER_ON (R473): VIN is back. -/
  | vinPowerOn
  /-- POWER_FAIL (R473, R488): VIN fails. -/
  | powerFail
  /-- VSTBY_LOSS (R474): VSTBY fails. -/
  | vstbyLoss
  /-- RESET_N (R479): RESET_N is low for so many nanoseconds, or longer than 1 us. -/
  | resetN (ns : Nat)
  /-- WATCHDOG (R426, R435): The watchdog expires. -/
  | watchdog
  /-- HOST_LINK_RESET (R45): 0 PERST#, 1 hot reset, 2 link down, 3 FLR, 4 D3hot. -/
  | hostLinkReset (kind : Fin 5)
  /-- FUNCTION_READY (R47): The function becomes ready. -/
  | functionReady
  /-- LINK_RETRAIN (R43): The link has trained to a width in lanes and a speed in the encoding of R37. -/
  | linkRetrain (width : Nat) (speed : Fin 5)
  /-- BOOT_SELECTION (R434): The boot ROM has verified the images. -/
  | bootSelection
  /-- STARTUP_DONE (R485): The self-check has ended with a code, 0 where it passed. -/
  | startupDone (code : Nat)
  /-- AUTOSTART (R447): The Barometer goes on with AUTOSTART. -/
  | autostart
  /-- DOMAIN_READY (R475): The ready time of a domain is over. -/
  | domainReady (n : Fin 25)
  /-- DOMAIN_FAULT (R478): The regulator of a domain fails. -/
  | domainFault (n : Fin 25)
  /-- REF_LOSS (R382): REFIN is lost. -/
  | refLoss
  /-- REF_RETURN (R382): REFIN is back. -/
  | refReturn
  /-- SYSPLL_SETTLED (R381): The system PLL has settled. -/
  | sysPllSettled
  /-- LSYN_SETTLED (R385): The line synthesizer has settled. -/
  | lsynSettled
  /-- LINE_EDGE (R387, R538): A line edge of the synthesizer. -/
  | lineEdge
  /-- ENC_EDGE (R96, R352): New levels of ENC_A and ENC_B. -/
  | encEdge (a : Bool) (b : Bool)
  /-- ENC_Z (R96, R352): A rising edge of ENC_Z. -/
  | encZ
  /-- LINE_TRIGGER (R97): A trigger of the selected source; with what the seat slices whose steps end on the line measured (R126, R128). -/
  | lineTrigger (cals : List SliceCal)
  /-- HELD_TRIGGER_ACCEPT (R97): The held trigger can be accepted; with what seat slices measured. -/
  | heldTriggerAccept (cals : List SliceCal)
  /-- FRAME_IN (R105, R352): A level of FRAME_IN. -/
  | frameIn (level : Bool)
  /-- TRIG_STALL (R100): LINE_TIMEOUT has passed without a trigger. -/
  | trigStall
  /-- FG_CAL (R130): Foreground calibration ends; with what its slices measured. -/
  | fgCal (cals : List SliceCal)
  /-- HEAD0_LINE_DELIVERY (R119): The oldest converted line of head 0: electrons by exposure (rows of the array), below 0 where the input
  lies below black, and the comparators that trip between 130 % and 150 % of full scale (exposure, column). -/
  | head0LineDelivery (charges : List (List Int)) (trips : List (Nat × Nat))
  /-- MARKER (R140, R141): What a lane received where its marker should be, and where in the interval, in bit times. -/
  | marker (lane : Fin 24) (word : Option (BitVec 64)) (arrived : Nat)
  /-- LOS (R143, R161): The amplitude of a lane has been below 60 mVppd for 1 us, or in a dip for less. -/
  | los (x : LaneLoss)
  /-- WANDER (R154): For 1 ms the frequency of a lane has differed from its nominal rate by at least so many ppm. -/
  | wander (x : LaneDrift)
  /-- LINE_SEGMENT (R146, R166): A LINE_SEGMENT comes on a group: for each interval it touches, the line bits of the four physical lanes
  from the first bit of their markers on; `pos` is the group word of the first interval with which what is new begins. -/
  | lineSegment (g : Fin 6) (pos : Nat) (first : Vector (List Bool) 4) (rest : List (Vector (List Bool) 4))
  /-- CONTROL (R148): A CONTROL packet comes on a group, as LINE_SEGMENT. -/
  | control (g : Fin 6) (pos : Nat) (first : Vector (List Bool) 4) (rest : List (Vector (List Bool) 4))
  /-- MISSING_LINE (R170): The deadline of the next line of a head has passed. -/
  | missingLine (head : Fin 12)
  /-- FACE_ASSEMBLY (R237): The next face line of a face, and the errors that carriage checks found on its way (R419). -/
  | faceAssembly (x : FacePass)
  /-- EVALUATION_START (R274): The classifier starts a waiting evaluation. -/
  | evaluationStart
  /-- CLASS_OVERLOAD (R274): A verdict evaluation has waited 10 us. -/
  | classOverload
  /-- VERDICT (R281): The oldest verdict evaluation that runs ends. -/
  | verdict
  /-- PROVISIONAL_RESULT (R277): The oldest provisional evaluation that runs ends. -/
  | provisionalResult
  /-- VALVE_FRAME (R299, R307): The boundary of the valve frame in progress. -/
  | valveFrame
  /-- RETRACTION_RECORD (R293): A retraction whose frame has latched. -/
  | retractionRecord
  /-- CHIP_STAGING (R415): A chip whose last line is in the ring. -/
  | chipStaging
  /-- RECORD_PUBLISH (R407): The oldest record placed in a window is written; the errors found in its data (R419, R420). -/
  | recordPublish (x : Publication)
  /-- TOKEN_BUCKET_REFILL (R44): One microsecond of budget. -/
  | tokenBucketRefill
  /-- SNAPSHOT (R413): The oldest snapshot request is served. -/
  | snapshot
  /-- OUT (R333): OUT at the end of a tick; the bits that DATA_IN captured. -/
  | engOut (n : Fin 16) (captured : Nat)
  /-- IN (R333): IN at the end of a tick; the bits that DATA_IN captured. -/
  | engIn (n : Fin 16) (captured : Nat)
  /-- PULL (R333): PULL, or its stall. -/
  | engPull (n : Fin 16)
  /-- PUSH (R333): PUSH, or its stall. -/
  | engPush (n : Fin 16)
  /-- SET (R333): SET. -/
  | engSet (n : Fin 16)
  /-- WAIT (R333): The first look of WAIT; the synchronised level of its pin. -/
  | engWait (n : Fin 16) (level : Bool)
  /-- WAIT_RELEASE (R333): A later look of WAIT. -/
  | engWaitRelease (n : Fin 16) (level : Bool)
  /-- CMP (R333): CMP. -/
  | engCmp (n : Fin 16)
  /-- JMP (R333): JMP; the synchronised level of TEST. -/
  | engJmp (n : Fin 16) (level : Bool)
  /-- DELAY (R333): Ticks of DELAY. -/
  | engDelay (n : Fin 16)
  /-- EVENT (R333): EVENT. -/
  | engEvent (n : Fin 16)
  /-- SYNC (R333, R336): An engine at SYNC on GROUP. -/
  | engSync (n : Fin 16)
  /-- SYNC_RELEASE (R336): A sync group whose running engines all stand at SYNC. -/
  | syncRelease (group : Fin 4)
  /-- PIN_SHORT (R331): A driven pin has differed from its level for 1 us. -/
  | pinShort (pin : Fin 64)
  /-- TIMER_MATCH (R350): A timer reaches CMPA or CMPB. -/
  | timerMatch (t : Fin 32) (b : Bool)
  /-- TIMER_DONE (R346): A timer reaches PERIOD. -/
  | timerDone (t : Fin 32)
  /-- AUX_STEP_START (R367): The trigger of the auxiliary step is met. -/
  | auxStepStart
  /-- AUX_RESULT (R368): A conversion ends: its exact code, and whether its window overlaps an overload. -/
  | auxResult (raw : Int) (overload : Bool)
  /-- AUX_CHECK_CONVERSION (R371): A check conversion ends with a code. -/
  | auxCheckConversion (raw : Int)
  /-- AUX_FOREGROUND_CAL (R374): It ends; the ranges out of their limits. -/
  | auxForegroundCal (x : AuxMeasured)
  /-- AUX_BACKGROUND_CAL (R375): It ends with the offsets measured in the two ranges. -/
  | auxBackgroundCal (m1 : Int) (m4 : Int)
  /-- SYNCIN_EDGE (R394 to R397): A SYNCIN edge, so many sixteenths after the count. -/
  | syncinEdge (sixteenths : Fin 16)
  /-- SYNC_MISS (R396): A window has passed without an edge. -/
  | syncMiss
  /-- SYNCOUT (R395): A pulse is due. -/
  | syncout
  /-- DIODE_SAMPLE (R455): A sample of the diode in the unit of TEMP_RAW, or none. -/
  | diodeSample (sample : Option Int)
  /-- HOT_ON (R460): The Barometer carries out the WARN and HOT actions. -/
  | hotOn
  /-- TRIP_COMMIT (R466): Held flash writes are committed. -/
  | tripCommit
  /-- LOG_COMMIT (R450): Log entries are committed. -/
  | logCommit
  /-- DEBUGGER_HALT (R427): A debugger halts the Barometer, or lets it go on. -/
  | debuggerHalt (halt : Bool)
  /-- EXTEST (R530): The cells shifted in. -/
  | extest (cells : List Bool)
  /-- IDCODE (R530): IDCODE. -/
  | idcode
  /-- SAMPLE_PRELOAD (R530): The cells shifted in; the levels come out. -/
  | samplePreload (cells : List Bool)
  /-- CLAMP (R530): CLAMP. -/
  | clamp
  /-- HIGHZ (R530): HIGHZ. -/
  | highz
  /-- EXTEST_PULSE (R530): The cells shifted in. -/
  | extestPulse (cells : List Bool)
  /-- EXTEST_TRAIN (R530): The cells shifted in. -/
  | extestTrain (cells : List Bool)
  /-- DBG_CHALLENGE (R452): A challenge is read. -/
  | dbgChallenge
  /-- DBG_RESPONSE (R452): The signature shifted in. -/
  | dbgResponse (signature : List Byte)
  /-- DBG_ACCESS (R452, R530): The debug access register. -/
  | dbgAccess
  /-- BYPASS (R530): BYPASS, or a code that no instruction has. -/
  | bypass
  /-- CLOCK_RECOVERY_LOCK (R151): The clock recovery of a lane has locked. -/
  | clockRecoveryLock (lane : Fin 24)
  /-- PHASE_DETECTOR_RANGE (R143): The phase detector of a lane is out of range. -/
  | phaseDetectorRange (lane : Fin 24)
  /-- PRBS_BIT_ERROR (R159): The bits that a lane under test has received; its checker finds the errors. -/
  | prbsBitError (x : TestBits)
  /-- TABLE_WRITE_APPLY (R79): The oldest table write at work is applied. -/
  | tableWriteApply
  /-- FW_VERIFY_DONE (R439): Verification ends. -/
  | fwVerifyDone
  /-- FW_ACTIVATE_DONE (R440): The selector is written and read back. -/
  | fwActivateDone
  /-- RECIPE_LOAD_DONE (R445): The sections are in place. -/
  | recipeLoadDone
  /-- RECIPE_SAVE_DONE (R446): The capture is stored. -/
  | recipeSaveDone
  /-- AUTOSTART_HOLD_END (R447): AUTOSTART_HOLD_MS is over. -/
  | autostartHoldEnd
  /-- BACKGROUND_SCRUB (R420): The scrub at a percentage of its pass, and the error found: corrected or not, and where. -/
  | backgroundScrub (percent : Nat) (err : Option (Bool × BitVec 32))
  /-- RESET_N_RELEASE (R479): RESET_N is high again. -/
  | resetNRelease
  /-- CONFIGURATION_WRITE (R34, R35, R38, R47): A field of configuration space is written. -/
  | configurationWrite (field : ConfigField)
  deriving DecidableEq, Repr

end Sys2Proof
end

