-- ==== Sys2Proof/Decode.lean ====
section
/-!
DEFINITION. Commands from words. No row of the table has bits (its rows have no fields, and the spec gives the happenings no
encoding), so no word spells a command. Entries are decoded where they are fetched: Entry and Machine/Operands.lean (R54).
-/

namespace Sys2Proof

/-- The command that a word spells: none. (DESIGN CHOICE, log 1) -/
def decodeTableWord (_nbits _w : Nat) : Option Instr := none

end Sys2Proof
end

