-- ==== Sys2Proof/Config.lean ====
section
/-!
DEFINITION. What the spec leaves to the silicon or does not give: free values with no body. Nothing in Lean can evaluate
them, so a statement that mentions a step that reads one holds for every value (the assumption log names each).
-/

namespace Sys2Proof

/-- Whether the RESET_N filter passes a pulse of 100 ns to 1 us, for the n-th such pulse (R479). -/
opaque Config.resetFilterPasses : Nat → Bool

/-- R430, R439, R452: the signature of these bytes verifies under this key (boot keys 0 to 2, debug key 3). -/
opaque Config.signatureGood : Nat → List Byte → List Byte → Bool

/-- R452: the n-th value of the on-chip random source (32 bytes, as a number). -/
opaque Config.randomValue : Nat → Nat

/-- R452: the 64 B challenge that holds a UNIT_ID, a STEPPING, a BOOT_COUNT and a random value; their places are not given. -/
opaque Config.challenge : Nat → Nat → Nat → Nat → List Byte

/-- R121: the trimmed conversion gain of head 0's columns; it differs from unit to unit. -/
opaque Config.columnGain : Nat → Nat

/-- R536: the shipped calibration word of head 0 under a table key; it differs from unit to unit. -/
opaque Config.factoryCal : Nat → Word

/-- A result the spec leaves undefined or does not state, the n-th such use (`State.free` counts them). -/
opaque Config.freeValue : Nat → Nat

/-- R374: the flash calibration values of an auxiliary range: offset in 2^-16 LSB and gain error in ppm. -/
opaque Config.auxCal : Nat → Int × Int

/-- R44: how many forecast-stream records may wait for tokens. -/
opaque Config.forecastSlots : Nat

/-- R140: the GROUP_ID in the markers that the unit itself sends on a group. -/
opaque Config.groupId : Nat → Nat

/-- JTAG: the n-th bit a pin cell captures that the model holds no level for (R530). -/
opaque Config.pinLevel : Nat → Bool

end Sys2Proof
end

