-- ==== Sys2Proof/Machine/Bytes.lean ====
section
/-!
DEFINITION. Byte order (R5), packing of records, and the sparse store: reading, writing, and its canonical form.
-/

namespace Sys2Proof.Machine

/-- The low `n` bytes of a value, least significant first (R5). -/
def leBytes : Nat → Nat → List Byte
  | 0, _ => []
  | n + 1, v => BitVec.ofNat 8 v :: leBytes n (v / 256)

/-- The value of little-endian bytes (R5). -/
def leNat : List Byte → Nat
  | [] => 0
  | b :: bs => b.toNat + 256 * leNat bs

/-- The 32-bit words of a byte list, four bytes each, the first at the lowest address. -/
def leWords : List Byte → List Word
  | a :: b :: c :: d :: rest => BitVec.ofNat 32 (leNat [a, b, c, d]) :: leWords rest
  | _ => []

/-- The bytes of 32-bit words. -/
def wordBytes (ws : List Word) : List Byte := ws.flatMap (fun w => leBytes 4 w.toNat)

/-- The value of `n` bytes from offset `off`; bytes beyond the end read 0. -/
def leAt (bs : List Byte) (off n : Nat) : Nat := leNat ((bs.drop off).take n)

/-- Zero padding to a multiple of `m` bytes. -/
def padTo (m : Nat) (bs : List Byte) : List Byte :=
  bs ++ List.replicate ((m - bs.length % m) % m) 0

/-- A record field by field: (size, value) pairs, little-endian. -/
def pack (items : List (Nat × Nat)) : List Byte := items.flatMap (fun i => leBytes i.1 i.2)

/-- Two's complement: the signed value of the low `n` bits. -/
def signed (n v : Nat) : Int := if v % 2 ^ n < 2 ^ (n - 1) then (v % 2 ^ n : Nat) else (v % 2 ^ n : Nat) - (2 ^ n : Nat)

/-- Two's complement: the low `n` bits of a signed value. -/
def unsigned (n : Nat) (v : Int) : Nat := (v % (2 ^ n : Nat)).toNat

/-- Bit `i` of a number. -/
def bit (v i : Nat) : Bool := v.testBit i

/-- The number whose set bits are those of a list. -/
def maskOf (bits : List Nat) : Nat := bits.foldl (fun a b => a ||| (1 <<< b)) 0

/-- The set bits of a number below `n`, rising. -/
def bitsOf (n v : Nat) : List Nat := (List.range n).filter (fun i => v.testBit i)

/-- A flag as a number. -/
def b2n (b : Bool) : Nat := if b then 1 else 0

/-- A counter of 32 bits that saturates. -/
def sat32 (v : Nat) : Nat := min v 0xFFFFFFFF

/-! The store. -/

/-- The entry of a key, if it is listed. -/
def Store.find? : Store → Nat → Option Word
  | [], _ => none
  | (k, w) :: rest, key => if k = key then some w else if key < k then none else Store.find? rest key

/-- What a key reads as. -/
def Store.get (dflt : Nat → Word) (st : Store) (key : Nat) : Word := (Store.find? st key).getD (dflt key)

/-- An entry put in its place; an old entry of the key is replaced. -/
def Store.insert : Store → Nat → Word → Store
  | [], key, w => [(key, w)]
  | (k, v) :: rest, key, w =>
    if k = key then (key, w) :: rest
    else if key < k then (key, w) :: (k, v) :: rest
    else (k, v) :: Store.insert rest key w

/-- The entry of a key removed. -/
def Store.erase : Store → Nat → Store
  | [], _ => []
  | (k, v) :: rest, key => if k = key then rest else if key < k then (k, v) :: rest else (k, v) :: Store.erase rest key

/-- A write. A word equal to what an unlisted key reads as is not listed. -/
def Store.put (dflt : Nat → Word) (st : Store) (key : Nat) (w : Word) : Store :=
  if w = dflt key then Store.erase st key else Store.insert st key w

/-- Consecutive writes from a key on. -/
def Store.putAll (dflt : Nat → Word) (st : Store) (key : Nat) : List Word → Store
  | [] => st
  | w :: ws => Store.putAll dflt (Store.put dflt st key w) (key + 1) ws

/-- Keys strictly rising from `lo` on, none of them at its default. -/
def Store.wfFrom (dflt : Nat → Word) (lo : Nat) : Store → Bool
  | [] => true
  | (k, w) :: rest => decide (lo ≤ k) && decide (w ≠ dflt k) && Store.wfFrom dflt (k + 1) rest

/-- The canonical form. -/
def Store.wf (dflt : Nat → Word) (st : Store) : Bool := Store.wfFrom dflt 0 st

end Sys2Proof.Machine
end

