-- ==== Sys2Proof/Machine/Crc.lean ====
section
/-!
DEFINITION. The checks of the manual: CRC-32C (R6) and the CRC-16 of lane packets (R140, R146).
-/

namespace Sys2Proof.Machine

/-- One bit of the reflected CRC-32C: the polynomial 1EDC6F41h reads 82F63B78h reflected. -/
def crcShift (r : Nat) : Nat := if r % 2 = 1 then (r / 2) ^^^ 0x82F63B78 else r / 2

/-- One byte of the CRC-32C. -/
def crcByte (r : Nat) (b : Byte) : Nat :=
  crcShift (crcShift (crcShift (crcShift (crcShift (crcShift (crcShift (crcShift (r ^^^ b.toNat))))))))

/-- The running CRC-32C over more bytes. -/
def crcRun (r : Nat) (bs : List Byte) : Nat := bs.foldl crcByte r

/-- R6: the CRC-32C of bytes in increasing address order. -/
def crc32c (bs : List Byte) : Nat := crcRun 0xFFFFFFFF bs ^^^ 0xFFFFFFFF

/-- One bit of the CRC-16 of R140, polynomial 1021h, not reflected. -/
def crc16Shift (r : Nat) : Nat := if r.testBit 15 then (r * 2 ^^^ 0x1021) % 2 ^ 16 else r * 2

/-- One byte of the CRC-16. -/
def crc16Byte (r : Nat) (b : Byte) : Nat :=
  crc16Shift (crc16Shift (crc16Shift (crc16Shift (crc16Shift (crc16Shift (crc16Shift (crc16Shift
    (r ^^^ (b.toNat * 256)))))))))

/-- R140: the CRC-16 of bytes in the order given, initial value FFFFh. -/
def crc16 (bs : List Byte) : Nat := bs.foldl crc16Byte 0xFFFF

/-- A record with its 4-byte check at offset `off` filled in over the record with that field taken as 0 (R410). -/
def sealAt (off : Nat) (bs : List Byte) : List Byte :=
  let zeroed := bs.take off ++ leBytes 4 0 ++ bs.drop (off + 4)
  bs.take off ++ leBytes 4 (crc32c zeroed) ++ bs.drop (off + 4)

/-- A poisoned record: its check inverted (R421), once however often it is poisoned. -/
def poisonAt (off : Nat) (bs : List Byte) : List Byte :=
  let bs := sealAt off bs
  bs.take off ++ leBytes 4 (leAt bs off 4 ^^^ 0xFFFFFFFF) ++ bs.drop (off + 4)

end Sys2Proof.Machine
end

