-- ==== Sys2Proof/Machine/State.lean ====
section
/-!
DEFINITION. The state of the unit (plain data), the reasons a step could stop, and the state after reset. Registers of
the parameter pages live in `Dev.params` (one home for each word, under the field table of Machine/ParamTable.lean);
everything else the spec gives the unit has a field of its own, grouped by the chapter that names it.
-/

namespace Sys2Proof.Machine

/-! Unit states (R28) and where the unit keeps the things that have no chapter of their own. -/

/-- R28: the unit is always in exactly one of these states. -/
inductive UState where
  | boot | restricted | idle | armed | sorting | hold | fault | tripped
  deriving DecidableEq, Repr

/-- The status codes of R65 that a completion can carry. -/
inductive Status where
  | ok | busy | badOpcode | badParam | notStopped | bankBusy | intrusiveRefused | restrictedMode | thermalWindow
  | checkFail | superseded | noResource | timeout | abortedByReset | authFail | versionMismatch | wrongState
  deriving DecidableEq, Repr

/-- A completion entry of R57, before the unit adds SQ_HEAD and PHASE. -/
structure Cpl where
  sq : Nat
  tag : Nat
  status : Status
  detail : Nat
  result : Nat
  /-- The opcode of a managed command, 0 of another: a completion that a host-link reset cuts off goes to the log (R45). -/
  op : Nat
  deriving DecidableEq, Repr

/-- What the unit sends out, in the order it sends it (R39): to the host, to a peer window, or on a lane. -/
inductive Outbound where
  /-- A completion entry written at index `idx` of completion queue `cq` (R53, R57). -/
  | cqe (cq idx : Nat) (c : Cpl) (sqHead : Nat) (phase : Bool)
  /-- An MSI-X message of a vector: the address and data of its table entry (R38). -/
  | msix (vector addr data : Nat)
  /-- Bytes of a result buffer (R58). -/
  | buffer (addr : Nat) (bytes : List Byte)
  /-- An entry of the event ring (R497). -/
  | event (idx : Nat) (bytes : List Byte)
  /-- A memory write of record bytes to an archive window: bus address, bytes, and the Relaxed Ordering and No Snoop attributes
  (R39, R40). -/
  | write (window addr : Nat) (bytes : List Byte) (relaxed noSnoop : Bool)
  /-- An advance of WP (R407). -/
  | wp (window value : Nat)
  /-- A CONTROL packet on a lane group for a head (0 on a peer link): its message code, MSG_SEQ and 64-bit words (R148). -/
  | control (group head msg seq : Nat) (words : List Nat)
  /-- An interval on the transmit lanes of a group: the line bits of its four physical lanes (R135 to R142). -/
  | interval (group : Nat) (lanes : List (List Bool))
  /-- Bits of a test pattern on a transmit lane (R159). -/
  | pattern (lane : Nat) (bits : List Bool)
  /-- A pulse on SYNCOUT: the timebase value of its rising edge, and for how many counts it is high (R395). -/
  | syncout (value high : Nat)
  /-- Memory reads that stand outstanding together: bus address and length of each (R35). -/
  | requests (reads : List (Nat × Nat))
  /-- What a host's read of a BAR returns. -/
  | read (value : Nat)
  /-- An Unsupported Request completion of a memory read (R47). -/
  | unsupported
  /-- A configuration request answered with Configuration Request Retry Status (R47). -/
  | retry
  /-- An error that the function reports through AER, correctable or not (R34, R35, R47). -/
  | aer (correctable : Bool)
  /-- What the test access port shifts out (R530, R452). -/
  | tdo (value : Nat)
  deriving DecidableEq, Repr

/-! Host link (chapter 02). -/

/-- The host link and the function's configuration (R34 to R47). -/
structure HostLink where
  autonomous : Bool
  hostReady : Bool
  linkResets : Nat
  width : Nat
  speed : Nat
  dropBudget : Nat
  dropLinkdown : Nat
  /-- The function answers memory requests: it is ready and Memory Space Enable is set (R47). -/
  funcReady : Bool
  memSpace : Bool
  /-- The base addresses of BAR0, BAR2 and BAR4 (R36), and the power state D3hot (R34). -/
  bars : Vector Nat 3
  d3hot : Bool
  /-- The correctable and uncorrectable error status words of the AER capability (R34, R35, R47). -/
  aerCorrectable : BitVec 32
  aerUncorrectable : BitVec 32
  /-- A host-link reset is in progress; its kind is kept for the LINK_RESET event (R505). -/
  inReset : Bool
  resetKind : Nat
  maxPayload : Nat
  maxReadRequest : Nat
  relaxedOrdering : Bool
  noSnoop : Bool
  tags10 : Bool
  tagsExt : Bool
  cplTimeoutUs : Nat
  /-- The classes whose windows a host-link reset detached and that are not attached again (R46). -/
  downWindows : BitVec 64
  /-- Token buckets of the five classes of R44, in bytes; a record longer than a bucket leaves one below 0. -/
  tokens : Vector Int 5
  /-- MSI-X table words, four for each vector; enable, function mask, pending bits, and the last condition (R38). -/
  msixTable : Store
  msixEnable : Bool
  functionMask : Bool
  pba : BitVec 64
  vecCond : BitVec 64
  /-- The Subsystem IDs that start-up read from the board lane table (R34, R164). -/
  subsysVendor : BitVec 16
  subsysId : BitVec 16
  deriving DecidableEq, Repr

/-! Command channel (chapter 03). -/

/-- A command with FENCE that has been fetched and waits for the earlier ones of its queue (R62): its opcode and its entry.
`timesOut` says that the read of its buffer will time out (R35). -/
structure Fenced where
  code : Nat
  entry : Entry
  timesOut : Bool
  deriving DecidableEq, Repr

/-- A submission queue (R49 to R52). -/
structure Sq where
  baseLo : Nat
  baseHi : Nat
  enable : Bool
  cqid : Nat
  size : Nat
  dbErr : Bool
  err : Bool
  ready : Bool
  head : Nat
  tail : Nat
  fenced : Option Fenced
  deriving DecidableEq, Repr

/-- A completion queue (R49 to R53). `waiting` holds the completions that found it full, oldest first. -/
structure Cq where
  baseLo : Nat
  baseHi : Nat
  enable : Bool
  irqEn : Bool
  vector : Nat
  size : Nat
  dbErr : Bool
  err : Bool
  ready : Bool
  phase : Bool
  tail : Nat
  head : Nat
  waiting : List Cpl
  deriving DecidableEq, Repr

/-- A command whose completion is still to come: a long operation, a table write in progress, or a command that waits
for something later (R56, R59). -/
structure Outst where
  sq : Nat
  tag : Nat
  opcode : Nat
  long : Bool
  deriving DecidableEq, Repr

/-- A TABLE_WRITE between its acceptance and its last step (R79). -/
structure TableWrite where
  sq : Nat
  tag : Nat
  table : Nat
  inst : Nat
  offset : Nat
  words : List Word
  deriving DecidableEq, Repr

/-- A generation (R72 to R76): the staged words and the shadow tables under one number. While it waits, `fromLine` is
the least line it may begin at; afterwards it is the first line under it, or none for every line. -/
structure Conf where
  gen : Nat
  waiting : Bool
  atFrame : Bool
  fromLine : Option Nat
  staged : Store
  tables : Store
  /-- The line that its COMMIT named to the heads (R108, R151). -/
  named : Option Nat
  deriving DecidableEq, Repr

/-- What a command answers: its completion's status, detail and RESULT, the bytes of its result buffer, and whether the
completion is still to come. -/
structure Reply where
  status : Status := .ok
  detail : Nat := 0
  result : Nat := 0
  out : List Byte := []
  held : Bool := false
  deriving DecidableEq, Repr

/-- The command channel (R48 to R80). -/
structure Channel where
  sqs : Vector Sq 64
  cqs : Vector Cq 64
  /-- Round-robin (R52): the queue whose turn it is, and the entries its turn still has. -/
  turn : Nat
  turnLeft : Nat
  outst : List Outst
  /-- Where the command of a tag completes, its queue's SQ_CQID having changed since it was fetched (R50). -/
  moved : List (Nat × Nat)
  /-- Managed commands accepted and not begun: the Barometer is halted (R427) or starting up (R434). -/
  intake : List (Nat × Entry)
  writes : List TableWrite
  /-- The operands of the long operation in progress, as its later step needs them. -/
  longArgs : List Nat
  longBytes : List Byte
  /-- An immediate write, the end of a fade or an engine load has taken effect since a capture began (R446). -/
  touched : Bool
  /-- Managed commands that end while a debugger holds the Barometer, with their replies: they complete once it goes on (R427). -/
  late : List (Outst × Reply)
  /-- Tags of long operations held in always-on retention for ABORTED_BY_RESET (R60). -/
  aborted : List Outst
  /-- Generations, newest first; the oldest is always in effect. -/
  confs : List Conf
  /-- Pending values of staged words (R7), and the shadow copies of the shadow tables (R77). -/
  pend : Store
  shadow : Store
  deriving DecidableEq, Repr

/-! Events (chapter 22). -/

/-- The content of an event record (R499); `data` lists its DATA items as (size, value). -/
structure EvRec where
  source : Nat
  inst : Nat
  inj : Bool
  det : Bool
  stopping : Bool
  replay : Bool
  count : Nat
  seq : Nat
  state : Nat
  gen : Nat
  tb : Nat
  line : Nat
  data : List (Nat × Nat)
  deriving DecidableEq, Repr

/-- A rate-limit interval of R491: a frame of a run, or a 10 ms period of the timebase. -/
structure Interval where
  run : Nat
  num : Nat
  deriving DecidableEq, Repr

/-- The rate limit of one source and instance (R492): the interval of its last record, the occurrences merged since
that record, and the first of them. -/
structure Merge where
  source : Nat
  inst : Nat
  last : Option Interval
  count : Nat
  first : Option EvRec
  deriving DecidableEq, Repr

/-- What the ring still owes of a source (R496): its latest occurrence and the occurrences since its last ring record (0 after
one); `latest` carries INJECTED and DETECTED for all of them. -/
structure Unrung where
  source : Nat
  count : Nat
  latest : EvRec
  deriving DecidableEq, Repr

/-- Event state (R490 to R507). -/
structure EventS where
  cause : BitVec 1024
  mask : BitVec 1024
  injCause : BitVec 1024
  route : Store
  ringLo : Nat
  ringHi : Nat
  ringEnable : Bool
  ringSize : Nat
  ringErr : Bool
  ringReady : Bool
  ringPhase : Bool
  ringTail : Nat
  ringHead : Nat
  ringLost : Nat
  seq : Nat
  merges : List Merge
  unrung : List Unrung
  /-- The SEQ of the newest record, and whether the last occurrence produced one (R503). -/
  lastSeq : Option Nat
  deriving DecidableEq, Repr

/-! Archive (chapter 18). -/

/-- The classes of R404, with the priority of R44 that each has. -/
inductive ArchClass where
  | object | chip | stats | evcopy | snap | forecast | view | tap
  deriving DecidableEq, Repr

/-- A record on its way to a window. -/
structure ArchRec where
  cls : ArchClass
  bytes : List Byte
  deriving DecidableEq, Repr

/-- A record of a stream that waits for tokens (R44): its window, its bytes, and the head of a view record or the channel of a
tap record. -/
structure StreamRec where
  win : Nat
  key : Nat
  bytes : List Byte
  deriving DecidableEq, Repr

/-- A record placed in a window: its first byte count, its length, its bytes, and whether it is a pad (R406). -/
structure Placed where
  start : Nat
  len : Nat
  bytes : List Byte
  pad : Bool
  deriving DecidableEq, Repr

/-- An archive window (R402 to R409, R423). `placed` holds the records not yet published, oldest first; `live` the
extents of the published records from TAIL on, oldest first. -/
structure Win where
  attached : Bool
  base : Nat
  size : Nat
  overwrite : Bool
  peer : Bool
  noSnoop : Bool
  retainEn : Bool
  ptrErr : Bool
  overwritten : Bool
  dropped : Bool
  drops : Nat
  records : Nat
  overwrites : Nat
  wp : Nat
  rp : Nat
  tail : Nat
  ret : Nat
  /-- High halves: held until _LO is written, and latched by the last read of _LO (R408, R354). -/
  rpHeld : Nat
  retHeld : Nat
  wpHi : Nat
  rpHi : Nat
  retHi : Nat
  tailHi : Nat
  placed : List Placed
  live : List (Nat × Nat)
  poisonNext : Bool
  deriving DecidableEq, Repr

/-- A snapshot request (R413). -/
structure SnapReq where
  timer : Nat
  cause : Nat
  line : Nat
  tb : Nat
  /-- The BUSCLK cycle of the timer edge (R413). -/
  edge : Nat
  deriving DecidableEq, Repr

/-- The archive outside the windows (R404, R413, R44). -/
structure Archive where
  wins : Vector Win 64
  /-- Priority-1 records held on chip for tokens (R44), with their windows. -/
  queue : List (Nat × ArchRec)
  /-- Forecast-stream records not yet sent (R44), the view buffer (R217) and tap staging (R222), oldest first. -/
  forecasts : List StreamRec
  views : List StreamRec
  taps : List StreamRec
  snaps : List SnapReq
  copySeq : Nat
  deriving DecidableEq, Repr

/-! Barometer (chapter 19). -/

/-- A log entry (R449). -/
structure LogEntry where
  seq : Nat
  boot : Nat
  kind : Nat
  flags : Nat
  tb : Nat
  source : Nat
  code : Nat
  data : Nat
  /-- The BUSCLK cycle in which it came, which no entry in flash shows: what DEFERRED is judged by. -/
  since : Nat
  deriving DecidableEq, Repr

/-- A selector copy (R433); `valid` is its MAGIC and CHECK. -/
structure Selector where
  valid : Bool
  seq : Nat
  bfw : Nat
  sqm : Nat
  bfwVersion : Nat
  sqmVersion : Nat
  deriving DecidableEq, Repr

/-- A copy of the calibration tables (R428): its commit sequence, if its header is valid, and tables 01h to 03h. -/
structure CalCopy where
  seq : Option Nat
  tables : Store
  deriving DecidableEq, Repr

/-- The flash (R428), by region. -/
structure Flash where
  sel : Vector Selector 2
  /-- The identity block: UNIT_ID, serial number (16 ASCII bytes) and word 10h of page 0D00h (R448). -/
  unitId : Nat
  serial : List Byte
  autostart : Word
  /-- Table 0Dh as stored (R164). -/
  laneTable : Store
  /-- The object-sequence reservation (R262). -/
  seqReserved : Nat
  /-- BFW slots A and B, SQM slots A and B: the image bytes (R428, R430). -/
  slots : Vector (List Byte) 4
  /-- The slot still holds the image the unit was shipped with (R533), whose signature is good. -/
  factory : Vector Bool 4
  cal : Vector CalCopy 2
  /-- Recipe images by slot, slots in rising order (R444). -/
  recipes : List (Nat × List Word)
  /-- Committed log entries, newest first (R450), and the trips recorded since manufacture. -/
  log : List LogEntry
  trips : Nat
  deriving DecidableEq, Repr

/-- The debug unlock of R452. -/
structure Debug where
  /-- The random part of the challenge read last, and when it was read. -/
  challenge : Option (Nat × Nat)
  refusedUntil : Nat
  deriving DecidableEq, Repr

/-- The test access port (R530): the instruction in effect and the cells of the boundary-scan register. -/
structure Jtag where
  instruction : Nat
  boundary : List Bool
  deriving DecidableEq, Repr

/-- The Barometer (R425 to R454), outside page 0D00h. -/
structure Barometer where
  flash : Flash
  /-- Log entries not yet committed, newest first, in retention (R450). -/
  logHeld : List LogEntry
  logSecond : Nat
  logInSecond : Nat
  halted : Bool
  /-- Boot images could not be verified and the Barometer stays in the boot ROM (R434). -/
  inRom : Bool
  /-- The firmware runs: the boot ROM has selected its images (R434). -/
  booted : Bool
  /-- Consecutive watchdog boots before start-up completed (R435). -/
  dogBoots : Nat
  /-- A watchdog expiry is logged at the next boot (R426). -/
  dogPending : Bool
  revoked : BitVec 3
  dbg : Debug
  jtag : Jtag
  /-- AUTOSTART (R447): the groups still to train, when its present step began, and the status of its last command. -/
  autoGroups : List Nat
  autoSince : Nat
  autoReply : Option Nat
  /-- A sequence reservation waits for the flash window (R262, R466). -/
  seqHeld : Option Nat
  deriving DecidableEq, Repr

/-! Thermal (chapter 20). -/

/-- Thermal state outside page 0E00h (R455 to R467). -/
structure ThermalS where
  sampled : Bool
  warnUp : Nat
  warnDown : Nat
  hotUp : Nat
  hotDown : Nat
  tripRun : Nat
  badRun : Nat
  goodRun : Nat
  tripLatch : Bool
  /-- The trip record in retention, uncommitted (R462), and what the next start-up reports (R463). -/
  tripRec : Option LogEntry
  tripSeen : Option Nat
  commitSeen : Bool
  /-- Actions of WARN and HOT that wait for the Barometer (R460). -/
  warnDue : Bool
  hotDue : Bool
  scrubPaused : Bool
  /-- SUSPEND_CHIPS and SUSPEND_TAPS are at work (R460). -/
  noChips : Bool
  noTaps : Bool
  /-- The timebase at which the flash window closed (WINDOW_CLOSED_MS). -/
  closedAt : Nat
  deriving DecidableEq, Repr

/-! Power and reset (chapter 21). -/

/-- The reset kinds that enter BOOT (R479, R481). -/
inductive ResetKind where
  | coldStart | vinPowerOn | resetN | resetUnit | resetNow | watchdog
  deriving DecidableEq, Repr

/-- Power, reset and start-up outside page 0E00h (R472 to R489). -/
structure Power where
  vin : Bool
  vstby : Bool
  /-- RESET_N is low and its filter has passed (R479). -/
  resetLow : Bool
  /-- Start-up is in progress (R485), and the BUSCLK cycle at which it began. -/
  starting : Bool
  bootAt : Nat
  /-- The BUSCLK cycle at which the reset pulse in progress ends, 1 us after it began at the soonest (R479). -/
  pulse : Option Nat
  /-- The last reset: its CTLCLK cycle, and its rank in R482. -/
  resetMark : Option (Nat × Nat)
  /-- RESET_UNIT waits for the completion of this queue and tag to be written (R60). -/
  resetAsk : Option (ResetKind × Nat × Nat)
  /-- POWER_FAIL's stamp, raised once start-up completes (R488). -/
  failAt : Option Nat
  /-- A BIST ended a run that it starts again in HOLD (R487). -/
  bistHold : Bool
  /-- The BUSCLK cycle at which each domain was switched on (R475). -/
  onAt : Vector Nat 25
  /-- DOMAIN_SETs that wait for the domains of their ON_MASK (R477). -/
  waits : List (Nat × Outst)
  deriving DecidableEq, Repr

/-! Pixel array and exposure (chapter 04). -/

/-- One plane of a statistics block (R111). -/
structure PlaneStats where
  sum : Nat
  count : Nat
  min : Nat
  max : Nat
  sat : Nat
  deriving DecidableEq, Repr

/-- A frame statistics block while it is gathered, and once closed (R111). `dark` holds for each row the sum and the
count of its dark codes. -/
structure Stats where
  head : Nat
  frame : Nat
  gen : Nat
  mixed : Bool
  genLag : Bool
  genLead : Bool
  short : Bool
  marked : Bool
  injected : Bool
  slip : Bool
  missing : Bool
  firstLine : Nat
  lineCount : Nat
  tb : Nat
  mode : Nat
  missingLines : Nat
  padSamples : Nat
  defSamples : Nat
  dark : List (Nat × Nat)
  planes : List PlaneStats
  deriving DecidableEq, Repr

/-- One exposure window of a line, in grains from its trigger, after R90. -/
structure Window where
  row : Nat
  start : Nat
  stop : Nat
  long : Bool
  deriving DecidableEq, Repr

/-- An accepted line (R97, R107): its number, trigger, generation, place in its frame, and exposure. `bus` is the BUSCLK cycle
of its trigger, `stopBus` that of the end of its last exposure (R92), and `doneBus` that of the end of its last conversion on
head 0 (R118). -/
structure LineInfo where
  num : Nat
  tb : Nat
  gen : Nat
  frame : Nat
  offset : Nat
  kept : Bool
  windows : List Window
  bus : Nat
  stopBus : Nat
  doneBus : Nat
  period : Nat
  /-- The number of a dropped SYNC trigger (R99). -/
  skipped : Bool
  /-- Objects are tracked on it (R102). -/
  tracked : Bool
  deriving DecidableEq, Repr

/-- Runs, triggers and frames (R96 to R112). -/
structure ArrayS where
  running : Bool
  /-- The run ends once the line in progress is over (R32, R101, R103). -/
  stopping : Bool
  /-- A run that begins once the lines of the run before it have left the path: whether it tracks no objects (as LINE_START), and
  the first line that it takes in place of LINE_FIRST. -/
  pendingRun : Option (Bool × Option Nat)
  /-- LINE_MODE, GUST_ROW (bits 3:2) and DRIZZLE (bit 4) of the run, as its first line found them. -/
  mode : Nat
  tracking : Bool
  /-- Tracking begins with the next accepted line (R102). -/
  trackNext : Bool
  byStart : Bool
  runNum : Nat
  begun : Bool
  firstLine : Nat
  /-- How many lines the run has accepted. -/
  accepted : Nat
  /-- Accepted lines of the run, newest first. -/
  lines : List LineInfo
  /-- The line whose labelling closes the objects of a run that has ended (R32, R265). -/
  closing : Option Nat
  /-- The run has ended and the lines it accepted are still on their way (R32, R101). -/
  draining : Bool
  held : Option Nat
  /-- A trigger of the selected source is due: LINE_TRIGGER takes it. -/
  due : Bool
  /-- The BUSCLK cycle of the last accepted trigger. -/
  lastAccept : Option Nat
  waitSince : Nat
  stalled : Bool
  /-- LEAVE_GUST waits to begin a run with this first line, as LINE_START or as an imaging state (R460); the first line that
  this run takes in place of LINE_FIRST. -/
  rerun : Option (Nat × Bool)
  nextFirst : Option Nat
  /-- Quadrature: levels of ENC_A and ENC_B, position, and the furthest count base (R96). -/
  encA : Bool
  encB : Bool
  encPos : Int
  encBase : Int
  /-- The SYNC trigger values below this one have been taken or dropped (R96, R99). -/
  syncNext : Nat
  frameNum : Nat
  frameLines : Nat
  frameOff : Nat
  mark : Bool
  deferred : Bool
  /-- Frames that an edge or a mark ended (R111, MARKED). -/
  markedFrames : List Nat
  cur : Vector (Option Stats) 12
  closed : List Stats
  /-- The previous level of FRAME_IN (R105). -/
  frameIn : Bool
  deriving DecidableEq, Repr

/-! Column converters (chapter 05). -/

/-- The calibration rotation of a group that has left its reset form (R126 to R130): the slice at each of the 64 duty
positions, the slice in the seat (none once the group runs without one), the next position, whether it is halted, and by slice
its offset correction in 1/16 LSB and its gain correction in ppm (0 where no calibration has told them). -/
structure ConvGroup where
  group : Nat
  duty : List Nat
  seat : Option Nat
  next : Nat
  halted : Bool
  coefs : List (Nat × Int × Int)
  deriving DecidableEq, Repr

/-- Converters (R115 to R133). `freeA` and `freeB` are the BUSCLK cycles at which the slices A and B of a column end their
conversions. -/
structure Converters where
  freeA : Nat
  freeB : Nat
  groups : List ConvGroup
  /-- Domains (mask of bits 4 and 5) whose foreground calibration runs, and groups that it left short of slices (R130). -/
  fgMask : Nat
  bad : List Nat
  deriving DecidableEq, Repr

/-! Heads and lanes (chapter 06). -/

/-- A checker of a test pattern (R159): the bits that it has gathered while it synchronises, newest first, and its generator's state
once it has. -/
structure Checker where
  got : List Bool
  state : Option Nat
  deriving DecidableEq, Repr

/-- A receive lane (R134 to R143, R151 to R155). `seq` is the SEQ of its last marker, from which the scrambler is seeded (R136); `good`
the good markers in a row while it is not aligned, `bad` the bad ones in a row while it is; `arrived` is where in the interval its
last marker came, in bit times. `noSignal` and `noLock`: the lane is out by LOS or by LOL (R161). -/
structure Lane where
  locked : Bool
  noSignal : Bool
  noLock : Bool
  aligned : Bool
  suspect : Bool
  inverted : Bool
  logical : Nat
  gid : Nat
  seq : Option Nat
  good : Nat
  bad : Nat
  arrived : Nat
  /-- RX_FLIP waits for a word of a packet on this lane (R162). -/
  flip : Bool
  checker : Checker
  deriving DecidableEq, Repr

/-- What waits for the transmit lanes of a group (R157): a packet's words, and the HEAD_CONTROL that completes once they have left, with
its MSG_SEQ. -/
structure TxItem where
  words : List Nat
  cmd : Option (Outst × Nat)
  deriving DecidableEq, Repr

/-- A link group (R134, R151, R157 to R159). The configuration is what LINK_TRAIN read (R165). -/
structure LaneGroup where
  parity : Bool
  peer : Bool
  rate : Nat
  heads : List Nat
  expectGid : Nat
  /-- The group has come up since it was last trained, and lanes rejoin without a command (R152). -/
  trained : Bool
  hunting : Bool
  /-- One lane is out (R143), and the SEQ at which the last one rejoined: the group leaves DEGRADED at the next interval. -/
  degraded : Bool
  recovering : Option Nat
  /-- A cabling fault keeps the group down (R153, R155). -/
  fault : Bool
  wanderPpm : Nat
  /-- LINK_TRAIN in progress: when it began and the command it completes. -/
  training : Option (Nat × Outst)
  timeoutMs : Nat
  txSeq : Nat
  /-- The pattern test: pattern, what it does (bit 2 TX, bit 3 RX), lanes, error interval, and PRBS_ERR raised (R159). -/
  pattern : Nat
  patternUse : Nat
  patternLanes : Nat
  patternErrors : Nat
  patternRaised : Bool
  /-- The generators of its four lanes, the bits they have sent, and an error to insert at once (R159, R160). -/
  patternState : List Nat
  patternSent : Nat
  patternNow : Bool
  /-- The words of table 0Dh applied to its four receive and four transmit lanes (R154, R164). -/
  board : List Word
  /-- The transmitter (R157): it sends intervals, what waits for it, the commands whose packets leave with the interval in progress, the
  SEQ of the next interval, and the bit times until that begins. -/
  txOn : Bool
  txQueue : List TxItem
  txGone : List (Outst × Nat)
  txInterval : Nat
  txLeft : Nat
  deriving DecidableEq, Repr

/-- A user message in a mailbox (R157): box 1 to 11 for a head, 16 + g for a peer group. -/
structure MailMsg where
  box : Nat
  msg : Nat
  seq : Nat
  words : List Nat
  deriving DecidableEq, Repr

/-- Lanes and groups. `decl` holds words 61h to 6Bh of page 0300h as LINK_TRAIN read them for heads 1 to 11 (R165). -/
structure LaneS where
  decl : Vector Nat 11
  lanes : Vector Lane 24
  groups : Vector LaneGroup 6
  mail : List MailMsg
  deriving DecidableEq, Repr
/-! Ingest, corrections, alignment, views and taps (chapters 07 to 09). -/

/-- A pixel of a head line: its samples, and its tag (R174): 1 SAT, 2 DEF, 4 PAD, 8 BLIND. Two further bits never leave the
unit: 16 the line was altered by an injection (R162), 32 head 0 did not convert the column (R95). -/
structure Pixel where
  vals : List Nat
  tag : Nat
  deriving DecidableEq, Repr

/-- A head line between two stages. Before binning `mask` names its slots (R180), one value for each in rising order;
after binning it names the planes of R210 the head delivers, and every pixel has six values. -/
structure HLine where
  num : Nat
  gen : Nat
  mask : Nat
  cols : List Pixel
  deriving DecidableEq, Repr

/-- What ingest keeps of a line of a head (R168 to R170): its origin check, and whether it was declared missing. -/
structure LineRec where
  num : Nat
  origin : Nat
  missing : Bool
  inj : Bool
  deriving DecidableEq, Repr

/-- A line accepted or declared missing ahead of the unit's trigger of it (R169): its segment's words, if it has one. -/
structure EarlyLine where
  num : Nat
  seg : Option (List Nat)
  inj : Bool
  deriving DecidableEq, Repr

/-- One column and plane of the CIC decimator (R204): its integrators and the delays of its combs. -/
structure Cic where
  integ : List Nat
  comb : List Nat
  deriving DecidableEq, Repr

/-- The path of one head from ingest to reconstruction. `first` is the first line of its run, or the first after
RESET_PIPELINE or its acceptance; `next` the next aligned line. Histories are newest first. -/
structure HeadS where
  last : Option Nat
  first : Nat
  hist : List LineRec
  early : List EarlyLine
  missRun : Nat
  injLost : Bool
  /-- The head was accepted during the run (R171): lines before `first` are lines of its absence (R235 cause 2). -/
  joined : Bool
  lastTb : Nat
  corr : List HLine
  next : Nat
  /-- The next line that T2 takes, once its origin check has come (R539). -/
  t2 : Nat
  aligned : List HLine
  recon : List HLine
  cic : List (List Cic)
  cicWord : Nat
  settle : Nat
  /-- View lines dropped since the last one written, and an injection for the next record (R216, R223). -/
  viewDrops : Nat
  viewInj : Bool
  /-- R235, R243: the head's owned columns that the last face line left BLIND: runs of one cause (first column, length, cause). -/
  blind : List (Nat × Nat × Nat)
  /-- The lines of the runs before, for the origin checks of lines that the line ring still holds (R414). -/
  old : List LineRec
  deriving DecidableEq, Repr

/-- CALIBRATE's sums for one column and slot (R184, R185): of the present block, and the levels of its accepted blocks. -/
structure CalAcc where
  sum : Int
  n : Nat
  low : Int
  levels : List Int
  deriving DecidableEq, Repr

/-- A head that CALIBRATE gathers. -/
structure CalHead where
  head : Nat
  lines : Nat
  blocks : Nat
  mask : Nat
  acc : List (List CalAcc)
  deriving DecidableEq, Repr

/-- CALIBRATE in progress (R183). -/
structure Calib where
  flat : Bool
  find : Bool
  activate : Bool
  save : Bool
  blocks : Nat
  target : Nat
  limit : Nat
  heads : List CalHead
  ownRun : Bool
  since : Nat
  deriving DecidableEq, Repr

/-- A cross-fade (R197): `start` is none until the frame it waits for begins; `after` is the least line that may be. -/
structure Fade where
  heads : Nat
  start : Option Nat
  after : Nat
  len : Nat
  old : Nat
  /-- Its line has come, and ACTIVE_BANK has changed. -/
  begun : Bool
  deriving DecidableEq, Repr

/-- An arming of a tap channel (R218 to R222). `next` is the next selected line, none with AT_NEXT before a run has a line;
`waits` holds until a run begins, of an arming made while none ran; `stop` is the line after which it ends, and why, once that is
settled. -/
structure Tap where
  channel : Nat
  point : Nat
  source : Nat
  window : Nat
  step : Nat
  colFirst : Nat
  colCount : Nat
  planes : Nat
  next : Option Nat
  waits : Bool
  left : Option Nat
  lastSel : Nat
  stop : Option (Nat × Nat)
  deriving DecidableEq, Repr

/-- Ingest to reconstruction (R166 to R225), outside pages 0400h, 0480h and 0500h. `darkSet` and `darkOpen` hold for the
four only or long windows and the four short ones whether DARK_REF was ever set since BOOT, and whether the 64 LSB test is
off (R176). -/
structure PipeS where
  heads : Vector HeadS 12
  darkSet : BitVec 8
  darkOpen : BitVec 8
  calib : Option Calib
  banks : Store
  fade : Option Fade
  /-- Fades cut short of which lines are still to come, newest first: each with the first line of the new bank alone (R197). -/
  cuts : List (Fade × Nat)
  taps : List Tap
  /-- By channel: selected lines dropped since the last record written (R222). -/
  tapDrops : Vector Nat 4
  /-- An injected TAP_DROP or TAP_DONE marks the next record of its channel (R223). -/
  tapInj : BitVec 4
  deriving DecidableEq, Repr
/-! Faces, objects and fusion (chapters 10 and 11). -/

/-- The owner of a pixel: none, an open object by its sequence number, or a storm object. -/
inductive Owner where
  | none | object (seq : Nat) | storm (seq : Nat)
  deriving DecidableEq, Repr

/-- A column of the last labelled line of a face: owner, BLIND, the length of the owner's run along-track there in kept
lines (F34), and whether the pixel is counted in F39. -/
structure LabelCol where
  owner : Owner
  blind : Bool
  yrun : Nat
  nearBlind : Bool
  deriving DecidableEq, Repr

/-- The feature accumulators of R263. -/
structure Acc64 where
  area : Nat
  colMin : Nat
  colMax : Nat
  sx : Nat
  sy : Nat
  sxx : Nat
  syy : Nat
  sxy : Nat
  classes : List Nat
  sums : List Nat
  squares : List Nat
  focusCount : Nat
  focus : List Nat
  proj : List Nat
  edges : Nat
  maxY : Nat
  maxX : Nat
  runs : Nat
  sat : Nat
  defs : Nat
  pads : Nat
  blindEdge : Nat
  merges : Nat
  edge : Bool
  touch : Bool
  inj : Bool
  deriving DecidableEq, Repr

/-- An issued forecast (R277, R279): `line` is the line after whose labelling it was taken. `shoots` is its class's shot
decision, `met` that it met R279, `fire` that its windows were written. -/
structure Forecast where
  seq : Nat
  face : Nat
  cls : Nat
  conf : Nat
  line : Nat
  gen : Nat
  firstLine : Nat
  shoots : Bool
  met : Bool
  fire : Bool
  /-- It met R279 and the window store had no room (R305). -/
  full : Bool
  inj : Bool
  deriving DecidableEq, Repr

/-- An open object (R251). `kept` counts the kept lines it spans; `nextEval` is the height of its next provisional
evaluation (R277); `folded` the forecasts of objects it absorbed (R287). -/
structure Obj where
  seq : Nat
  face : Nat
  zone : Nat
  firstLine : Nat
  lastLine : Nat
  kept : Nat
  acc : Acc64
  pred : Option Nat
  nextEval : Option Nat
  forecast : Option Forecast
  folded : List Forecast
  /-- A tree of one of its evaluations was dropped (R272). -/
  depthErr : Bool
  deriving DecidableEq, Repr

/-- A storm (R257). `forced` holds the FORCE_STORM mark (R268). -/
structure Storm where
  face : Nat
  zone : Nat
  seq : Nat
  action : Nat
  firstLine : Nat
  pixels : Nat
  colMin : Nat
  colMax : Nat
  forced : Bool
  full : Bool
  /-- STORM_CLEAR names it: the line in progress then (R259). -/
  clear : Option Nat
  deriving DecidableEq, Repr

/-- An evaluation's outcome (R271 to R274): the 16 sums, an overload verdict, a tree dropped. -/
structure EvalResult where
  scores : List Nat
  overload : Bool
  depthErr : Bool
  deriving DecidableEq, Repr

/-- A closed object on its way to its verdict (R253): its final feature words, its closing line, the forecasts that its
verdict settles, its fusion (R241), and its evaluation once that has ended. -/
structure Closed where
  seq : Nat
  face : Nat
  words : List Nat
  closeLine : Nat
  gen : Nat
  closeTb : Nat
  stopped : Bool
  inj : Bool
  forecasts : List Forecast
  partner : Option Nat
  waiting : Bool
  unpaired : Bool
  result : Option EvalResult
  /-- A tree of one of its provisional evaluations was dropped (R272). -/
  depthErr : Bool
  deriving DecidableEq, Repr

/-- A face line in the line ring (R414): companded samples of six planes by column, tag runs (first column, length, tag),
and its header, the head lines it draws on by head for origin checks. -/
structure RingLine where
  num : Nat
  gen : Nat
  tb : Nat
  codes : List (List Nat)
  runs : List (Nat × Nat × Nat)
  trunc : Bool
  deriving DecidableEq, Repr

/-- A face (R226 to R239, R249): the last face line assembled in the run, the owners of the last labelled line with its
number, and the line ring, newest first. -/
structure FaceS where
  last : Option Nat
  prev : List LabelCol
  prevNum : Option Nat
  ring : List RingLine
  /-- The line before held a BLIND column (R312). -/
  blindBefore : Bool
  deriving DecidableEq, Repr

/-- RESET_PIPELINE in progress (R483): line c, whether the flush is done, and the command that waits for line c + 1. -/
structure Flush where
  line : Nat
  done : Bool
  cmd : Outst
  deriving DecidableEq, Repr

/-- Faces and the open-object table. -/
structure TrackS where
  faces : Vector FaceS 2
  objs : List Obj
  storms : List Storm
  seqNext : Nat
  /-- The highest open count since CLEAR_PEAK (R266), and whether OPEN_HIGH is armed (R267). -/
  peak : Nat
  highArmed : Bool
  /-- FORCE_STORM writes (face, zone) that wait for their faces' next kept line (R268). -/
  forced : List (Nat × Nat)
  /-- Objects that have closed and have no verdict yet, in the order of their closing. -/
  closed : List Closed
  /-- The last face line whose labelling ended (R266). -/
  labelledAt : Nat
  flushes : List Flush
  deriving DecidableEq, Repr
/-! Classification and records (chapters 12 and 18). -/

/-- An evaluation that waits or runs (R274): of an object's closing (`verdict`) or of its provisional words, taken at `line`; `gen` is
the generation it uses (R275). -/
structure Eval where
  seq : Nat
  face : Nat
  verdict : Bool
  ready : Nat
  line : Nat
  gen : Nat
  words : List Nat
  running : Bool
  inj : Bool
  deriving DecidableEq, Repr

/-- An object record that waits for its chip's fate or for the last origin check of its lines (R415, R418). `head` is its
bytes without CHIP flags, digest and check; `chip` says that its action cuts a chip, `run` is the run of its lines. -/
structure HeldRec where
  seq : Nat
  run : Nat
  face : Nat
  words : List Nat
  gen : Nat
  head : List Byte
  digest : Option Nat
  chip : Bool
  inj : Bool
  deriving DecidableEq, Repr

/-- A retraction record that waits for the frame at which its shot ends (R293). -/
structure Retraction where
  frame : Nat
  bytes : List Byte
  deriving DecidableEq, Repr

/-- The classifier (R271 to R297) outside page 0700h. -/
structure ClassS where
  /-- Evaluations held, in the order in which they became ready. -/
  evals : List Eval
  /-- Overload verdicts of the frame in progress, for CLASS_OVERLOAD's event (R294). -/
  overloads : Nat
  overFrame : Nat
  held : List HeldRec
  retractions : List Retraction
  /-- The counters of R289: VERDICTS by face and class, then the ten others in the order of R290, and the last clear. -/
  verdicts : Vector Nat 32
  yields : Vector Nat 10
  clearedAt : Nat
  /-- Forecast-stream records dropped since the last one written (R292), and an injection for the next one. -/
  fcDrops : Nat
  deriving DecidableEq, Repr
/-! Ejection (chapter 13). -/

/-- The kinds of window of R304 and R305. -/
inductive WinKind where
  | verdict | forecast | storm | blind | test
  deriving DecidableEq, Repr

/-- A window of the store (R304): one valve for one object, storm, BLIND span or test pulse. `owner` is the sequence number
of its object or storm (the face of a BLIND span), `group` the number its verdict goes by, `line` the last line it covers.
A forecast window has no end of its own (R309). -/
structure ValveWin where
  valve : Nat
  kind : WinKind
  owner : Nat
  group : Nat
  line : Nat
  fOpen : Nat
  fEnd : Option Nat
  /-- A frame of it was driven (R314), and a HOLD span has refused one (R313). -/
  driven : Bool
  held : Bool
  /-- Its object or storm carries INJECTED (R504). -/
  inj : Bool
  deriving DecidableEq, Repr

/-- An entry of the hold table (R305). -/
structure Hold where
  valve : Nat
  fOpen : Nat
  fEnd : Nat
  deriving DecidableEq, Repr

/-- A valve under the pulse rules (R308): open or closed since a frame, asked on and delayed by REFRACT, opened by a test. -/
structure Pulse where
  isOpen : Bool
  since : Nat
  delayed : Bool
  test : Bool
  deriving DecidableEq, Repr

/-- A valve that has been opened: what its pin does, and what the windows make of it while they are dry (R314). -/
structure ValveS where
  valve : Nat
  pin : Pulse
  dry : Pulse
  deriving DecidableEq, Repr

/-- The shot of a fired forecast: its object, first latched frame, valves, the frame at whose boundary it ended, and whether
a frame of it was driven. -/
structure Shot where
  seq : Nat
  first : Nat
  valveFirst : Nat
  valveLast : Nat
  stop : Nat
  driven : Bool
  deriving DecidableEq, Repr

/-- The scheduler outside page 0800h. -/
structure EjectS where
  wins : List ValveWin
  holds : List Hold
  valves : List ValveS
  /-- The first live frame since SORTING was entered (R31). -/
  liveFrom : Option Nat
  /-- The last frame composed. -/
  frame : Option Nat
  /-- By valve engine: frames in a row without a matching signature (R317). -/
  misses : Vector Nat 16
  /-- Shots of forecasts whose windows were emptied before their verdicts (R284, R315). -/
  shots : List Shot
  deriving DecidableEq, Repr
/-! I/O engines (chapter 14). -/

/-- A WAIT in progress: the pin's level at the last look (none before the first), and whether its event has occurred. -/
structure EngWait where
  prev : Option Bool
  hit : Bool
  deriving DecidableEq, Repr

/-- An engine (R326) outside page 0900h. Its tick in progress begins `pos` 1/4,096 BUSCLK cycles after cycle 0 and lasts `div`
of them. `stall` is 0, 2 at PULL, 3 at PUSH. `outs` are the levels of its window pins, `drives` whether it drives them, and
`frame` the words of a valve frame that its pull FIFO has no room for yet (R316). `loaded`: the next start begins at
address 0 (R339). `sent` counts the frames placed since it became a valve engine. -/
structure Eng where
  running : Bool
  stall : Nat
  pc : Nat
  reg : Word
  flag : Bool
  bitCount : Nat
  inCount : Nat
  pull : List Word
  push : List Word
  pullOvf : Bool
  pushUnder : Bool
  pos : Nat
  div : Nat
  wait : Option EngWait
  sync : Bool
  delay : Nat
  loaded : Bool
  outs : BitVec 8
  drives : Bool
  frame : List Word
  sent : Nat
  deriving DecidableEq, Repr

/-- The engines and table 10h (R343). -/
structure EngineS where
  engs : Vector Eng 16
  prog : Store
  /-- The pins released as shorted (R331). -/
  released : BitVec 64
  deriving DecidableEq, Repr
/-! Timers (chapter 15). -/

/-- A timer (R345 to R356) outside page 0980h. It counts from BUSCLK cycle `start`; while it does not count (stopped or
frozen) `held` are the cycles it had counted. `period`, `cmpA`, `cmpB`, `presc` and `acts` are the values in use; `doneA` and
`doneB` say that its compares have matched since the ARM. The `Hi` fields are held or latched high halves. -/
structure Timer where
  running : Bool
  start : Nat
  held : Option Nat
  presc : Nat
  period : Nat
  cmpA : Nat
  cmpB : Nat
  acts : Nat
  doneA : Bool
  doneB : Bool
  prePeriod : Nat
  preA : Nat
  preB : Nat
  periodHi : Nat
  aHi : Nat
  bHi : Nat
  done : Bool
  matchA : Bool
  matchB : Bool
  capOvr : Bool
  cap : Nat
  capNext : Option Nat
  pairOpen : Bool
  newCap : Bool
  capHi : Nat
  countHi : Nat
  deriving DecidableEq, Repr
/-! Auxiliary measurement (chapter 16). -/

/-- A channel's latest result (R368, R377): the code as 32 bits, FLAGS, COUNT and TIMEBASE. -/
structure AuxResult where
  code : Nat
  flags : Nat
  count : Nat
  tb : Nat
  deriving DecidableEq, Repr

/-- Where a step stands (R366): waiting for its trigger, converting, or in its open-wire or short check. -/
inductive AuxPhase where
  | waiting | converting | openCheck | shortCheck
  deriving DecidableEq, Repr

/-- The auxiliary converter and its sequencer (R360 to R379) outside page 0A00h. `due` is the timebase at which the next
conversion ends, `hit` a line or frame trigger since the step began waiting, `offsets` those of the two ranges in 2^-16 LSB,
`inject` flags owed to the next result of a channel (R378). -/
structure AuxS where
  running : Bool
  loop : Bool
  steps : Nat
  step : Nat
  phase : AuxPhase
  left : Nat
  due : Nat
  hit : Bool
  latch : BitVec 32
  results : Vector AuxResult 24
  counts : Vector Nat 24
  fgCal : Bool
  calAt : Nat
  calNow : Bool
  offsets : Vector Int 2
  /-- The gain errors of the two ranges in ppm (R374). -/
  gains : Vector Int 2
  inject : List (Nat × Nat)
  deriving DecidableEq, Repr

/-! Clocks and timebase (chapter 17). -/

/-- A ramp in progress (R387): its segments (INC, STEPS), the segment at work and the steps it has left. -/
structure Ramp where
  segs : List (Int × Nat)
  seg : Nat
  left : Nat
  /-- The N.F that the unit's own ramp is to come down to (R460). -/
  goal : Option Nat
  deriving DecidableEq, Repr

/-- A ramp command that acts at the next line edge (R389): START with its checked profile, or STOP, and the command that
it completes (none for the unit's own ramp, R460). -/
structure RampAsk where
  start : Option (List (Int × Nat))
  cmd : Option Outst
  goal : Option Nat
  /-- The CTLCLK cycle in which it executed: a line edge of the same cycle is not yet its own (R389). -/
  cycle : Nat
  deriving DecidableEq, Repr

/-- The noise-shaping modulator of the synthesizer (R384): the three 24-bit accumulators of MASH 1-1-1, the carries that its
differences still need, the dither LFSR, and by how much the division ratio now differs from N_INT. -/
structure Mash where
  acc : Vector Nat 3
  c2 : Bool
  c3 : Bool
  c3old : Bool
  lfsr : BitVec 32
  offset : Int
  deriving DecidableEq, Repr

/-- Clocks, synthesizer and timebase (R380 to R401) outside page 0100h. -/
structure Clocks where
  /-- BUSCLK cycles since the unit was powered (R534); unlike the timebase it is never aligned. -/
  bus : Nat
  /-- When the reference was lost, and when the synthesizer last began to settle, in BUSCLK cycles (R382, R385). -/
  lostAt : Nat
  settleFrom : Nat
  ramp : Option Ramp
  ask : Option RampAsk
  /-- The amount that a phase step had left, in 1/4,096 grain, and the BUSCLK cycle at which it had it (R390). -/
  pstep : Int
  pstepAt : Nat
  mash : Mash
  /-- The fraction of the timebase in sixteenths, what a slew still has to add (in sixteenths), and BUSCLK cycles since
  the slew acted last (R392, R397). -/
  frac : Nat
  slew : Int
  sinceSlew : Nat
  /-- What the rate correction has gathered towards its next sixteenth of a count, in 10^-9 sixteenths (R397). -/
  rateAcc : Int
  /-- A pulse has been accepted since acquisition began: the window of R396 holds. -/
  acquired : Bool
  lockRun : Nat
  missRun : Nat
  /-- The last SYNCIN time stamp, in sixteenths of a count (R394), and the last expected pulse. -/
  scap : Nat
  lastE : Nat
  syncLog : Nat
  /-- The last SYNCOUT pulse (R395). -/
  lastOut : Nat
  tbHi : Nat
  scapHi : Nat
  scapFrac : Nat
  deriving DecidableEq, Repr

/-- The unit: every register, queue, buffer, counter, mode and pin the spec gives it, but the queue of commands. -/
structure Dev where
  st : UState
  /-- The plant timebase (R13, R392) and whether the second CTLCLK cycle of its count is in progress (R534). -/
  tb : Nat
  half : Bool
  /-- The parameter words (R68), by page and word. -/
  params : Store
  host : HostLink
  chan : Channel
  ev : EventS
  arch : Archive
  baro : Barometer
  therm : ThermalS
  power : Power
  arr : ArrayS
  conv : Converters
  clk : Clocks
  lane : LaneS
  pipe : PipeS
  track : TrackS
  cls : ClassS
  eject : EjectS
  engine : EngineS
  timers : Vector Timer 32
  aux : AuxS
  /-- An injection has set a bit of FAULT_CAUSE since it was last 0 (R504). -/
  faultInj : Bool
  /-- The timebase of the last entry to FAULT; FAULT_TB_HI holds the half that FAULT_TB_LO latched (R507). -/
  faultTb : Nat
  /-- What the unit has sent, newest first. -/
  out : List Outbound
  /-- MODEL: how many free values have been taken (Config.freeValue and its like). -/
  free : Nat
  deriving DecidableEq, Repr

/-- The block with the commands that wait for it, first in, first out. -/
structure State where
  pending : List Instr
  dev : Dev
  deriving DecidableEq, Repr

/-- Why a step could fault. The spec gives every command of the table an effect, so nothing raises one. -/
inductive Fault where
  /-- Never raised: kept so that the type has a value. Safe. -/
  | unreachable
  deriving DecidableEq, Repr

/-- Why a command could be refused. -/
inductive Refusal where
  /-- A command whose meaning is not written: raised by an arm of Dispatch.lean alone. Safe. -/
  | notModelled (mnemonic : String)
  deriving DecidableEq, Repr

/-! Parts after reset. -/

/-- A submission queue after reset (R49). -/
def Sq.zero : Sq := ⟨0, 0, false, 0, 0, false, false, false, 0, 0, none⟩

/-- A completion queue after reset (R49). -/
def Cq.zero : Cq := ⟨0, 0, false, false, 0, 0, false, false, false, false, 0, 0, []⟩

/-- A window after reset (R423). -/
def Win.zero : Win :=
  { attached := false, base := 0, size := 0, overwrite := false, peer := false, noSnoop := false, retainEn := true
    ptrErr := false, overwritten := false, dropped := false, drops := 0, records := 0, overwrites := 0, wp := 0, rp := 0
    tail := 0, ret := 0, rpHeld := 0, retHeld := 0, wpHi := 0, rpHi := 0, retHi := 0, tailHi := 0, placed := [], live := []
    poisonNext := false }

/-- An engine at power-on (R330). -/
def Eng.zero : Eng :=
  ⟨false, 0, 0, 0, false, 0, 0, [], [], false, false, 0, 65536, none, false, 0, true, 0, false, [], 0⟩

/-- A timer at power-on (R356). -/
def Timer.zero : Timer :=
  ⟨false, 0, some 0, 0, 1, 0, 0, 0, false, false, 0, 0, 0, 0, 0, 0, false, false, false, false, 0, none, false, false, 0, 0⟩

/-- The path of a head before any run. -/
def HeadS.zero : HeadS :=
  { last := none, first := 0, hist := [], early := [], missRun := 0, injLost := false, joined := false, lastTb := 0, corr := []
    next := 0, t2 := 0, aligned := [], recon := [], cic := [], cicWord := 0, settle := 0, viewDrops := 0, viewInj := false
    blind := [], old := [] }

/-- A receive lane before its signal comes. -/
def Lane.zero (n : Nat) : Lane :=
  { locked := false, noSignal := false, noLock := false, aligned := false, suspect := false, inverted := false, logical := n % 4,
      gid := 0, seq := none, good := 0
    bad := 0, arrived := 0, flip := false, checker := ⟨[], none⟩ }

/-- The modulator before the synthesizer is first enabled; the LFSR holds DITHER_SEED's reset value (R384). -/
def Mash.zero : Mash := ⟨Vector.replicate 3 0, false, false, false, 1, 0⟩

/-- A lane group before its first training. -/
def LaneGroup.zero : LaneGroup :=
  { parity := false, peer := false, rate := 0, heads := [], expectGid := 0, trained := false, hunting := false, degraded := false
    recovering := none, fault := false, wanderPpm := 200, training := none, timeoutMs := 0, txSeq := 0, pattern := 0, patternUse := 0,
        patternLanes := 0, patternErrors := 0, patternRaised := false
    patternState := [], patternSent := 0, patternNow := false, board := [], txOn := false, txQueue := [], txGone := []
    txInterval := 0, txLeft := 0 }

/-- The shipped image of a kind (R430, R533): a header and no body. DESIGN CHOICE: its version and interface generation. -/
def shippedImage (kind : Nat) : List Byte :=
  if kind = 0 then
    pack [(4, 0x31574642), (1, 0), (1, 0), (2, 1), (4, 0x01000000), (4, 0), (1, 1), (15, 0), (4, 0x01000000), (1, 1), (3, 0),
      (248, 0), (96, 0)]
  else pack [(4, 0x314D5153), (1, 1), (1, 0), (2, 1), (4, 0x01000000), (4, 0), (1, 0), (15, 0), (256, 0), (96, 0)]

/-- The flash as shipped (R533): slot A of each kind, SEQ 1, no recipes, AUTOSTART_EN 0, the reservation erased.
(DESIGN CHOICE, log 5) -/
def Flash.shipped : Flash :=
  { sel := ⟨#[⟨true, 1, 0, 0, 0x01000000, 0x01000000⟩, ⟨false, 0, 0, 0, 0, 0⟩], rfl⟩
    unitId := 0, serial := List.replicate 16 0, autostart := 0, laneTable := [], seqReserved := 0
    slots := ⟨#[shippedImage 0, [], shippedImage 1, []], rfl⟩
    factory := ⟨#[true, false, true, false], rfl⟩
    cal := ⟨#[⟨some 2, []⟩, ⟨some 1, []⟩], rfl⟩
    recipes := [], log := [], trips := 0 }

/-- The unit right after a cold start with these flash contents and 48-bit reservation (R262, R479, R480): VSTBY and VIN are in
range, start-up has begun, only AON runs, and the counter resumes above the reservation. (DESIGN CHOICE, log 7)
(DESIGN CHOICE, log 8) (PRESUMED, log 111) (DESIGN CHOICE, log 112) -/
def Dev.cold (f : Flash) : Dev :=
  let seq := (f.seqReserved + 2 ^ 32) % 2 ^ 48
  { st := .boot, tb := 0, half := false
    params := [(0x0D0005, 1), (0x0E0020, 1), (0x0E0021, 1)]
    host :=
      { autonomous := false, hostReady := false, linkResets := 0, width := 16, speed := 4, dropBudget := 0, dropLinkdown := 0
        funcReady := false, memSpace := false, bars := Vector.replicate 3 0, d3hot := false, aerCorrectable := 0
        aerUncorrectable := 0, inReset := false, resetKind := 0, maxPayload := 128, maxReadRequest := 512
        relaxedOrdering := true, noSnoop := true, tags10 := false, tagsExt := false, cplTimeoutUs := 50000, downWindows := 0
        tokens := Vector.replicate 5 65536, msixTable := [], msixEnable := false, functionMask := false, pba := 0, vecCond := 0,
        subsysVendor := 0, subsysId := 0 }
    chan :=
      { sqs := Vector.replicate 64 Sq.zero, cqs := Vector.replicate 64 Cq.zero, turn := 0, turnLeft := 0, outst := [], moved := []
        intake := [], writes := [], longArgs := [], longBytes := [], touched := false, late := [], aborted := []
        confs := [⟨0, false, false, none, [], [], none⟩]
        pend := [], shadow := [] }
    ev :=
      { cause := 0, mask := 0, injCause := 0, route := [], ringLo := 0, ringHi := 0, ringEnable := false, ringSize := 0
        ringErr := false, ringReady := false, ringPhase := false, ringTail := 0, ringHead := 0, ringLost := 0, seq := 0
        merges := [], unrung := [], lastSeq := none }
    arch := { wins := Vector.replicate 64 Win.zero, queue := [], forecasts := [], views := [], taps := [], snaps := [], copySeq := 0 }
    baro :=
      { flash := f, logHeld := [], logSecond := 0, logInSecond := 0, halted := false, inRom := false, booted := false, dogBoots := 0
        dogPending := false, revoked := 0, dbg := ⟨none, 0⟩, jtag := ⟨1, []⟩, autoGroups := [], autoSince := 0
        autoReply := none, seqHeld := some ((seq + 2 ^ 32) % 2 ^ 48) }
    therm :=
      { sampled := false, warnUp := 0, warnDown := 0, hotUp := 0, hotDown := 0, tripRun := 0, badRun := 0, goodRun := 0
        tripLatch := false, tripRec := none, tripSeen := none, commitSeen := false, warnDue := false, hotDue := false
        scrubPaused := false, noChips := false, noTaps := false, closedAt := 0 }
    power :=
      { vin := true, vstby := true, resetLow := false, starting := true, bootAt := 0, pulse := none, resetMark := none,
          resetAsk := none, failAt := none
        bistHold := false, onAt := Vector.replicate 25 0, waits := [] }
    arr :=
      { running := false, stopping := false, pendingRun := none, mode := 0, tracking := false, trackNext := false
        byStart := false, runNum := 0, begun := false, firstLine := 0, accepted := 0, lines := [], closing := none, draining := false,
            held := none, due := false, lastAccept := none, waitSince := 0
        stalled := false, rerun := none, nextFirst := none, encA := false, encB := false, encPos := 0, encBase := 0, syncNext := 0
        frameNum := 0, frameLines := 0, frameOff := 0, mark := false, deferred := false, markedFrames := []
        cur := Vector.replicate 12 none, closed := [], frameIn := false }
    conv := { freeA := 0, freeB := 0, groups := [], fgMask := 0, bad := [] }
    clk :=
      { bus := 0, lostAt := 0, settleFrom := 0, ramp := none, ask := none, pstep := 0, pstepAt := 0, mash := Mash.zero, frac := 0,
          slew := 0, sinceSlew := 0, rateAcc := 0, acquired := false
        lockRun := 0, missRun := 0, scap := 0, lastE := 0, syncLog := 20, lastOut := 0, tbHi := 0, scapHi := 0, scapFrac := 0 }
    lane :=
      { decl := Vector.replicate 11 0, lanes := Vector.ofFn (fun i => Lane.zero i.val), groups := Vector.replicate 6 LaneGroup.zero,
          mail := [] }
    pipe :=
      { heads := Vector.replicate 12 HeadS.zero, darkSet := 0, darkOpen := 0xFF, calib := none, banks := [], fade := none, cuts := []
        taps := [], tapDrops := Vector.replicate 4 0, tapInj := 0 }
    track :=
      { faces := Vector.replicate 2 ⟨none, [], none, [], false⟩, objs := [], storms := [], seqNext := seq, peak := 0
        highArmed := true, forced := [], closed := [], labelledAt := 0, flushes := [] }
    cls :=
      { evals := [], overloads := 0, overFrame := 0, held := [], retractions := [], verdicts := Vector.replicate 32 0
        yields := Vector.replicate 10 0, clearedAt := 0, fcDrops := 0 }
    eject :=
      { wins := [], holds := [], valves := [], liveFrom := none, frame := none, misses := Vector.replicate 16 0, shots := [] }
    engine := { engs := Vector.replicate 16 Eng.zero, prog := [], released := 0 }
    timers := Vector.replicate 32 Timer.zero
    aux :=
      { running := false, loop := false, steps := 0, step := 0, phase := .waiting, left := 0, due := 0, hit := false, latch := 0
        results := Vector.replicate 24 ⟨0, 0, 0, 0⟩, counts := Vector.replicate 24 0, fgCal := false, calAt := 0, calNow := false
        offsets := Vector.replicate 2 0, gains := Vector.replicate 2 0, inject := [] }
    faultInj := false, faultTb := 0, out := [], free := 0 }

/-- The machine right after reset: a unit as shipped, just powered, with no command waiting (R472, R533).
(DESIGN CHOICE, log 4) -/
def State.reset : State := { pending := [], dev := Dev.cold Flash.shipped }

end Sys2Proof.Machine
end

