-- ==== Sys2Proof/Machine/LaneBits.lean ====
section
/-!
DEFINITION. The coding of lanes (R135 to R148, R159), apart from any state: bits of words, scrambling, stuffing, markers, intervals,
striping and parity, packets in a stream of group words, and test patterns.
-/

namespace Sys2Proof.Machine

/-! Bits. -/

/-- R135: the bits of a field of `n` bits in the order in which they are sent, most significant first. -/
def bitsMsb (n v : Nat) : List Bool := (List.range n).map (fun i => v.testBit (n - 1 - i))

/-- The field that bits spell, most significant first. -/
def ofMsb (bs : List Bool) : Nat := bs.foldl (fun a b => 2 * a + b2n b) 0

/-- The lane words of 64 bits that stand whole in a bit stream, at most `n` of them. -/
def wordsMsb : Nat → List Bool → List Nat
  | 0, _ => []
  | n + 1, bs => if bs.length < 64 then [] else ofMsb (bs.take 64) :: wordsMsb n (bs.drop 64)

/-! Scrambling and stuffing. -/

/-- R136: the scrambler's seed at a marker. -/
def scramblerSeed (seq lane gid : Nat) : Nat := 2 ^ 30 ||| (seq % 2 ^ 16) <<< 14 ||| (lane % 256) <<< 6 ||| gid % 64

/-- R136: one payload bit: the keystream bit and the next state. -/
def scramblerStep (s : Nat) : Bool × Nat :=
  let k := s.testBit 30 != s.testBit 27
  (k, (s * 2 + b2n k) % 2 ^ 31)

/-- R136: payload bits scrambled, or descrambled, from a state on. -/
def scramble (s : Nat) : List Bool → List Bool
  | [] => []
  | b :: bs => (b != (scramblerStep s).1) :: scramble (scramblerStep s).2 bs

/-- R137: the bits sent for marker and payload bits, stuff bits included. `last` and `run` count equal bits. -/
def stuff (last : Option Bool) (run : Nat) : List Bool → List Bool
  | [] => []
  | b :: bs =>
    let r := if last = some b then run + 1 else 1
    if r = 28 then b :: (!b) :: stuff (some (!b)) 0 bs else b :: stuff (some b) r bs

/-- R137: the bits recovered: the bit after every 28 equal bits is dropped. `skip` says that the next bit is one. -/
def unstuff (last : Option Bool) (run : Nat) (skip : Bool) : List Bool → List Bool
  | [] => []
  | b :: bs =>
    if skip then unstuff (some b) 0 false bs
    else
      let r := if last = some b then run + 1 else 1
      b :: unstuff (some b) r (r == 28) bs

/-! Markers. -/

/-- R140: a marker. -/
def markerWord (lane gid seq : Nat) : Nat :=
  let v := 0xC69A * 2 ^ 32 + lane % 256 * 2 ^ 24 + gid % 256 * 2 ^ 16 + seq % 2 ^ 16
  v * 2 ^ 16 + crc16 (leBytes 6 v).reverse

/-- A marker as received (R140): inverted or not, LANE_ID, GROUP_ID and SEQ; none when the pattern or MCHECK fails. -/
def readMarker (w : Nat) : Option (Bool × Nat × Nat × Nat) :=
  let inv := w / 2 ^ 48 % 2 ^ 16 == 0x3965
  let v := if inv then 2 ^ 64 - 1 - w % 2 ^ 64 else w % 2 ^ 64
  let lane := v / 2 ^ 40 % 256
  if v / 2 ^ 48 ≠ 0xC69A then none
  else if crc16 ((leBytes 6 (v / 2 ^ 16)).reverse) ≠ v % 2 ^ 16 then none
  else if 3 < lane then none
  else some (inv, lane, v / 2 ^ 32 % 256, v / 2 ^ 16 % 2 ^ 16)

/-! Intervals. -/

/-- R139: `n` alignment bits: they alternate, the first as given. -/
def alternate : Nat → Bool → List Bool
  | 0, _ => []
  | n + 1, b => b :: alternate n (!b)

/-- R135 to R137: the line bits of a lane's marker and payload words, without alignment bits. -/
def laneLine (lane gid seq : Nat) (words : List Nat) : List Bool :=
  stuff none 0 (bitsMsb 64 (markerWord lane gid seq) ++ scramble (scramblerSeed seq lane gid) (words.flatMap (bitsMsb 64)))

/-- R139: the lanes of an interval, closed with alignment bits to the length of the longest. -/
def closeInterval (lanes : List (List Bool)) : List (List Bool) :=
  let n := (lanes.map List.length).foldl max 0
  lanes.map (fun bs => bs ++ alternate (n - bs.length) (!(bs.getLast?.getD false)))

/-- R142: the group words of an interval: 1,024 in STRIPE4, 768 in STRIPE3P. -/
def intervalWords (parity : Bool) : Nat := if parity then 768 else 1024

/-- R142: the lane words of the four logical lanes for the group words of an interval. -/
def stripe (parity : Bool) (ws : List Nat) : List (List Nat) :=
  let w := fun k => (ws[k]?).getD 0
  let lane := fun l => (List.range 256).map (fun j => w ((if parity then 3 else 4) * j + l))
  if parity then [lane 0, lane 1, lane 2, (List.range 256).map (fun j => w (3 * j) ^^^ w (3 * j + 1) ^^^ w (3 * j + 2))]
  else [lane 0, lane 1, lane 2, lane 3]

/-- R135, R139, R142: the line bits of the four logical lanes of a group for one interval. -/
def intervalBits (parity : Bool) (gid seq : Nat) (ws : List Nat) : List (List Bool) :=
  closeInterval ((stripe parity ws).zipIdx.map (fun p => laneLine p.2 gid seq p.1))

/-- R136, R137: the lane words of an interval as received, from the first bit of its marker on. -/
def receiveLane (lane gid seq : Nat) (bits : List Bool) : List Nat :=
  wordsMsb 256 (scramble (scramblerSeed seq lane gid) ((unstuff none 0 false bits).drop 64))

/-- The lane words of an interval by logical lane; none for a lane that is not up. -/
abbrev LaneWords := List (Option (List Nat))

/-- Word `j` of a logical lane. -/
def LaneWords.at (lw : LaneWords) (l j : Nat) : Option Nat := ((lw[l]?).getD none).bind (·[j]?)

/-- The logical lane is up. -/
def LaneWords.up (lw : LaneWords) (l : Nat) : Bool := ((lw[l]?).getD none).isSome

/-- R142, R143: the data words of set `j`. A word of a lane that is not up is rebuilt from the other three. -/
def LaneWords.set (lw : LaneWords) (parity : Bool) (j : Nat) : List (Option Nat) :=
  if !parity then [lw.at 0 j, lw.at 1 j, lw.at 2 j, lw.at 3 j]
  else
    let rebuilt := fun a b => match lw.at a j, lw.at b j, lw.at 3 j with
      | some x, some y, some z => some (x ^^^ y ^^^ z)
      | _, _, _ => none
    [if lw.up 0 then lw.at 0 j else rebuilt 1 2, if lw.up 1 then lw.at 1 j else rebuilt 0 2,
      if lw.up 2 then lw.at 2 j else rebuilt 0 1]

/-- R142: the group words of an interval, as far as they have been received. -/
def LaneWords.group (lw : LaneWords) (parity : Bool) : List Nat :=
  (((List.range 256).flatMap (lw.set parity)).takeWhile Option.isSome).filterMap id

/-- R142: the sets of an interval whose parity does not match, all four lanes being up. -/
def LaneWords.mismatches (lw : LaneWords) : Nat :=
  ((List.range 256).filter (fun j =>
    match lw.at 0 j, lw.at 1 j, lw.at 2 j, lw.at 3 j with
    | some a, some b, some c, some p => a ^^^ b ^^^ c != p
    | _, _, _, _ => false)).length

/-! Packets. -/

/-- Bytes of group words, least significant byte first (R146). -/
def groupBytes (ws : List Nat) : List Byte := ws.flatMap (leBytes 8)

/-- R146: HDR_CHECK of words 0 and 1, and the CRC of words 0, 1 and the payload. -/
def hdrCheck (ws : List Nat) : Nat := crc16 (groupBytes (ws.take 2))
def bodyCheck (ws : List Nat) : Nat := crc32c (groupBytes (ws.take 2 ++ ws.drop 3))

/-- HDR_CHECK (R146) matches. (DEDUCED, log 35) -/
def hdrGood (ws : List Nat) : Bool := hdrCheck ws == (ws[2]?.getD 0) / 2 ^ 16 % 2 ^ 16

/-- SEG_CRC or MSG_CRC (R146, R148) matches. -/
def bodyGood (ws : List Nat) : Bool := bodyCheck ws == (ws[2]?.getD 0) / 2 ^ 32 % 2 ^ 32

/-- A field of a header word. -/
def hfield (ws : List Nat) (i hi lo : Nat) : Nat := (ws[i]?.getD 0) / 2 ^ lo % 2 ^ (hi + 1 - lo)

/-- The header of a LINE_SEGMENT (R146). -/
structure SegHead where
  head : Nat
  fmt : Nat
  frame : Bool
  planes : Nat
  line : Nat
  gen : Nat
  colStart : Nat
  count : Nat
  deriving DecidableEq, Repr

def segHead (ws : List Nat) : SegHead :=
  ⟨hfield ws 0 55 52, hfield ws 0 51 50, hfield ws 0 49 49 == 1, hfield ws 0 47 40, hfield ws 0 31 0, hfield ws 1 63 48,
    hfield ws 1 45 32, hfield ws 1 30 16⟩

/-- R146: a reserved or illegal value in a LINE_SEGMENT header. -/
def segIllegal (ws : List Nat) : Bool :=
  let h := segHead ws
  2 ≤ h.fmt || h.planes.testBit 7 || (h.planes.testBit 3 && h.planes / 16 % 8 != 0) || h.head == 0 || 12 ≤ h.head
    || h.count == 0 || hfield ws 0 48 48 != 0 || hfield ws 0 39 32 != 0 || hfield ws 1 47 46 != 0
    || hfield ws 1 31 31 != 0 || hfield ws 1 15 0 != 0 || hfield ws 2 15 0 != 0

/-- R147, R148: the words of a packet, from its header: 3, and its payload. -/
def packetLen (ws : List Nat) : Nat :=
  if hfield ws 0 63 56 = 0xC3 then 3 + hfield ws 0 29 16
  else
    let h := segHead ws
    3 + (h.count * (bitsOf 8 h.planes).length * (if h.fmt = 1 then 10 else 12) + 63) / 64

/-- R148: the words of a CONTROL packet. -/
def controlPacket (head msg seq : Nat) (payload : List Nat) : List Nat :=
  let w0 := 0xC3 * 2 ^ 56 + head % 16 * 2 ^ 52 + msg % 256 * 2 ^ 40 + payload.length % 2 ^ 14 * 2 ^ 16 + seq % 2 ^ 16
  let ws := [w0, 0, 0] ++ payload
  [w0, 0, bodyCheck ws * 2 ^ 32 + hdrCheck ws * 2 ^ 16] ++ payload

/-- What a scan of group words finds, by the place of its first word: a whole packet, a word where no valid packet begins outside a
hunt, or a LINE_SEGMENT header with an illegal value. -/
inductive Found where
  | packet (at' len : Nat)
  | bad (at' : Nat)
  deriving DecidableEq, Repr

/-- R144 to R146: the packets in a stream of group words. `at'` counts its words, `hunting` says that words are discarded until a valid
packet begins. Answers what it finds, and whether the unit hunts at its end; a packet that is cut off is not found. -/
def scan : Nat → Nat → Bool → List Nat → List Found × Bool
  | 0, _, hunting, _ => ([], hunting)
  | _ + 1, _, hunting, [] => ([], hunting)
  | n + 1, at', hunting, w :: rest =>
    let ws := w :: rest
    let type := w / 2 ^ 56 % 256
    if w = 0 then scan n (at' + 1) false rest
    else if (type == 0x5C || type == 0xC3) && rest.length < 2 then ([], hunting)
    else if (type == 0x5C || type == 0xC3) && hdrGood ws then
      if type == 0x5C && segIllegal ws then
        let (fs, h) := scan n (at' + 1) true rest
        (.bad at' :: fs, h)
      else if ws.length < packetLen ws then ([], false)
      else
        let (fs, h) := scan n (at' + packetLen ws) false (ws.drop (packetLen ws))
        (.packet at' (packetLen ws) :: fs, h)
    else if hunting then scan n (at' + 1) true rest
    else
      let (fs, h) := scan n (at' + 1) true rest
      (.bad at' :: fs, h)

/-! Test patterns (R159). -/

/-- The degree of a pattern and the taps of its recurrence: PRBS7, PRBS15, PRBS31. -/
def prbsTaps (pattern : Nat) : Nat × Nat := match pattern with | 1 => (7, 6) | 2 => (15, 14) | _ => (31, 28)

/-- R159: the next bit of a pattern and the generator's next state. -/
def prbsStep (pattern s : Nat) : Bool × Nat :=
  let (n, m) := prbsTaps pattern
  let k := s.testBit (n - 1) != s.testBit (m - 1)
  (k, (s * 2 + b2n k) % 2 ^ n)

/-- R159, R160: `n` bits of a pattern. `sent` counts the bits before them; every `every` x 1,024th bit is inverted, and with `now` the
first one. -/
def prbsBits (pattern every : Nat) : Nat → Nat → Bool → Nat → List Bool × Nat
  | 0, _, _, s => ([], s)
  | n + 1, sent, now, s =>
    let (k, s') := prbsStep pattern s
    let err := now || (every != 0 && (sent + 1) % (every * 1024) == 0)
    let (bs, t) := prbsBits pattern every n (sent + 1) false s'
    ((k != err) :: bs, t)

/-- R159: a received bit. A checker has synchronised once as many bits as the polynomial's degree follow from those before them; from
then on it counts every bit error. Answers whether the bit is one. -/
def Checker.take (c : Checker) (pattern : Nat) (b : Bool) : Checker × Bool :=
  let (n, m) := prbsTaps pattern
  match c.state with
  | some s => (⟨c.got, some (prbsStep pattern s).2⟩, b != (prbsStep pattern s).1)
  | none =>
    let got := (b :: c.got).take (2 * n)
    let fits := (List.range n).all (fun i => got[i]? == ((got[i + n]?).bind (fun x => (got[i + m]?).map (fun y => x != y))))
    if got.length = 2 * n && fits && (got.take n).any id then (⟨[], some (ofMsb (got.take n).reverse)⟩, false) else (⟨got, none⟩, false)

end Sys2Proof.Machine
end

