-- ==== Sys2Proof/Machine/Field.lean ====
section
/-!
DEFINITION. How a row of a field table of the spec is written down (R7, R11): page, word, bits, access and reset.
-/

namespace Sys2Proof.Machine

/-- The access codes of R7. A word bit that no field covers is RSV. -/
inductive Acc where
  | rw | ro | rc | w1c | wo | st
  deriving DecidableEq, Repr

/-- One field of a parameter page. The field of instance `i` (a head, a group, an engine) lies `i * step` words
further on. `ok` lists the ranges of values the spec allows, both ends included; empty means every value. -/
structure Fld where
  page : Nat
  word : Nat
  count : Nat
  step : Nat
  hi : Nat
  lo : Nat
  acc : Acc
  reset : Nat
  ok : List (Nat × Nat)
  runLock : Bool
  deriving DecidableEq, Repr

/-- The key of a parameter word in the store: page and word together (R68). -/
def paramKey (page word : Nat) : Nat := page * 256 + word

/-- The key of the word that holds instance `i` of a field. -/
def Fld.key (f : Fld) (i : Nat) : Nat := paramKey f.page (f.word + f.step * i)

/-- The number of bits of a field. -/
def Fld.width (f : Fld) : Nat := f.hi + 1 - f.lo

/-- The field has an instance in this word of its page. -/
def Fld.inWord (f : Fld) (word : Nat) : Bool :=
  f.word ≤ word && word < f.word + f.step * f.count && (word - f.word) % f.step == 0

/-- The value of a field in a word of its page. -/
def Fld.ofWord (f : Fld) (w : Word) : Nat := (w.toNat >>> f.lo) % 2 ^ f.width

/-- A word with one field replaced; the other bits stay. -/
def Fld.inject (f : Fld) (w : Word) (v : Nat) : Word :=
  BitVec.ofNat 32 (w.toNat - (f.ofWord w) * 2 ^ f.lo + (v % 2 ^ f.width) * 2 ^ f.lo)

/-- R70: the value lies in the field's stated range. -/
def Fld.allows (f : Fld) (v : Nat) : Bool :=
  f.ok.isEmpty || f.ok.any (fun r => r.1 ≤ v && v ≤ r.2)

end Sys2Proof.Machine
end

