-- ==== Sys2Proof/Machine/ParamTable.lean ====
section
/-!
DEFINITION. The fields of every parameter page (R68), transcribed from the field tables of spec/: one constant for each
field, under the spec's own name (with the page as a suffix where two pages share a name), and the list of the fields
of each page. A row with several words (one for each head, group, engine, ...) is one constant with a count and a stride.
The last two columns are the values the Meaning column allows (empty: all) and whether the field is run-locked (R86).
-/

namespace Sys2Proof.Machine

/-! Page 0000h (R80 of spec/03_command_channel.md). -/

def Reg.DEVICE : Fld := ⟨0x0000, 0x00, 1, 1, 31, 16, .ro, 0x9416, [], false⟩
def Reg.STEPPING : Fld := ⟨0x0000, 0x00, 1, 1, 15, 8, .ro, 1, [], false⟩
def Reg.UNIT_ID : Fld := ⟨0x0000, 0x01, 1, 1, 31, 16, .ro, 0, [], false⟩
def Reg.FAULT_PRESENT : Fld := ⟨0x0000, 0x02, 1, 1, 7, 4, .ro, 0, [], false⟩
def Reg.STATE : Fld := ⟨0x0000, 0x02, 1, 1, 3, 0, .ro, 0, [], false⟩
def Reg.GEN_PENDING : Fld := ⟨0x0000, 0x03, 1, 1, 18, 16, .ro, 0, [], false⟩
def Reg.GEN_IN_EFFECT : Fld := ⟨0x0000, 0x03, 1, 1, 15, 0, .ro, 0, [], false⟩
def Reg.TAGS_OUTSTANDING : Fld := ⟨0x0000, 0x04, 1, 1, 12, 0, .ro, 0, [], false⟩
def Reg.ENTRY_CHECK_FAILS : Fld := ⟨0x0000, 0x05, 1, 1, 31, 0, .rc, 0, [], false⟩
def Reg.REJECTS : Fld := ⟨0x0000, 0x06, 1, 1, 31, 0, .rc, 0, [], false⟩
def Reg.LONG_ACTIVE : Fld := ⟨0x0000, 0x07, 1, 1, 31, 31, .ro, 0, [], false⟩
def Reg.LONG_TAG : Fld := ⟨0x0000, 0x07, 1, 1, 27, 16, .ro, 0, [], false⟩
def Reg.LONG_OPCODE : Fld := ⟨0x0000, 0x07, 1, 1, 15, 0, .ro, 0, [], false⟩

/-! Page 0100h (R401 of spec/17_clocks_and_timebase.md). -/

def Reg.LSYN_EN : Fld := ⟨0x0100, 0x00, 1, 1, 31, 31, .ro, 1, [], false⟩
def Reg.DITHER_EN : Fld := ⟨0x0100, 0x00, 1, 1, 30, 30, .ro, 0, [], false⟩
def Reg.POSTDIV : Fld := ⟨0x0100, 0x00, 1, 1, 25, 16, .ro, 9, [], false⟩
def Reg.N_INT : Fld := ⟨0x0100, 0x00, 1, 1, 6, 0, .ro, 0x49, [], false⟩
def Reg.N_FRAC : Fld := ⟨0x0100, 0x01, 1, 1, 23, 0, .ro, 0xba5e35, [], false⟩
def Reg.DITHER_SEED : Fld := ⟨0x0100, 0x02, 1, 1, 31, 0, .ro, 1, [], false⟩
def Reg.HOLDOVER : Fld := ⟨0x0100, 0x03, 1, 1, 5, 5, .ro, 0, [], false⟩
def Reg.REF_PRESENT : Fld := ⟨0x0100, 0x03, 1, 1, 4, 4, .ro, 0, [], false⟩
def Reg.SYSPLL_SETTLED : Fld := ⟨0x0100, 0x03, 1, 1, 3, 3, .ro, 0, [], false⟩
def Reg.PSTEP_BUSY : Fld := ⟨0x0100, 0x03, 1, 1, 2, 2, .ro, 0, [], false⟩
def Reg.RAMPING : Fld := ⟨0x0100, 0x03, 1, 1, 1, 1, .ro, 0, [], false⟩
def Reg.LSYN_SETTLED : Fld := ⟨0x0100, 0x03, 1, 1, 0, 0, .ro, 0, [], false⟩
def Reg.LINE_RATE_MHZ : Fld := ⟨0x0100, 0x04, 1, 1, 31, 0, .ro, 0, [], false⟩
def Reg.LSYN_PERIOD_LO : Fld := ⟨0x0100, 0x05, 1, 1, 31, 0, .ro, 0, [], false⟩
def Reg.LSYN_PERIOD_HI : Fld := ⟨0x0100, 0x06, 1, 1, 15, 0, .ro, 0, [], false⟩
def Reg.RAMP_SEG : Fld := ⟨0x0100, 0x07, 1, 1, 20, 16, .ro, 0, [], false⟩
def Reg.RAMP_LEFT : Fld := ⟨0x0100, 0x07, 1, 1, 15, 0, .ro, 0, [], false⟩
def Reg.PSTEP_LEFT : Fld := ⟨0x0100, 0x08, 1, 1, 22, 0, .ro, 0, [], false⟩
def Reg.CHECK_SEG : Fld := ⟨0x0100, 0x09, 1, 1, 12, 8, .ro, 0, [], false⟩
def Reg.CHECK_CODE_0100 : Fld := ⟨0x0100, 0x09, 1, 1, 3, 0, .ro, 0, [], false⟩
def Reg.TB_JUMP : Fld := ⟨0x0100, 0x0A, 1, 1, 5, 5, .w1c, 0, [], false⟩
def Reg.SYNC_MISS : Fld := ⟨0x0100, 0x0A, 1, 1, 4, 4, .w1c, 0, [], false⟩
def Reg.TB_UNLOCK : Fld := ⟨0x0100, 0x0A, 1, 1, 3, 3, .w1c, 0, [], false⟩
def Reg.RAMP_DONE : Fld := ⟨0x0100, 0x0A, 1, 1, 2, 2, .w1c, 0, [], false⟩
def Reg.REF_RETURN : Fld := ⟨0x0100, 0x0A, 1, 1, 1, 1, .w1c, 0, [], false⟩
def Reg.REF_LOSS : Fld := ⟨0x0100, 0x0A, 1, 1, 0, 0, .w1c, 0, [], false⟩
def Reg.REF_LOSSES : Fld := ⟨0x0100, 0x0B, 1, 1, 31, 0, .rc, 0, [], false⟩
def Reg.TB_ROLE : Fld := ⟨0x0100, 0x10, 1, 1, 17, 16, .rw, 0, [(0, 1)], false⟩
def Reg.SYNCOUT_EN : Fld := ⟨0x0100, 0x10, 1, 1, 8, 8, .rw, 0, [], false⟩
def Reg.SYNC_LOG : Fld := ⟨0x0100, 0x10, 1, 1, 4, 0, .rw, 0x14, [(16, 30)], false⟩
def Reg.JUMP_LIMIT : Fld := ⟨0x0100, 0x11, 1, 1, 31, 16, .rw, 0x40, [(1, 65535)], false⟩
def Reg.CABLE_COMP : Fld := ⟨0x0100, 0x11, 1, 1, 15, 0, .rw, 0, [], false⟩
def Reg.LOCK_TOL : Fld := ⟨0x0100, 0x12, 1, 1, 7, 0, .rw, 0x20, [(1, 255)], false⟩
def Reg.TB_ERROR : Fld := ⟨0x0100, 0x13, 1, 1, 31, 0, .ro, 0, [], false⟩
def Reg.TB_RATE_PPB : Fld := ⟨0x0100, 0x14, 1, 1, 31, 0, .ro, 0, [], false⟩
def Reg.TB_LOCKED : Fld := ⟨0x0100, 0x15, 1, 1, 0, 0, .ro, 0, [], false⟩
def Reg.SYNC_PULSES : Fld := ⟨0x0100, 0x16, 1, 1, 31, 0, .rc, 0, [], false⟩
def Reg.SYNC_MISSES : Fld := ⟨0x0100, 0x17, 1, 1, 31, 0, .rc, 0, [], false⟩
def Reg.TB_JUMPS : Fld := ⟨0x0100, 0x18, 1, 1, 31, 0, .rc, 0, [], false⟩

/-! Page 0200h (R114 of spec/04_pixel_array_and_exposure.md). -/

def Reg.FRAME_IN_EDGE : Fld := ⟨0x0200, 0x00, 1, 1, 14, 14, .rw, 0, [], true⟩
def Reg.FRAME_SRC : Fld := ⟨0x0200, 0x00, 1, 1, 13, 12, .rw, 0, [(0, 2)], true⟩
def Reg.TRIG_SRC : Fld := ⟨0x0200, 0x00, 1, 1, 9, 8, .rw, 0, [(0, 2)], true⟩
def Reg.GUST_ROW : Fld := ⟨0x0200, 0x00, 1, 1, 3, 2, .rw, 3, [], true⟩
def Reg.LINE_MODE : Fld := ⟨0x0200, 0x00, 1, 1, 1, 0, .rw, 0, [(0, 2)], true⟩
def Reg.LINE_FIRST : Fld := ⟨0x0200, 0x01, 1, 1, 31, 0, .rw, 0, [], false⟩
def Reg.FRAME_LINES : Fld := ⟨0x0200, 0x02, 1, 1, 16, 0, .st, 0x400, [(64, 65536)], false⟩
def Reg.FRAME_MARK : Fld := ⟨0x0200, 0x03, 1, 1, 0, 0, .wo, 0, [], false⟩
def Reg.WIN_STOP : Fld := ⟨0x0200, 0x04, 4, 1, 28, 16, .st, 0x600, [(1, 4096)], false⟩
def Reg.WIN_START : Fld := ⟨0x0200, 0x04, 4, 1, 12, 0, .st, 0, [(0, 4095)], false⟩
def Reg.LONG_STOP : Fld := ⟨0x0200, 0x08, 4, 1, 28, 16, .st, 0x1000, [(1, 4096)], false⟩
def Reg.LONG_START : Fld := ⟨0x0200, 0x08, 4, 1, 12, 0, .st, 0x600, [(0, 4095)], false⟩
def Reg.WIN_ENABLE : Fld := ⟨0x0200, 0x0C, 1, 1, 7, 0, .st, 0, [], false⟩
def Reg.END_GRP : Fld := ⟨0x0200, 0x10, 8, 1, 24, 16, .st, 0x1ff, [], false⟩
def Reg.START_GRP : Fld := ⟨0x0200, 0x10, 8, 1, 8, 0, .st, 0, [], false⟩
def Reg.ENC_ZRST : Fld := ⟨0x0200, 0x18, 1, 1, 17, 17, .rw, 0, [], true⟩
def Reg.ENC_DIR : Fld := ⟨0x0200, 0x18, 1, 1, 16, 16, .rw, 0, [], true⟩
def Reg.ENC_DIV : Fld := ⟨0x0200, 0x18, 1, 1, 15, 0, .rw, 1, [(1, 65535)], true⟩
def Reg.SYNC_PERIOD : Fld := ⟨0x0200, 0x19, 1, 1, 17, 0, .rw, 0x7d0, [], true⟩
def Reg.SYNC_EPOCH_LO : Fld := ⟨0x0200, 0x1A, 1, 1, 31, 0, .rw, 0, [], true⟩
def Reg.SYNC_EPOCH_HI : Fld := ⟨0x0200, 0x1B, 1, 1, 31, 0, .rw, 0, [], true⟩
def Reg.LINE_TIMEOUT : Fld := ⟨0x0200, 0x1C, 1, 1, 15, 0, .rw, 0, [], false⟩
def Reg.LSYN_WAIT : Fld := ⟨0x0200, 0x20, 1, 1, 3, 3, .ro, 0, [], false⟩
def Reg.TRIG_HELD : Fld := ⟨0x0200, 0x20, 1, 1, 2, 2, .ro, 0, [], false⟩
def Reg.TRACKING : Fld := ⟨0x0200, 0x20, 1, 1, 1, 1, .ro, 0, [], false⟩
def Reg.RUNNING : Fld := ⟨0x0200, 0x20, 1, 1, 0, 0, .ro, 0, [], false⟩
def Reg.LINE_CUR : Fld := ⟨0x0200, 0x21, 1, 1, 31, 0, .ro, 0, [], false⟩
def Reg.FRAME_CUR : Fld := ⟨0x0200, 0x22, 1, 1, 31, 0, .ro, 0, [], false⟩
def Reg.FRAME_OFFSET : Fld := ⟨0x0200, 0x23, 1, 1, 16, 0, .ro, 0, [], false⟩
def Reg.TRIG_OVERRUNS : Fld := ⟨0x0200, 0x24, 1, 1, 31, 0, .rc, 0, [], false⟩
def Reg.FRAME_DEFERS : Fld := ⟨0x0200, 0x25, 1, 1, 31, 0, .rc, 0, [], false⟩
def Reg.GEN_LEAD : Fld := ⟨0x0200, 0x26, 1, 1, 27, 16, .w1c, 0, [], false⟩
def Reg.GEN_LAG : Fld := ⟨0x0200, 0x26, 1, 1, 11, 0, .w1c, 0, [], false⟩
def Reg.TRIG_STALL : Fld := ⟨0x0200, 0x27, 1, 1, 8, 8, .w1c, 0, [], false⟩
def Reg.EXP_FLOOR_LONG : Fld := ⟨0x0200, 0x27, 1, 1, 7, 4, .w1c, 0, [], false⟩
def Reg.EXP_FLOOR : Fld := ⟨0x0200, 0x27, 1, 1, 3, 0, .w1c, 0, [], false⟩
def Reg.DUAL_RATIO : Fld := ⟨0x0200, 0x28, 4, 1, 31, 0, .ro, 0, [], false⟩

/-! Page 0280h (R133 of spec/05_column_converters.md). -/

def Reg.DRIZZLE : Fld := ⟨0x0280, 0x00, 1, 1, 0, 0, .rw, 0, [], true⟩
def Reg.GLINT_MARK : Fld := ⟨0x0280, 0x01, 1, 1, 8, 8, .rw, 0, [], false⟩
def Reg.CAL_ENABLE : Fld := ⟨0x0280, 0x01, 1, 1, 0, 0, .rw, 1, [], false⟩
def Reg.PEDESTAL : Fld := ⟨0x0280, 0x02, 1, 1, 9, 0, .st, 0x100, [(64, 1023)], false⟩
def Reg.CONV_FG_CAL : Fld := ⟨0x0280, 0x08, 1, 1, 16, 16, .ro, 0, [], false⟩
def Reg.GROUPS_NO_SPARE : Fld := ⟨0x0280, 0x08, 1, 1, 9, 0, .ro, 0, [], false⟩
def Reg.CAL_STEPS : Fld := ⟨0x0280, 0x09, 1, 1, 31, 0, .rc, 0, [], false⟩
def Reg.GLINTS : Fld := ⟨0x0280, 0x0A, 1, 1, 31, 0, .rc, 0, [], false⟩
def Reg.CONV_SHIFTS : Fld := ⟨0x0280, 0x0B, 1, 1, 31, 0, .rc, 0, [], false⟩
def Reg.LAST_SHIFT : Fld := ⟨0x0280, 0x0C, 1, 1, 12, 0, .ro, 0, [], false⟩
def Reg.CONV_CAP : Fld := ⟨0x0280, 0x0D, 1, 1, 4, 4, .w1c, 0, [], false⟩
def Reg.CONV_SHIFT : Fld := ⟨0x0280, 0x0D, 1, 1, 3, 3, .w1c, 0, [], false⟩
def Reg.GLINT : Fld := ⟨0x0280, 0x0D, 1, 1, 2, 2, .w1c, 0, [], false⟩
def Reg.CAL_DRIFT : Fld := ⟨0x0280, 0x0D, 1, 1, 1, 1, .w1c, 0, [], false⟩
def Reg.CAL_FAIL : Fld := ⟨0x0280, 0x0D, 1, 1, 0, 0, .w1c, 0, [], false⟩
def Reg.FAIL_GROUP : Fld := ⟨0x0280, 0x0E, 1, 1, 25, 16, .ro, 0, [], false⟩
def Reg.FAIL_SLICE : Fld := ⟨0x0280, 0x0E, 1, 1, 6, 0, .ro, 0, [], false⟩
def Reg.NO_SPARE : Fld := ⟨0x0280, 0x10, 16, 1, 31, 0, .ro, 0, [], false⟩
def Reg.NO_SPARE_HI : Fld := ⟨0x0280, 0x20, 1, 1, 3, 0, .ro, 0, [], false⟩

/-! Page 0300h (R165 of spec/06_heads_and_lanes.md). -/

def Reg.EXPECT_GID : Fld := ⟨0x0300, 0x00, 6, 16, 15, 8, .rw, 0, [], false⟩
def Reg.LANE_ROLE : Fld := ⟨0x0300, 0x00, 6, 16, 4, 4, .rw, 0, [], false⟩
def Reg.LANE_MODE : Fld := ⟨0x0300, 0x00, 6, 16, 2, 2, .rw, 0, [], false⟩
def Reg.RATE : Fld := ⟨0x0300, 0x00, 6, 16, 1, 0, .rw, 0, [(0, 2)], false⟩
def Reg.GHEADS : Fld := ⟨0x0300, 0x01, 6, 16, 15, 0, .rw, 0, [], false⟩
def Reg.TRAIN_TIMEOUT : Fld := ⟨0x0300, 0x02, 6, 16, 31, 16, .rw, 0x64, [(1, 65535)], false⟩
def Reg.WANDER_PPM : Fld := ⟨0x0300, 0x02, 6, 16, 8, 0, .rw, 0xc8, [(50, 300)], false⟩
def Reg.RX_GID : Fld := ⟨0x0300, 0x03, 6, 16, 31, 24, .ro, 0, [], false⟩
def Reg.SKEW_BAD : Fld := ⟨0x0300, 0x03, 6, 16, 22, 22, .ro, 0, [], false⟩
def Reg.GID_BAD : Fld := ⟨0x0300, 0x03, 6, 16, 21, 21, .ro, 0, [], false⟩
def Reg.ORDER_FIXED : Fld := ⟨0x0300, 0x03, 6, 16, 20, 20, .ro, 0, [], false⟩
def Reg.POL_FIXED : Fld := ⟨0x0300, 0x03, 6, 16, 19, 16, .ro, 0, [], false⟩
def Reg.LOL : Fld := ⟨0x0300, 0x03, 6, 16, 15, 12, .ro, 0, [], false⟩
def Reg.LOS : Fld := ⟨0x0300, 0x03, 6, 16, 11, 8, .ro, 0, [], false⟩
def Reg.GROUP_UP : Fld := ⟨0x0300, 0x03, 6, 16, 7, 7, .ro, 0, [], false⟩
def Reg.PRBS_ACTIVE : Fld := ⟨0x0300, 0x03, 6, 16, 6, 6, .ro, 0, [], false⟩
def Reg.TRAINING : Fld := ⟨0x0300, 0x03, 6, 16, 5, 5, .ro, 0, [], false⟩
def Reg.DEGRADED : Fld := ⟨0x0300, 0x03, 6, 16, 4, 4, .ro, 0, [], false⟩
def Reg.LANE_UP : Fld := ⟨0x0300, 0x03, 6, 16, 3, 0, .ro, 0, [], false⟩
def Reg.HEADS_IN_LINK : Fld := ⟨0x0300, 0x04, 6, 16, 27, 16, .ro, 0, [], false⟩
def Reg.LANE_MAP : Fld := ⟨0x0300, 0x04, 6, 16, 7, 0, .ro, 0, [], false⟩
def Reg.SKEW : Fld := ⟨0x0300, 0x05, 6, 16, 10, 0, .ro, 0, [], false⟩
def Reg.GFLAGS : Fld := ⟨0x0300, 0x06, 6, 16, 8, 0, .w1c, 0, [], false⟩
def Reg.MARKER_ERRS : Fld := ⟨0x0300, 0x07, 6, 16, 31, 0, .rc, 0, [], false⟩
def Reg.PKT_ERRS : Fld := ⟨0x0300, 0x08, 6, 16, 31, 0, .rc, 0, [], false⟩
def Reg.PARITY_ERRS : Fld := ⟨0x0300, 0x09, 6, 16, 31, 0, .rc, 0, [], false⟩
def Reg.FLIP : Fld := ⟨0x0300, 0x0A, 6, 16, 2, 2, .wo, 0, [], false⟩
def Reg.FLIP_LANE : Fld := ⟨0x0300, 0x0A, 6, 16, 1, 0, .wo, 0, [], false⟩
def Reg.PRBS_ERRS0 : Fld := ⟨0x0300, 0x0B, 6, 16, 31, 0, .rc, 0, [], false⟩
def Reg.PRBS_ERRS1 : Fld := ⟨0x0300, 0x0C, 6, 16, 31, 0, .rc, 0, [], false⟩
def Reg.PRBS_ERRS2 : Fld := ⟨0x0300, 0x0D, 6, 16, 31, 0, .rc, 0, [], false⟩
def Reg.PRBS_ERRS3 : Fld := ⟨0x0300, 0x0E, 6, 16, 31, 0, .rc, 0, [], false⟩
def Reg.MBOX_DROPS : Fld := ⟨0x0300, 0x0F, 6, 16, 31, 0, .rc, 0, [], false⟩
def Reg.BUDGET_KHZ : Fld := ⟨0x0300, 0x60, 1, 1, 8, 0, .rw, 0x64, [(1, 400)], false⟩
def Reg.COLUMNS : Fld := ⟨0x0300, 0x61, 11, 1, 24, 10, .rw, 0, [(0, 16384)], false⟩
def Reg.FMT : Fld := ⟨0x0300, 0x61, 11, 1, 9, 8, .rw, 0, [], false⟩
def Reg.PLANE_MASK : Fld := ⟨0x0300, 0x61, 11, 1, 7, 0, .rw, 0, [], false⟩
def Reg.BLT_VALID : Fld := ⟨0x0300, 0x6C, 1, 1, 0, 0, .ro, 0, [], false⟩

/-! Page 0400h (R188 of spec/07_ingest_and_corrections.md). -/

def Reg.PAD_VALUE : Fld := ⟨0x0400, 0x00, 1, 1, 13, 0, .st, 0, [], false⟩
def Reg.DARK_MIN : Fld := ⟨0x0400, 0x01, 1, 1, 23, 16, .st, 0x20, [(1, 128)], false⟩
def Reg.SHADE_EN : Fld := ⟨0x0400, 0x01, 1, 1, 11, 11, .st, 1, [], false⟩
def Reg.DEFECT_EN : Fld := ⟨0x0400, 0x01, 1, 1, 10, 10, .st, 1, [], false⟩
def Reg.OFFSET_EN : Fld := ⟨0x0400, 0x01, 1, 1, 9, 9, .st, 1, [], false⟩
def Reg.DARK_EN : Fld := ⟨0x0400, 0x01, 1, 1, 8, 8, .st, 1, [], false⟩
def Reg.DARK_ALPHA : Fld := ⟨0x0400, 0x01, 1, 1, 2, 0, .st, 3, [], false⟩
def Reg.LATE_US : Fld := ⟨0x0400, 0x02, 1, 1, 25, 16, .rw, 0x16, [(21, 1000)], false⟩
def Reg.EARLY_LINES : Fld := ⟨0x0400, 0x02, 1, 1, 6, 0, .rw, 4, [(1, 64)], false⟩
def Reg.DUAL_SHIFT : Fld := ⟨0x0400, 0x03, 1, 1, 18, 16, .st, 4, [(0, 6)], false⟩
def Reg.DUAL_KNEE : Fld := ⟨0x0400, 0x03, 1, 1, 11, 0, .st, 0xf3c, [(1, 4095)], false⟩
def Reg.DARK_REF : Fld := ⟨0x0400, 0x08, 8, 1, 15, 0, .ro, 0, [], false⟩
def Reg.SEG_CRC : Fld := ⟨0x0400, 0x10, 1, 1, 11, 0, .w1c, 0, [], false⟩
def Reg.MISSING_LINE : Fld := ⟨0x0400, 0x11, 1, 1, 11, 0, .w1c, 0, [], false⟩
def Reg.DUP_LINE : Fld := ⟨0x0400, 0x12, 1, 1, 11, 0, .w1c, 0, [], false⟩
def Reg.OUT_OF_WINDOW : Fld := ⟨0x0400, 0x13, 1, 1, 11, 0, .w1c, 0, [], false⟩
def Reg.SHORT_LINE : Fld := ⟨0x0400, 0x14, 1, 1, 11, 0, .w1c, 0, [], false⟩
def Reg.LONG_LINE : Fld := ⟨0x0400, 0x15, 1, 1, 11, 0, .w1c, 0, [], false⟩
def Reg.FRAME_SLIP : Fld := ⟨0x0400, 0x16, 1, 1, 11, 0, .w1c, 0, [], false⟩
def Reg.PLANE_MISMATCH : Fld := ⟨0x0400, 0x17, 1, 1, 11, 0, .w1c, 0, [], false⟩
def Reg.DEF_UNREPLACED : Fld := ⟨0x0400, 0x18, 1, 1, 11, 0, .w1c, 0, [], false⟩
def Reg.DARK_HOLD : Fld := ⟨0x0400, 0x19, 1, 1, 3, 0, .w1c, 0, [], false⟩
def Reg.SEG_CRC_FAILS : Fld := ⟨0x0400, 0x20, 12, 8, 31, 0, .rc, 0, [], false⟩
def Reg.MISSING_LINES : Fld := ⟨0x0400, 0x21, 12, 8, 31, 0, .rc, 0, [], false⟩
def Reg.DUP_LINES : Fld := ⟨0x0400, 0x22, 12, 8, 31, 0, .rc, 0, [], false⟩
def Reg.WINDOW_DROPS : Fld := ⟨0x0400, 0x23, 12, 8, 31, 0, .rc, 0, [], false⟩
def Reg.SHORT_LINES : Fld := ⟨0x0400, 0x24, 12, 8, 31, 0, .rc, 0, [], false⟩
def Reg.LONG_LINES : Fld := ⟨0x0400, 0x25, 12, 8, 31, 0, .rc, 0, [], false⟩
def Reg.FRAME_SLIPS : Fld := ⟨0x0400, 0x26, 12, 8, 31, 0, .rc, 0, [], false⟩
def Reg.PLANE_MISMATCHES : Fld := ⟨0x0400, 0x27, 12, 8, 31, 0, .rc, 0, [], false⟩
def Reg.CAL_ACTIVE : Fld := ⟨0x0400, 0x80, 1, 1, 31, 31, .ro, 0, [], false⟩
def Reg.CAL_HEADS : Fld := ⟨0x0400, 0x80, 1, 1, 19, 8, .ro, 0, [], false⟩
def Reg.CAL_BLOCKS : Fld := ⟨0x0400, 0x80, 1, 1, 6, 0, .ro, 0, [], false⟩

/-! Page 0480h (R209 of spec/08_plane_alignment_and_filters.md). -/

def Reg.FADING : Fld := ⟨0x0480, 0x00, 1, 1, 28, 28, .ro, 0, [], false⟩
def Reg.FADE_HEADS : Fld := ⟨0x0480, 0x00, 1, 1, 27, 16, .ro, 0, [], false⟩
def Reg.ACTIVE_BANK : Fld := ⟨0x0480, 0x00, 1, 1, 11, 0, .ro, 0, [], false⟩
def Reg.FADE_FIRST : Fld := ⟨0x0480, 0x01, 1, 1, 31, 0, .ro, 0, [], false⟩
def Reg.FADE_END : Fld := ⟨0x0480, 0x02, 1, 1, 31, 0, .ro, 0, [], false⟩
def Reg.FADE_LEN : Fld := ⟨0x0480, 0x03, 1, 1, 12, 0, .ro, 0, [], false⟩
def Reg.XBIN : Fld := ⟨0x0480, 0x04, 1, 1, 23, 0, .rw, 0, [], true⟩
def Reg.AT_DEC : Fld := ⟨0x0480, 0x05, 1, 1, 1, 0, .rw, 0, [(0, 2)], true⟩
def Reg.FIR_EN : Fld := ⟨0x0480, 0x06, 1, 1, 0, 0, .st, 0, [], false⟩
def Reg.FIR_ODD : Fld := ⟨0x0480, 0x07, 4, 1, 31, 16, .st, 0, [], false⟩
def Reg.FIR_EVEN0 : Fld := ⟨0x0480, 0x07, 1, 1, 15, 0, .st, 0x4000, [], false⟩
def Reg.FIR_EVEN : Fld := ⟨0x0480, 0x08, 3, 1, 15, 0, .st, 0, [], false⟩
def Reg.VIEW_RLOG : Fld := ⟨0x0480, 0x10, 1, 1, 11, 8, .st, 0, [(0, 8)], false⟩
def Reg.VIEW_ORDER : Fld := ⟨0x0480, 0x10, 1, 1, 1, 0, .st, 3, [], false⟩
def Reg.ALIGN_CLIP : Fld := ⟨0x0480, 0x20, 1, 1, 11, 0, .w1c, 0, [], false⟩
def Reg.CLIPS : Fld := ⟨0x0480, 0x21, 1, 1, 31, 0, .rc, 0, [], false⟩
def Reg.SWAPS : Fld := ⟨0x0480, 0x22, 1, 1, 31, 0, .rc, 0, [], false⟩
def Reg.CIC_RESTARTS : Fld := ⟨0x0480, 0x23, 1, 1, 31, 0, .rc, 0, [], false⟩

/-! Page 0500h (R225 of spec/09_colour_views_and_taps.md). -/

def Reg.GUIDE_MIN : Fld := ⟨0x0500, 0x00, 1, 1, 31, 16, .st, 0x40, [(1, 65535)], false⟩
def Reg.GUIDE_NIR : Fld := ⟨0x0500, 0x00, 1, 1, 1, 1, .st, 1, [], false⟩
def Reg.GUIDE_CLR : Fld := ⟨0x0500, 0x00, 1, 1, 0, 0, .st, 1, [], false⟩
def Reg.VIEW_HEADS : Fld := ⟨0x0500, 0x01, 1, 1, 31, 20, .rw, 0, [], false⟩
def Reg.VIEW_XDEC : Fld := ⟨0x0500, 0x01, 1, 1, 18, 16, .rw, 0, [(0, 4)], false⟩
def Reg.VIEW_WINDOW : Fld := ⟨0x0500, 0x01, 1, 1, 13, 8, .rw, 0, [], false⟩
def Reg.VIEW_EN : Fld := ⟨0x0500, 0x01, 1, 1, 0, 0, .rw, 0, [], false⟩
def Reg.WB_GRN : Fld := ⟨0x0500, 0x02, 1, 1, 31, 16, .st, 0x4000, [], false⟩
def Reg.WB_RED : Fld := ⟨0x0500, 0x02, 1, 1, 15, 0, .st, 0x4000, [], false⟩
def Reg.WB_CLR : Fld := ⟨0x0500, 0x03, 1, 1, 31, 16, .st, 0x4000, [], false⟩
def Reg.WB_BLU : Fld := ⟨0x0500, 0x03, 1, 1, 15, 0, .st, 0x4000, [], false⟩
def Reg.M01 : Fld := ⟨0x0500, 0x04, 1, 1, 31, 16, .st, 0, [], false⟩
def Reg.M11 : Fld := ⟨0x0500, 0x06, 1, 1, 31, 16, .st, 0x1000, [], false⟩
def Reg.M21 : Fld := ⟨0x0500, 0x08, 1, 1, 31, 16, .st, 0, [], false⟩
def Reg.M00 : Fld := ⟨0x0500, 0x04, 1, 1, 15, 0, .st, 0x1000, [], false⟩
def Reg.M10 : Fld := ⟨0x0500, 0x06, 1, 1, 15, 0, .st, 0, [], false⟩
def Reg.M20 : Fld := ⟨0x0500, 0x08, 1, 1, 15, 0, .st, 0, [], false⟩
def Reg.M03 : Fld := ⟨0x0500, 0x05, 1, 1, 31, 16, .st, 0, [], false⟩
def Reg.M13 : Fld := ⟨0x0500, 0x07, 1, 1, 31, 16, .st, 0, [], false⟩
def Reg.M23 : Fld := ⟨0x0500, 0x09, 1, 1, 31, 16, .st, 0, [], false⟩
def Reg.M02 : Fld := ⟨0x0500, 0x05, 1, 1, 15, 0, .st, 0, [], false⟩
def Reg.M12 : Fld := ⟨0x0500, 0x07, 1, 1, 15, 0, .st, 0, [], false⟩
def Reg.M22 : Fld := ⟨0x0500, 0x09, 1, 1, 15, 0, .st, 0x1000, [], false⟩
def Reg.TAP_ARMED : Fld := ⟨0x0500, 0x10, 4, 1, 31, 31, .ro, 0, [], false⟩
def Reg.TAP_POINT : Fld := ⟨0x0500, 0x10, 4, 1, 26, 24, .ro, 0, [], false⟩
def Reg.TAP_SOURCE : Fld := ⟨0x0500, 0x10, 4, 1, 23, 16, .ro, 0, [], false⟩
def Reg.TAP_WINDOW : Fld := ⟨0x0500, 0x10, 4, 1, 5, 0, .ro, 0, [], false⟩
def Reg.TAP_LINES : Fld := ⟨0x0500, 0x14, 4, 1, 31, 0, .rc, 0, [], false⟩
def Reg.VIEW_DROPS : Fld := ⟨0x0500, 0x18, 1, 1, 31, 0, .rc, 0, [], false⟩
def Reg.VIEW_DROP : Fld := ⟨0x0500, 0x19, 1, 1, 4, 4, .w1c, 0, [], false⟩
def Reg.TAP_DROP : Fld := ⟨0x0500, 0x19, 1, 1, 3, 0, .w1c, 0, [], false⟩
def Reg.TAP_DROPS : Fld := ⟨0x0500, 0x1C, 4, 1, 31, 0, .rc, 0, [], false⟩

/-! Page 0580h (R245 of spec/10_stitching_and_faces.md). -/

def Reg.REAR_STRIPES : Fld := ⟨0x0580, 0x00, 1, 1, 23, 16, .st, 0xc0, [(1, 192)], false⟩
def Reg.FRONT_STRIPES : Fld := ⟨0x0580, 0x00, 1, 1, 7, 0, .st, 0xc0, [(1, 192)], false⟩
def Reg.FUSE_EN : Fld := ⟨0x0580, 0x01, 1, 1, 31, 31, .st, 0, [], false⟩
def Reg.FUSE_MARGIN : Fld := ⟨0x0580, 0x01, 1, 1, 15, 8, .st, 0, [], false⟩
def Reg.FUSE_WINDOW : Fld := ⟨0x0580, 0x01, 1, 1, 7, 0, .st, 8, [], false⟩
def Reg.MAP_A : Fld := ⟨0x0580, 0x02, 1, 1, 31, 0, .st, 0xffff0000, [], false⟩
def Reg.MAP_B : Fld := ⟨0x0580, 0x03, 1, 1, 31, 0, .st, 0xbfff0, [], false⟩
def Reg.FACE_LATE_US : Fld := ⟨0x0580, 0x04, 1, 1, 25, 16, .rw, 0x22, [(1, 1000)], false⟩
def Reg.BLIND_MISS : Fld := ⟨0x0580, 0x04, 1, 1, 15, 0, .rw, 0x40, [], false⟩
def Reg.PLACED_HEADS : Fld := ⟨0x0580, 0x10, 1, 1, 27, 16, .ro, 0, [], false⟩
def Reg.BLIND_HEADS : Fld := ⟨0x0580, 0x10, 1, 1, 11, 0, .ro, 0, [], false⟩
def Reg.CHECK_CODE_0580 : Fld := ⟨0x0580, 0x11, 1, 1, 19, 16, .ro, 0, [], false⟩
def Reg.CHECK_HEAD : Fld := ⟨0x0580, 0x11, 1, 1, 3, 0, .ro, 0, [], false⟩
def Reg.BLIND_COLS_REAR : Fld := ⟨0x0580, 0x12, 1, 1, 31, 16, .ro, 0, [], false⟩
def Reg.BLIND_COLS_FRONT : Fld := ⟨0x0580, 0x12, 1, 1, 15, 0, .ro, 0, [], false⟩
def Reg.FUSED_PAIRS : Fld := ⟨0x0580, 0x13, 1, 1, 31, 0, .rc, 0, [], false⟩
def Reg.UNPAIRED_FRONT : Fld := ⟨0x0580, 0x14, 1, 1, 31, 0, .rc, 0, [], false⟩
def Reg.UNPAIRED_REAR : Fld := ⟨0x0580, 0x15, 1, 1, 31, 0, .rc, 0, [], false⟩
def Reg.FUSE_AMBIGS : Fld := ⟨0x0580, 0x16, 1, 1, 31, 0, .rc, 0, [], false⟩
def Reg.FACE_LATES : Fld := ⟨0x0580, 0x17, 1, 1, 31, 0, .rc, 0, [], false⟩
def Reg.FUSE_AMBIG : Fld := ⟨0x0580, 0x18, 1, 1, 2, 2, .w1c, 0, [], false⟩
def Reg.FACE_LATE_REAR : Fld := ⟨0x0580, 0x18, 1, 1, 1, 1, .w1c, 0, [], false⟩
def Reg.FACE_LATE_FRONT : Fld := ⟨0x0580, 0x18, 1, 1, 0, 0, .w1c, 0, [], false⟩
def Reg.LAST_LINE : Fld := ⟨0x0580, 0x19, 1, 1, 31, 0, .ro, 0, [], false⟩

/-! Page 0600h (R270 of spec/11_segmentation_and_object_table.md). -/

def Reg.DISAGREE_CLASS : Fld := ⟨0x0600, 0x00, 2, 1, 11, 8, .st, 0, [], false⟩
def Reg.COMBINE : Fld := ⟨0x0600, 0x00, 2, 1, 1, 0, .st, 0, [], false⟩
def Reg.SPECK_AREA : Fld := ⟨0x0600, 0x02, 1, 1, 15, 0, .st, 4, [], false⟩
def Reg.HIGH_MARK : Fld := ⟨0x0600, 0x03, 1, 1, 27, 16, .st, 0x700, [(1, 2048)], false⟩
def Reg.RESERVE : Fld := ⟨0x0600, 0x03, 1, 1, 10, 0, .st, 0x40, [], false⟩
def Reg.STORM_ACTION : Fld := ⟨0x0600, 0x04, 1, 1, 17, 16, .st, 1, [(0, 2)], false⟩
def Reg.STORM_MIN : Fld := ⟨0x0600, 0x04, 1, 1, 15, 0, .st, 0x40, [(1, 65535)], false⟩
def Reg.FOCUS_CLASS : Fld := ⟨0x0600, 0x05, 1, 1, 3, 0, .st, 0, [], false⟩
def Reg.FORCE_STORM_REAR : Fld := ⟨0x0600, 0x06, 1, 1, 27, 16, .wo, 0, [], false⟩
def Reg.FORCE_STORM_FRONT : Fld := ⟨0x0600, 0x06, 1, 1, 11, 0, .wo, 0, [], false⟩
def Reg.LOW_WATER : Fld := ⟨0x0600, 0x08, 24, 1, 27, 16, .st, 0x2a, [(1, 2048)], false⟩
def Reg.QUOTA : Fld := ⟨0x0600, 0x08, 24, 1, 10, 0, .st, 0x55, [], false⟩
def Reg.OPEN_NOW : Fld := ⟨0x0600, 0x20, 1, 1, 11, 0, .ro, 0, [], false⟩
def Reg.OPEN_PEAK : Fld := ⟨0x0600, 0x21, 1, 1, 11, 0, .rc, 0, [], false⟩
def Reg.STORM_REAR : Fld := ⟨0x0600, 0x22, 1, 1, 27, 16, .ro, 0, [], false⟩
def Reg.STORM_FRONT : Fld := ⟨0x0600, 0x22, 1, 1, 11, 0, .ro, 0, [], false⟩
def Reg.OVER_QUOTA_REAR : Fld := ⟨0x0600, 0x23, 1, 1, 27, 16, .ro, 0, [], false⟩
def Reg.OVER_QUOTA_FRONT : Fld := ⟨0x0600, 0x23, 1, 1, 11, 0, .ro, 0, [], false⟩
def Reg.OPENED : Fld := ⟨0x0600, 0x24, 1, 1, 31, 0, .rc, 0, [], false⟩
def Reg.CLOSED : Fld := ⟨0x0600, 0x25, 1, 1, 31, 0, .rc, 0, [], false⟩
def Reg.SPECKS : Fld := ⟨0x0600, 0x26, 1, 1, 31, 0, .rc, 0, [], false⟩
def Reg.MERGED : Fld := ⟨0x0600, 0x27, 1, 1, 31, 0, .rc, 0, [], false⟩
def Reg.TALLS : Fld := ⟨0x0600, 0x28, 1, 1, 31, 0, .rc, 0, [], false⟩
def Reg.STORMS : Fld := ⟨0x0600, 0x29, 1, 1, 31, 0, .rc, 0, [], false⟩
def Reg.STORM_PIXELS : Fld := ⟨0x0600, 0x2A, 1, 1, 31, 0, .rc, 0, [], false⟩
def Reg.TALL : Fld := ⟨0x0600, 0x2B, 1, 1, 4, 4, .w1c, 0, [], false⟩
def Reg.STORM : Fld := ⟨0x0600, 0x2B, 1, 1, 3, 3, .w1c, 0, [], false⟩
def Reg.OPEN_HIGH : Fld := ⟨0x0600, 0x2B, 1, 1, 2, 2, .w1c, 0, [], false⟩
def Reg.QUOTA_OVER : Fld := ⟨0x0600, 0x2B, 1, 1, 1, 1, .w1c, 0, [], false⟩
def Reg.TABLE_FULL : Fld := ⟨0x0600, 0x2B, 1, 1, 0, 0, .w1c, 0, [], false⟩
def Reg.SEQ_NEXT_LO : Fld := ⟨0x0600, 0x2C, 1, 1, 31, 0, .ro, 0, [], false⟩
def Reg.SEQ_NEXT_HI : Fld := ⟨0x0600, 0x2D, 1, 1, 15, 0, .ro, 0, [], false⟩
def Reg.OPEN_REAR : Fld := ⟨0x0600, 0x30, 12, 1, 27, 16, .ro, 0, [], false⟩
def Reg.OPEN_FRONT : Fld := ⟨0x0600, 0x30, 12, 1, 11, 0, .ro, 0, [], false⟩
def Reg.W_GRN : Fld := ⟨0x0600, 0x40, 12, 4, 31, 16, .st, 0, [], false⟩
def Reg.W_RED : Fld := ⟨0x0600, 0x40, 12, 4, 15, 0, .st, 0, [], false⟩
def Reg.W_CLR : Fld := ⟨0x0600, 0x41, 12, 4, 31, 16, .st, 0, [], false⟩
def Reg.W_BLU : Fld := ⟨0x0600, 0x41, 12, 4, 15, 0, .st, 0, [], false⟩
def Reg.W_NIRB : Fld := ⟨0x0600, 0x42, 12, 4, 31, 16, .st, 0, [], false⟩
def Reg.W_NIRA : Fld := ⟨0x0600, 0x42, 12, 4, 15, 0, .st, 0, [], false⟩
def Reg.PSHIFT : Fld := ⟨0x0600, 0x43, 12, 4, 27, 24, .st, 0, [(0, 11)], false⟩
def Reg.BIAS : Fld := ⟨0x0600, 0x43, 12, 4, 19, 0, .st, 0, [], false⟩

/-! Page 0700h (R297 of spec/12_classification_forecasts_verdicts.md). -/

def Reg.TREE_COUNT : Fld := ⟨0x0700, 0x00, 1, 1, 7, 0, .st, 0, [(0, 128)], false⟩
def Reg.FC_EN : Fld := ⟨0x0700, 0x01, 1, 1, 16, 16, .st, 0, [], false⟩
def Reg.FC_STEP : Fld := ⟨0x0700, 0x01, 1, 1, 15, 8, .st, 0, [], false⟩
def Reg.FC_MIN_LINES : Fld := ⟨0x0700, 0x01, 1, 1, 7, 0, .st, 0x10, [(4, 255)], false⟩
def Reg.FUSED_MODE : Fld := ⟨0x0700, 0x02, 1, 1, 8, 8, .st, 0, [], false⟩
def Reg.OVERLOAD_CLASS : Fld := ⟨0x0700, 0x02, 1, 1, 3, 0, .st, 0, [], false⟩
def Reg.FC_WINDOW : Fld := ⟨0x0700, 0x03, 1, 1, 13, 8, .rw, 0, [], false⟩
def Reg.FC_STREAM_EN : Fld := ⟨0x0700, 0x03, 1, 1, 0, 0, .rw, 0, [], false⟩
def Reg.IN_FLIGHT : Fld := ⟨0x0700, 0x10, 1, 1, 11, 0, .ro, 0, [], false⟩
def Reg.IN_FLIGHT_PEAK : Fld := ⟨0x0700, 0x11, 1, 1, 11, 0, .rc, 0, [], false⟩
def Reg.DEPTH_ERRS : Fld := ⟨0x0700, 0x12, 1, 1, 31, 0, .rc, 0, [], false⟩
def Reg.MISSED_SHOT : Fld := ⟨0x0700, 0x13, 1, 1, 3, 3, .w1c, 0, [], false⟩
def Reg.UNCONFIRMED_SHOT : Fld := ⟨0x0700, 0x13, 1, 1, 2, 2, .w1c, 0, [], false⟩
def Reg.CLASS_OVERLOAD : Fld := ⟨0x0700, 0x13, 1, 1, 1, 1, .w1c, 0, [], false⟩
def Reg.DEPTH_ERR : Fld := ⟨0x0700, 0x13, 1, 1, 0, 0, .w1c, 0, [], false⟩
def Reg.DEPTH_TREE : Fld := ⟨0x0700, 0x14, 1, 1, 30, 24, .ro, 0, [], false⟩
def Reg.DEPTH_NODE : Fld := ⟨0x0700, 0x14, 1, 1, 17, 0, .ro, 0, [], false⟩

/-! Page 0800h (R325 of spec/13_ejection.md). -/

def Reg.VALVE_FRAME : Fld := ⟨0x0800, 0x00, 1, 1, 6, 0, .rw, 0x14, [(10, 100)], false⟩
def Reg.VD_INT : Fld := ⟨0x0800, 0x01, 2, 1, 17, 6, .st, 0, [], false⟩
def Reg.VD_FRAC : Fld := ⟨0x0800, 0x01, 2, 1, 5, 0, .st, 0, [], false⟩
def Reg.MARGIN_REAR : Fld := ⟨0x0800, 0x03, 1, 1, 23, 16, .st, 0, [], false⟩
def Reg.MARGIN_FRONT : Fld := ⟨0x0800, 0x03, 1, 1, 7, 0, .st, 0, [], false⟩
def Reg.BLIND_ACTION_REAR : Fld := ⟨0x0800, 0x04, 1, 1, 17, 16, .st, 0, [(0, 2)], false⟩
def Reg.BLIND_ACTION_FRONT : Fld := ⟨0x0800, 0x04, 1, 1, 1, 0, .st, 0, [(0, 2)], false⟩
def Reg.LINK_MISS : Fld := ⟨0x0800, 0x05, 1, 1, 11, 8, .rw, 2, [(1, 15)], false⟩
def Reg.LINK_LAG : Fld := ⟨0x0800, 0x05, 1, 1, 1, 0, .rw, 0, [], false⟩
def Reg.SIG_EN : Fld := ⟨0x0800, 0x10, 16, 1, 16, 16, .st, 0, [], false⟩
def Reg.FRAME_BITS : Fld := ⟨0x0800, 0x10, 16, 1, 10, 0, .st, 0, [(0, 1024)], false⟩
def Reg.FRAME_NOW_LO : Fld := ⟨0x0800, 0x21, 1, 1, 31, 0, .ro, 0, [], false⟩
def Reg.FRAME_NOW_HI : Fld := ⟨0x0800, 0x22, 1, 1, 31, 0, .ro, 0, [], false⟩
def Reg.LIVE : Fld := ⟨0x0800, 0x23, 1, 1, 15, 15, .ro, 0, [], false⟩
def Reg.WINDOWS_PENDING : Fld := ⟨0x0800, 0x23, 1, 1, 14, 0, .ro, 0, [], false⟩
def Reg.WINDOWS_PEAK : Fld := ⟨0x0800, 0x24, 1, 1, 14, 0, .rc, 0, [], false⟩
def Reg.LATE_SHOTS : Fld := ⟨0x0800, 0x25, 1, 1, 31, 0, .rc, 0, [], false⟩
def Reg.PULSE_CUTS : Fld := ⟨0x0800, 0x26, 1, 1, 31, 0, .rc, 0, [], false⟩
def Reg.REFRACT_DELAYS : Fld := ⟨0x0800, 0x27, 1, 1, 31, 0, .rc, 0, [], false⟩
def Reg.HELD_SHOTS : Fld := ⟨0x0800, 0x28, 1, 1, 31, 0, .rc, 0, [], false⟩
def Reg.WINDOWS_WRITTEN : Fld := ⟨0x0800, 0x29, 1, 1, 31, 0, .rc, 0, [], false⟩
def Reg.DRY_WINDOWS : Fld := ⟨0x0800, 0x2A, 1, 1, 31, 0, .rc, 0, [], false⟩
def Reg.BLIND_EJECT : Fld := ⟨0x0800, 0x2B, 1, 1, 5, 5, .w1c, 0, [], false⟩
def Reg.HELD_SHOT : Fld := ⟨0x0800, 0x2B, 1, 1, 4, 4, .w1c, 0, [], false⟩
def Reg.WINDOW_FULL : Fld := ⟨0x0800, 0x2B, 1, 1, 3, 3, .w1c, 0, [], false⟩
def Reg.REFRACT_DELAY : Fld := ⟨0x0800, 0x2B, 1, 1, 2, 2, .w1c, 0, [], false⟩
def Reg.PULSE_CUT : Fld := ⟨0x0800, 0x2B, 1, 1, 1, 1, .w1c, 0, [], false⟩
def Reg.LATE_SHOT : Fld := ⟨0x0800, 0x2B, 1, 1, 0, 0, .w1c, 0, [], false⟩
def Reg.STALL_ENG : Fld := ⟨0x0800, 0x2C, 1, 1, 31, 16, .w1c, 0, [], false⟩
def Reg.LINK_FAIL : Fld := ⟨0x0800, 0x2C, 1, 1, 15, 0, .w1c, 0, [], false⟩
def Reg.VMAP_VALVE : Fld := ⟨0x0800, 0x2D, 1, 1, 25, 16, .ro, 0, [], false⟩
def Reg.VMAP_CODE : Fld := ⟨0x0800, 0x2D, 1, 1, 3, 0, .ro, 0, [], false⟩
def Reg.TEST_ACTIVE : Fld := ⟨0x0800, 0x2E, 1, 1, 0, 0, .ro, 0, [], false⟩
def Reg.SPANS_LOST : Fld := ⟨0x0800, 0x2F, 1, 1, 31, 0, .rc, 0, [], false⟩

/-! Page 0900h (R344 of spec/14_io_engines.md). -/

def Reg.DIV : Fld := ⟨0x0900, 0x00, 16, 8, 27, 0, .rw, 0x10000, [(16384, 268435455)], false⟩
def Reg.PIN_BASE : Fld := ⟨0x0900, 0x01, 16, 8, 29, 24, .rw, 0, [(0, 56)], false⟩
def Reg.ROLE_W7 : Fld := ⟨0x0900, 0x01, 16, 8, 23, 21, .rw, 0, [], false⟩
def Reg.ROLE_W6 : Fld := ⟨0x0900, 0x01, 16, 8, 20, 18, .rw, 0, [], false⟩
def Reg.ROLE_W5 : Fld := ⟨0x0900, 0x01, 16, 8, 17, 15, .rw, 0, [], false⟩
def Reg.ROLE_W4 : Fld := ⟨0x0900, 0x01, 16, 8, 14, 12, .rw, 0, [], false⟩
def Reg.ROLE_W3 : Fld := ⟨0x0900, 0x01, 16, 8, 11, 9, .rw, 0, [], false⟩
def Reg.ROLE_W2 : Fld := ⟨0x0900, 0x01, 16, 8, 8, 6, .rw, 0, [], false⟩
def Reg.ROLE_W1 : Fld := ⟨0x0900, 0x01, 16, 8, 5, 3, .rw, 0, [], false⟩
def Reg.ROLE_W0 : Fld := ⟨0x0900, 0x01, 16, 8, 2, 0, .rw, 0, [], false⟩
def Reg.SHIFT_DIR : Fld := ⟨0x0900, 0x02, 16, 8, 31, 31, .rw, 0, [], false⟩
def Reg.SYNC_GROUP : Fld := ⟨0x0900, 0x02, 16, 8, 3, 2, .rw, 0, [], false⟩
def Reg.SYNC_SRC : Fld := ⟨0x0900, 0x02, 16, 8, 1, 0, .rw, 0, [], false⟩
def Reg.LOOPS : Fld := ⟨0x0900, 0x03, 16, 8, 31, 16, .ro, 0, [], false⟩
def Reg.ENTRY : Fld := ⟨0x0900, 0x03, 16, 8, 13, 8, .rw, 0, [], false⟩
def Reg.LEN : Fld := ⟨0x0900, 0x03, 16, 8, 6, 0, .rw, 0x40, [(1, 64)], false⟩
def Reg.CMPVAL : Fld := ⟨0x0900, 0x04, 16, 8, 31, 0, .rw, 0, [], false⟩
def Reg.CMP_MASK : Fld := ⟨0x0900, 0x05, 16, 8, 31, 0, .rw, 0xffffffff, [], false⟩
def Reg.IN_COUNT : Fld := ⟨0x0900, 0x06, 16, 8, 31, 26, .ro, 0, [], false⟩
def Reg.BIT_COUNT : Fld := ⟨0x0900, 0x06, 16, 8, 25, 21, .ro, 0, [], false⟩
def Reg.ENG_FLAG : Fld := ⟨0x0900, 0x06, 16, 8, 20, 20, .ro, 0, [], false⟩
def Reg.PUSH_LEVEL : Fld := ⟨0x0900, 0x06, 16, 8, 19, 16, .ro, 0, [], false⟩
def Reg.PULL_LEVEL : Fld := ⟨0x0900, 0x06, 16, 8, 15, 12, .ro, 0, [], false⟩
def Reg.PC : Fld := ⟨0x0900, 0x06, 16, 8, 7, 2, .ro, 0, [], false⟩
def Reg.ENG_STATE : Fld := ⟨0x0900, 0x06, 16, 8, 1, 0, .ro, 0, [], false⟩
def Reg.SHIFT : Fld := ⟨0x0900, 0x07, 16, 8, 31, 0, .ro, 0, [], false⟩
def Reg.SHORT_LO : Fld := ⟨0x0900, 0x80, 1, 1, 31, 0, .w1c, 0, [], false⟩
def Reg.SHORT_HI : Fld := ⟨0x0900, 0x81, 1, 1, 31, 0, .w1c, 0, [], false⟩
def Reg.STALLED : Fld := ⟨0x0900, 0x82, 1, 1, 31, 16, .ro, 0, [], false⟩
def Reg.ENG_RUNNING : Fld := ⟨0x0900, 0x82, 1, 1, 15, 0, .ro, 0, [], false⟩
def Reg.CHECK_CODE_0900 : Fld := ⟨0x0900, 0x83, 1, 1, 19, 16, .ro, 0, [], false⟩
def Reg.CHECK_ADDR : Fld := ⟨0x0900, 0x83, 1, 1, 13, 8, .ro, 0, [], false⟩
def Reg.CHECK_ENG : Fld := ⟨0x0900, 0x83, 1, 1, 3, 0, .ro, 0, [], false⟩
def Reg.ENG_EVENTS : Fld := ⟨0x0900, 0x84, 1, 1, 31, 0, .rc, 0, [], false⟩

/-! Page 0980h (R357 of spec/15_timers.md). -/

def Reg.FREEZE_ON_HALT : Fld := ⟨0x0980, 0x00, 32, 2, 31, 31, .rw, 0, [], false⟩
def Reg.CAP_WHAT : Fld := ⟨0x0980, 0x00, 32, 2, 30, 30, .rw, 0, [], false⟩
def Reg.PRESC : Fld := ⟨0x0980, 0x00, 32, 2, 23, 20, .rw, 0, [], false⟩
def Reg.ARM_ENG : Fld := ⟨0x0980, 0x00, 32, 2, 15, 12, .rw, 0, [], false⟩
def Reg.ARM_SRC : Fld := ⟨0x0980, 0x00, 32, 2, 10, 8, .rw, 0, [(0, 6)], false⟩
def Reg.CAP_ENG : Fld := ⟨0x0980, 0x00, 32, 2, 7, 4, .rw, 0, [], false⟩
def Reg.CAP_SRC : Fld := ⟨0x0980, 0x00, 32, 2, 2, 0, .rw, 0, [(0, 6)], false⟩
def Reg.TGT_END : Fld := ⟨0x0980, 0x01, 32, 2, 22, 18, .rw, 0, [], false⟩
def Reg.ACT_END : Fld := ⟨0x0980, 0x01, 32, 2, 17, 16, .rw, 0, [], false⟩
def Reg.TGT_B : Fld := ⟨0x0980, 0x01, 32, 2, 14, 10, .rw, 0, [], false⟩
def Reg.ACT_B : Fld := ⟨0x0980, 0x01, 32, 2, 9, 8, .rw, 0, [], false⟩
def Reg.TGT_A : Fld := ⟨0x0980, 0x01, 32, 2, 6, 2, .rw, 0, [], false⟩
def Reg.ACT_A : Fld := ⟨0x0980, 0x01, 32, 2, 1, 0, .rw, 0, [], false⟩

/-! Page 0A00h (R379 of spec/16_auxiliary_measurement.md). -/

def Reg.AUX_LP : Fld := ⟨0x0A00, 0x00, 1, 1, 0, 0, .rw, 0, [], false⟩
def Reg.CAL_INTERVAL : Fld := ⟨0x0A00, 0x01, 1, 1, 15, 0, .rw, 0xa, [], false⟩
def Reg.OPEN_PCT : Fld := ⟨0x0A00, 0x02, 1, 1, 23, 16, .rw, 5, [(1, 100)], false⟩
def Reg.SHORT_BAND : Fld := ⟨0x0A00, 0x02, 1, 1, 15, 8, .rw, 0xa, [(1, 255)], false⟩
def Reg.REV_PCT : Fld := ⟨0x0A00, 0x02, 1, 1, 7, 0, .rw, 2, [(1, 50)], false⟩
def Reg.AUX_RUNNING : Fld := ⟨0x0A00, 0x03, 1, 1, 31, 31, .ro, 0, [], false⟩
def Reg.AUX_FG_CAL : Fld := ⟨0x0A00, 0x03, 1, 1, 30, 30, .ro, 0, [], false⟩
def Reg.BG_CAL : Fld := ⟨0x0A00, 0x03, 1, 1, 29, 29, .ro, 0, [], false⟩
def Reg.STEP_CUR : Fld := ⟨0x0A00, 0x03, 1, 1, 28, 24, .ro, 0, [], false⟩
def Reg.SEQ_NUM : Fld := ⟨0x0A00, 0x03, 1, 1, 15, 0, .ro, 0, [], false⟩
def Reg.TRIG_LATCH : Fld := ⟨0x0A00, 0x04, 1, 1, 31, 0, .ro, 0, [], false⟩
def Reg.AUX_CAL_FAIL : Fld := ⟨0x0A00, 0x05, 1, 1, 6, 6, .w1c, 0, [], false⟩
def Reg.TRIG_DROP : Fld := ⟨0x0A00, 0x05, 1, 1, 5, 5, .w1c, 0, [], false⟩
def Reg.AUX_RAIL : Fld := ⟨0x0A00, 0x05, 1, 1, 4, 4, .w1c, 0, [], false⟩
def Reg.AUX_REVERSED : Fld := ⟨0x0A00, 0x05, 1, 1, 3, 3, .w1c, 0, [], false⟩
def Reg.AUX_SHORT : Fld := ⟨0x0A00, 0x05, 1, 1, 2, 2, .w1c, 0, [], false⟩
def Reg.AUX_OPEN : Fld := ⟨0x0A00, 0x05, 1, 1, 1, 1, .w1c, 0, [], false⟩
def Reg.AUX_OVR : Fld := ⟨0x0A00, 0x05, 1, 1, 0, 0, .w1c, 0, [], false⟩
def Reg.OVR_CH : Fld := ⟨0x0A00, 0x06, 1, 1, 23, 0, .w1c, 0, [], false⟩
def Reg.SHORT_CH : Fld := ⟨0x0A00, 0x07, 1, 1, 31, 16, .w1c, 0, [], false⟩
def Reg.OPEN_CH : Fld := ⟨0x0A00, 0x07, 1, 1, 15, 0, .w1c, 0, [], false⟩
def Reg.RAIL_CH : Fld := ⟨0x0A00, 0x08, 1, 1, 31, 24, .w1c, 0, [], false⟩
def Reg.REV_CH : Fld := ⟨0x0A00, 0x08, 1, 1, 15, 0, .w1c, 0, [], false⟩
def Reg.TRIG_DROPS : Fld := ⟨0x0A00, 0x09, 1, 1, 31, 0, .rc, 0, [], false⟩
def Reg.RESULTS : Fld := ⟨0x0A00, 0x0A, 1, 1, 31, 0, .rc, 0, [], false⟩
def Reg.CAL_AGE : Fld := ⟨0x0A00, 0x0B, 1, 1, 31, 16, .ro, 0, [], false⟩
def Reg.CHECK_STEP : Fld := ⟨0x0A00, 0x0B, 1, 1, 12, 8, .ro, 0, [], false⟩
def Reg.CHECK_CODE_0A00 : Fld := ⟨0x0A00, 0x0B, 1, 1, 3, 0, .ro, 0, [], false⟩
def Reg.STEP_SWITCH : Fld := ⟨0x0A00, 0x10, 32, 1, 31, 28, .rw, 0, [], false⟩
def Reg.STEP_COUNT : Fld := ⟨0x0A00, 0x10, 32, 1, 27, 23, .rw, 1, [], false⟩
def Reg.STEP_TMR : Fld := ⟨0x0A00, 0x10, 32, 1, 22, 18, .rw, 0, [], false⟩
def Reg.STEP_TRIG : Fld := ⟨0x0A00, 0x10, 32, 1, 17, 16, .rw, 0, [], false⟩
def Reg.SHORT_EN : Fld := ⟨0x0A00, 0x10, 32, 1, 15, 15, .rw, 0, [], false⟩
def Reg.OPEN_EN : Fld := ⟨0x0A00, 0x10, 32, 1, 14, 14, .rw, 0, [], false⟩
def Reg.NOTCH_5060 : Fld := ⟨0x0A00, 0x10, 32, 1, 13, 13, .rw, 0, [], false⟩
def Reg.ODR : Fld := ⟨0x0A00, 0x10, 32, 1, 12, 9, .rw, 3, [], false⟩
def Reg.STEP_ORDER : Fld := ⟨0x0A00, 0x10, 32, 1, 8, 7, .rw, 0, [], false⟩
def Reg.UNIPOLAR : Fld := ⟨0x0A00, 0x10, 32, 1, 6, 6, .rw, 0, [], false⟩
def Reg.STEP_RANGE : Fld := ⟨0x0A00, 0x10, 32, 1, 5, 5, .rw, 0, [], false⟩
def Reg.CHAN : Fld := ⟨0x0A00, 0x10, 32, 1, 4, 0, .rw, 0, [], false⟩
def Reg.HI_MV : Fld := ⟨0x0A00, 0x30, 8, 1, 31, 16, .rw, 0, [], false⟩
def Reg.LO_MV : Fld := ⟨0x0A00, 0x30, 8, 1, 15, 0, .rw, 0, [], false⟩
def Reg.RES_CODE : Fld := ⟨0x0A00, 0x40, 24, 1, 31, 0, .ro, 0, [], false⟩
def Reg.RES_COUNT : Fld := ⟨0x0A00, 0x58, 24, 1, 31, 16, .ro, 0, [], false⟩
def Reg.RES_FLAGS : Fld := ⟨0x0A00, 0x58, 24, 1, 15, 0, .ro, 0, [], false⟩

/-! Page 0B00h (R424 of spec/18_archive_and_integrity.md). -/

def Reg.EVCOPY_WINDOW : Fld := ⟨0x0B00, 0x00, 1, 1, 29, 24, .rw, 0, [], false⟩
def Reg.STATS_WINDOW : Fld := ⟨0x0B00, 0x00, 1, 1, 21, 16, .rw, 0, [], false⟩
def Reg.CHIP_WINDOW : Fld := ⟨0x0B00, 0x00, 1, 1, 13, 8, .rw, 0, [], false⟩
def Reg.OBJ_WINDOW : Fld := ⟨0x0B00, 0x00, 1, 1, 5, 0, .rw, 0, [], false⟩
def Reg.STATS_HEADS : Fld := ⟨0x0B00, 0x01, 1, 1, 27, 16, .rw, 0, [], false⟩
def Reg.SNAP_EN : Fld := ⟨0x0B00, 0x01, 1, 1, 11, 11, .rw, 0, [], false⟩
def Reg.EVCOPY_EN : Fld := ⟨0x0B00, 0x01, 1, 1, 10, 10, .rw, 0, [], false⟩
def Reg.CHIP_EN : Fld := ⟨0x0B00, 0x01, 1, 1, 9, 9, .rw, 0, [], false⟩
def Reg.OBJ_EN : Fld := ⟨0x0B00, 0x01, 1, 1, 8, 8, .rw, 0, [], false⟩
def Reg.SNAP_WINDOW : Fld := ⟨0x0B00, 0x01, 1, 1, 5, 0, .rw, 0, [], false⟩
def Reg.CHIP_PLANES : Fld := ⟨0x0B00, 0x02, 1, 1, 21, 16, .st, 0x3f, [(1, 63)], false⟩
def Reg.CHIP_MARGIN_LINES : Fld := ⟨0x0B00, 0x02, 1, 1, 14, 8, .st, 4, [(0, 64)], false⟩
def Reg.CHIP_MARGIN_COLS : Fld := ⟨0x0B00, 0x02, 1, 1, 7, 0, .st, 8, [], false⟩
def Reg.SCRUB_HOURS : Fld := ⟨0x0B00, 0x03, 1, 1, 7, 0, .rw, 8, [(1, 255)], false⟩
def Reg.SNAP_PAGE : Fld := ⟨0x0B00, 0x04, 8, 1, 31, 16, .rw, 0, [], false⟩
def Reg.SNAP_WORD : Fld := ⟨0x0B00, 0x04, 8, 1, 15, 8, .rw, 0, [], false⟩
def Reg.SNAP_ADDR_EN : Fld := ⟨0x0B00, 0x04, 8, 1, 0, 0, .rw, 0, [], false⟩
def Reg.LS_UE : Fld := ⟨0x0B00, 0x10, 1, 1, 7, 7, .w1c, 0, [], false⟩
def Reg.LS_CE : Fld := ⟨0x0B00, 0x10, 1, 1, 6, 6, .w1c, 0, [], false⟩
def Reg.CARRIAGE_UE : Fld := ⟨0x0B00, 0x10, 1, 1, 5, 5, .w1c, 0, [], false⟩
def Reg.CARRIAGE_CE : Fld := ⟨0x0B00, 0x10, 1, 1, 4, 4, .w1c, 0, [], false⟩
def Reg.SNAP_DROP : Fld := ⟨0x0B00, 0x10, 1, 1, 3, 3, .w1c, 0, [], false⟩
def Reg.CHIP_UNAVAIL : Fld := ⟨0x0B00, 0x10, 1, 1, 2, 2, .w1c, 0, [], false⟩
def Reg.POISON : Fld := ⟨0x0B00, 0x10, 1, 1, 1, 1, .w1c, 0, [], false⟩
def Reg.RING_EVENT : Fld := ⟨0x0B00, 0x10, 1, 1, 0, 0, .w1c, 0, [], false⟩
def Reg.CHIPS_WRITTEN : Fld := ⟨0x0B00, 0x11, 1, 1, 31, 0, .rc, 0, [], false⟩
def Reg.CHIPS_UNAVAILABLE : Fld := ⟨0x0B00, 0x12, 1, 1, 31, 0, .rc, 0, [], false⟩
def Reg.SNAPS : Fld := ⟨0x0B00, 0x13, 1, 1, 31, 0, .rc, 0, [], false⟩
def Reg.SNAP_DROPS : Fld := ⟨0x0B00, 0x14, 1, 1, 31, 0, .rc, 0, [], false⟩
def Reg.CARRIAGE_CES : Fld := ⟨0x0B00, 0x15, 1, 1, 31, 0, .rc, 0, [], false⟩
def Reg.LS_CES : Fld := ⟨0x0B00, 0x16, 1, 1, 31, 0, .rc, 0, [], false⟩
def Reg.LS_UES : Fld := ⟨0x0B00, 0x17, 1, 1, 31, 0, .rc, 0, [], false⟩
def Reg.POISONED : Fld := ⟨0x0B00, 0x18, 1, 1, 31, 0, .rc, 0, [], false⟩
def Reg.ATTACHED_LO : Fld := ⟨0x0B00, 0x19, 1, 1, 31, 0, .ro, 0, [], false⟩
def Reg.ATTACHED_HI : Fld := ⟨0x0B00, 0x1A, 1, 1, 31, 0, .ro, 0, [], false⟩
def Reg.ARCH_QUEUE : Fld := ⟨0x0B00, 0x1B, 1, 1, 14, 0, .ro, 0, [], false⟩
def Reg.SCRUB_PASS : Fld := ⟨0x0B00, 0x1C, 1, 1, 6, 0, .ro, 0, [], false⟩
def Reg.LS_UE_ADDR : Fld := ⟨0x0B00, 0x1D, 1, 1, 31, 0, .ro, 0, [], false⟩

/-! Page 0C00h (R507 of spec/22_events_faults_injection.md). -/

def Reg.FAULT_CAUSE : Fld := ⟨0x0C00, 0x00, 1, 1, 8, 0, .ro, 0, [], false⟩
def Reg.FAULT_FIRST : Fld := ⟨0x0C00, 0x01, 1, 1, 9, 0, .ro, 0, [], false⟩
def Reg.FAULT_TB_LO : Fld := ⟨0x0C00, 0x02, 1, 1, 31, 0, .ro, 0, [], false⟩
def Reg.FAULT_TB_HI : Fld := ⟨0x0C00, 0x03, 1, 1, 31, 0, .ro, 0, [], false⟩
def Reg.EVENT_SEQ : Fld := ⟨0x0C00, 0x04, 1, 1, 31, 0, .ro, 0, [], false⟩
def Reg.INJECTS : Fld := ⟨0x0C00, 0x05, 1, 1, 31, 0, .rc, 0, [], false⟩
def Reg.EVR_OVERFLOW : Fld := ⟨0x0C00, 0x06, 1, 1, 5, 5, .w1c, 0, [], false⟩
def Reg.CQ_STALL : Fld := ⟨0x0C00, 0x06, 1, 1, 4, 4, .w1c, 0, [], false⟩
def Reg.CPL_TIMEOUT : Fld := ⟨0x0C00, 0x06, 1, 1, 3, 3, .w1c, 0, [], false⟩
def Reg.LINK_RETRAIN : Fld := ⟨0x0C00, 0x06, 1, 1, 2, 2, .w1c, 0, [], false⟩
def Reg.LINK_RESET : Fld := ⟨0x0C00, 0x06, 1, 1, 1, 1, .w1c, 0, [], false⟩
def Reg.BAR_ACCESS : Fld := ⟨0x0C00, 0x06, 1, 1, 0, 0, .w1c, 0, [], false⟩
def Reg.BAR_ACCESSES : Fld := ⟨0x0C00, 0x07, 1, 1, 31, 0, .rc, 0, [], false⟩
def Reg.CPL_TIMEOUTS : Fld := ⟨0x0C00, 0x08, 1, 1, 31, 0, .rc, 0, [], false⟩
def Reg.FAULT_ENTRIES : Fld := ⟨0x0C00, 0x09, 1, 1, 31, 0, .rc, 0, [], false⟩

/-! Page 0D00h (R454 of spec/19_barometer_and_firmware.md). -/

def Reg.BFW_VERSION : Fld := ⟨0x0D00, 0x00, 1, 1, 31, 0, .ro, 0, [], false⟩
def Reg.SQM_VERSION : Fld := ⟨0x0D00, 0x01, 1, 1, 31, 0, .ro, 0, [], false⟩
def Reg.BFW_IFACE : Fld := ⟨0x0D00, 0x02, 1, 1, 31, 16, .ro, 0, [], false⟩
def Reg.SQM_IFACE : Fld := ⟨0x0D00, 0x02, 1, 1, 15, 0, .ro, 0, [], false⟩
def Reg.LAST_RESET : Fld := ⟨0x0D00, 0x03, 1, 1, 27, 24, .ro, 0, [], false⟩
def Reg.ROM_VERSION : Fld := ⟨0x0D00, 0x03, 1, 1, 23, 16, .ro, 0, [], false⟩
def Reg.KEY_ID : Fld := ⟨0x0D00, 0x03, 1, 1, 11, 10, .ro, 0, [], false⟩
def Reg.DEBUG_OPEN : Fld := ⟨0x0D00, 0x03, 1, 1, 9, 9, .ro, 0, [], false⟩
def Reg.LIVE_OK : Fld := ⟨0x0D00, 0x03, 1, 1, 8, 8, .ro, 0, [], false⟩
def Reg.UNLOCKED : Fld := ⟨0x0D00, 0x03, 1, 1, 7, 7, .ro, 0, [], false⟩
def Reg.PAIRING : Fld := ⟨0x0D00, 0x03, 1, 1, 6, 5, .ro, 0, [], false⟩
def Reg.FALLBACK : Fld := ⟨0x0D00, 0x03, 1, 1, 4, 4, .ro, 0, [], false⟩
def Reg.SQM_SLOT : Fld := ⟨0x0D00, 0x03, 1, 1, 1, 1, .ro, 0, [], false⟩
def Reg.BFW_SLOT : Fld := ⟨0x0D00, 0x03, 1, 1, 0, 0, .ro, 0, [], false⟩
def Reg.SEL_SEQ : Fld := ⟨0x0D00, 0x04, 1, 1, 31, 0, .ro, 0, [], false⟩
def Reg.BOOT_COUNT : Fld := ⟨0x0D00, 0x05, 1, 1, 31, 0, .ro, 0, [], false⟩
def Reg.STAGED_BFW : Fld := ⟨0x0D00, 0x06, 1, 1, 31, 0, .ro, 0, [], false⟩
def Reg.STAGED_SQM : Fld := ⟨0x0D00, 0x07, 1, 1, 31, 0, .ro, 0, [], false⟩
def Reg.ACTIVATE_PENDING : Fld := ⟨0x0D00, 0x08, 1, 1, 2, 2, .ro, 0, [], false⟩
def Reg.SQM_VERIFIED : Fld := ⟨0x0D00, 0x08, 1, 1, 1, 1, .ro, 0, [], false⟩
def Reg.BFW_VERIFIED : Fld := ⟨0x0D00, 0x08, 1, 1, 0, 0, .ro, 0, [], false⟩
def Reg.WDT_RESETS : Fld := ⟨0x0D00, 0x09, 1, 1, 31, 0, .rc, 0, [], false⟩
def Reg.AUTOSTART_EN : Fld := ⟨0x0D00, 0x10, 1, 1, 31, 31, .rw, 0, [], false⟩
def Reg.AUTOSTART_LIVE : Fld := ⟨0x0D00, 0x10, 1, 1, 30, 30, .rw, 0, [], false⟩
def Reg.AUTOSTART_SLOT : Fld := ⟨0x0D00, 0x10, 1, 1, 21, 16, .rw, 0, [], false⟩
def Reg.AUTOSTART_HOLD_MS : Fld := ⟨0x0D00, 0x10, 1, 1, 15, 0, .rw, 0, [], false⟩
def Reg.AS_RESULT : Fld := ⟨0x0D00, 0x11, 1, 1, 7, 4, .ro, 0, [], false⟩
def Reg.AS_STEP : Fld := ⟨0x0D00, 0x11, 1, 1, 3, 0, .ro, 0, [], false⟩
def Reg.LOG_NEXT : Fld := ⟨0x0D00, 0x12, 1, 1, 31, 0, .ro, 0, [], false⟩
def Reg.LOG_OLDEST : Fld := ⟨0x0D00, 0x13, 1, 1, 31, 0, .ro, 0, [], false⟩
def Reg.LOG_PENDING : Fld := ⟨0x0D00, 0x14, 1, 1, 10, 0, .ro, 0, [], false⟩
def Reg.LOG_LOST : Fld := ⟨0x0D00, 0x15, 1, 1, 31, 0, .rc, 0, [], false⟩
def Reg.LOG_SUPPRESSED : Fld := ⟨0x0D00, 0x16, 1, 1, 31, 0, .rc, 0, [], false⟩
def Reg.UNLOCK : Fld := ⟨0x0D00, 0x17, 1, 1, 5, 5, .w1c, 0, [], false⟩
def Reg.DEBUG_UNLOCK : Fld := ⟨0x0D00, 0x17, 1, 1, 4, 4, .w1c, 0, [], false⟩
def Reg.LOG_LOSS : Fld := ⟨0x0D00, 0x17, 1, 1, 3, 3, .w1c, 0, [], false⟩
def Reg.AUTOSTART_FAIL : Fld := ⟨0x0D00, 0x17, 1, 1, 2, 2, .w1c, 0, [], false⟩
def Reg.WATCHDOG : Fld := ⟨0x0D00, 0x17, 1, 1, 1, 1, .w1c, 0, [], false⟩
def Reg.FW_FALLBACK : Fld := ⟨0x0D00, 0x17, 1, 1, 0, 0, .w1c, 0, [], false⟩
def Reg.CHECK_SECTION : Fld := ⟨0x0D00, 0x18, 1, 1, 23, 8, .ro, 0, [], false⟩
def Reg.CHECK_CODE_0D00 : Fld := ⟨0x0D00, 0x18, 1, 1, 3, 0, .ro, 0, [], false⟩
def Reg.RCP_FREE_KIB : Fld := ⟨0x0D00, 0x19, 1, 1, 15, 0, .ro, 0, [], false⟩
def Reg.RCP_USED_LO : Fld := ⟨0x0D00, 0x1A, 1, 1, 31, 0, .ro, 0, [], false⟩
def Reg.RCP_USED_HI : Fld := ⟨0x0D00, 0x1B, 1, 1, 31, 0, .ro, 0, [], false⟩

/-! Page 0E00h (R471, R489 of spec/20_thermal.md and others). -/

def Reg.TEMP_FILT : Fld := ⟨0x0E00, 0x00, 1, 1, 31, 16, .ro, 0, [], false⟩
def Reg.TEMP_RAW : Fld := ⟨0x0E00, 0x00, 1, 1, 15, 0, .ro, 0, [], false⟩
def Reg.TEMP_MAX : Fld := ⟨0x0E00, 0x01, 1, 1, 31, 16, .rc, 0, [], false⟩
def Reg.TEMP_MIN : Fld := ⟨0x0E00, 0x01, 1, 1, 15, 0, .rc, 0, [], false⟩
def Reg.WARN_T : Fld := ⟨0x0E00, 0x02, 1, 1, 31, 16, .rw, 0x5f0, [(640, 1840)], false⟩
def Reg.HOT_T : Fld := ⟨0x0E00, 0x02, 1, 1, 15, 0, .rw, 0x690, [(720, 1904)], false⟩
def Reg.TRIP_T : Fld := ⟨0x0E00, 0x03, 1, 1, 31, 16, .ro, 0x780, [], false⟩
def Reg.THERM_ALPHA : Fld := ⟨0x0E00, 0x03, 1, 1, 10, 8, .rw, 2, [(0, 4)], false⟩
def Reg.HYST : Fld := ⟨0x0E00, 0x03, 1, 1, 7, 0, .rw, 0x20, [(8, 128)], false⟩
def Reg.CAP_KHZ : Fld := ⟨0x0E00, 0x04, 1, 1, 24, 16, .rw, 0x32, [(1, 400)], false⟩
def Reg.SCRUB_PAUSE : Fld := ⟨0x0E00, 0x04, 1, 1, 4, 4, .rw, 0, [], false⟩
def Reg.HOT_ACT : Fld := ⟨0x0E00, 0x04, 1, 1, 3, 0, .rw, 0xc, [], false⟩
def Reg.CAP_SHORT : Fld := ⟨0x0E00, 0x05, 1, 1, 6, 6, .ro, 0, [], false⟩
def Reg.DIODE_FAULT : Fld := ⟨0x0E00, 0x05, 1, 1, 5, 5, .ro, 0, [], false⟩
def Reg.TRIP_PENDING : Fld := ⟨0x0E00, 0x05, 1, 1, 4, 4, .ro, 0, [], false⟩
def Reg.THROTTLED : Fld := ⟨0x0E00, 0x05, 1, 1, 3, 3, .ro, 0, [], false⟩
def Reg.WINDOW_OPEN : Fld := ⟨0x0E00, 0x05, 1, 1, 2, 2, .ro, 0, [], false⟩
def Reg.HOT : Fld := ⟨0x0E00, 0x05, 1, 1, 1, 1, .ro, 0, [], false⟩
def Reg.WARN : Fld := ⟨0x0E00, 0x05, 1, 1, 0, 0, .ro, 0, [], false⟩
def Reg.TRIP_SEEN : Fld := ⟨0x0E00, 0x06, 1, 1, 2, 2, .w1c, 0, [], false⟩
def Reg.HOT_SEEN : Fld := ⟨0x0E00, 0x06, 1, 1, 1, 1, .w1c, 0, [], false⟩
def Reg.WARN_SEEN : Fld := ⟨0x0E00, 0x06, 1, 1, 0, 0, .w1c, 0, [], false⟩
def Reg.WARN_COUNT : Fld := ⟨0x0E00, 0x07, 1, 1, 31, 0, .rc, 0, [], false⟩
def Reg.HOT_COUNT : Fld := ⟨0x0E00, 0x08, 1, 1, 31, 0, .rc, 0, [], false⟩
def Reg.TRIPS : Fld := ⟨0x0E00, 0x09, 1, 1, 31, 0, .ro, 0, [], false⟩
def Reg.WINDOW_REFUSALS : Fld := ⟨0x0E00, 0x0A, 1, 1, 31, 0, .rc, 0, [], false⟩
def Reg.WINDOW_CLOSED_MS : Fld := ⟨0x0E00, 0x0B, 1, 1, 31, 0, .ro, 0, [], false⟩
def Reg.DOMAIN_ON : Fld := ⟨0x0E00, 0x20, 1, 1, 24, 0, .ro, 0, [], false⟩
def Reg.DOMAIN_READY : Fld := ⟨0x0E00, 0x21, 1, 1, 24, 0, .ro, 0, [], false⟩
def Reg.DOMAIN_FAULT : Fld := ⟨0x0E00, 0x22, 1, 1, 24, 0, .w1c, 0, [], false⟩
def Reg.ST_CODE : Fld := ⟨0x0E00, 0x23, 1, 1, 23, 16, .ro, 0, [], false⟩
def Reg.ST_ID : Fld := ⟨0x0E00, 0x23, 1, 1, 15, 8, .ro, 0, [], false⟩
def Reg.ST_PASS : Fld := ⟨0x0E00, 0x23, 1, 1, 1, 1, .ro, 0, [], false⟩
def Reg.ST_ACTIVE : Fld := ⟨0x0E00, 0x23, 1, 1, 0, 0, .ro, 0, [], false⟩
def Reg.STARTUP_MS : Fld := ⟨0x0E00, 0x24, 1, 1, 31, 0, .ro, 0, [], false⟩
def Reg.POWER_FAILS : Fld := ⟨0x0E00, 0x25, 1, 1, 31, 0, .rc, 0, [], false⟩
def Reg.SELFTEST_FAILS : Fld := ⟨0x0E00, 0x26, 1, 1, 31, 0, .rc, 0, [], false⟩
def Reg.SELFTEST_FAIL : Fld := ⟨0x0E00, 0x27, 1, 1, 2, 2, .w1c, 0, [], false⟩
def Reg.SELFCHECK_FAIL : Fld := ⟨0x0E00, 0x27, 1, 1, 1, 1, .w1c, 0, [], false⟩
def Reg.POWER_FAIL : Fld := ⟨0x0E00, 0x27, 1, 1, 0, 0, .w1c, 0, [], false⟩
def Reg.RESETS : Fld := ⟨0x0E00, 0x28, 1, 1, 31, 0, .rc, 0, [], false⟩

/-- The fields of page 0000h. -/
def fields0000 : List Fld :=
    [Reg.DEVICE, Reg.STEPPING, Reg.UNIT_ID, Reg.FAULT_PRESENT, Reg.STATE, Reg.GEN_PENDING,
    Reg.GEN_IN_EFFECT, Reg.TAGS_OUTSTANDING, Reg.ENTRY_CHECK_FAILS, Reg.REJECTS, Reg.LONG_ACTIVE,
    Reg.LONG_TAG, Reg.LONG_OPCODE]

/-- The fields of page 0100h. -/
def fields0100 : List Fld :=
    [Reg.LSYN_EN, Reg.DITHER_EN, Reg.POSTDIV, Reg.N_INT, Reg.N_FRAC, Reg.DITHER_SEED, Reg.HOLDOVER,
    Reg.REF_PRESENT, Reg.SYSPLL_SETTLED, Reg.PSTEP_BUSY, Reg.RAMPING, Reg.LSYN_SETTLED, Reg.LINE_RATE_MHZ,
    Reg.LSYN_PERIOD_LO, Reg.LSYN_PERIOD_HI, Reg.RAMP_SEG, Reg.RAMP_LEFT, Reg.PSTEP_LEFT, Reg.CHECK_SEG,
    Reg.CHECK_CODE_0100, Reg.TB_JUMP, Reg.SYNC_MISS, Reg.TB_UNLOCK, Reg.RAMP_DONE, Reg.REF_RETURN,
    Reg.REF_LOSS, Reg.REF_LOSSES, Reg.TB_ROLE, Reg.SYNCOUT_EN, Reg.SYNC_LOG, Reg.JUMP_LIMIT, Reg.CABLE_COMP,
    Reg.LOCK_TOL, Reg.TB_ERROR, Reg.TB_RATE_PPB, Reg.TB_LOCKED, Reg.SYNC_PULSES, Reg.SYNC_MISSES,
    Reg.TB_JUMPS]

/-- The fields of page 0200h. -/
def fields0200 : List Fld :=
    [Reg.FRAME_IN_EDGE, Reg.FRAME_SRC, Reg.TRIG_SRC, Reg.GUST_ROW, Reg.LINE_MODE, Reg.LINE_FIRST,
    Reg.FRAME_LINES, Reg.FRAME_MARK, Reg.WIN_STOP, Reg.WIN_START, Reg.LONG_STOP, Reg.LONG_START,
    Reg.WIN_ENABLE, Reg.END_GRP, Reg.START_GRP, Reg.ENC_ZRST, Reg.ENC_DIR, Reg.ENC_DIV, Reg.SYNC_PERIOD,
    Reg.SYNC_EPOCH_LO, Reg.SYNC_EPOCH_HI, Reg.LINE_TIMEOUT, Reg.LSYN_WAIT, Reg.TRIG_HELD, Reg.TRACKING,
    Reg.RUNNING, Reg.LINE_CUR, Reg.FRAME_CUR, Reg.FRAME_OFFSET, Reg.TRIG_OVERRUNS, Reg.FRAME_DEFERS,
    Reg.GEN_LEAD, Reg.GEN_LAG, Reg.TRIG_STALL, Reg.EXP_FLOOR_LONG, Reg.EXP_FLOOR, Reg.DUAL_RATIO]

/-- The fields of page 0280h. -/
def fields0280 : List Fld :=
    [Reg.DRIZZLE, Reg.GLINT_MARK, Reg.CAL_ENABLE, Reg.PEDESTAL, Reg.CONV_FG_CAL, Reg.GROUPS_NO_SPARE,
    Reg.CAL_STEPS, Reg.GLINTS, Reg.CONV_SHIFTS, Reg.LAST_SHIFT, Reg.CONV_CAP, Reg.CONV_SHIFT, Reg.GLINT,
    Reg.CAL_DRIFT, Reg.CAL_FAIL, Reg.FAIL_GROUP, Reg.FAIL_SLICE, Reg.NO_SPARE, Reg.NO_SPARE_HI]

/-- The fields of page 0300h. -/
def fields0300 : List Fld :=
    [Reg.EXPECT_GID, Reg.LANE_ROLE, Reg.LANE_MODE, Reg.RATE, Reg.GHEADS, Reg.TRAIN_TIMEOUT, Reg.WANDER_PPM,
    Reg.RX_GID, Reg.SKEW_BAD, Reg.GID_BAD, Reg.ORDER_FIXED, Reg.POL_FIXED, Reg.LOL, Reg.LOS, Reg.GROUP_UP,
    Reg.PRBS_ACTIVE, Reg.TRAINING, Reg.DEGRADED, Reg.LANE_UP, Reg.HEADS_IN_LINK, Reg.LANE_MAP, Reg.SKEW,
    Reg.GFLAGS, Reg.MARKER_ERRS, Reg.PKT_ERRS, Reg.PARITY_ERRS, Reg.FLIP, Reg.FLIP_LANE, Reg.PRBS_ERRS0,
    Reg.PRBS_ERRS1, Reg.PRBS_ERRS2, Reg.PRBS_ERRS3, Reg.MBOX_DROPS, Reg.BUDGET_KHZ, Reg.COLUMNS, Reg.FMT,
    Reg.PLANE_MASK, Reg.BLT_VALID]

/-- The fields of page 0400h. -/
def fields0400 : List Fld :=
    [Reg.PAD_VALUE, Reg.DARK_MIN, Reg.SHADE_EN, Reg.DEFECT_EN, Reg.OFFSET_EN, Reg.DARK_EN, Reg.DARK_ALPHA,
    Reg.LATE_US, Reg.EARLY_LINES, Reg.DUAL_SHIFT, Reg.DUAL_KNEE, Reg.DARK_REF, Reg.SEG_CRC,
    Reg.MISSING_LINE, Reg.DUP_LINE, Reg.OUT_OF_WINDOW, Reg.SHORT_LINE, Reg.LONG_LINE, Reg.FRAME_SLIP,
    Reg.PLANE_MISMATCH, Reg.DEF_UNREPLACED, Reg.DARK_HOLD, Reg.SEG_CRC_FAILS, Reg.MISSING_LINES,
    Reg.DUP_LINES, Reg.WINDOW_DROPS, Reg.SHORT_LINES, Reg.LONG_LINES, Reg.FRAME_SLIPS, Reg.PLANE_MISMATCHES,
    Reg.CAL_ACTIVE, Reg.CAL_HEADS, Reg.CAL_BLOCKS]

/-- The fields of page 0480h. -/
def fields0480 : List Fld :=
    [Reg.FADING, Reg.FADE_HEADS, Reg.ACTIVE_BANK, Reg.FADE_FIRST, Reg.FADE_END, Reg.FADE_LEN, Reg.XBIN,
    Reg.AT_DEC, Reg.FIR_EN, Reg.FIR_ODD, Reg.FIR_EVEN0, Reg.FIR_EVEN, Reg.VIEW_RLOG, Reg.VIEW_ORDER,
    Reg.ALIGN_CLIP, Reg.CLIPS, Reg.SWAPS, Reg.CIC_RESTARTS]

/-- The fields of page 0500h. -/
def fields0500 : List Fld :=
    [Reg.GUIDE_MIN, Reg.GUIDE_NIR, Reg.GUIDE_CLR, Reg.VIEW_HEADS, Reg.VIEW_XDEC, Reg.VIEW_WINDOW,
    Reg.VIEW_EN, Reg.WB_GRN, Reg.WB_RED, Reg.WB_CLR, Reg.WB_BLU, Reg.M01, Reg.M11, Reg.M21, Reg.M00,
    Reg.M10, Reg.M20, Reg.M03, Reg.M13, Reg.M23, Reg.M02, Reg.M12, Reg.M22, Reg.TAP_ARMED, Reg.TAP_POINT,
    Reg.TAP_SOURCE, Reg.TAP_WINDOW, Reg.TAP_LINES, Reg.VIEW_DROPS, Reg.VIEW_DROP, Reg.TAP_DROP,
    Reg.TAP_DROPS]

/-- The fields of page 0580h. -/
def fields0580 : List Fld :=
    [Reg.REAR_STRIPES, Reg.FRONT_STRIPES, Reg.FUSE_EN, Reg.FUSE_MARGIN, Reg.FUSE_WINDOW, Reg.MAP_A,
    Reg.MAP_B, Reg.FACE_LATE_US, Reg.BLIND_MISS, Reg.PLACED_HEADS, Reg.BLIND_HEADS, Reg.CHECK_CODE_0580,
    Reg.CHECK_HEAD, Reg.BLIND_COLS_REAR, Reg.BLIND_COLS_FRONT, Reg.FUSED_PAIRS, Reg.UNPAIRED_FRONT,
    Reg.UNPAIRED_REAR, Reg.FUSE_AMBIGS, Reg.FACE_LATES, Reg.FUSE_AMBIG, Reg.FACE_LATE_REAR,
    Reg.FACE_LATE_FRONT, Reg.LAST_LINE]

/-- The fields of page 0600h. -/
def fields0600 : List Fld :=
    [Reg.DISAGREE_CLASS, Reg.COMBINE, Reg.SPECK_AREA, Reg.HIGH_MARK, Reg.RESERVE, Reg.STORM_ACTION,
    Reg.STORM_MIN, Reg.FOCUS_CLASS, Reg.FORCE_STORM_REAR, Reg.FORCE_STORM_FRONT, Reg.LOW_WATER, Reg.QUOTA,
    Reg.OPEN_NOW, Reg.OPEN_PEAK, Reg.STORM_REAR, Reg.STORM_FRONT, Reg.OVER_QUOTA_REAR, Reg.OVER_QUOTA_FRONT,
    Reg.OPENED, Reg.CLOSED, Reg.SPECKS, Reg.MERGED, Reg.TALLS, Reg.STORMS, Reg.STORM_PIXELS, Reg.TALL,
    Reg.STORM, Reg.OPEN_HIGH, Reg.QUOTA_OVER, Reg.TABLE_FULL, Reg.SEQ_NEXT_LO, Reg.SEQ_NEXT_HI,
    Reg.OPEN_REAR, Reg.OPEN_FRONT, Reg.W_GRN, Reg.W_RED, Reg.W_CLR, Reg.W_BLU, Reg.W_NIRB, Reg.W_NIRA] ++
  [Reg.PSHIFT, Reg.BIAS]

/-- The fields of page 0700h. -/
def fields0700 : List Fld :=
    [Reg.TREE_COUNT, Reg.FC_EN, Reg.FC_STEP, Reg.FC_MIN_LINES, Reg.FUSED_MODE, Reg.OVERLOAD_CLASS,
    Reg.FC_WINDOW, Reg.FC_STREAM_EN, Reg.IN_FLIGHT, Reg.IN_FLIGHT_PEAK, Reg.DEPTH_ERRS, Reg.MISSED_SHOT,
    Reg.UNCONFIRMED_SHOT, Reg.CLASS_OVERLOAD, Reg.DEPTH_ERR, Reg.DEPTH_TREE, Reg.DEPTH_NODE]

/-- The fields of page 0800h. -/
def fields0800 : List Fld :=
    [Reg.VALVE_FRAME, Reg.VD_INT, Reg.VD_FRAC, Reg.MARGIN_REAR, Reg.MARGIN_FRONT, Reg.BLIND_ACTION_REAR,
    Reg.BLIND_ACTION_FRONT, Reg.LINK_MISS, Reg.LINK_LAG, Reg.SIG_EN, Reg.FRAME_BITS, Reg.FRAME_NOW_LO,
    Reg.FRAME_NOW_HI, Reg.LIVE, Reg.WINDOWS_PENDING, Reg.WINDOWS_PEAK, Reg.LATE_SHOTS, Reg.PULSE_CUTS,
    Reg.REFRACT_DELAYS, Reg.HELD_SHOTS, Reg.WINDOWS_WRITTEN, Reg.DRY_WINDOWS, Reg.BLIND_EJECT,
    Reg.HELD_SHOT, Reg.WINDOW_FULL, Reg.REFRACT_DELAY, Reg.PULSE_CUT, Reg.LATE_SHOT, Reg.STALL_ENG,
    Reg.LINK_FAIL, Reg.VMAP_VALVE, Reg.VMAP_CODE, Reg.TEST_ACTIVE, Reg.SPANS_LOST]

/-- The fields of page 0900h. -/
def fields0900 : List Fld :=
    [Reg.DIV, Reg.PIN_BASE, Reg.ROLE_W7, Reg.ROLE_W6, Reg.ROLE_W5, Reg.ROLE_W4, Reg.ROLE_W3, Reg.ROLE_W2,
    Reg.ROLE_W1, Reg.ROLE_W0, Reg.SHIFT_DIR, Reg.SYNC_GROUP, Reg.SYNC_SRC, Reg.LOOPS, Reg.ENTRY, Reg.LEN,
    Reg.CMPVAL, Reg.CMP_MASK, Reg.IN_COUNT, Reg.BIT_COUNT, Reg.ENG_FLAG, Reg.PUSH_LEVEL, Reg.PULL_LEVEL,
    Reg.PC, Reg.ENG_STATE, Reg.SHIFT, Reg.SHORT_LO, Reg.SHORT_HI, Reg.STALLED, Reg.ENG_RUNNING,
    Reg.CHECK_CODE_0900, Reg.CHECK_ADDR, Reg.CHECK_ENG, Reg.ENG_EVENTS]

/-- The fields of page 0980h. -/
def fields0980 : List Fld :=
    [Reg.FREEZE_ON_HALT, Reg.CAP_WHAT, Reg.PRESC, Reg.ARM_ENG, Reg.ARM_SRC, Reg.CAP_ENG, Reg.CAP_SRC,
    Reg.TGT_END, Reg.ACT_END, Reg.TGT_B, Reg.ACT_B, Reg.TGT_A, Reg.ACT_A]

/-- The fields of page 0A00h. -/
def fields0A00 : List Fld :=
    [Reg.AUX_LP, Reg.CAL_INTERVAL, Reg.OPEN_PCT, Reg.SHORT_BAND, Reg.REV_PCT, Reg.AUX_RUNNING,
    Reg.AUX_FG_CAL, Reg.BG_CAL, Reg.STEP_CUR, Reg.SEQ_NUM, Reg.TRIG_LATCH, Reg.AUX_CAL_FAIL, Reg.TRIG_DROP,
    Reg.AUX_RAIL, Reg.AUX_REVERSED, Reg.AUX_SHORT, Reg.AUX_OPEN, Reg.AUX_OVR, Reg.OVR_CH, Reg.SHORT_CH,
    Reg.OPEN_CH, Reg.RAIL_CH, Reg.REV_CH, Reg.TRIG_DROPS, Reg.RESULTS, Reg.CAL_AGE, Reg.CHECK_STEP,
    Reg.CHECK_CODE_0A00, Reg.STEP_SWITCH, Reg.STEP_COUNT, Reg.STEP_TMR, Reg.STEP_TRIG, Reg.SHORT_EN,
    Reg.OPEN_EN, Reg.NOTCH_5060, Reg.ODR, Reg.STEP_ORDER, Reg.UNIPOLAR, Reg.STEP_RANGE, Reg.CHAN] ++
  [Reg.HI_MV, Reg.LO_MV, Reg.RES_CODE, Reg.RES_COUNT, Reg.RES_FLAGS]

/-- The fields of page 0B00h. -/
def fields0B00 : List Fld :=
    [Reg.EVCOPY_WINDOW, Reg.STATS_WINDOW, Reg.CHIP_WINDOW, Reg.OBJ_WINDOW, Reg.STATS_HEADS, Reg.SNAP_EN,
    Reg.EVCOPY_EN, Reg.CHIP_EN, Reg.OBJ_EN, Reg.SNAP_WINDOW, Reg.CHIP_PLANES, Reg.CHIP_MARGIN_LINES,
    Reg.CHIP_MARGIN_COLS, Reg.SCRUB_HOURS, Reg.SNAP_PAGE, Reg.SNAP_WORD, Reg.SNAP_ADDR_EN, Reg.LS_UE,
    Reg.LS_CE, Reg.CARRIAGE_UE, Reg.CARRIAGE_CE, Reg.SNAP_DROP, Reg.CHIP_UNAVAIL, Reg.POISON,
    Reg.RING_EVENT, Reg.CHIPS_WRITTEN, Reg.CHIPS_UNAVAILABLE, Reg.SNAPS, Reg.SNAP_DROPS, Reg.CARRIAGE_CES,
    Reg.LS_CES, Reg.LS_UES, Reg.POISONED, Reg.ATTACHED_LO, Reg.ATTACHED_HI, Reg.ARCH_QUEUE, Reg.SCRUB_PASS,
    Reg.LS_UE_ADDR]

/-- The fields of page 0C00h. -/
def fields0C00 : List Fld :=
    [Reg.FAULT_CAUSE, Reg.FAULT_FIRST, Reg.FAULT_TB_LO, Reg.FAULT_TB_HI, Reg.EVENT_SEQ, Reg.INJECTS,
    Reg.EVR_OVERFLOW, Reg.CQ_STALL, Reg.CPL_TIMEOUT, Reg.LINK_RETRAIN, Reg.LINK_RESET, Reg.BAR_ACCESS,
    Reg.BAR_ACCESSES, Reg.CPL_TIMEOUTS, Reg.FAULT_ENTRIES]

/-- The fields of page 0D00h. -/
def fields0D00 : List Fld :=
    [Reg.BFW_VERSION, Reg.SQM_VERSION, Reg.BFW_IFACE, Reg.SQM_IFACE, Reg.LAST_RESET, Reg.ROM_VERSION,
    Reg.KEY_ID, Reg.DEBUG_OPEN, Reg.LIVE_OK, Reg.UNLOCKED, Reg.PAIRING, Reg.FALLBACK, Reg.SQM_SLOT,
    Reg.BFW_SLOT, Reg.SEL_SEQ, Reg.BOOT_COUNT, Reg.STAGED_BFW, Reg.STAGED_SQM, Reg.ACTIVATE_PENDING,
    Reg.SQM_VERIFIED, Reg.BFW_VERIFIED, Reg.WDT_RESETS, Reg.AUTOSTART_EN, Reg.AUTOSTART_LIVE,
    Reg.AUTOSTART_SLOT, Reg.AUTOSTART_HOLD_MS, Reg.AS_RESULT, Reg.AS_STEP, Reg.LOG_NEXT, Reg.LOG_OLDEST,
    Reg.LOG_PENDING, Reg.LOG_LOST, Reg.LOG_SUPPRESSED, Reg.UNLOCK, Reg.DEBUG_UNLOCK, Reg.LOG_LOSS,
    Reg.AUTOSTART_FAIL, Reg.WATCHDOG, Reg.FW_FALLBACK, Reg.CHECK_SECTION] ++
  [Reg.CHECK_CODE_0D00, Reg.RCP_FREE_KIB, Reg.RCP_USED_LO, Reg.RCP_USED_HI]

/-- The fields of page 0E00h. -/
def fields0E00 : List Fld :=
    [Reg.TEMP_FILT, Reg.TEMP_RAW, Reg.TEMP_MAX, Reg.TEMP_MIN, Reg.WARN_T, Reg.HOT_T, Reg.TRIP_T,
    Reg.THERM_ALPHA, Reg.HYST, Reg.CAP_KHZ, Reg.SCRUB_PAUSE, Reg.HOT_ACT, Reg.CAP_SHORT, Reg.DIODE_FAULT,
    Reg.TRIP_PENDING, Reg.THROTTLED, Reg.WINDOW_OPEN, Reg.HOT, Reg.WARN, Reg.TRIP_SEEN, Reg.HOT_SEEN,
    Reg.WARN_SEEN, Reg.WARN_COUNT, Reg.HOT_COUNT, Reg.TRIPS, Reg.WINDOW_REFUSALS, Reg.WINDOW_CLOSED_MS,
    Reg.DOMAIN_ON, Reg.DOMAIN_READY, Reg.DOMAIN_FAULT, Reg.ST_CODE, Reg.ST_ID, Reg.ST_PASS, Reg.ST_ACTIVE,
    Reg.STARTUP_MS, Reg.POWER_FAILS, Reg.SELFTEST_FAILS, Reg.SELFTEST_FAIL, Reg.SELFCHECK_FAIL,
    Reg.POWER_FAIL] ++
  [Reg.RESETS]

/-- R68: the parameter pages. A page that is not listed has no fields and is refused. -/
def pageFields (page : Nat) : List Fld :=
  match page with
  | 0x0000 => fields0000
  | 0x0100 => fields0100
  | 0x0200 => fields0200
  | 0x0280 => fields0280
  | 0x0300 => fields0300
  | 0x0400 => fields0400
  | 0x0480 => fields0480
  | 0x0500 => fields0500
  | 0x0580 => fields0580
  | 0x0600 => fields0600
  | 0x0700 => fields0700
  | 0x0800 => fields0800
  | 0x0900 => fields0900
  | 0x0980 => fields0980
  | 0x0A00 => fields0A00
  | 0x0B00 => fields0B00
  | 0x0C00 => fields0C00
  | 0x0D00 => fields0D00
  | 0x0E00 => fields0E00
  | _ => []

/-- R68: the page exists. -/
def pageListed (page : Nat) : Bool :=
    [0x0000, 0x0100, 0x0200, 0x0280, 0x0300, 0x0400, 0x0480, 0x0500, 0x0580, 0x0600, 0x0700, 0x0800, 0x0900,
    0x0980, 0x0A00, 0x0B00, 0x0C00, 0x0D00, 0x0E00].contains page

end Sys2Proof.Machine
end

