-- ==== Sys2Proof/Machine/Ops.lean ====
section
/-!
DEFINITION. The named operations over the registers: parameter words (one home for each), generations, states, and the
unit's outbox.
-/

namespace Sys2Proof.Machine

/-! Parameter words. -/

/-- R11: the word a parameter reads after power-on, composed from the Reset column of its fields. -/
def paramReset (key : Nat) : Word :=
  ((pageFields (key / 256)).filter (fun f => f.inWord (key % 256))).foldl (fun w f => f.inject w f.reset) 0

/-- A whole parameter word as stored (immediate words and hardware registers). -/
def Dev.word (d : Dev) (key : Nat) : Word := Store.get paramReset d.params key

/-- A whole parameter word replaced. -/
def Dev.setWord (d : Dev) (key : Nat) (w : Word) : Dev := { d with params := Store.put paramReset d.params key w }

/-- The value of an immediate or hardware field. -/
def Dev.get (d : Dev) (f : Fld) (i : Nat := 0) : Nat := f.ofWord (d.word (f.key i))

/-- A one-bit field. -/
def Dev.flag (d : Dev) (f : Fld) (i : Nat := 0) : Bool := d.get f i != 0

/-- A field written by the unit itself, whatever its access code. -/
def Dev.put (d : Dev) (f : Fld) (v : Nat) (i : Nat := 0) : Dev := d.setWord (f.key i) (f.inject (d.word (f.key i)) v)

/-- A one-bit field written by the unit itself. -/
def Dev.putFlag (d : Dev) (f : Fld) (v : Bool) (i : Nat := 0) : Dev := d.put f (b2n v) i

/-- A counter counts `n` more and saturates. -/
def Dev.count (d : Dev) (f : Fld) (n : Nat := 1) (i : Nat := 0) : Dev :=
  d.put f (min (d.get f i + n) (2 ^ f.width - 1)) i

/-- Bits of a W1C field set by the unit (R8). -/
def Dev.orBits (d : Dev) (f : Fld) (bits : Nat) (i : Nat := 0) : Dev := d.put f (d.get f i ||| bits) i

/-- One bit of a field. -/
def Dev.bitOf (d : Dev) (f : Fld) (b : Nat) (i : Nat := 0) : Bool := (d.get f i).testBit b

/-- One bit of a field written by the unit. -/
def Dev.putBit (d : Dev) (f : Fld) (b : Nat) (v : Bool) (i : Nat := 0) : Dev :=
  let w := d.get f i
  d.put f (if v then w ||| (1 <<< b) else w - (if w.testBit b then 1 <<< b else 0)) i

/-! Line numbers and generations (R14, R72 to R76). -/

/-- R14: how many lines `a` lies after `b`, as a signed number. -/
def lineDiff (a b : Nat) : Int := (BitVec.ofNat 32 a - BitVec.ofNat 32 b).toInt

/-- R14: line `a` is after line `b`. -/
def lineAfter (a b : Nat) : Bool :=
  let x := (BitVec.ofNat 32 a - BitVec.ofNat 32 b).toNat
  1 ≤ x && x < 2 ^ 31

/-- R14: line `a` is line `b` or after it. -/
def lineFrom (a b : Nat) : Bool := a % 2 ^ 32 == b % 2 ^ 32 || lineAfter a b

/-- Line `n` further on, modulo 2^32. -/
def lineAdd (a n : Nat) : Nat := (a + n) % 2 ^ 32

/-- Line `n` back, modulo 2^32. -/
def lineSub (a n : Nat) : Nat := (BitVec.ofNat 32 a - BitVec.ofNat 32 n).toNat

/-- The generation with nothing staged: reset values and default tables. -/
def Conf.zero : Conf := ⟨0, false, false, none, [], [], none⟩

/-- The newest generation in effect (R107). -/
def Dev.conf (d : Dev) : Conf := (d.chan.confs.find? (fun c => !c.waiting)).getD Conf.zero

/-- The generation in effect for a line (R72, R107). -/
def Dev.confAt (d : Dev) (line : Nat) : Conf :=
  (d.chan.confs.find? (fun c => !c.waiting && match c.fromLine with | none => true | some l => lineFrom line l)).getD d.conf

/-- The generation of a number (R73), which an object or an evaluation keeps whatever generations come after it. -/
def Dev.confOf (d : Dev) (gen : Nat) : Conf := (d.chan.confs.find? (fun c => !c.waiting && c.gen == gen)).getD d.conf

/-- A staged field of a generation. -/
def Conf.get (c : Conf) (f : Fld) (i : Nat := 0) : Nat := f.ofWord (Store.get paramReset c.staged (f.key i))

/-- A one-bit staged field of a generation. -/
def Conf.flag (c : Conf) (f : Fld) (i : Nat := 0) : Bool := c.get f i != 0

/-- A staged field in effect now. -/
def Dev.staged (d : Dev) (f : Fld) (i : Nat := 0) : Nat := d.conf.get f i

/-- The generations that wait for their boundaries (R75). -/
def Dev.genPending (d : Dev) : Nat := (d.chan.confs.filter (·.waiting)).length

/-- R73: the number of the newest generation, in effect or waiting. -/
def Dev.genNewest (d : Dev) : Nat := (d.chan.confs.head?.map (·.gen)).getD 0

/-! The unit. -/

/-- The STATE encoding of R37. -/
def UState.code : UState → Nat
  | .boot => 0 | .restricted => 1 | .idle => 2 | .armed => 3 | .sorting => 4 | .hold => 5 | .fault => 6 | .tripped => 7

/-- R28: the imaging states. -/
def UState.imaging : UState → Bool
  | .armed | .sorting | .hold => true
  | _ => false

/-- The codes of R65. -/
def Status.code : Status → Nat
  | .ok => 0x00 | .busy => 0x01 | .badOpcode => 0x02 | .badParam => 0x03 | .notStopped => 0x04 | .bankBusy => 0x05
  | .intrusiveRefused => 0x06 | .restrictedMode => 0x07 | .thermalWindow => 0x08 | .checkFail => 0x09
  | .superseded => 0x0A | .noResource => 0x0B | .timeout => 0x0C | .abortedByReset => 0x0D | .authFail => 0x0E
  | .versionMismatch => 0x0F | .wrongState => 0x10

/-- Something sent (newest first). (DEDUCED, log 102) -/
def Dev.send (d : Dev) (o : Outbound) : Dev := { d with out := o :: d.out }

/-- A free value is taken: its number, and the counter advanced. (DESIGN CHOICE, log 10) -/
def Dev.takeFree (d : Dev) : Dev × Nat := ({ d with free := d.free + 1 }, d.free)

/-- R499: LINE of an event, the line in progress; FFFFFFFFh with no run. -/
def Dev.lineNow (d : Dev) : Nat :=
  if d.arr.running then (d.arr.lines.head?.map (·.num)).getD 0xFFFFFFFF else 0xFFFFFFFF

/-- The accepted line of a number, if the unit still holds it. -/
def Dev.lineInfo (d : Dev) (n : Nat) : Option LineInfo := d.arr.lines.find? (fun l => l.num == n % 2 ^ 32)

/-- R101: a run is in progress: it runs, or waits for the lines of the run before it. -/
def Dev.runOn (d : Dev) : Bool := d.arr.running || d.arr.pendingRun.isSome

/-- R491: the rate-limit interval in progress, a frame of the run or a 10 ms period of the timebase. -/
def Dev.interval (d : Dev) : Interval :=
  if d.arr.running && d.arr.begun then ⟨d.arr.runNum + 1, d.arr.frameNum⟩ else ⟨0, d.tb / 2000000⟩

/-- Domain `n` is on (R475). -/
def Dev.domainOn (d : Dev) (n : Nat) : Bool := d.bitOf Reg.DOMAIN_ON n

/-- Domain `n` is ready (R475). -/
def Dev.domainReady (d : Dev) (n : Nat) : Bool := d.bitOf Reg.DOMAIN_READY n

/-- R476: the run domains LSYN, ARRAY, PIPEA to PIPED, STITCH, TRACK, CLASS, LSCTL and LSPHY. -/
def runDomains : List Nat := [2, 3, 6, 7, 8, 9, 10, 11, 12, 15, 16]

/-- R29, R436: valves may be live: the pairing is tested, or the second confirmation flag is set. -/
def Dev.liveAllowed (d : Dev) : Bool := d.get Reg.PAIRING != 1 || d.flag Reg.LIVE_OK

/-- R465: the flash write window is open, unless the diode is at fault (R467). -/
def Dev.windowOpen (d : Dev) : Bool := d.flag Reg.WINDOW_OPEN

/-- R465: a command whose flash step finds the window closed is counted. -/
def Dev.refuseWindow (d : Dev) : Dev := d.count Reg.WINDOW_REFUSALS

/-- The present CTLCLK cycle: two to a BUSCLK cycle (R534). -/
def Dev.cycle (d : Dev) : Nat := 2 * d.clk.bus + b2n d.half

/-- R482: a reset of this rank falls in the CTLCLK cycle of one that ranks as high or higher, which acts alone. -/
def Dev.outranked (d : Dev) (rank : Nat) : Bool :=
  match d.power.resetMark with
  | some (c, r) => c == d.cycle && decide (r ≤ rank)
  | none => false

/-- R534: what is timed in BUSCLK happens in the first CTLCLK cycle of a BUSCLK period, and not in the second. -/
def Dev.onEdge (d : Dev) (f : Dev → Dev) : Dev := if d.half then d else f d

/-- R446: something takes effect that a capture in progress has to see. -/
def Dev.touch (d : Dev) : Dev := { d with chan := { d.chan with touched := true } }

/-- The unit's own word with a part of the state replaced. -/
def Dev.setChan (d : Dev) (f : Channel → Channel) : Dev := { d with chan := f d.chan }

end Sys2Proof.Machine
end

