-- ==== Sys2Proof/Machine/Tables.lean ====
section
/-!
DEFINITION. Tables (R77, R78): the key of a word, what a word reads before anything is written, and reading by
generation.
-/

namespace Sys2Proof.Machine

/-- The key of a table word: ID, instance and offset (R78). -/
def tableKey (id inst off : Nat) : Nat := (id * 4096 + inst) * 2 ^ 24 + off

/-- R163: LOW and VALUE of the default companding table. -/
def compandDefault (k : Nat) : Nat × Nat :=
  if k < 256 then (k, k)
  else if k < 512 then let l := 256 + 2 * (k - 256); (l, l + 1)
  else if k < 704 then let l := 768 + 4 * (k - 512); (l, l + 2)
  else if k < 1023 then let l := 1536 + 8 * (k - 704); (l, l + 4)
  else (4088, 4095)

/-- R195: a word of an alignment bank at power-on: delays 0, and phase f the linear interpolator. -/
def bankDefault (off : Nat) : Nat :=
  if off < 8 || (off - 8) % 4 ≠ 0 then 0 else let f := (off - 8) / 4; 256 * (64 - f) + 2 ^ 16 * (256 * f)

/-- R224: round(255 x (x / 16,383)^0.4545), exactly: k is reached where ((2k - 1) / 510)^2000 is at most
(x / 16,383)^909. -/
def toneDefault (x : Nat) : Nat :=
  [128, 64, 32, 16, 8, 4, 2, 1].foldl (fun k b =>
    if (2 * (k + b) - 1) ^ 2000 * 16383 ^ 909 ≤ x ^ 909 * 510 ^ 2000 then k + b else k) 0

/-- R536: a calibration word of head 0 as the unit was shipped: a free value, in the form of R181 with at most 512 defects.
(DESIGN CHOICE, log 17) -/
def factoryWord (key : Nat) : Word :=
  let v := Config.factoryCal key
  if key / 2 ^ 24 / 4096 = 0x01 then
    (if key % 2 ^ 24 = 0 then BitVec.ofNat 32 (v.toNat % 513) else v &&& 0x007F3FFF)
  else v

/-- A table word's value before anything is written (R163, R195, R224, R330, R536). -/
def tableDefault (key : Nat) : Word :=
  let off := key % 2 ^ 24
  let head0 := key / 2 ^ 24 % 4096 == 0
  match key / 2 ^ 24 / 4096 with
  | 0x01 => if head0 then factoryWord key else 0
  | 0x02 => if head0 then factoryWord key else 0
  | 0x03 => if head0 then factoryWord key else BitVec.ofNat 32 0x40004000
  | 0x04 => BitVec.ofNat 32 (bankDefault off)
  | 0x05 => BitVec.ofNat 32 (bankDefault off)
  | 0x06 => BitVec.ofNat 32 ([0, 1, 2, 3].foldl (fun w j => w + toneDefault (4 * (off % 4096) + j) * 2 ^ (8 * j)) 0)
  | 0x0F => let c := compandDefault off; BitVec.ofNat 32 (c.2 + 2 ^ 16 * c.1)
  | 0x10 => BitVec.ofNat 32 (0x7000 + 2 * off + 2 ^ 16 * (0x7001 + 2 * off))
  | _ => 0

/-- The bits of a table word that are not RSV (R163, R181, R208, R244, R295, R296, R323, R400); an RSV bit stores nothing (R7). -/
def tableBits (id off : Nat) : Word :=
  BitVec.ofNat 32 (match id with
    | 0x01 => if off = 0 then 0x1FFF else 0x007F3FFF
    | 0x04 | 0x05 => if off < 7 then 0x3F3F else if off = 7 then 0 else 0xFFFFFFFF
    | 0x09 => if off < 128 then 0x3FFFF else if off % 2 = 1 then 0xFF03FFFF else 0xFFFFFFFF
    | 0x0A => 0xFFFF0307
    | 0x0B => if off % 4 = 0 then 0xE0FFFFFF else 0xFFFFFFFF
    | 0x0C => [0xC0FFFFFF, 0x000FFFFF, 0xFFFFFFFF].getD (off % 4) 0x03FF3F3F
    | 0x0E => if off = 0 then 0x3F else if off % 2 = 1 then 0x00FFFFFF else 0x0000FFFF
    | 0x0F => 0x0FFF0FFF
    | _ => 0xFFFFFFFF)

/-- Words of a table from `off` on, without RSV bits. -/
def tableWords (id off : Nat) (ws : List Word) : List Word := ws.zipIdx.map (fun p => p.1 &&& tableBits id (off + p.2))

/-- R295: what a leaf's two words hold: in word 128 + 2n bits [15:4], in word 129 + 2n bits [30:0] are RSV. `pair` is word 129 + 2n. -/
def leafBits (off : Nat) (pair : Word) : Word :=
  if off < 128 || !pair.getLsbD 31 then 0xFFFFFFFF else if off % 2 = 0 then 0xFFFF000F else 0x80000000

/-- A word of a table under a generation. -/
def Conf.table (c : Conf) (id inst off : Nat) : Nat := (Store.get tableDefault c.tables (tableKey id inst off)).toNat

end Sys2Proof.Machine
end

