-- ==== Sys2Proof/Machine/Flags.lean ====
section
/-!
DEFINITION. Event flags and what follows from them (R490 to R507): CAUSE, rate limits, records, the event ring, the log
(R449, R450), MSI-X conditions (R38, R495), and the placing of archive records, event copies among them (R402 to R412).
-/

namespace Sys2Proof.Machine

/-! MSI-X vectors. -/

/-- What an unlisted word of the MSI-X table reads as: Vector Control bit 0, the mask, is set (MSI-X specification). -/
def msixDefault (k : Nat) : Word := if k % 4 = 3 then 1 else 0

/-- What an unlisted ROUTE register reads as: LOG_EN alone (R506). -/
def routeDefault (_ : Nat) : Word := 2

/-- The ROUTE register of a source (R494). -/
def Dev.route (d : Dev) (s : Nat) : Word := Store.get routeDefault d.ev.route s

/-- CAUSE AND NOT MASK (R495). -/
def Dev.evPending (d : Dev) : BitVec 1024 := d.ev.cause &&& ~~~d.ev.mask

/-- R537: the term of a completion queue in the condition of its vector. -/
def Cq.term (c : Cq) : Bool := c.ready && c.irqEn && c.tail != c.head

/-- R495: the pending condition of every vector: its completion queues, and its routed sources. -/
def Dev.conditions (d : Dev) : BitVec 64 :=
  let fromCqs := d.chan.cqs.toList.foldl (fun m c => if c.term then m ||| (1 <<< c.vector) else m) 0
  let fromEvs := d.ev.route.foldl (fun m r =>
    if r.2.getLsbD 31 && d.evPending.getLsbD r.1 then m ||| (1 <<< ((r.2.toNat >>> 24) % 64)) else m) 0
  BitVec.ofNat 64 (fromCqs ||| fromEvs)

/-- A vector is masked by its table entry or by the function, or messages are off or cannot leave (R38). -/
def Dev.vecMasked (d : Dev) (v : Nat) : Bool :=
  (Store.get msixDefault d.host.msixTable (4 * v + 3)).getLsbD 0 || d.host.functionMask || !d.host.msixEnable
    || d.host.inReset

/-- The message of a vector. -/
def Dev.sendMsix (d : Dev) (v : Nat) : Dev :=
  let t := fun i => (Store.get msixDefault d.host.msixTable (4 * v + i)).toNat
  d.send (.msix v (t 0 + 2 ^ 32 * t 1) (t 2))

/-- R38: a rising edge of a vector's condition sends one message, or sets its pending bit while it is masked. -/
def Dev.vecEdge (d : Dev) (v : Nat) : Dev :=
  if d.vecMasked v then { d with host := { d.host with pba := d.host.pba ||| BitVec.ofNat 64 (1 <<< v) } }
  else d.sendMsix v

/-- R38, R495: the conditions evaluated again. A vector of `again` whose condition still reads 1 counts as a new rising
edge; a condition that falls takes its pending bit with it. -/
def Dev.evalVectors (d : Dev) (again : List Nat) : Dev :=
  let now := d.conditions
  let was := d.host.vecCond
  let d := { d with host := { d.host with vecCond := now, pba := d.host.pba &&& now } }
  if now == was && again.isEmpty then d
  else ((List.range 64).filter (fun v => now.getLsbD v && (!was.getLsbD v || again.contains v))).foldl Dev.vecEdge d

/-! Archive windows. -/

/-- The first byte count that the host has not consumed and that is still valid (R405). -/
def Win.rpe (w : Win) : Nat := max w.rp w.tail

/-- The end of what has been placed. -/
def Win.placeEnd (w : Win) : Nat := (w.placed.map (·.len)).foldl (· + ·) w.wp

/-- R406: the bytes of pad before a record of `len` bytes. (DESIGN CHOICE, log 22) -/
def Win.padFor (w : Win) (len : Nat) : Nat :=
  let p := w.placeEnd % w.size
  if p + len > w.size then w.size - p else 0

/-- R405: the free space. -/
def Win.free (w : Win) : Nat := w.size - (w.placeEnd - w.rpe)

/-- R409: whole records reclaimed from RPE on, oldest first, until `need` bytes are free; none where that is not enough.
Answers TAIL and how many records went. (DEDUCED, log 38) -/
def reclaim (limit size placeEnd need : Nat) : List (Nat × Nat) → Nat → Nat → Option (Nat × Nat)
  | [], tail, n => if need ≤ size - (placeEnd - tail) then some (tail, n) else none
  | (s, l) :: rest, tail, n =>
    if need ≤ size - (placeEnd - tail) then some (tail, n)
    else if s + l ≤ limit then reclaim limit size placeEnd need rest (s + l) (n + 1)
    else none

/-- How a record came into a window. -/
inductive PlaceResult where
  | placed (w : Win)
  | overwrote (w : Win)
  | dropped (w : Win)
  deriving DecidableEq, Repr

/-- R406, R409: a record of these bytes is placed in a window, by its policy, or dropped. -/
def Win.place (w : Win) (bytes : List Byte) : PlaceResult :=
  let len := bytes.length
  let pad := w.padFor len
  let put := fun (w : Win) =>
    let pads : List Placed :=
      if pad = 0 then [] else [⟨w.placeEnd, pad, BitVec.ofNat 8 0x50 :: (leBytes 3 0 ++ leBytes 4 pad), true⟩]
    { w with placed := w.placed ++ pads ++ [⟨w.placeEnd + pad, len, bytes, false⟩] }
  let drop : PlaceResult := .dropped { w with drops := sat32 (w.drops + 1), dropped := true }
  if w.size / 2 < len then drop
  else if pad + len ≤ w.free then .placed (put w)
  else if w.overwrite then
    let old := w.live.filter (fun r => decide (w.rpe < r.1 + r.2))
    match reclaim (if w.retainEn && decide (w.rpe ≤ w.ret) then w.ret else w.wp) w.size w.placeEnd (pad + len) old w.rpe 0 with
    | some (tail, n) =>
      .overwrote (put { w with
        tail := tail, live := w.live.filter (fun r => tail ≤ r.1), overwrites := sat32 (w.overwrites + n),
        overwritten := true })
    | none => drop
  else drop

/-- The offset of REC_CRC in a record of a TYPE (R410). -/
def recCrcOffset (type : Nat) : Nat :=
  match type with
  | 0x41 => 0x1C | 0x43 => 0x3C | 0x45 => 0x0C | 0x46 => 0x3C | 0x4E => 0x1C | 0x4F => 0x7C | 0x52 => 0x3C
  | 0x53 => 0x3C | 0x54 => 0x24 | _ => 0x1C

/-- The byte and bit of INJECTED in a record of a TYPE, where its layout has the flag (R422). -/
def recInjected (type : Nat) : Option (Nat × Nat) :=
  match type with
  | 0x41 => some (0x26, 5) | 0x43 => some (0x02, 1) | 0x46 => some (0x02, 3) | 0x4F => some (0x29, 1)
  | 0x52 => some (0x02, 1) | 0x53 => some (0x04, 0) | 0x54 => some (0x03, 2) | 0x56 => some (0x02, 2)
  | _ => none

/-- A record with INJECTED set, its check made again. -/
def markInjected (bs : List Byte) : List Byte :=
  let t := leAt bs 0 1
  match recInjected t with
  | none => bs
  | some (o, b) => sealAt (recCrcOffset t) (bs.take o ++ leBytes 1 (leAt bs o 1 ||| (1 <<< b)) ++ bs.drop (o + 1))

/-- One occurrence of a source (R491): its instance, its record's DATA, whether a rate limit applies, whether it was
injected, and whether it set a stopping cause. -/
structure Occ where
  source : Nat
  inst : Nat := 0xFF
  data : List (Nat × Nat) := []
  limited : Bool := false
  inj : Bool := false
  stopping : Bool := false
  /-- What the rate limit is kept by, where an owner limits by instance. -/
  key : Nat := 0
  deriving DecidableEq, Repr

def Dev.win (d : Dev) (w : Nat) : Win := d.arch.wins[w % 64]

def Dev.setWin (d : Dev) (w : Nat) (x : Win) : Dev :=
  { d with arch := { d.arch with wins := d.arch.wins.set (w % 64) x (Nat.mod_lt _ (by decide)) } }

/-- R404, R475: the window takes records: it is attached and ARCH is on. -/
def Dev.winOpen (d : Dev) (w : Nat) : Bool := (d.win w).attached && d.domainOn 14

/-- R46: a record for a window that a host-link reset detached is counted. -/
def Dev.lostRecord (d : Dev) (w : Nat) : Dev :=
  if d.host.downWindows.getLsbD (w % 64) then
    { d with host := { d.host with dropLinkdown := sat32 (d.host.dropLinkdown + 1) } }
  else d

/-- R44: a drop for want of budget. -/
def Dev.lostBudget (d : Dev) : Dev := { d with host := { d.host with dropBudget := sat32 (d.host.dropBudget + 1) } }

/-- The index of a class's bucket in R44. -/
def ArchClass.bucket : ArchClass → Nat
  | .object | .stats | .evcopy | .snap => 0
  | .forecast => 1
  | .view => 2
  | .chip => 3
  | .tap => 4

def Dev.tokens (d : Dev) (c : ArchClass) : Int := d.host.tokens[c.bucket]'(by cases c <;> decide)

/-- R44: the bucket of a class lets a record of `n` bytes leave. One longer than a bucket is let go by a full one.
(DESIGN CHOICE, log 116) -/
def Dev.affords (d : Dev) (c : ArchClass) (n : Nat) : Bool := decide ((min n 65536 : Nat) ≤ d.tokens c)

/-- R44: the bytes of a record charged to its class. -/
def Dev.charge (d : Dev) (c : ArchClass) (n : Nat) : Dev :=
  { d with host := { d.host with
      tokens := d.host.tokens.set c.bucket (d.tokens c - n) (by cases c <;> decide) } }

/-- R406 to R409, R421, R422: a record is placed in its window, with the events that follow. Answers whether it was. -/
def Dev.placeRecord (raise : Occ → Dev → Dev) (w : Nat) (bytes : List Byte) (d : Dev) : Dev × Bool :=
  if !d.winOpen w then (d.lostRecord w, false)
  else
    let x := d.win w
    let note := fun (d : Dev) => if leAt bytes 0 1 = 0x4E then d.count Reg.SNAPS else d
    let bytes := if x.poisonNext then poisonAt (recCrcOffset (leAt bytes 0 1)) (markInjected bytes) else bytes
    match x.place bytes with
    | .dropped y => (raise { source := 512, inst := w, key := w, data := [(1, w)], limited := true }
        ((d.setWin w y).orBits Reg.RING_EVENT 1), false)
    | .placed y =>
      let d := note (d.setWin w { y with poisonNext := false })
      (if x.poisonNext then (d.count Reg.POISONED).orBits Reg.POISON 1 else d, true)
    | .overwrote y =>
      let d := note ((d.setWin w { y with poisonNext := false }).orBits Reg.RING_EVENT 1)
      let d := raise { source := 513, inst := w, key := w, data := [(1, w), (8, y.tail)], limited := true } d
      (if x.poisonNext then (d.count Reg.POISONED).orBits Reg.POISON 1 else d, true)

/-- R44, R409: a priority-1 record that finds 16,384 waiting: where its window overwrites and records of it wait, the oldest of
those gives way, and the new one is dropped otherwise. (DESIGN CHOICE, log 117) -/
def Dev.overQueue (raise : Occ → Dev → Dev) (c : ArchClass) (w : Nat) (bytes : List Byte) (d : Dev) : Dev :=
  let x := d.win w
  let oldest := d.arch.queue.findIdx (fun r => r.1 == w)
  if x.overwrite && decide (oldest < d.arch.queue.length) then
    let d := (d.setWin w { x with overwrites := sat32 (x.overwrites + 1), overwritten := true }).lostBudget.orBits Reg.RING_EVENT 1
    raise { source := 513, inst := w, key := w, data := [(1, w), (8, x.tail)], limited := true }
      { d with arch := { d.arch with queue := d.arch.queue.eraseIdx oldest ++ [(w, ⟨c, bytes⟩)] } }
  else
    raise { source := 512, inst := w, key := w, data := [(1, w)], limited := true }
      ((d.setWin w { x with drops := sat32 (x.drops + 1), dropped := true }).lostBudget.orBits Reg.RING_EVENT 1)

/-- R44: a priority-1 record (object, statistics, event copy, snapshot) leaves at once while its tokens last, waits on
chip otherwise, and falls to its window's policy once 16,384 wait. -/
def Dev.submit (raise : Occ → Dev → Dev) (c : ArchClass) (w : Nat) (bytes : List Byte) (d : Dev) : Dev :=
  if !d.winOpen w then d.lostRecord w
  else if d.arch.queue.isEmpty && d.affords c bytes.length then
    (d.charge c bytes.length |>.placeRecord raise w bytes).1
  else if d.arch.queue.length < 16384 then
    { d with arch := { d.arch with queue := d.arch.queue ++ [(w, ⟨c, bytes⟩)] } }
  else d.overQueue raise c w bytes

/-! Event records. -/

/-- R499: items of 1, 2, 4 or 8 bytes, each aligned to its own size. -/
def packAligned (items : List (Nat × Nat)) : List Byte :=
  items.foldl (fun (acc : List Byte) (it : Nat × Nat) => padTo it.1 acc ++ leBytes it.1 it.2) []

/-- R499: the 64 bytes of an event record; FLAGS [15] is the phase in the ring and 0 in every other copy. -/
def EvRec.bytes (r : EvRec) (phase : Bool) : List Byte :=
  let flags := b2n r.inj + 2 * b2n r.det + 4 * b2n r.stopping + 8 * b2n r.replay
  let data := (packAligned r.data ++ List.replicate 28 0).take 28
  let body := pack [(2, r.source), (2, flags), (4, sat32 r.count), (4, r.seq), (1, r.state), (1, r.inst), (2, r.gen),
    (8, r.tb), (4, r.line), (4, 0)] ++ data ++ leBytes 4 0
  let done := sealAt 0x3C body
  if phase then done.take 3 ++ leBytes 1 (leAt done 3 1 + 128) ++ done.drop 4 else done

/-- R449: an entry is held in the log buffer; one that finds it full is lost (R450). The Barometer's own entries and
routed events both come this way. -/
def Dev.holdLog (raise : Occ → Dev → Dev) (kind flags source code data : Nat) (d : Dev) : Dev :=
  if 1024 ≤ d.baro.logHeld.length then
    let d := d.count Reg.LOG_LOST
    if source = 548 then d else raise { source := 548 } (d.orBits Reg.LOG_LOSS 1)
  else
    let seq := d.get Reg.LOG_NEXT
    let e : LogEntry := ⟨seq, d.get Reg.BOOT_COUNT % 2 ^ 16, kind, flags, d.tb, source, code, data % 2 ^ 64, d.clk.bus⟩
    let d := { d with baro := { d.baro with logHeld := e :: d.baro.logHeld } }
    (d.put Reg.LOG_NEXT (seq + 1)).put Reg.LOG_PENDING d.baro.logHeld.length

/-- R498: the free entries of the event ring that the unit may use. -/
def EventS.ringFree (e : EventS) : Nat := (e.ringHead + e.ringSize + 1 - e.ringTail - 1) % (e.ringSize + 1)

/-- A record into the ring at its tail (R497). -/
def Dev.ringWrite (d : Dev) (r : EvRec) : Dev :=
  let e := d.ev
  let wrap := e.ringTail = e.ringSize
  { (d.send (.event e.ringTail (r.bytes e.ringPhase))) with
    ev := { e with ringTail := if wrap then 0 else e.ringTail + 1, ringPhase := if wrap then !e.ringPhase else e.ringPhase,
                   unrung := e.unrung.map (fun u => if u.source = r.source then { u with count := 0 } else u) } }

/-- R494, R497, R498: the ring route of a record. The EVR_OVERFLOW of a loss goes into the last free entry whatever its own route says;
an injected one is a record like any other (R505). -/
def Dev.toRing (raise : Occ → Dev → Dev) (r : EvRec) (d : Dev) : Dev :=
  let own := r.source == 34 && r.det
  if !d.ev.ringReady || d.ev.mask.getLsbD r.source then d
  else if !own && !(d.route r.source).getLsbD 0 then d
  else if (if own then 1 else 2) ≤ d.ev.ringFree then d.ringWrite r
  else
    let d := { d with ev := { d.ev with ringLost := sat32 (d.ev.ringLost + 1) } }
    if d.ev.cause.getLsbD 34 then d
    else raise { source := 34, data := [(2, r.source)] } (d.orBits Reg.EVR_OVERFLOW 1)

/-- R449, R494: the log route of a record; routed events beyond 64 in a second are suppressed. -/
def Dev.toLog (raise : Occ → Dev → Dev) (r : EvRec) (d : Dev) : Dev :=
  if !(d.route r.source).getLsbD 1 then d
  else
    let sec := d.tb / 200000000
    let n := if d.baro.logSecond = sec then d.baro.logInSecond else 0
    if 64 ≤ n then d.count Reg.LOG_SUPPRESSED
    else
      let d := { d with baro := { d.baro with logSecond := sec, logInSecond := n + 1 } }
      let dat := (packAligned r.data ++ List.replicate 8 0).take 8
      d.holdLog raise 0 (b2n r.inj) r.source (r.inst + 256 * b2n r.inj + 512 * b2n r.det) (leNat dat)

/-- R412, R494: the copy route of a record. (DEDUCED, log 37) -/
def Dev.toCopy (raise : Occ → Dev → Dev) (r : EvRec) (d : Dev) : Dev :=
  if !((d.route r.source).getLsbD 2 && d.flag Reg.EVCOPY_EN) then d
  else
    let seq := d.arch.copySeq
    let d := { d with arch := { d.arch with copySeq := (seq + 1) % 2 ^ 32 } }
    let bytes := sealAt 0x0C (pack [(1, 0x45), (1, 0), (2, 80), (4, seq), (4, 0), (4, 0)] ++ r.bytes false)
    d.submit raise .evcopy (d.get Reg.EVCOPY_WINDOW) bytes

/-- R491, R492: an occurrence sets CAUSE and is counted; the record it produces, if its rate limit lets it. -/
def Dev.occur (o : Occ) (d : Dev) : Dev × Option EvRec :=
  let bit : BitVec 1024 := BitVec.ofNat 1024 (1 <<< o.source)
  let here : EvRec := ⟨o.source, o.inst % 256, o.inj, !o.inj, o.stopping, false, 1, 0, d.st.code, d.conf.gen, d.tb,
    d.lineNow, o.data⟩
  let merged := (d.ev.merges.find? (fun m => m.source == o.source && m.inst == o.key)).getD ⟨o.source, o.key, none, 0, none⟩
  let others := d.ev.merges.filter (fun m => !(m.source == o.source && m.inst == o.key))
  let first := match merged.first with
    | none => here
    | some f => { f with inj := f.inj || o.inj, det := f.det || !o.inj, stopping := f.stopping || o.stopping }
  let owed : Option Unrung := (d.ev.unrung.find? (fun u => u.source == o.source)).filter (fun u => u.count != 0)
  let latest := match owed with
    | none => here
    | some u => { here with inj := here.inj || u.latest.inj, det := here.det || u.latest.det }
  let ev := { d.ev with
    cause := d.ev.cause ||| bit
    injCause := if o.inj then d.ev.injCause ||| bit else d.ev.injCause
    unrung := ⟨o.source, (owed.map Unrung.count).getD 0 + 1, latest⟩ :: d.ev.unrung.filter (fun u => u.source ≠ o.source) }
  if o.limited && merged.last == some d.interval then
    ({ d with ev := { ev with merges := { merged with count := merged.count + 1, first := some first } :: others,
                              lastSeq := none } }, none)
  else
    let r := { first with count := merged.count + 1, seq := ev.seq }
    ({ d with ev := { ev with
        merges := if o.limited then ⟨o.source, o.key, some d.interval, 0, none⟩ :: others else others
        seq := (ev.seq + 1) % 2 ^ 32, lastSeq := some ev.seq } }, some r)

/-- R491: one occurrence and everything that follows from it, the events of its own deliveries included. The number
bounds how deep those may nest; each source is limited, so the bound is never met. (DESIGN CHOICE, log 104) -/
def raiseDeep : Nat → Occ → Dev → Dev
  | 0, _, d => d
  | n + 1, o, d =>
    match d.occur o with
    | (d, none) => d.evalVectors []
    | (d, some r) =>
      let seq := d.ev.lastSeq
      let d := ((d.toRing (raiseDeep n) r).toLog (raiseDeep n) r).toCopy (raiseDeep n) r
      ({ d with ev := { d.ev with lastSeq := seq } }).evalVectors []

/-- R491: one occurrence of a source. -/
def Dev.raise (d : Dev) (o : Occ) : Dev := raiseDeep 8 o d

/-- R449: an entry of the Barometer's own in the log. -/
def Dev.log (d : Dev) (kind source code data : Nat) (flags : Nat := 0) : Dev :=
  d.holdLog (raiseDeep 8) kind flags source code data

/-- An entry whose DATA the spec does not give: a free value. -/
def Dev.logOpen (d : Dev) (kind source code : Nat) : Dev :=
  let (d, n) := d.takeFree
  d.log kind source code (Config.freeValue n)

/-- A priority-1 record to its window (R44, R404). -/
def Dev.archive (d : Dev) (c : ArchClass) (w : Nat) (bytes : List Byte) : Dev := d.submit (raiseDeep 8) c w bytes

/-- R505: the unit's state changes; source or opcode `why` caused it, an injection or not. No change, no event.
(DEDUCED, log 71) -/
def Dev.enter (d : Dev) (new : UState) (why : Nat) (inj : Bool := false) : Dev :=
  if d.st = new then d
  else
    let old := d.st
    ({ d with st := new }).raise { source := 6, data := [(1, old.code), (1, new.code), (2, why)], inj := inj }

end Sys2Proof.Machine
end

