-- ==== Sys2Proof/Machine/Operands.lean ====
section
/-!
DEFINITION. The operand forms of a command: the fields of a submission entry (R54), the order of its checks (R55), its
dispatch (R59), and its completion (R53, R56, R57).
-/

namespace Sys2Proof

open Sys2Proof.Machine

/-! Fields of an entry. -/

/-- `n` inline bytes from entry byte `off` (12 to 47), little-endian. -/
def Entry.inl (e : Entry) (off n : Nat) : Nat := leAt e.inline.toList (off - 12) n

/-- Bits `hi` to `lo` of the SELECTOR. -/
def Entry.sel (e : Entry) (hi lo : Nat) : Nat := (e.selector.toNat >>> lo) % 2 ^ (hi + 1 - lo)

/-- The data buffer: BUF_LEN bytes of host memory. (DESIGN CHOICE, log 107) -/
def Entry.data (e : Entry) : List Byte := (e.buf ++ List.replicate (e.bufLen.toNat - e.buf.length) 0).take e.bufLen.toNat

/-- Bytes 0 to 59 of the entry, with its opcode (R54). -/
def Entry.bytes (e : Entry) (opcode : Nat) : List Byte :=
  leBytes 2 opcode ++ leBytes 2 (e.tag.toNat + 2 ^ 12 * e.rsv.toNat + 2 ^ 15 * b2n e.fence)
    ++ leBytes 2 e.selector.toNat ++ leBytes 2 e.unit.toNat ++ leBytes 4 e.address.toNat ++ e.inline.toList
    ++ leBytes 8 e.bufAddr.toNat ++ leBytes 4 e.bufLen.toNat

/-- ENTRY_CRC matches (R54). -/
def Entry.crcGood (e : Entry) (opcode : Nat) : Bool := crc32c (e.bytes opcode) == e.crc.toNat

end Sys2Proof

namespace Sys2Proof.Machine

/-- BAD_PARAM at a byte of the entry (R65). -/
def badParam (detail : Nat) : Reply := { status := .badParam, detail := detail }

/-- An opcode as R66 and its own chapter list it: path, legal states, and the entry fields it uses. A field it does
not use is reserved and must be 0 (R9, R54). -/
structure Form where
  code : Nat
  managed : Bool
  states : List UState
  sel : Nat := 0
  addr : Bool := false
  /-- Inline bytes in use and the bits of each, by entry offset. -/
  inl : List (Nat × Nat) := []
  buf : Bool := false
  long : Bool := false
  deriving DecidableEq, Repr

/-- Inline bytes `lo` to `hi` in full. -/
def inlBytes (lo hi : Nat) : List (Nat × Nat) := (List.range (hi + 1 - lo)).map (fun i => (lo + i, 0xFF))

def stAll : List UState := [.boot, .restricted, .idle, .armed, .sorting, .hold, .fault]
def stRIASHF : List UState := [.restricted, .idle, .armed, .sorting, .hold, .fault]
def stIASHF : List UState := [.idle, .armed, .sorting, .hold, .fault]
def stIASH : List UState := [.idle, .armed, .sorting, .hold]
def stIAHF : List UState := [.idle, .armed, .hold, .fault]
def stASH : List UState := [.armed, .sorting, .hold]

/-- The opcodes of R66. -/
def opcodes : List Nat :=
  [0x0100, 0x0101, 0x0102, 0x0103, 0x0104, 0x0105, 0x0106, 0x0107, 0x0201, 0x0202, 0x0203, 0x0204, 0x0205, 0x0206,
    0x0207, 0x0301, 0x0302, 0x0303, 0x0401, 0x0402, 0x0403, 0x0404, 0x0501, 0x0502, 0x0601, 0x0602, 0x0701, 0x0702,
    0x0703] ++
  [0x0801, 0x0802, 0x0803, 0x0804, 0x0805, 0x0901, 0x0902, 0x0A01, 0x0A02, 0x0A03, 0x0B01, 0x0B02, 0x0B03, 0x0B04,
    0x0C01, 0x0C02, 0x0C03, 0x0D01, 0x0D02, 0x0D03, 0x0D04, 0x0D05, 0x0E01, 0x0E02]

/-- R59: what RECIPE_LOAD holds back with BUSY, detail 03h: the opcodes named there. Every other command that writes flash
is a long operation. -/
def heldByRecipe : List Nat :=
  [0x0202, 0x0203, 0x0204, 0x0205, 0x0207, 0x0102, 0x0301, 0x0801, 0x0802, 0x0803, 0x0805, 0x0901, 0x0B01, 0x0B02,
    0x0B03, 0x0D01]

/-! Queues. -/

def Dev.sq (d : Dev) (q : Nat) : Sq := d.chan.sqs[q % 64]
def Dev.cq (d : Dev) (q : Nat) : Cq := d.chan.cqs[q % 64]

def Dev.setSq (d : Dev) (q : Nat) (x : Sq) : Dev :=
  { d with chan := { d.chan with sqs := d.chan.sqs.set (q % 64) x (Nat.mod_lt _ (by decide)) } }

def Dev.setCq (d : Dev) (q : Nat) (x : Cq) : Dev :=
  { d with chan := { d.chan with cqs := d.chan.cqs.set (q % 64) x (Nat.mod_lt _ (by decide)) } }

/-- R49: the completion queue an SQ completes into; SQ0 always completes into CQ0. -/
def Dev.cqOf (d : Dev) (q : Nat) : Nat := if q % 64 = 0 then 0 else (d.sq q).cqid

/-- R56: the tags of outstanding commands: those still at work, those whose completion waits for its queue,
and those with FENCE that wait. -/
def Dev.tagsOut (d : Dev) : List Nat :=
  (d.chan.outst.filter (fun o => o.sq < 64)).map (·.tag) ++ d.chan.cqs.toList.flatMap (fun c => c.waiting.map (·.tag)) ++
    d.chan.sqs.toList.filterMap (fun s => s.fenced.map (fun x => x.entry.tag.toNat))

/-- R62: a command fetched earlier from this queue has not completed. (DEDUCED, log 42) -/
def Dev.busySq (d : Dev) (q : Nat) : Bool :=
  d.chan.outst.any (fun o => o.sq == q) || d.chan.cqs.toList.any (fun c => c.waiting.any (fun w => w.sq == q))

/-- R52, R53, R62: an entry of this queue can be fetched. -/
def Dev.canFetch (d : Dev) (q : Nat) : Bool :=
  let s := d.sq q
  s.ready && s.head != s.tail && decide ((d.cq (d.cqOf q)).waiting.length < 64) && s.fenced.isNone

/-- R52: SQ0 holds unfetched entries and no FENCE keeps it from them (R62 delays no other queue). -/
def Dev.sq0Holds (d : Dev) : Bool := (d.sq 0).ready && (d.sq 0).head != (d.sq 0).tail && (d.sq 0).fenced.isNone

/-- R52: the queue that is fetched from next. SQ0 first, and none while it holds unfetched entries but cannot be fetched; then the
queue whose turn it is, then the next in number. -/
def Dev.nextSq (d : Dev) : Option Nat :=
  if d.canFetch 0 then some 0
  else if d.sq0Holds then none
  else if decide (0 < d.chan.turnLeft) && d.chan.turn != 0 && d.canFetch d.chan.turn then some d.chan.turn
  else ((List.range 64).map (fun i => (d.chan.turn + 1 + i) % 64)).find? (fun q => q != 0 && d.canFetch q)

/-- R35: reads of consecutive bytes from an address, each at most Max Read Request Size and within 4 KiB (PCI Express Base
Specification); `n` bounds how many. -/
def readRequests (size : Nat) : Nat → Nat → Nat → List (Nat × Nat)
  | 0, _, _ => []
  | n + 1, addr, len =>
    if len = 0 then []
    else
      let k := min len (min size (4096 - addr % 4096))
      (addr, k) :: readRequests size n (addr + k) (len - k)

/-- R35: how many non-posted requests may stand outstanding at once. -/
def Dev.maxRequests (d : Dev) : Nat := if d.host.tags10 then 768 else if d.host.tagsExt then 256 else 32

/-- Lists of at most `k` entries; `n` bounds how many lists. -/
def batches {α : Type} (k : Nat) : Nat → List α → List (List α)
  | 0, _ => []
  | n + 1, l => if l.isEmpty then [] else l.take k :: batches k n (l.drop k)

/-- R35: the unit reads host memory: no more requests at a time than it may have outstanding. -/
def Dev.readHost (d : Dev) (addr len : Nat) : Dev :=
  let rs := readRequests d.host.maxReadRequest len addr len
  (batches d.maxRequests rs.length rs).foldl (fun d b => d.send (.requests b)) d

/-- R52: an entry is fetched; the queue's head moves past it. -/
def Dev.fetched (d : Dev) (q : Nat) : Dev :=
  let s := d.sq q
  let d := d.readHost (s.baseLo + 2 ^ 32 * s.baseHi + 64 * s.head) 64
  let d := d.setSq q { s with head := if s.head = s.size then 0 else s.head + 1 }
  if q = 0 then d
  else d.setChan (fun c =>
    if c.turn = q && decide (0 < c.turnLeft) then { c with turnLeft := c.turnLeft - 1 }
    else { c with turn := q, turnLeft := 7 })

/-- R53: the queue is full. -/
def Cq.full (c : Cq) : Bool := (c.tail + 1) % (c.size + 1) == c.head

/-- R53, R57: a completion entry written at the tail; the vector's condition follows (R537). -/
def Dev.writeCpl (d : Dev) (q : Nat) (x : Cpl) : Dev :=
  let c := d.cq q
  let d := d.send (.cqe q c.tail x (d.sq x.sq).head c.phase)
  let wrap := c.tail = c.size
  (d.setCq q { c with tail := if wrap then 0 else c.tail + 1, phase := if wrap then !c.phase else c.phase }).evalVectors []

/-- R53, R56: a command completes. The completion goes out, or waits for its queue, or goes nowhere once a host-link
reset has deleted the queue (R45). -/
def Dev.complete (d : Dev) (x : Cpl) (cq : Nat) : Dev :=
  let d := if x.status = .ok then d else d.count Reg.REJECTS
  let d := if x.status = .checkFail && x.detail = 1 then d.count Reg.ENTRY_CHECK_FAILS else d
  let c := d.cq cq
  if !c.ready then d
  else if c.waiting.isEmpty && !c.full then d.writeCpl cq x
  else
    let d' := d.setCq cq { c with waiting := c.waiting ++ [x] }
    if c.waiting.isEmpty then
      (d'.orBits Reg.CQ_STALL 1).raise { source := 5, data := [(1, cq)] }
    else d'

/-- The RESULT of a completion: on WRONG_STATE the state in effect (R57). -/
def Dev.resultOf (d : Dev) (r : Reply) : Nat := if r.status = .wrongState then d.st.code else r.result

/-- R40: writes of consecutive bytes from an address, each at most Max Payload Size and within 4 KiB; `n` bounds how many. -/
def writePieces (size : Nat) : Nat → Nat → List Byte → List (Nat × List Byte)
  | 0, _, _ => []
  | n + 1, addr, bs =>
    if bs.isEmpty then []
    else
      let k := min size (4096 - addr % 4096)
      (addr, bs.take k) :: writePieces size n (addr + k) (bs.drop k)

/-- R40, R58: bytes of a result buffer go out. -/
def Dev.writeBuffer (d : Dev) (addr : Nat) (bytes : List Byte) : Dev :=
  (writePieces d.host.maxPayload bytes.length addr bytes).foldl (fun d p => d.send (.buffer p.1 p.2)) d

/-- R56: a fetched entry that R55 turns away completes into its queue's CQ; a tag that it shares with an outstanding command
says nothing of that command. -/
def Dev.turnAway (d : Dev) (sq tag op : Nat) (r : Reply) : Dev :=
  d.complete ⟨sq, tag, r.status, r.detail, d.resultOf r % 2 ^ 64, op⟩ (d.cqOf sq)

/-- A reply to the command of a tag, managed opcode `op` or 0: its buffer is written first (R58), then its completion. -/
def Dev.answer (d : Dev) (sq tag addr op : Nat) (r : Reply) : Dev :=
  let d := d.writeBuffer addr r.out
  let cq := ((d.chan.moved.find? (fun m => m.1 == tag)).map (·.2)).getD (d.cqOf sq)
  let d := d.setChan (fun c => { c with moved := c.moved.filter (fun m => m.1 != tag) })
  d.complete ⟨sq, tag, r.status, r.detail, d.resultOf r % 2 ^ 64, op⟩ cq

/-- The long operation that runs (R59). -/
def Dev.longOp (d : Dev) : Option Outst := d.chan.outst.find? (·.long)

/-- The queue number that stands for the Barometer's own commands, which no completion queue receives (R447). -/
def ownSq : Nat := 64

/-- The queue number that stands for a queue that a host-link reset deleted while a managed command ran (R45). -/
def lostSq : Nat := 65

/-- An outstanding command, a managed one, completes later than it was dispatched; while a debugger holds the Barometer its reply is
kept (R427). A command of AUTOSTART's own goes to the log (R447), and so
does one whose queue a host-link reset deleted (R45). -/
def Dev.finish (d : Dev) (o : Outst) (r : Reply) : Dev :=
  match d.chan.outst.find? (fun x => x.tag == o.tag && x.opcode == o.opcode && (x.sq == o.sq || x.sq == lostSq)) with
  | none => d
  | some x =>
    if d.baro.halted then d.setChan (fun c => { c with late := c.late ++ [(x, r)] })
    else
    let d := d.setChan (fun c => { c with outst := c.outst.erase x })
    if x.sq = ownSq then
      ({ d with baro := { d.baro with autoReply := some (r.status.code + 256 * r.detail) } }).logOpen 6 o.opcode
        (r.status.code + 256 * r.detail)
    else if x.sq = lostSq then d.log 1 o.opcode (r.status.code + 256 * r.detail) o.tag
    else d.answer o.sq o.tag 0 o.opcode r

/-- The running long operation of an opcode ends with a reply; without one nothing ends. -/
def Dev.finishLong (d : Dev) (opcode : Nat) (r : Reply) : Dev :=
  match d.longOp with
  | some o => if o.opcode = opcode then d.finish o r else d
  | none => d

/-- The position of the lowest set byte of a word's offending bits. -/
def lowByte (v : Nat) : Nat :=
  if v % 2 ^ 8 ≠ 0 then 0 else if v % 2 ^ 16 ≠ 0 then 1 else if v % 2 ^ 24 ≠ 0 then 2 else 3

/-- R9, R55 step 4: a reserved field of the entry that is not 0, by its byte offset. (DEDUCED, log 40) -/
def Form.reserved (f : Form) (e : Entry) : Option Nat :=
  let sel := e.selector.toNat - (e.selector.toNat &&& f.sel)
  if e.rsv ≠ 0 then some 3
  else if sel ≠ 0 then some (4 + lowByte sel)
  else if !f.addr && e.address ≠ 0 then some (8 + lowByte e.address.toNat)
  else
    match (List.range 36).find? (fun i =>
        let m := ((f.inl.find? (fun p => p.1 == 12 + i)).map (·.2)).getD 0
        let b := e.inl (12 + i) 1
        b - (b &&& m) != 0) with
    | some i => some (12 + i)
    | none =>
      if 16777216 < e.bufLen.toNat then some 0x38
      else if !f.buf && e.bufLen ≠ 0 then some 0x38
      else none

/-- R55 steps 5 to 7, and R59: the reply of a command that fails one of them. A managed command holds its place of the intake
until it begins on the Barometer, a TABLE_WRITE until its last step. (DESIGN CHOICE, log 114) -/
def Dev.refusesNow (d : Dev) (f : Form) : Option Reply :=
  if d.st = .restricted && !f.states.contains .restricted then some { status := .restrictedMode }
  else if !f.states.contains d.st then some { status := .wrongState }
  else if f.managed && decide (256 ≤ d.chan.intake.length + d.chan.writes.length) then some { status := .busy, detail := 1 }
  else none

/-- R55 steps 1 to 7: the reply of a command that fails one of them; none lets it go on. -/
def Dev.refuses (d : Dev) (f : Form) (extra : Entry → Dev → Option Nat) (e : Entry) : Option Reply :=
  if !e.crcGood f.code then some { status := .checkFail, detail := 1 }
  else if d.tagsOut.contains e.tag.toNat then some (badParam 2)
  else if e.unit.toNat ≠ d.get Reg.UNIT_ID then some (badParam 6)
  else match f.reserved e with
  | some o => some (badParam o)
  | none =>
    match extra e d with
    | some o => some (badParam o)
    | none => d.refusesNow f

/-- R59: a command that finds a long operation running. -/
def Dev.longRefuses (d : Dev) (f : Form) : Option Reply :=
  match d.longOp with
  | none => none
  | some o =>
    if f.long then some { status := .busy, detail := 2 }
    else if o.opcode = 0x0106 && heldByRecipe.contains f.code then some { status := .busy, detail := 3 }
    else none

/-- R427, R434: managed commands wait while a debugger holds the Barometer. While it starts up, only IDENTIFY and LOG_READ are
served; a Barometer that stays in the boot ROM serves what R434 lists. -/
def Dev.intakeWaits (d : Dev) (f : Form) : Bool :=
  f.managed && (d.baro.halted || (d.power.starting && !d.baro.inRom && !([0x0101, 0x0D05].contains f.code)))

/-- R58: the unit reads the buffer of this command, where the others write theirs or have none. -/
def readsBuffer (code : Nat) (e : Entry) : Bool :=
  [0x0202, 0x0203, 0x0205, 0x0801, 0x0901, 0x0D01].contains code || (code == 0x0404 && e.inl 12 1 == 0)

/-- The opcode of a form that is managed, 0 of another. -/
def Form.op (f : Form) : Nat := if f.managed then f.code else 0

/-- R58: the buffer of a command is read once it has passed step 7 of R55. -/
def Dev.readBuffer (d : Dev) (f : Form) (e : Entry) : Dev :=
  if f.buf && readsBuffer f.code e then d.readHost e.bufAddr.toNat e.bufLen.toNat else d

/-- R55 step 8: the opcode's own checks and execution, and its completion if it is not still to come. -/
def Dev.execute (d : Dev) (f : Form) (eff : Entry → Dev → Dev × Reply) (e : Entry) : Dev :=
  match d.longRefuses f with
  | some r => d.answer e.sq e.tag.toNat e.bufAddr.toNat f.op r
  | none =>
    let (d, r) := eff e (d.readBuffer f e)
    if r.held then d.setChan (fun c => { c with outst := c.outst ++ [⟨e.sq, e.tag.toNat, f.code, f.long⟩] })
    else d.answer e.sq e.tag.toNat e.bufAddr.toNat f.op r

/-- R59, R61: a command is dispatched. A managed one waits in the intake while the Barometer cannot begin it, or behind another
of its queue that does. -/
def Dev.dispatch (d : Dev) (f : Form) (eff : Entry → Dev → Dev × Reply) (e : Entry) : Dev :=
  if d.intakeWaits f || (f.managed && d.chan.intake.any (fun p => p.2.sq == e.sq)) then
    d.setChan (fun c => { c with intake := c.intake ++ [(f.code, e)],
                                 outst := c.outst ++ [⟨e.sq, e.tag.toNat, f.code, false⟩] })
  else d.execute f eff e

/-- R505 source 4: an entry that fails its check is reported. -/
def Dev.noteEntryCheck (d : Dev) (e : Entry) : Dev :=
  d.raise { source := 4, data := [(1, e.sq), (2, e.tag.toNat)], limited := true }

/-- R55: a fetched entry that fails one of steps 1 to 7 completes with this reply, and one that fails step 1 is reported. -/
def Dev.refused (d : Dev) (op : Nat) (e : Entry) (r : Reply) : Dev :=
  (if r.status = .checkFail then d.noteEntryCheck e else d).turnAway e.sq e.tag.toNat op r

/-- R52, R55, R59, R62: the entry is the next one fetched; it is checked, executed and completed. An entry that is not
the next one changes nothing. One with FENCE waits, fetched and checked, until every earlier command of its queue has
completed. (DESIGN CHOICE, log 108) -/
def Dev.hostCommand (d : Dev) (f : Form) (extra : Entry → Dev → Option Nat) (eff : Entry → Dev → Dev × Reply)
    (e : Entry) : Dev :=
  if d.nextSq ≠ some e.sq.val then d
  else
    let d := d.fetched e.sq
    match d.refuses f extra e with
    | some r => d.refused f.op e r
    | none =>
      if e.fence && d.busySq e.sq then d.setSq e.sq { d.sq e.sq with fenced := some ⟨f.code, e, false⟩ }
      else d.dispatch f eff e

/-- No further check of an entry's fields. -/
def noCheck (_ : Entry) (_ : Dev) : Option Nat := none

end Sys2Proof.Machine
end

