-- ==== Sys2Proof/Machine/Synth.lean ====
section
/-!
DEFINITION. The arithmetic of the line synthesizer and the line modes (R85, R87, R98, R383, R386), and the messages to
the heads (R108, R149).
-/

namespace Sys2Proof.Machine

/-- Division rounded up. -/
def ceilDiv (a b : Nat) : Nat := (a + b - 1) / b

/-- Division rounded half up. -/
def roundDiv (a b : Nat) : Nat := (2 * a + b) / (2 * b)

/-- N.F in 2^-24 (R383). -/
def Dev.nf (d : Dev) : Nat := d.get Reg.N_INT * 2 ^ 24 + d.get Reg.N_FRAC

def Dev.postdiv (d : Dev) : Nat := d.get Reg.POSTDIV

/-- The line rate in mHz, truncated (LINE_RATE_MHZ): 50 MHz x N.F / (POSTDIV x 4,096). -/
def rateMhz (nf postdiv : Nat) : Nat := 50000000000 * nf / (postdiv * 2 ^ 36)

/-- The line period in 2^-16 counts of 5 ns (LSYN_PERIOD). -/
def linePeriod16 (nf postdiv : Nat) : Nat := postdiv * 2 ^ 54 / nf

/-- `g` grains in counts, rounded up. -/
def grainCounts (nf postdiv g : Nat) : Nat := ceilDiv (g * postdiv * 2 ^ 26) nf

/-- R85, R131: the greatest line rate of a mode in Hz. -/
def maxRate (mode : Nat) (drizzle : Bool) : Nat :=
  let full := match mode with | 1 => 50000 | 2 => 400000 | _ => 100000
  if drizzle then full / 2 else full

/-- R85: the least line period of a mode in counts. -/
def minPeriod (mode : Nat) (drizzle : Bool) : Nat :=
  let full := match mode with | 1 => 4000 | 2 => 500 | _ => 2000
  if drizzle then 2 * full else full

/-- R386: the rate lies above a limit in Hz; one fraction LSB above counts as the limit. -/
def rateAbove (nf postdiv limit : Nat) : Bool := decide (limit * postdiv * 2 ^ 36 < 50000000 * (nf - 1))

/-- The rate lies below a limit in Hz. -/
def rateBelow (nf postdiv limit : Nat) : Bool := decide (50000000 * nf < limit * postdiv * 2 ^ 36)

/-- The line mode and drizzle in effect: the greatest rate and the least period. -/
def Dev.modeMaxRate (d : Dev) : Nat := maxRate (d.get Reg.LINE_MODE) (d.flag Reg.DRIZZLE)
def Dev.modeMinPeriod (d : Dev) : Nat := minPeriod (d.get Reg.LINE_MODE) (d.flag Reg.DRIZZLE)

/-- LINE_MODE, GUST_ROW and DRIZZLE as a statistics block writes them (R111): of the run whose lines are on their way, else as set. -/
def Dev.runMode (d : Dev) : Nat :=
  if d.arr.begun && (d.arr.running || d.arr.draining) then d.arr.mode
  else d.get Reg.LINE_MODE + 4 * d.get Reg.GUST_ROW + 16 * d.get Reg.DRIZZLE

/-- R388: the greatest N.F that the rest of a ramp reaches, from `nf` on. -/
def rampPeak (nf : Nat) : List (Int × Nat) → Nat
  | [] => nf
  | (inc, steps) :: rest =>
    let next := ((nf : Int) + inc * steps).toNat
    max nf (rampPeak next rest)

/-- What a ramp in progress has still to do, its present segment first. -/
def Ramp.rest (r : Ramp) : List (Int × Nat) :=
  match r.segs.drop r.seg with
  | [] => []
  | s :: rest => (s.1, r.left) :: rest

/-- R87, R388: the rate that a new line mode or drizzle is tested against: the present one, or a running ramp's peak. -/
def Dev.nfTop (d : Dev) : Nat :=
  match d.clk.ramp with
  | some r => rampPeak d.nf r.rest
  | none => d.nf

/-! Messages to the heads. -/

/-- R160: the heads in link of a group. -/
def Dev.groupHeads (d : Dev) (g : Nat) : List Nat := bitsOf 12 (d.get Reg.HEADS_IN_LINK g)

/-- The heads in link, with their groups (R108). -/
def Dev.headsInLink (d : Dev) : List (Nat × Nat) :=
  (List.range 6).flatMap (fun g => (d.groupHeads g).map (fun h => (g, h)))

/-- The group of a head in link. -/
def Dev.groupOf (d : Dev) (h : Nat) : Option Nat := (d.headsInLink.find? (fun p => p.2 == h)).map (·.1)

def Dev.laneGroup (d : Dev) (g : Nat) : LaneGroup := d.lane.groups[g % 6]

def Dev.setLaneGroup (d : Dev) (g : Nat) (x : LaneGroup) : Dev :=
  { d with lane := { d.lane with groups := d.lane.groups.set (g % 6) x (Nat.mod_lt _ (by decide)) } }

/-- R148: a CONTROL packet goes to the transmitter of a group; MSG_SEQ counts the group's messages. `cmd` completes once the packet has
left the lanes. -/
def Dev.control (d : Dev) (g head msg : Nat) (words : List Nat) (cmd : Option Outst := none) : Dev :=
  let x := d.laneGroup g
  (d.setLaneGroup g { x with
    txSeq := (x.txSeq + 1) % 2 ^ 16
    txQueue := x.txQueue ++ [⟨controlPacket head msg x.txSeq words, cmd.map (fun o => (o, x.txSeq))⟩] }).send
    (.control g head msg x.txSeq words)

/-- A message to every head in link (R108, R149). (DEDUCED, log 109) -/
def Dev.tellHeads (d : Dev) (msg : Nat) (words : List Nat) : Dev :=
  d.headsInLink.foldl (fun d p => d.control p.1 p.2 msg words) d

/-- R149: GEN_NOTICE of a generation from a line on, or NOW. -/
def genNotice (gen : Nat) (first : Option Nat) : List Nat :=
  match first with
  | some l => [gen, l]
  | none => [gen, 0xFFFFFFFF + 2 ^ 32]

/-- The number that a run's first line takes: LINE_FIRST, or the one that LEAVE_GUST names (R460). -/
def Dev.lineFirst (d : Dev) : Nat := d.arr.nextFirst.getD (d.get Reg.LINE_FIRST)

/-- The trigger source (R96): 0 LSYN, 1 ENC, 2 SYNC. -/
def Dev.trigSrc (d : Dev) : Nat := d.get Reg.TRIG_SRC

/-- R98, R99: the number of the SYNC line triggered at `t`. -/
def Dev.syncLine (d : Dev) (t : Nat) : Nat :=
  let epoch : Nat := d.get Reg.SYNC_EPOCH_LO + 2 ^ 32 * d.get Reg.SYNC_EPOCH_HI
  let p := max 1 (d.get Reg.SYNC_PERIOD)
  (((t : Int) - epoch) / (p : Nat) % (2 ^ 32 : Nat)).toNat

/-- R96, R393: the first SYNC trigger at `lo` or later. -/
def Dev.syncTrigger (d : Dev) (lo : Nat) : Nat :=
  let epoch : Nat := d.get Reg.SYNC_EPOCH_LO + 2 ^ 32 * d.get Reg.SYNC_EPOCH_HI
  let p := max 1 (d.get Reg.SYNC_PERIOD)
  (lo : Int) + ((epoch : Int) - lo) % (p : Nat) |>.toNat

/-- R300: the line period in 2^-16 counts at this moment. -/
def Dev.linePeriod (d : Dev) : Nat :=
  match d.trigSrc with
  | 2 => d.get Reg.SYNC_PERIOD * 65536
  | 1 =>
    match (d.arr.lines.filter (fun l => !l.skipped)).take 17 with
    | a :: rest => match rest.getLast? with | some b => (a.tb - b.tb) * 65536 / rest.length | none => a.period
    | [] => linePeriod16 d.nf d.postdiv
  | _ => linePeriod16 d.nf d.postdiv

/-- R149: LINE_ALIGN for a line four ahead of the line in progress, or of the line that a run would begin with. -/
def Dev.lineAlign (d : Dev) : List Nat :=
  let p := d.linePeriod
  let ahead := fun (n t : Nat) => [lineAdd n 4, (t + 4 * p / 2 ^ 16) % 2 ^ 64, p]
  match (if d.arr.running then d.arr.lines else []) with
  | l :: _ => ahead l.num l.tb
  | [] =>
    if d.trigSrc = 2 then
      let t := d.syncTrigger (d.tb + 1)
      ahead (d.syncLine t) t
    else ahead d.lineFirst d.tb

def Dev.sendAlign (d : Dev) : Dev := d.tellHeads 0x02 d.lineAlign

end Sys2Proof.Machine
end

