-- ==== Sys2Proof/Machine/Line.lean ====
section
/-!
DEFINITION. Lines of head 0: exposure windows (R88 to R93, R120), triggers (R96 to R100), runs (R101, R102), frames and
the boundaries of generations (R72 to R76, R104 to R108), and the converters' calibration rotation (R126 to R130).
-/

namespace Sys2Proof.Machine

/-! Exposure. -/

/-- R90: the grains of 250 ns (50 counts), rounded up. -/
def gMin (nf postdiv : Nat) : Nat := ceilDiv (50 * nf) (postdiv * 2 ^ 26)

/-- R90: a window lengthened to the minimum exposure, and whether it was. -/
def Window.floor (g : Nat) (w : Window) : Window × Bool :=
  if g ≤ w.stop - w.start then (w, false)
  else if w.start + g ≤ 4096 then ({ w with stop := w.start + g }, true)
  else ({ w with start := 4096 - g, stop := 4096 }, true)

/-- R85, R91: the exposures of a line under a generation, short or only windows first. (DEDUCED, log 34) -/
def Dev.windowsOf (d : Dev) (c : Conf) : List Window :=
  let rows := if d.get Reg.LINE_MODE = 2 then [d.get Reg.GUST_ROW] else [0, 1, 2, 3]
  rows.map (fun r => ⟨r, c.get Reg.WIN_START r, c.get Reg.WIN_STOP r, false⟩) ++
    (if d.get Reg.LINE_MODE = 1 then
      rows.map (fun r => ⟨r, c.get Reg.LONG_START r, c.get Reg.LONG_STOP r, true⟩) else [])

/-- The latest STOP of some windows. -/
def latestStop (ws : List Window) : Nat := (ws.map (·.stop)).foldl max 0

/-- R93: long over short exposure of a row in 16.16. -/
def dualRatio (ws : List Window) (row : Nat) : Nat :=
  match ws.find? (fun w => w.row == row && !w.long), ws.find? (fun w => w.row == row && w.long) with
  | some s, some l => (l.stop - l.start) * 65536 / (s.stop - s.start)
  | _, _ => 0

/-- R115, R131: the counts of one conversion. -/
def Dev.convTime (d : Dev) : Nat := if d.flag Reg.DRIZZLE then 2000 else 1000

/-- The first ADCCLK edge at or after a count. (DEDUCED, log 41) -/
def adcEdge (t : Nat) : Nat := ceilDiv t 4 * 4

/-- What the converters do with a line (R118, R120): its delay D in grains, whether even the greatest D leaves the wait above
9.75 us, the BUSCLK cycles at which the slices A and B are free afterwards, and the one at which its last conversion ends. -/
structure ConvPlan where
  delay : Nat
  cap : Bool
  freeA : Nat
  freeB : Nat
  done : Nat
  deriving DecidableEq, Repr

/-- R120: the least delay that brings a wait to 9.75 us (1,950 counts), where the conversions that follow it can begin no sooner
than `busy` counts after the trigger, and the latest STOP is grain `latest`. -/
def delayFor (nf postdiv busy latest : Nat) : Nat := ceilDiv ((busy - 1950) * nf) (postdiv * 2 ^ 26) - latest

/-- R118 to R120: the conversions of a line that is triggered now with these windows. `odd` is the parity of the line's place among
the accepted lines of its run, which chooses the slice in gust mode (R117). -/
def Dev.convPlan (d : Dev) (odd : Bool) (ws : List Window) : ConvPlan :=
  let t := d.clk.bus
  let nf := d.nf
  let pd := d.postdiv
  let c := d.convTime
  let dual := d.get Reg.LINE_MODE = 1
  let gust := d.get Reg.LINE_MODE = 2
  let free := if gust then (if odd then d.conv.freeB else d.conv.freeA) else max d.conv.freeA d.conv.freeB
  let latest := latestStop ws
  let short := latestStop (ws.filter (fun w => !w.long))
  let fixed := dual && decide (1950 * nf + (latest - short) * pd * 2 ^ 26 < 2 * c * nf)
  let need := if fixed then 4097 else delayFor nf pd ((if dual then free + 2 * c else free) - t) latest
  let delay := min need (4096 - latest)
  let stopAt := fun g => t + grainCounts nf pd (g + delay)
  let done := fun busy =>
    if dual then adcEdge (max (stopAt latest) (adcEdge (max (stopAt short) busy) + 2 * c)) + 2 * c
    else adcEdge (max (stopAt latest) busy) + (if gust then c else 2 * c)
  let a := if gust && odd then d.conv.freeA else done d.conv.freeA
  let b := if gust && !odd then d.conv.freeB else done d.conv.freeB
  ⟨delay, decide (4096 - latest < need), a, b, if gust then (if odd then b else a) else max a b⟩

/-! Column converters: calibration rotation. -/

/-- The rotation of a group: slices 0 to 63 in the duty positions and slice 64 in the seat until it has stepped.
(DESIGN CHOICE, log 123) -/
def Converters.groupOf (c : Converters) (g : Nat) : ConvGroup :=
  (c.groups.find? (fun x => x.group == g)).getD ⟨g, List.range 64, some 64, 0, false, []⟩

/-- The offset and gain corrections of a slice. -/
def ConvGroup.coefOf (x : ConvGroup) (slice : Nat) : Int × Int := ((x.coefs.find? (fun p => p.1 == slice)).map (·.2)).getD (0, 0)

/-- A slice takes the corrections of its calibration. -/
def ConvGroup.applied (x : ConvGroup) (c : SliceCal) : ConvGroup :=
  { x with coefs := (c.slice, c.offset, c.gain) :: x.coefs.filter (fun p => p.1 ≠ c.slice) }

/-- R128: a slice fails its calibration: more than 32 LSB of offset, more than 3 % of gain, or conversions of one level that
spread by more than 4 LSB. -/
def calFails (c : SliceCal) : Bool :=
  decide (512 < c.offset.natAbs) || decide (30000 < c.gain.natAbs) || decide (64 < c.spread)

/-- R128: the corrections moved by more than 2 LSB or 0.2 % since the calibration before. -/
def calDrifts (c : SliceCal) (was : Int × Int) : Bool :=
  decide (32 < (c.offset - was.1).natAbs) || decide (2000 < (c.gain - was.2).natAbs)

/-- What a slice of a group measured; a slice that no operand names measured what it had before. (DESIGN CHOICE, log 124) -/
def calOf (cals : List SliceCal) (x : ConvGroup) (slice : Nat) : SliceCal :=
  (cals.find? (fun c => c.group == x.group && c.slice == slice)).getD ⟨x.group, slice, (x.coefOf slice).1, (x.coefOf slice).2, 0⟩

def Dev.setGroup (d : Dev) (x : ConvGroup) : Dev :=
  { d with conv := { d.conv with groups := x :: d.conv.groups.filter (fun y => y.group ≠ x.group) } }

/-- NO_SPARE of a group, and the count of them. -/
def Dev.noSpare (d : Dev) (g : Nat) (v : Bool) : Dev :=
  let d := if g < 512 then d.putBit Reg.NO_SPARE (g % 32) v (g / 32) else d.putBit Reg.NO_SPARE_HI (g % 4) v
  let n := (List.range 16).foldl (fun n w => n + (bitsOf 32 (d.get Reg.NO_SPARE w)).length) 0
  d.put Reg.GROUPS_NO_SPARE (n + (bitsOf 4 (d.get Reg.NO_SPARE_HI)).length)

/-- R94, R95: the active groups that a generation's column windows convert. -/
def Conf.converts (c : Conf) (g : Nat) : Bool :=
  let en := c.get Reg.WIN_ENABLE
  512 ≤ g || en == 0 ||
    (List.range 8).any (fun n => en.testBit n && c.get Reg.START_GRP n ≤ g && g ≤ c.get Reg.END_GRP n)

/-- The domain of a group is on (R115): COLW for groups 0 to 255, 512, 513; COLE for the others. -/
def Dev.groupPowered (d : Dev) (g : Nat) : Bool := d.domainReady (if g < 256 || g == 512 || g == 513 then 4 else 5)

/-- R94, R95, R115: an active column is converted under a generation: a window takes it, and its domain is on. -/
def Dev.converted (d : Dev) (c : Conf) (col : Nat) : Bool := c.converts (col / 32) && d.groupPowered (col / 32)

/-- R128: a slice of a group failed: FAIL_GROUP, FAIL_SLICE, and CAL_FAIL. -/
def Dev.calFailed (d : Dev) (g slice : Nat) : Dev :=
  (((d.put Reg.FAIL_GROUP g).put Reg.FAIL_SLICE slice).orBits Reg.CAL_FAIL 1).raise
    { source := 70, inst := if g < 256 then g else 0xFF, limited := true }

/-- R126 to R129: the step boundary of a group, with what its seat slice measured. -/
def Dev.calStep (d : Dev) (cals : List SliceCal) (g : Nat) : Dev :=
  let x := d.conv.groupOf g
  match x.seat with
  | none => d
  | some seat =>
    if !d.groupPowered g || !(d.conf.converts g) then d
    else if x.halted then
      if d.flag Reg.CAL_ENABLE then d.setGroup { x with halted := false } else d
    else
      let d := d.count Reg.CAL_STEPS
      let c := calOf cals x seat
      if calFails c then ((d.setGroup { x with seat := none }).noSpare g true).calFailed g seat
      else
        let d := if calDrifts c (x.coefOf seat) then
            (d.orBits Reg.CAL_DRIFT 1).raise { source := 71, limited := true }
          else d
        let x := x.applied c
        if !d.flag Reg.CAL_ENABLE then d.setGroup { x with halted := true }
        else
          d.setGroup { x with duty := x.duty.set x.next seat, seat := x.duty[x.next]?, next := (x.next + 1) % 64 }

/-- R126: the groups whose step boundary is the line of index `k`. -/
def stepGroups (k : Nat) : List Nat := (List.range 9).map (fun i => 64 * i + k % 64) |>.filter (· < 516)

/-! Generations. -/

/-- The later of two lines. -/
def lineMax (a b : Nat) : Nat := if lineAfter a b then a else b

/-- R72 to R76: the waiting generations that take effect at a line, oldest first; one that cannot holds back those
after it. `lo` is the boundary of the one before: a boundary never falls earlier. The numbers of dropped SYNC triggers
since the last line count (R99). -/
def openConfs (line : Nat) (frameStart : Bool) : Option Nat → List Conf → List Conf
  | _, [] => []
  | lo, c :: rest =>
    if !c.waiting then c :: openConfs line frameStart c.fromLine rest
    else if (!c.atFrame || frameStart) && (match c.fromLine with | some l => lineFrom line l | none => true) then
      let own := if c.atFrame then line else c.fromLine.getD line
      let at' := match lo with | some l => lineMax own l | none => own
      { c with waiting := false, fromLine := some at' } :: openConfs line frameStart (some at') rest
    else c :: rest

/-- The generations at the trigger of a line. -/
def Dev.confsAtLine (d : Dev) (line : Nat) (frameStart : Bool) : Dev :=
  d.setChan (fun c => { c with confs := (openConfs line frameStart none c.confs.reverse).reverse })

/-- Word 10h of page 0480h under a generation: the settings of the CIC. -/
def Conf.cicWord (c : Conf) : Word := Store.get paramReset c.staged (Reg.VIEW_RLOG.key 0)

/-- R206: a generation boundary that changes word 10h clears the CIC, a clear that counts. -/
def Dev.cicBoundary (d : Dev) (old new : Conf) : Dev := if old.cicWord = new.cicWord then d else d.count Reg.CIC_RESTARTS

/-- R76: at a run's end every waiting generation takes effect, and the heads hear of the newest. -/
def Dev.confsAtEnd (d : Dev) : Dev :=
  if d.genPending = 0 then d
  else
    let after := d.arr.lines.head?.map (fun l => lineAdd l.num 1)
    let was := d.conf
    let d := d.setChan (fun c => { c with
      confs := c.confs.map (fun x => if x.waiting then { x with waiting := false, fromLine := after } else x) })
    (d.cicBoundary was d.conf).tellHeads 0x01 (genNotice d.genNewest none)

/-- The generations that objects of ended runs still name (R275, R415). -/
def Dev.gensNamed (d : Dev) : List Nat := d.cls.evals.map (·.gen) ++ d.cls.held.map (·.gen)

/-- The generations of ended runs give way to the one in effect; those that an object still names are kept for it. -/
def Dev.foldConfs (d : Dev) : Dev :=
  d.setChan (fun c => { c with confs := match c.confs with
    | [] => [Conf.zero]
    | x :: rest => { x with waiting := false, fromLine := none } :: rest.filter (fun y => d.gensNamed.contains y.gen) })

/-! Runs. -/

/-- R101: a run begins. The lines of the run before it are all through. -/
def Dev.beginRun (d : Dev) (byStart : Bool) (first : Option Nat := none) : Dev :=
  let d := if d.arr.running then d else d.foldConfs
  let d := { d with arr := { d.arr with
    running := true, stopping := false, pendingRun := none, tracking := !byStart, trackNext := false, byStart := byStart
    begun := false, accepted := 0, lines := [], closing := none, draining := false, held := none, due := false,
        waitSince := d.clk.bus, stalled := false,
    runNum := d.arr.runNum + 1, frameNum := 0, frameOff := 0, mark := false, deferred := false, markedFrames := [],
    cur := Vector.replicate 12 none, closed := [],
    encBase := d.arr.encPos, syncNext := d.tb + 1, rerun := none, nextFirst := first }
                    pipe := { d.pipe with cuts := [], taps := d.pipe.taps.map (fun (t : Tap) => { t with waits := false }) } }
  d.sendAlign

/-- R101: the run before is through: its lines have left the path, and its objects have their verdicts. -/
def Dev.runThrough (d : Dev) : Bool := !d.arr.running && !d.arr.draining && d.track.closed.isEmpty

/-- R101: a run that is asked for begins at once, or once the run before it is through. (DESIGN CHOICE, log 63) -/
def Dev.startRun (d : Dev) (byStart : Bool) (first : Option Nat := none) : Dev :=
  if !d.runThrough then { d with arr := { d.arr with pendingRun := some (byStart, first), rerun := none } }
  else d.beginRun byStart first

/-- No run waits to begin. -/
def Dev.forgetRun (d : Dev) : Dev := { d with arr := { d.arr with pendingRun := none, rerun := none } }

/-- The line in progress is over: the period it began with has passed. -/
def Dev.lineOver (d : Dev) : Bool :=
  match d.arr.lines with
  | l :: _ => decide (l.bus + ceilDiv l.period (2 ^ 16) ≤ d.clk.bus)
  | [] => true

/-! What ends with a run. -/

/-- R197: a fade is cut short: its run has ended, or RESET_PIPELINE executes. The lines that the unit has go on as they were to be
blended; those after line `c` use the new bank alone. (DEDUCED, log 130) -/
def Dev.cutFade (d : Dev) (c : Nat) : Dev :=
  match d.pipe.fade with
  | none => d
  | some f =>
    let s := f.start.getD (d.get Reg.FADE_FIRST)
    let stop := lineAdd s f.len
    let last := if !f.begun || f.len = 0 then 0xFFFFFFFF else if lineFrom c stop then lineSub stop 1 else c
    let d := if f.begun then d else d.put Reg.ACTIVE_BANK (d.get Reg.ACTIVE_BANK ^^^ f.heads)
    let d := { d.touch with pipe := { d.pipe with fade := none, cuts := (f, lineAdd c 1) :: d.pipe.cuts } }
    ((d.putFlag Reg.FADING false).count Reg.SWAPS).raise
      { source := 193, data := [(4, s), (4, stop), (1, 1), (4, last)] }

/-- R221, R223: an arming ends. Its channel is no longer armed unless another arming has taken its place. -/
def Dev.endTap (d : Dev) (t : Tap) (cause : Nat) : Dev :=
  let rest := d.pipe.taps.filter (fun x => !(x == t))
  let d := { d with pipe := { d.pipe with taps := rest } }
  let d := if rest.any (fun x => x.channel == t.channel && x.stop.isNone) then d else d.putFlag Reg.TAP_ARMED false t.channel
  d.raise { source := 202, inst := t.channel, key := t.channel, data := [(1, t.channel), (4, t.lastSel), (1, cause)], limited := true }

/-- R221: armings end, each for the reason that is settled for it, or else for this one. -/
def Dev.endTaps (d : Dev) (which : Tap → Bool) (cause : Nat) : Dev :=
  (d.pipe.taps.filter which).foldl (fun d t => d.endTap t ((t.stop.map (·.2)).getD cause)) d

/-- R221: the armings of a run that ends: they end after its last line. -/
def Dev.runTaps (d : Dev) : Dev :=
  match d.arr.lines with
  | l :: _ => { d with pipe := { d.pipe with taps := d.pipe.taps.map (fun t =>
      if t.waits || t.stop.isSome then t else { t with stop := some (l.num, 2) }) } }
  | [] => d.endTaps (fun t => !t.waits) 2

/-- R101: the run ends, and the lines accepted go on to their end. The labelling of the last kept line closes the objects of a run
that tracks (R32). -/
def Dev.stopLines (d : Dev) : Dev :=
  if !d.arr.running then d
  else
    let last := (d.arr.lines.find? (fun l => l.kept && l.tracked)).map (·.num)
    let d := (d.cutFade ((d.arr.lines.head?.map (·.num)).getD 0)).runTaps
    ({ d with arr := { d.arr with
        running := false, stopping := false, held := none, due := false, closing := last, draining := d.arr.begun } }).confsAtEnd

/-- R101, R130, R476: what the first line of a run waits for. -/
def Dev.lineReady (d : Dev) : Bool :=
  d.flag Reg.LSYN_SETTLED && d.flag Reg.LSYN_EN && !d.flag Reg.CONV_FG_CAL && runDomains.all d.domainReady

/-- R97: the line in progress has passed its latest STOP, and the mode's minimum period has passed. -/
def Dev.mayAccept (d : Dev) : Bool :=
  (match d.arr.lines with | l :: _ => decide (l.stopBus ≤ d.clk.bus) | [] => true) &&
    (match d.arr.lastAccept with | some t => decide (t + d.modeMinPeriod ≤ d.clk.bus) | none => true)

/-! Frames. -/

/-- R105: a frame ends before the next accepted line. -/
def Dev.frameEnds (d : Dev) : Bool :=
  decide (d.arr.frameLines ≤ d.arr.frameOff) ||
    (d.get Reg.FRAME_SRC != 0 && d.arr.mark && decide (64 ≤ d.arr.frameOff))

/-- R105: an edge of FRAME_IN or a FRAME_MARK ends the frame at the next accepted trigger; less than 64 lines after the
frame began it is deferred, and further marks merge into the deferred one. (DESIGN CHOICE, log 120) -/
def Dev.markFrame (d : Dev) : Dev :=
  if !(d.arr.running && d.arr.begun) then d
  else if d.arr.frameOff < 64 then
    if d.arr.deferred then d
    else (({ d with arr := { d.arr with mark := true, deferred := true } }).count Reg.FRAME_DEFERS).raise
      { source := 67, limited := true }
  else { d with arr := { d.arr with mark := true } }

/-- The statistics of a head's frame in progress changed. -/
def Dev.setStats (d : Dev) (h : Nat) (f : Stats → Stats) : Dev :=
  if hh : h < 12 then { d with arr := { d.arr with cur := d.arr.cur.set h (d.arr.cur[h].map f) } } else d

/-- R110: an IMMEDIATE generation took effect inside a frame. (DEDUCED, log 30) -/
def Dev.markMixed (d : Dev) : Dev := (List.range 12).foldl (fun d h => d.setStats h (fun s => { s with mixed := true })) d

/-- The LINE registers (R114). -/
def Dev.noteLine (d : Dev) (l : LineInfo) : Dev :=
  ((d.put Reg.LINE_CUR l.num).put Reg.FRAME_CUR l.frame).put Reg.FRAME_OFFSET l.offset

def Dev.headS (d : Dev) (h : Nat) : HeadS := d.pipe.heads[h % 12]

def Dev.setHeadS (d : Dev) (h : Nat) (x : HeadS) : Dev :=
  { d with pipe := { d.pipe with heads := d.pipe.heads.set (h % 12) x (Nat.mod_lt _ (by decide)) } }

/-- The path of a head whose first line is `first` (R169, R171, R193). -/
def HeadS.restart (x : HeadS) (first : Nat) : HeadS :=
  { x with last := some (lineSub first 1), first := first, hist := [], old := x.hist ++ x.old, early := [], missRun := 0, joined := false,
           corr := [], next := first, t2 := first, aligned := [], recon := [], cic := [], settle := 0 }

/-- R169, R193, R206: the first line of a run. The paths of every head start with it, and the CIC is cleared. -/
def Dev.restartPaths (d : Dev) (first : Nat) : Dev :=
  (({ d with
      pipe := { d.pipe with heads := d.pipe.heads.map (fun (x : HeadS) => x.restart first), darkOpen := 0xFF }
      track := { d.track with faces := d.track.faces.map (fun (f : FaceS) =>
        { f with last := none, prev := [], prevNum := none, blindBefore := false }) } }).count
    Reg.CIC_RESTARTS)

/-- R197: what a fade does at an accepted line: with AT_FRAME it may begin, and ACTIVE_BANK changes at its line. -/
def Dev.fadeAtLine (d : Dev) (num : Nat) (newFrame : Bool) : Dev :=
  match d.pipe.fade with
  | none => d
  | some f =>
    let start := match f.start with
      | some s => some s
      | none => if newFrame && lineFrom num f.after then some num else none
    match start with
    | none => d
    | some s =>
      let go := !f.begun && lineFrom num s
      let d := { d with pipe := { d.pipe with fade := some { f with start := some s, begun := f.begun || go } } }
      let d := (d.put Reg.FADE_FIRST s).put Reg.FADE_END (lineAdd s f.len)
      if go then d.put Reg.ACTIVE_BANK (d.get Reg.ACTIVE_BANK ^^^ f.heads) else d

/-- R99: the numbers of dropped SYNC triggers before a line. They stand in the frame in progress and have no exposure.
(DESIGN CHOICE, log 121) -/
def Dev.skipLines (d : Dev) : Nat → Nat → Dev
  | 0, _ => d
  | n + 1, num =>
    let dec := 2 ^ d.get Reg.AT_DEC
    let num' := lineSub num (n + 1)
    let p : Nat := d.get Reg.SYNC_PERIOD
    let info : LineInfo := ⟨num', d.tb - (n + 1) * p, (d.confAt num').gen, d.arr.frameNum, d.arr.frameOff, num' % dec == 0,
      [], d.clk.bus - (n + 1) * p, d.clk.bus - (n + 1) * p, d.clk.bus - (n + 1) * p, linePeriod16 d.nf d.postdiv, true,
      d.arr.tracking⟩
    ({ d with arr := { d.arr with lines := info :: d.arr.lines } }).skipLines n num

/-- The numbers left out between the last line of the run and a line. -/
def Dev.gap (d : Dev) (num : Nat) : Nat :=
  match d.arr.lines with
  | l :: _ => (lineDiff num l.num - 1).toNat
  | [] => 0

/-- The converted-window checks and delays of a line (R90, R93, R120): its exposures, the end of its conversions, and what they
leave behind. `index` counts the lines that its run accepted before it. -/
def Dev.expose (d : Dev) (c : Conf) (index : Nat) : Dev × List Window × Nat :=
  let floors := (d.windowsOf c).map (Window.floor (gMin d.nf d.postdiv))
  let ws := floors.map (·.1)
  let d := if floors.any (·.2) then
      ((d.orBits Reg.EXP_FLOOR (maskOf ((floors.filter (fun x => x.2 && !x.1.long)).map (·.1.row)))).orBits
        Reg.EXP_FLOOR_LONG (maskOf ((floors.filter (fun x => x.2 && x.1.long)).map (·.1.row)))).raise
        { source := 66, limited := true }
    else d
  let p := d.convPlan (index % 2 = 1) ws
  let d := { d with conv := { d.conv with freeA := p.freeA, freeB := p.freeB } }
  let ws := ws.map (fun w => { w with start := w.start + p.delay, stop := w.stop + p.delay })
  let d := if p.delay ≠ 0 || p.cap then
      let d := (((d.count Reg.CONV_SHIFTS).put Reg.LAST_SHIFT p.delay).orBits Reg.CONV_SHIFT 1).orBits Reg.CONV_CAP (b2n p.cap)
      d.raise { source := 73, limited := true }
    else d
  ((List.range 4).foldl (fun d r => d.put Reg.DUAL_RATIO (if d.get Reg.LINE_MODE = 1 then dualRatio ws r else 0) r) d, ws, p.done)

/-- The settings of line `num`, the lines skipped before it, and the paths it starts afresh. -/
def Dev.lineSetUp (d : Dev) (num : Nat) (first newFrame : Bool) : Dev :=
  let was := d.conf
  let d := d.confsAtLine num newFrame
  let d := if first then d else d.skipLines (d.gap num) num
  if first then d.restartPaths num
  else d.cicBoundary was d.conf

/-- The frame that the line lies in. -/
def Dev.lineFrame (d : Dev) (num frame : Nat) (first ends : Bool) : Dev :=
  { d with arr := { d.arr with
    begun := true, firstLine := if first then num else d.arr.firstLine, accepted := d.arr.accepted + 1, frameNum := frame,
    mode := if first then d.get Reg.LINE_MODE + 4 * d.get Reg.GUST_ROW + 16 * d.get Reg.DRIZZLE else d.arr.mode,
    frameLines := if first || ends then d.conf.get Reg.FRAME_LINES else d.arr.frameLines,
    frameOff := if first || ends then 1 else d.arr.frameOff + 1,
    markedFrames := if ends && decide (d.arr.frameOff < d.arr.frameLines) then d.arr.frameNum :: d.arr.markedFrames
      else d.arr.markedFrames,
    mark := if first || ends then false else d.arr.mark, deferred := if first || ends then false else d.arr.deferred,
    tracking := d.arr.tracking || d.arr.trackNext, trackNext := false,
    byStart := d.arr.byStart && !d.arr.trackNext } }

/-- The exposure of a line before which its run accepted `index` lines, and what the line is known by from here on. -/
def Dev.lineShown (d : Dev) (c : Conf) (num frame index : Nat) : Dev :=
  let (d, ws, done) := d.expose c index
  let dec := 2 ^ d.get Reg.AT_DEC
  let info : LineInfo := ⟨num, d.tb, c.gen, frame, d.arr.frameOff - 1, num % dec == 0, ws,
    d.clk.bus, d.clk.bus + grainCounts d.nf d.postdiv (latestStop ws), done, linePeriod16 d.nf d.postdiv, false, d.arr.tracking⟩
  let d := { d with arr := { d.arr with
    lines := info :: d.arr.lines, lastAccept := some d.clk.bus, waitSince := d.clk.bus, stalled := false } }
  d.noteLine info

/-- R97 to R110: an accepted trigger starts a line. `cals` gives what the seat slices measured whose steps
end here. -/
def Dev.acceptLine (d : Dev) (num : Nat) (cals : List SliceCal) : Dev :=
  let first := !d.arr.begun
  let ends := !first && d.frameEnds
  let d := d.lineSetUp num first (first || ends)
  let c := d.conf
  let frame := if first then 0 else if ends then (d.arr.frameNum + 1) % 2 ^ 32 else d.arr.frameNum
  let d := (d.lineFrame num frame first ends).fadeAtLine num (first || ends)
  let index := d.arr.accepted - 1
  let d := d.lineShown c num frame index
  let d := (stepGroups index).foldl (fun d g => d.calStep cals g) d
  if index % 1024 = 0 && index ≠ 0 then d.sendAlign else d

/-- R97, R99: the trigger that has come: accepted, held, or dropped. `sync` is the timebase value of a SYNC trigger. -/
def Dev.trigger (d : Dev) (sync : Option Nat) (cals : List SliceCal) : Dev :=
  if !d.arr.running || d.arr.stopping || !d.lineReady && !d.arr.begun then d
  else
    let num := match sync with
      | some t => d.syncLine t
      | none => if d.arr.begun then lineAdd ((d.arr.lines.head?.map (·.num)).getD 0) 1 else d.lineFirst
    if d.arr.held.isSome then
      (d.count Reg.TRIG_OVERRUNS).raise { source := 64, limited := true }
    else if d.mayAccept then d.acceptLine num cals
    else { d with arr := { d.arr with held := some num } }

/-- LINE_TRIGGER: a trigger of the selected source is due. Under SYNC it is due once the timebase has reached a trigger
value that no earlier trigger took (R393). (DESIGN CHOICE, log 2) -/
def Dev.lineTrigger (d : Dev) (cals : List SliceCal) : Dev :=
  if !d.arr.running || d.arr.stopping then d
  else if d.trigSrc = 2 then
    let t := d.syncTrigger d.arr.syncNext
    if t ≤ d.tb then ({ d with arr := { d.arr with syncNext := t + 1 } }).trigger (some t) cals else d
  else if d.arr.due then ({ d with arr := { d.arr with due := false } }).trigger none cals
  else d

/-- R97: a held trigger is accepted once both conditions hold. -/
def Dev.acceptHeld (d : Dev) (cals : List SliceCal) : Dev :=
  match d.arr.held with
  | none => d
  | some n =>
    if d.arr.running && d.mayAccept then ({ d with arr := { d.arr with held := none } }).acceptLine n cals else d

/-! Encoder (R96). -/

/-- One quadrature edge to new levels: +1 forward, -1 backward; both levels changing at once or none is no count. -/
def quadStep (dir : Bool) (a b a' b' : Bool) : Int :=
  let lead : Int := if a == a' && b == b' || a != a' && b != b' then 0
    else if a != a' then (if a' != b then 1 else -1)
    else (if b' == a then 1 else -1)
  if dir then -lead else lead

/-- ENC_EDGE: new levels of ENC_A and ENC_B. -/
def Dev.encEdge (d : Dev) (a b : Bool) : Dev :=
  let pos := d.arr.encPos + quadStep (d.flag Reg.ENC_DIR) d.arr.encA d.arr.encB a b
  let d := { d with arr := { d.arr with encA := a, encB := b, encPos := pos } }
  let div : Int := max 1 (d.get Reg.ENC_DIV)
  if d.arr.running && !d.arr.stopping && d.trigSrc == 1 && decide (d.arr.encBase + div ≤ pos) then
    { d with arr := { d.arr with due := true, encBase := d.arr.encBase + div } }
  else d

/-- ENC_Z: with ENC_ZRST the count restarts. -/
def Dev.encZ (d : Dev) : Dev :=
  if d.flag Reg.ENC_ZRST then { d with arr := { d.arr with encBase := d.arr.encPos } } else d

/-- R100: no trigger has been accepted for LINE_TIMEOUT ms. Once for each such wait. -/
def Dev.trigStall (d : Dev) : Dev :=
  let ms := d.get Reg.LINE_TIMEOUT
  if d.arr.running && !d.arr.stopping && !d.arr.stalled && d.trigSrc != 0 && ms != 0 &&
      decide (d.arr.waitSince + ms * 200000 ≤ d.clk.bus) then
    (({ d with arr := { d.arr with stalled := true } }).orBits Reg.TRIG_STALL 1).raise { source := 65, limited := true }
  else d

/-- R105: new level of FRAME_IN; an edge of the selected polarity marks. -/
def Dev.frameInLevel (d : Dev) (v : Bool) : Dev :=
  let edge := d.arr.frameIn != v && v != d.flag Reg.FRAME_IN_EDGE
  let d := { d with arr := { d.arr with frameIn := v } }
  if edge && d.get Reg.FRAME_SRC == 1 then d.markFrame else d

end Sys2Proof.Machine
end

