-- ==== Sys2Proof/Machine/Lanes.lean ====
section
/-!
DEFINITION. Heads and lanes: markers, alignment and loss of lanes, packets, training, mailboxes and pattern tests (R134 to
R165). What ingest does with a segment is in Ingest.lean.
-/

namespace Sys2Proof.Machine

def Dev.rxLane (d : Dev) (n : Nat) : Lane := d.lane.lanes[n % 24]

def Dev.setRxLane (d : Dev) (n : Nat) (x : Lane) : Dev :=
  { d with lane := { d.lane with lanes := d.lane.lanes.set (n % 24) x (Nat.mod_lt _ (by decide)) } }

/-- Bits of GFLAGS (R165). -/
def Dev.gflag (d : Dev) (g b : Nat) : Dev := d.orBits Reg.GFLAGS (1 <<< b) g

/-- R134: the lanes of a group have power. -/
def Dev.lanesOn (d : Dev) (g : Nat) : Bool := d.domainOn (18 + g)

/-- The four physical lanes of a group. -/
def laneNumbers (g : Nat) : List Nat := [4 * g, 4 * g + 1, 4 * g + 2, 4 * g + 3]

/-! Group state. -/

/-- LANE_UP, LANE_MAP, POL_FIXED and ORDER_FIXED follow the lanes (R165). -/
def Dev.noteLanes (d : Dev) (g : Nat) : Dev :=
  let ls := (laneNumbers g).map d.rxLane
  let idx := [0, 1, 2, 3].zip ls
  let d := d.put Reg.LANE_UP (maskOf ((idx.filter (fun p => p.2.aligned)).map (·.1))) g
  let d := d.put Reg.POL_FIXED (maskOf ((idx.filter (fun p => p.2.aligned && p.2.inverted)).map (·.1))) g
  let d := d.put Reg.LANE_MAP ((idx.map (fun p => p.2.logical * 4 ^ p.1)).foldl (· + ·) 0) g
  d.putFlag Reg.ORDER_FIXED (idx.any (fun p => p.2.aligned && p.2.logical != p.1)) g

/-- R143, R161: the group is DEGRADED while one lane of a STRIPE3P group is out. -/
def Dev.setDegraded (d : Dev) (g : Nat) (v : Bool) : Dev :=
  let x := d.laneGroup g
  let d := (d.setLaneGroup g { x with degraded := v, recovering := none }).putFlag Reg.DEGRADED v g
  if v && !x.degraded then (d.gflag g 4).raise { source := 100 + 5 * g, inst := g } else d

/-- A group goes down (R143, R151, R159). Its heads keep their place in HEADS_IN_LINK unless training takes it. -/
def Dev.groupDown (d : Dev) (g : Nat) : Dev := (d.putFlag Reg.GROUP_UP false g).setDegraded g false

/-- R143, R161: a lane goes out until its clock recovery relocks (R152). In STRIPE4 the group goes down; in STRIPE3P the first lane out
degrades it and a second takes it down. -/
def Dev.laneOut (d : Dev) (n : Nat) : Dev :=
  let g := n / 4
  let x := d.rxLane n
  let d := (d.setRxLane n { x with locked := false, aligned := false, suspect := true, good := 0, bad := 0, seq := none }).noteLanes g
  if !d.flag Reg.GROUP_UP g then d
  else if !(d.laneGroup g).parity then d.groupDown g
  else if 2 ≤ ((laneNumbers g).filter (fun m => !(d.rxLane m).aligned)).length then d.groupDown g
  else d.setDegraded g true

/-- LOS (R143, R161): the amplitude of a lane has been below its threshold, for 1 us or, with `dip`, for less: a dip makes a lane of a
STRIPE3P group suspect and does nothing else. (DESIGN CHOICE, log 128) -/
def Dev.los (d : Dev) (n : Nat) (dip : Bool) : Dev :=
  let g := n / 4
  let x := d.rxLane n
  if n ≥ 24 || !d.lanesOn g || x.noSignal then d
  else if dip then (if d.flag Reg.GROUP_UP g && (d.laneGroup g).parity && x.aligned then d.laneOut n else d)
  else
    let d := ((d.setRxLane n { x with noSignal := true }).putBit Reg.LOS (n % 4) true g).gflag g 0
    (d.raise { source := 96 + 5 * g, inst := g }).laneOut n

/-- LOL (R141, R143, R161): lock lost on a lane. -/
def Dev.lol (d : Dev) (n : Nat) : Dev :=
  let g := n / 4
  let d := ((d.setRxLane n { d.rxLane n with noLock := true }).putBit Reg.LOL (n % 4) true g).gflag g 1
  (d.raise { source := 97 + 5 * g, inst := g }).laneOut n

/-- PHASE_DETECTOR_RANGE (R143). -/
def Dev.phaseOut (d : Dev) (n : Nat) : Dev :=
  if n ≥ 24 || !d.lanesOn (n / 4) || (d.rxLane n).noLock then d else d.lol n

/-- CLOCK_RECOVERY_LOCK (R151): signal is back and the clock recovery has locked. -/
def Dev.laneLock (d : Dev) (n : Nat) : Dev :=
  if n ≥ 24 || !d.lanesOn (n / 4) then d
  else
    let x := d.rxLane n
    (d.setRxLane n { x with locked := true, noSignal := false, good := 0, seq := none }).putBit Reg.LOS (n % 4) false (n / 4)

/-- WANDER (R154): through 1 ms the frequency of a lane has differed from its nominal rate by at least `ppm`. -/
def Dev.wander (d : Dev) (n ppm : Nat) : Dev :=
  if n ≥ 24 || !d.lanesOn (n / 4) || ppm ≤ (d.laneGroup (n / 4)).wanderPpm then d
  else (d.gflag (n / 4) 2).raise { source := 98 + 5 * (n / 4), inst := n / 4 }

/-! Markers. -/

/-- R153: the skew of the aligned lanes, in bit times. -/
def Dev.laneSkew (d : Dev) (g : Nat) : Nat :=
  let at' := ((laneNumbers g).map d.rxLane).filter (·.aligned) |>.map (·.arrived)
  at'.foldl max 0 - at'.foldl min (at'.foldl max 0)

/-- CABLING (R155), once for each training or rejoin that finds a fault. -/
def Dev.cabling (d : Dev) (g : Nat) : Dev := (d.gflag g 3).raise { source := 99 + 5 * g, inst := g }

/-- R149: table 0Fh, two entries a word. -/
def Conf.compandWords (c : Conf) : List Nat :=
  (List.range 512).map (fun n => c.table 0x0F 0 (2 * n) + 2 ^ 32 * c.table 0x0F 0 (2 * n + 1))

/-- Whether a generation brings a table 0Fh that the one before it does not have (R149). -/
def Conf.newCompand (old new : Conf) : Bool :=
  let region := fun (c : Conf) => c.tables.filter (fun p => p.1 / 2 ^ 24 / 4096 == 0x0F)
  region old != region new

/-- R165: a head's declaration as LINK_TRAIN read it: its word, and the fields of that. -/
def Dev.decl (d : Dev) (h : Nat) : Nat := d.lane.decl[(h - 1) % 11]'(Nat.mod_lt _ (by decide))
def Dev.declMask (d : Dev) (h : Nat) : Nat := d.decl h % 256
def Dev.declFmt (d : Dev) (h : Nat) : Nat := d.decl h / 2 ^ 8 % 4
def Dev.declColumns (d : Dev) (h : Nat) : Nat := d.decl h / 2 ^ 10 % 2 ^ 15

/-- R149, R151: what a group that comes up in HEADS role sends: LINE_ALIGN, COMPAND_TABLE where a head declares FMT 01b, and the
notices of the generation in effect and of those that wait, each after its table 0Fh where that is new. -/
def Dev.greetHeads (d : Dev) (g : Nat) : Dev :=
  let x := d.laneGroup g
  if x.peer then d
  else
    let next := d.arr.lines.head?.map (fun l => lineAdd l.num 1)
    let first := if d.arr.running && d.arr.begun then next else none
    let compand := x.heads.any (fun h => d.declFmt h == 1)
    let waiting := d.chan.confs.reverse.filter (·.waiting)
    x.heads.foldl (fun d h =>
      let d := d.control g h 0x02 d.lineAlign
      let d := if compand then d.control g h 0x03 d.conf.compandWords else d
      let d := d.control g h 0x01 (genNotice d.conf.gen first)
      ((d.conf :: waiting).zip waiting).foldl (fun d c =>
        let d := if c.1.newCompand c.2 then d.control g h 0x03 c.2.compandWords else d
        d.control g h 0x01 (genNotice c.2.gen c.2.named)) d) d

/-- R153: the markers of one SEQ may still be on their way on some of these lanes. -/
def seqsComing (seqs : List Nat) : Bool :=
  !(seqs.all (fun s => s == seqs.head?.getD 0)) && seqs.any (fun s => seqs.all (fun t => t == s || (t + 1) % 2 ^ 16 == s))

/-- The lanes of a group that are aligned, or are one good marker short of it. -/
def Dev.lanesComing (d : Dev) (g : Nat) : List Lane :=
  ((laneNumbers g).map d.rxLane).filter (fun x => x.aligned || (x.locked && x.good == 1))

/-- R152, R153, R155: what the markers of a group's aligned lanes say: SKEW_BAD, GID_BAD. -/
def Dev.laneFaults (d : Dev) (g : Nat) : Bool × Bool :=
  let ls := ((laneNumbers g).map d.rxLane).filter (·.aligned)
  let seqs := ls.map (fun l => l.seq.getD 0)
  (2048 < d.laneSkew g || !(ls.map (·.logical)).Nodup || !(seqs.all (fun s => s == seqs.head?.getD 0) || seqsComing seqs),
    (d.laneGroup g).expectGid ≠ 0xFF && ls.any (fun l => l.gid != (d.laneGroup g).expectGid))

/-- An aligned lane stands at another place than its own (R155). -/
def Dev.disordered (d : Dev) (g : Nat) : Bool :=
  (laneNumbers g).any (fun n => (d.rxLane n).aligned && (d.rxLane n).logical != n % 4)

/-- R151 to R155: the group comes up once all its lanes (three of four in STRIPE3P) are aligned and show one SEQ, or a cabling
fault keeps it down. A lane one good marker short of alignment is waited for. (DEDUCED, log 110) -/
def Dev.tryGroupUp (d : Dev) (g : Nat) : Dev :=
  let x := d.laneGroup g
  let ls := ((laneNumbers g).map d.rxLane).filter (·.aligned)
  if ls.length < (if x.parity then 3 else 4) then d
  else if seqsComing (ls.map (fun l => l.seq.getD 0)) || ls.length < (d.lanesComing g).length then d
  else
    let (bad, wrong) := d.laneFaults g
    if bad || wrong then
      let gid := ((ls.find? (fun l => l.gid != x.expectGid)).map (·.gid)).getD 0
      let d := if wrong then d.put Reg.RX_GID gid g else d
      ((d.setLaneGroup g { x with fault := true }).putFlag Reg.SKEW_BAD bad g |>.putFlag Reg.GID_BAD wrong g).cabling g
    else
      let d := ((d.putFlag Reg.SKEW_BAD false g).putFlag Reg.GID_BAD false g).putFlag Reg.GROUP_UP true g
      let d := if ls.any (fun l => l.inverted) || d.disordered g then d.cabling g else d
      let d := d.setLaneGroup g { x with trained := true, hunting := true, fault := false }
      let d := if ls.length < 4 then d.setDegraded g true else d
      if x.training.isSome then d.greetHeads g else d

/-- R152, R155: lane `n` has aligned in a group that is up: with all four the group leaves DEGRADED at the next interval; one that
disagrees with the others does not rejoin. -/
def Dev.rejoin (d : Dev) (g n : Nat) : Dev :=
  let (bad, wrong) := d.laneFaults g
  let x := d.rxLane n
  let known := (d.laneGroup g).fault
  let d := (d.putFlag Reg.SKEW_BAD bad g).putFlag Reg.GID_BAD wrong g
  let d := d.setLaneGroup g { d.laneGroup g with fault := bad || wrong }
  if bad || wrong then
    let d := (d.setRxLane n { x with aligned := false, suspect := true }).noteLanes g
    if known then d else d.cabling g
  else
    let d := if x.inverted || x.logical != n % 4 then d.cabling g else d
    if (((laneNumbers g).map d.rxLane).filter (·.aligned)).length = 4 then
      d.setLaneGroup g { d.laneGroup g with recovering := x.seq }
    else d

/-- R152: a marker of a later interval than the one at which the last lane rejoined: the group leaves DEGRADED. -/
def Dev.intervalBegins (d : Dev) (g n : Nat) : Dev :=
  match (d.laneGroup g).recovering with
  | some s => if (d.rxLane n).aligned && (d.rxLane n).seq != some s then d.setDegraded g false else d
  | none => d

/-- R151 to R153: a good marker on an aligned lane, in a group that is down and in which no cabling fault was found. -/
def Dev.retryUp (d : Dev) (g : Nat) : Dev :=
  if d.flag Reg.GROUP_UP g || (d.laneGroup g).fault then d else d.tryGroupUp g

/-- A bad or missing marker on an aligned lane (R141): counted, and the scrambler goes by the SEQ that was expected; the third in a row
loses lock. -/
def Dev.badMarker (d : Dev) (n : Nat) : Dev :=
  let x := d.rxLane n
  let seq := (x.seq.getD 0 + 1) % 2 ^ 16
  let d := (d.setRxLane n { x with seq := some seq, bad := x.bad + 1 }).count Reg.MARKER_ERRS 1 (n / 4)
  if 2 ≤ x.bad then d.lol n else d.intervalBegins (n / 4) n

/-- R164: a word of table 0Dh applied to a receive lane (0 to 3 of its group), or to a transmit lane (4 to 7): its bit of inversion. -/
def Dev.boardInverts (d : Dev) (g i : Nat) : Bool :=
  (((d.laneGroup g).board[i]?).getD 0).getLsbD (if i < 4 then 8 else 24)

/-- A good marker in its form and check (R141, R151, R152) on lane `n`. -/
def Dev.markerRead (d : Dev) (n : Nat) (inv : Bool) (lane gid seq arrived : Nat) : Dev :=
  let x := d.rxLane n
  let g := n / 4
  let may := x.locked && (d.laneGroup g).pattern == 0 && ((d.laneGroup g).trained || (d.laneGroup g).training.isSome)
  let follows := x.seq == some ((seq + 65535) % 65536)
  let y : Lane := { x with seq := some seq, arrived := arrived, bad := 0 }
  if x.aligned then (if follows then ((d.setRxLane n y).intervalBegins g n).retryUp g else d.badMarker n)
  else if !may then d
  else if x.good = 0 || !follows then d.setRxLane n { y with good := 1, logical := lane, gid := gid, inverted := inv }
  else
    let d := d.setRxLane n { y with
      good := 0, aligned := true, suspect := false, noLock := false, logical := lane, gid := gid, inverted := inv }
    let d := (d.putBit Reg.LOL (n % 4) false g).noteLanes g
    if d.flag Reg.GROUP_UP g then d.rejoin g n else d.tryGroupUp g

/-- MARKER (R141, R151, R152): what lane `n` received where its marker should be, destuffed, and where in the interval it came. A lane
that is inverted on the board is turned first (R164). RX_GID and SKEW follow. (DESIGN CHOICE, log 103) -/
def Dev.marker (d : Dev) (n : Nat) (word : Option Nat) (arrived : Nat) : Dev :=
  if n ≥ 24 || !d.lanesOn (n / 4) then d
  else
    let g := n / 4
    let turned := word.map (fun w => if d.boardInverts g (n % 4) then 2 ^ 64 - 1 - w % 2 ^ 64 else w)
    match turned.bind readMarker with
    | none => if (d.rxLane n).aligned then d.badMarker n else d.setRxLane n { d.rxLane n with good := 0, seq := none }
    | some (inv, lane, gid, seq) =>
      let d := (d.put Reg.RX_GID gid g).markerRead n inv lane gid seq arrived
      d.put Reg.SKEW (min 2047 (d.laneSkew g)) g

/-! Packets. -/

/-- A packet as received: its words, and whether an RX_FLIP altered one of them. -/
structure Packet where
  words : List Nat
  injected : Bool
  deriving DecidableEq, Repr

/-- R135 to R143: the lane words of an interval that a group receives, by logical lane. `bits` are the bits of its four physical lanes
from the first bit of their markers on, `back` how many intervals it lies before the one whose markers came last. -/
def Dev.laneWords (d : Dev) (g back : Nat) (bits : List (List Bool)) : LaneWords :=
  [0, 1, 2, 3].map (fun l =>
    (((laneNumbers g).zip bits).find? (fun p => (d.rxLane p.1).aligned && (d.rxLane p.1).logical == l)).map (fun p =>
      let x := d.rxLane p.1
      let seq := (x.seq.getD 0 + 2 ^ 16 - back % 2 ^ 16) % 2 ^ 16
      receiveLane l x.gid seq (p.2.map (fun b => b != (x.inverted != d.boardInverts g (p.1 % 4))))))

/-- The group words of some intervals, from word `pos` of the first on. -/
def groupStream (parity : Bool) (pos : Nat) (ls : List LaneWords) : List Nat :=
  (ls.flatMap (fun lw => lw.group parity)).drop pos

/-- R162: the first word on logical lane `l` that belongs to a packet of the stream: its interval and its place. -/
def flipPlace (parity : Bool) (pos l : Nat) (found : List Found) (intervals : Nat) : Option (Nat × Nat) :=
  let inside := fun (k : Nat) => found.any (fun f => match f with
    | .packet a n => decide (a + pos ≤ k) && decide (k < a + pos + n)
    | .bad _ => false)
  let here := fun (p : Nat × Nat) =>
    let base := p.1 * intervalWords parity
    if !parity then inside (base + 4 * p.2 + l)
    else if l < 3 then inside (base + 3 * p.2 + l)
    else (List.range 3).any (fun i => inside (base + 3 * p.2 + i))
  ((List.range intervals).flatMap (fun i => (List.range 256).map (fun j => (i, j)))).find? here

/-- R162: bit 0 of a lane word inverted. -/
def flipWord (ls : List LaneWords) (l : Nat) (p : Nat × Nat) : List LaneWords :=
  ls.modify p.1 (fun lw => List.modify lw l (fun ws => ws.map (fun ws => ws.modify p.2 (· ^^^ 1))))

/-- R142, R143, R162: the group words that a group receives in some intervals, with those that an RX_FLIP altered, and the sets whose
parity does not match. `pos` is the place of the first word wanted. -/
def Dev.receiveWords (d : Dev) (g pos : Nat) (intervals : List (List (List Bool))) : Dev × List Nat × List Nat :=
  let parity := (d.laneGroup g).parity
  let m := intervals.length
  let ls := intervals.zipIdx.map (fun p => d.laneWords g (m - 1 - p.2) p.1)
  let clean := groupStream parity pos ls
  let found := (scan (clean.length + 1) 0 (d.laneGroup g).hunting clean).1
  let flip := ((laneNumbers g).find? (fun n => (d.rxLane n).flip && (d.rxLane n).aligned)).bind (fun n =>
    (flipPlace parity pos (d.rxLane n).logical found m).map (fun p => (n, p)))
  let d := match flip with | some (n, _) => d.setRxLane n { d.rxLane n with flip := false } | none => d
  let ls := match flip with | some (n, p) => flipWord ls (d.rxLane n).logical p | none => ls
  let ws := groupStream parity pos ls
  let altered := (List.range ws.length).filter (fun k => ws[k]? != clean[k]?)
  let misses := (ls.map LaneWords.mismatches).foldl (· + ·) 0
  (if parity && misses != 0 then d.count Reg.PARITY_ERRS misses g else d, ws, altered)

/-- The group words reach the unit (R145, R151): the group is up. -/
def Dev.receives (d : Dev) (g : Nat) : Bool := decide (g < 6) && d.flag Reg.GROUP_UP g

/-- R162, R504: a packet of a head that an injection spoiled: the line it carried will be missing by that injection. -/
def Dev.noteLost (d : Dev) (h : Nat) (inj : Bool) : Dev :=
  if inj && decide (1 ≤ h) && decide (h < 12) then d.setHeadS h { d.headS h with injLost := true } else d

/-- A packet discarded and counted without a hunt (R148, R149, R151, R158). -/
def Dev.packetLost (d : Dev) (g : Nat) (inj : Bool) : Dev :=
  ((d.count Reg.PKT_ERRS 1 g).gflag g 5).raise { source := 128 + g, inst := g, key := g, limited := true, inj := inj }

/-- R157: a user message stored in a mailbox, or dropped. -/
def Dev.mailIn (d : Dev) (g box : Nat) (m : MailMsg) : Dev :=
  if 8 ≤ (d.lane.mail.filter (fun x => x.box == box)).length then (d.count Reg.MBOX_DROPS 1 g).gflag g 7
  else
    ({ d with lane := { d.lane with mail := d.lane.mail ++ [m] } }).raise
      { source := 140 + g, inst := g, data := [(1, if box < 16 then box else 0)] }

/-- R171: a head that is accepted starts after the line in progress. What it took of the run before stays known (R169). -/
def Dev.joinHead (d : Dev) (h : Nat) : Dev :=
  if d.arr.begun && d.arr.running then
    let x := d.headS h
    d.setHeadS h { x.restart (lineAdd d.lineNow 1) with joined := true, hist := x.hist, old := x.old }
  else d

/-- HEAD_HELLO (R149, R151): in training a listed head that matches its declaration is in link. -/
def Dev.hello (d : Dev) (g head w0 : Nat) : Dev :=
  let x := d.laneGroup g
  if x.training.isNone || !x.heads.contains head || (d.groupHeads g).contains head then d
  else if w0 % 2 ^ 25 = d.decl head then
    (d.orBits Reg.HEADS_IN_LINK (1 <<< head) g).joinHead head
  else d.gflag g 8

/-- R148, R149, R157, R158: a CONTROL packet on a group and its message. -/
def Dev.controlIn (d : Dev) (g : Nat) (p : Packet) : Dev :=
  let peer := (d.laneGroup g).peer
  let head := hfield p.words 0 55 52
  let msg := hfield p.words 0 47 40
  let payload := p.words.drop 3
  if !bodyGood p.words then d.packetLost g p.injected
  else if msg = 0x81 then (if peer then d.packetLost g p.injected else d.hello g head (payload[0]?.getD 0))
  else if 0xC0 ≤ msg && msg ≤ 0xFF || (peer && 0x40 ≤ msg && msg ≤ 0x7F) then
    let box := if peer then 16 + g else head
    if !peer && !(d.groupHeads g).contains head then d.packetLost g p.injected
    else d.mailIn g box ⟨box, msg, hfield p.words 0 15 0, payload⟩
  else d.packetLost g p.injected

/-- R151, R158: a LINE_SEGMENT of a head that is in link; others are discarded and counted. -/
def Dev.segmentIn (d : Dev) (g : Nat) (p : Packet) : Dev × Option Packet :=
  if (d.laneGroup g).peer || !(d.groupHeads g).contains (segHead p.words).head then (d.packetLost g p.injected, none)
  else (d, some p)

/-! Training. -/

/-- R164: the check of table 0Dh, and a word of it in use, the default where the check fails. -/
def Dev.blt (d : Dev) (i : Nat) : Nat := (Store.get (fun _ => 0) d.baro.flash.laneTable i).toNat

def Dev.bltGood (d : Dev) : Bool :=
  d.blt 0 / 2 ^ 16 == 1 && crc32c (wordBytes ((List.range 50).map (fun i => BitVec.ofNat 32 (d.blt i)))) == d.blt 50

/-- R164: table 0Dh is checked; a failure is reported and the defaults stand in. -/
def Dev.checkBlt (d : Dev) : Dev :=
  let good := d.bltGood
  let d := d.putFlag Reg.BLT_VALID good
  if good then d else d.raise { source := 126 }

/-- The words of table 0Dh for the lanes of a group (R154, R164). -/
def Dev.boardWords (d : Dev) (g : Nat) : List Word :=
  if d.flag Reg.BLT_VALID then
    (laneNumbers g).map (fun n => BitVec.ofNat 32 (d.blt (2 + n))) ++ (laneNumbers g).map (fun n => BitVec.ofNat 32 (d.blt (26 + n)))
  else List.replicate 4 8 ++ List.replicate 4 63

/-- GHEADS of a group as head numbers, 0 left out (R165). -/
def Dev.listedHeads (d : Dev) (g : Nat) : List Nat :=
  ((List.range 4).map (fun i => d.get Reg.GHEADS g / 16 ^ i % 16)).filter (· != 0)

/-- R156: the load of a head, and the guaranteed capacity of a group, in b/s; the capacity is compared times 17,035. -/
def Dev.headLoad (d : Dev) (h : Nat) : Nat :=
  let bits := if d.get Reg.FMT (h - 1) = 1 then 10 else 12
  let planes := (bitsOf 8 (d.get Reg.PLANE_MASK (h - 1))).length
  (3 + ceilDiv (d.get Reg.COLUMNS (h - 1) * planes * bits) 64) * 64 * d.get Reg.BUDGET_KHZ * 1000

def laneRate (rate : Nat) : Nat := match rate with | 0 => 19200000000 | 1 => 9600000000 | _ => 4800000000

def Dev.overloaded (d : Dev) (g : Nat) : Bool :=
  let load := ((d.listedHeads g).map d.headLoad).foldl (· + ·) 0
  decide (laneRate (d.get Reg.RATE g) * 16384 * (if d.flag Reg.LANE_MODE g then 3 else 4) < load * 17035)

/-- R160: a head listed twice, or a declaration that cannot be used. -/
def Dev.headsIllegal (d : Dev) (g : Nat) : Bool :=
  let hs := d.listedHeads g
  let others := (List.range 6).filter (· != g) |>.flatMap d.listedHeads
  !hs.Nodup || hs.any others.contains || hs.any (fun h =>
    d.get Reg.COLUMNS (h - 1) == 0 ||
      ((d.get Reg.PLANE_MASK (h - 1)).testBit 3 && d.get Reg.PLANE_MASK (h - 1) / 16 % 8 != 0))

/-- R157: what waits for a group's transmitter is gone, and the commands that wait with it end: their heads are out of link. -/
def Dev.txDrop (d : Dev) (g : Nat) (on : Bool) : Dev :=
  let x := d.laneGroup g
  let gone := x.txGone ++ x.txQueue.filterMap (·.cmd)
  gone.foldl (fun d c => d.finish c.1 { status := .noResource, detail := 1 })
    (d.setLaneGroup g { x with txOn := on, txQueue := [], txGone := [], txLeft := 0 })

/-- A group taken down for training or a test: its lanes start again and its packets in progress are gone. -/
def Dev.dropGroup (d : Dev) (g : Nat) : Dev :=
  let d := (laneNumbers g).foldl (fun d n => d.setRxLane n { d.rxLane n with
    aligned := false, suspect := false, good := 0, bad := 0, seq := none, logical := n % 4, inverted := false }) d
  (d.groupDown g).noteLanes g

/-- R134, R156, R159, R475: a group that stays down until LINK_TRAIN; its heads are out of link. -/
def Dev.closeGroup (d : Dev) (g : Nat) : Dev :=
  let d := (d.dropGroup g).put Reg.HEADS_IN_LINK 0 g
  ((d.setLaneGroup g { d.laneGroup g with trained := false, pattern := 0 }).putFlag Reg.PRBS_ACTIVE false g).txDrop g false

/-- R475: the domain of a group goes off. -/
def Dev.lanesOff (d : Dev) (g : Nat) : Dev :=
  let d := d.closeGroup g
  let d := (laneNumbers g).foldl (fun d n => d.setRxLane n { d.rxLane n with locked := false, noSignal := false, noLock := false }) d
  (d.put Reg.LOS 0 g).put Reg.LOL 0 g

/-- R154, R164: the words of table 0Dh applied to the lanes of a group. -/
def Dev.applyBoard (d : Dev) (g : Nat) : Dev := d.setLaneGroup g { d.laneGroup g with board := d.boardWords g }

/-- R165: the declarations of a group's heads are read. -/
def Dev.readDecls (d : Dev) (g : Nat) : Dev :=
  (d.listedHeads g).foldl (fun d h => { d with lane := { d.lane with
    decl := d.lane.decl.set ((h - 1) % 11) ((d.word (Reg.PLANE_MASK.key (h - 1))).toNat % 2 ^ 25) (Nat.mod_lt _ (by decide)) } }) d

/-- R151: training of a group begins for a command. -/
def Dev.trainGroup (d : Dev) (g : Nat) (cmd : Outst) : Dev :=
  let d := ((d.closeGroup g).checkBlt.applyBoard g).readDecls g
  let d := (d.putFlag Reg.GID_BAD false g).putFlag Reg.SKEW_BAD false g
  let x := d.laneGroup g
  let d := d.setLaneGroup g { x with
    parity := d.flag Reg.LANE_MODE g, peer := d.flag Reg.LANE_ROLE g, rate := d.get Reg.RATE g,
    heads := d.listedHeads g, expectGid := d.get Reg.EXPECT_GID g, hunting := true, fault := false,
    training := some (d.clk.bus, cmd), timeoutMs := d.get Reg.TRAIN_TIMEOUT g, wanderPpm := d.get Reg.WANDER_PPM g, txOn := true }
  d.putFlag Reg.TRAINING true g

def formLinkTrain : Form := { code := 0x0401, managed := true, states := stIAHF, sel := 7, long := true }

/-- SELECTOR [2:0] names a group, 0 to 5 (R160). -/
def checkGroup (e : Entry) (_ : Dev) : Option Nat := if 5 < e.sel 2 0 then some 4 else none

/-- R156, R160: why a group cannot be trained. -/
def Dev.trainRefuses (d : Dev) (g : Nat) : Option Reply :=
  if d.headsIllegal g then some (badParam 0xFF)
  else if d.overloaded g then some { status := .noResource }
  else none

/-- LINK_TRAIN's effect (R151, R160): a long operation. -/
def effLinkTrain (e : Entry) (d : Dev) : Dev × Reply :=
  let g := e.sel 2 0
  match d.trainRefuses g with
  | some r => (if r.status = .noResource then d.closeGroup g else d, r)
  | none => (d.trainGroup g ⟨e.sq, e.tag.toNat, 0x0401, true⟩, { held := true })

/-- R151: all listed heads are accepted, or on a peer group the group is up. -/
def Dev.trained (d : Dev) (g : Nat) : Bool :=
  let x := d.laneGroup g
  d.flag Reg.GROUP_UP g && (x.peer || x.heads.all (d.groupHeads g).contains)

/-- LINK_TRAIN_COMPLETE (R151, R160): training of a group has ended, all heads accepted or TRAIN_TIMEOUT past. -/
def Dev.trainDone (d : Dev) (g : Nat) : Dev :=
  let x := d.laneGroup g
  match x.training with
  | none => d
  | some (t0, cmd) =>
    if !(d.trained g || decide (t0 + x.timeoutMs * 200000 ≤ d.clk.bus)) then d
    else
      let d := (d.setLaneGroup g { x with training := none }).putFlag Reg.TRAINING false g
      let result := d.get Reg.LANE_UP g + 2 ^ 4 * d.get Reg.GROUP_UP g + 2 ^ 5 * d.get Reg.DEGRADED g
        + 2 ^ 8 * d.get Reg.RX_GID g + 2 ^ 16 * d.get Reg.HEADS_IN_LINK g + 2 ^ 32 * d.get Reg.SKEW g
      d.finish cmd { status := if d.flag Reg.GROUP_UP g then .ok else .timeout, result := result }

def formLinkStatus : Form := { code := 0x0402, managed := false, states := stIASHF, sel := 7 }

/-- LINK_STATUS's effect (R160): GSTAT, the lane map, the heads in link and the skew. -/
def effLinkStatus (e : Entry) (d : Dev) : Dev × Reply :=
  let g := e.sel 2 0
  (d, { result := (d.word (Reg.GROUP_UP.key g)).toNat + 2 ^ 32 * d.get Reg.LANE_MAP g
    + 2 ^ 40 * d.get Reg.HEADS_IN_LINK g + 2 ^ 52 * d.get Reg.SKEW g })

/-! Pattern tests and messages. -/

def formLanePrbs : Form :=
  { code := 0x0403, managed := true, states := stIASHF, sel := 7,
    inl := [(12, 0x8F), (13, 0x0F), (14, 0xFF), (15, 0xFF), (16, 1)] }

/-- LANE_PRBS's effect (R159): GUARDED; the group goes down and stays down until LINK_TRAIN. A generator begins at a state that the spec
does not give. (DESIGN CHOICE, log 126) -/
def effLanePrbs (e : Entry) (d : Dev) : Dev × Reply :=
  let g := e.sel 2 0
  let o := e.inl 12 1
  if d.st.imaging && !o.testBit 7 then (d, { status := .intrusiveRefused })
  else
    let d := d.closeGroup g
    let d := (laneNumbers g).foldl (fun d n => d.setRxLane n { d.rxLane n with checker := ⟨[], none⟩ }) d
    let (d, n) := d.takeFree
    let deg := (prbsTaps (o % 4)).1
    let d := d.setLaneGroup g { d.laneGroup g with
      pattern := o % 4, patternUse := o / 4 % 4, patternLanes := e.inl 13 1 % 16, patternErrors := e.inl 14 2, patternRaised := false
      patternState := List.replicate 4 (1 + Config.freeValue n % (2 ^ deg - 1)), patternSent := 0
      patternNow := (e.inl 16 1).testBit 0 }
    (d.putFlag Reg.PRBS_ACTIVE (o % 4 != 0) g, {})

/-- PRBS_ERRS of a physical lane. -/
def prbsErrs (i : Nat) : Fld :=
  match i with | 0 => Reg.PRBS_ERRS0 | 1 => Reg.PRBS_ERRS1 | 2 => Reg.PRBS_ERRS2 | _ => Reg.PRBS_ERRS3

/-- R159: one bit error on a lane under test: counted, and PRBS_ERR once per test. -/
def Dev.prbsError (d : Dev) (n : Nat) : Dev :=
  let g := n / 4
  let d := d.count (prbsErrs (n % 4)) 1 g
  let x := d.laneGroup g
  if x.patternRaised then d
  else ((d.setLaneGroup g { x with patternRaised := true }).gflag g 6).raise { source := 134 + g, inst := g }

/-- PRBS_BIT_ERROR (R159): the bits that a lane under test receives go through its checker. -/
def Dev.prbsIn (d : Dev) (n : Nat) (bits : List Bool) : Dev :=
  let g := n / 4
  let x := d.laneGroup g
  if n ≥ 24 || !d.lanesOn g || x.pattern = 0 || !x.patternUse.testBit 1 || !x.patternLanes.testBit (n % 4) then d
  else bits.foldl (fun d b =>
    let (c, err) := (d.rxLane n).checker.take x.pattern b
    let d := d.setRxLane n { d.rxLane n with checker := c }
    if err then d.prbsError n else d) d

def formHeadControl : Form :=
  { code := 0x0404, managed := true, states := stIASHF, sel := 0x800F, inl := [(12, 1), (13, 0xFF)], buf := true }

/-- The head 1 to 11, or the peer group; MSG and BUF_LEN of a send (R160). -/
def checkHeadControl (e : Entry) (_ : Dev) : Option Nat :=
  let peer := e.selector.getLsbD 15
  if peer && 5 < e.sel 3 0 then some 4
  else if !peer && (e.sel 3 0 = 0 || 11 < e.sel 3 0) then some 4
  else if e.inl 12 1 = 0 then
    (if e.inl 13 1 < 0x40 || 0x7F < e.inl 13 1 then some 13
     else if e.bufLen.toNat < 8 || 32768 < e.bufLen.toNat || e.bufLen.toNat % 8 ≠ 0 then some 0x38 else none)
  else if e.inl 13 1 ≠ 0 then some 13 else none

/-- 64-bit words of a buffer. -/
def words64 : List Byte → List Nat
  | a :: b :: c :: e :: f :: g :: h :: i :: rest => leNat [a, b, c, e, f, g, h, i] :: words64 rest
  | _ => []

/-- HEAD_CONTROL's effect (R157, R160): a user message goes to the transmitter, or the oldest message of a mailbox is taken. -/
def effHeadControl (e : Entry) (d : Dev) : Dev × Reply :=
  let peer := e.selector.getLsbD 15
  let g? := if peer then
      (if (d.laneGroup (e.sel 2 0)).peer && d.flag Reg.GROUP_UP (e.sel 2 0) then some (e.sel 2 0) else none)
    else d.groupOf (e.sel 3 0)
  match g? with
  | none => (d, { status := .noResource, detail := 1 })
  | some g =>
    if e.inl 12 1 = 0 then
      (d.control g (if peer then 0 else e.sel 3 0) (e.inl 13 1) (words64 e.data) (some ⟨e.sq, e.tag.toNat, 0x0404, false⟩),
        { held := true })
    else
      let box := if peer then 16 + g else e.sel 3 0
      let mine := d.lane.mail.filter (fun x => x.box == box)
      match mine with
      | [] => (d, {})
      | m :: rest =>
        if e.bufLen.toNat < 8 * m.words.length then (d, badParam 0x38)
        else
          ({ d with lane := { d.lane with mail := rest ++ d.lane.mail.filter (fun x => x.box != box) } },
            { result := m.msg + 2 ^ 16 * m.words.length + 2 ^ 32 * m.seq + 2 ^ 48 * b2n (!rest.isEmpty),
              out := groupBytes m.words })

/-- FLIP (R162): a write to RX_FLIP arms the inversion on a physical lane of a group. -/
def Dev.armFlip (d : Dev) (g lane : Nat) : Dev :=
  let d := (laneNumbers g).foldl (fun d n => d.setRxLane n { d.rxLane n with flip := false }) d
  d.setRxLane (4 * g + lane % 4) { d.rxLane (4 * g + lane % 4) with flip := true }

/-! Transmission (R135 to R142, R157, R159). -/

/-- The next `n` group words for the lanes, CALM where nothing waits, what still waits, and the commands whose packets are wholly among
those words. -/
def takeWords : Nat → List TxItem → List Nat × List TxItem × List (Outst × Nat)
  | 0, q => ([], q, [])
  | n + 1, q =>
    match q with
    | [] => (List.replicate (n + 1) 0, [], [])
    | x :: rest =>
      match x.words with
      | [] => takeWords n rest
      | [w] =>
        let (ws, q, done) := takeWords n rest
        (w :: ws, q, x.cmd.toList ++ done)
      | w :: more =>
        let (ws, q, done) := takeWords n ({ x with words := more } :: rest)
        (w :: ws, q, done)

/-- R157: the next interval begins on a group: its words are settled, its bits go out, and the commands whose packets left with the one
before complete. GROUP_ID of the unit's own markers is a value that the spec does not give. -/
def Dev.sendInterval (d : Dev) (g : Nat) : Dev :=
  let x := d.laneGroup g
  let d := x.txGone.foldl (fun d c => d.finish c.1 { result := c.2 }) d
  let (ws, q, done) := takeWords (intervalWords x.parity) x.txQueue
  let lanes := intervalBits x.parity (Config.groupId g % 256) x.txInterval ws
  let pins := lanes.zipIdx.map (fun p => p.1.map (fun b => b != d.boardInverts g (4 + p.2)))
  (d.setLaneGroup g { x with
    txQueue := q, txGone := done, txInterval := (x.txInterval + 1) % 2 ^ 16,
        txLeft := x.txLeft + (lanes.head?.map List.length).getD 0 }).send
    (.interval g pins)

/-- R159: a BUSCLK cycle of a test: `n` bits of the pattern on each of its lanes. -/
def Dev.sendPattern (d : Dev) (g n : Nat) : Dev :=
  let x := d.laneGroup g
  let step := fun (p : Nat × Nat) => (p.2, prbsBits x.pattern x.patternErrors n x.patternSent x.patternNow p.1)
  let all := x.patternState.zipIdx.map step
  let d := d.setLaneGroup g { x with
    patternState := all.map (fun p => p.2.2), patternSent := x.patternSent + n, patternNow := false }
  (all.filter (fun p => x.patternLanes.testBit p.1)).foldl (fun d p =>
    d.send (.pattern (4 * g + p.1) (p.2.1.map (fun b => b != d.boardInverts g (4 + p.1))))) d

/-- What a group transmits in one BUSCLK cycle: 96, 48 or 24 bit times on each lane. -/
def Dev.sendLanes (d : Dev) (g : Nat) : Dev :=
  let x := d.laneGroup g
  let n := laneRate x.rate / 200000000
  if !d.lanesOn g then d
  else if x.pattern ≠ 0 then (if x.patternUse.testBit 0 then d.sendPattern g n else d)
  else if !x.txOn then d
  else
    let d := if x.txLeft < n then d.sendInterval g else d
    d.setLaneGroup g { d.laneGroup g with txLeft := (d.laneGroup g).txLeft - n }

/-- A BUSCLK cycle passes on the transmit lanes. (DESIGN CHOICE, log 125) -/
def Dev.transmit (d : Dev) : Dev := (List.range 6).foldl Dev.sendLanes d

end Sys2Proof.Machine
end

