-- ==== Sys2Proof/Machine/Taps.lean ====
section
/-!
DEFINITION. Raw taps (R218 to R223): arming, the lines an arming selects, and their records.
-/

namespace Sys2Proof.Machine

/-- The bits of a pixel's tag (R174), and the two that stay inside the model. -/
def tagSat : Nat := 1
def tagDef : Nat := 2
def tagPad : Nat := 4
def tagBlind : Nat := 8
def tagInj : Nat := 16
def tagOff : Nat := 32

/-- A pixel has a tag bit. -/
def Pixel.has (p : Pixel) (t : Nat) : Bool := p.tag &&& t != 0

/-- R44: a record that is dropped whole where its share has no tokens or its window refuses it. -/
def Dev.stream (d : Dev) (c : ArchClass) (w : Nat) (bytes : List Byte) : Dev × Bool :=
  if !d.winOpen w then (d.lostRecord w, false)
  else if !d.affords c bytes.length then (d, false)
  else
    match d.placeRecord (raiseDeep 8) w bytes with
    | (d, true) => (d.charge c bytes.length, true)
    | (d, false) => (d, false)

/-! Streams: forecasts (R292), view lines (R217) and tap lines (R222). -/

/-- The records of a stream that wait for tokens. -/
def Dev.waiting (d : Dev) (c : ArchClass) : List StreamRec :=
  match c with
  | .forecast => d.arch.forecasts
  | .view => d.arch.views
  | .tap => d.arch.taps
  | _ => []

def Dev.setWaiting (c : ArchClass) (rs : List StreamRec) (d : Dev) : Dev :=
  match c with
  | .forecast => { d with arch := { d.arch with forecasts := rs } }
  | .view => { d with arch := { d.arch with views := rs } }
  | .tap => { d with arch := { d.arch with taps := rs } }
  | _ => d

/-- The records of a stream that were dropped since its last one was written, and whether the next one carries INJECTED (R223). -/
def Dev.streamOwes (d : Dev) (c : ArchClass) (key : Nat) : Nat × Bool :=
  match c with
  | .forecast => (d.cls.fcDrops, false)
  | .view => ((d.headS key).viewDrops, (d.headS key).viewInj)
  | .tap => (d.pipe.tapDrops[key % 4], d.pipe.tapInj.getLsbD key)
  | _ => (0, false)

/-- Bytes put into a record. -/
def putBytes (bs : List Byte) (off n v : Nat) : List Byte := bs.take off ++ leBytes n v ++ bs.drop (off + n)

/-- R216, R219, R292: a record as it leaves, with the drops before it and an injection that it owes. -/
def stampDrops (c : ArchClass) (bs : List Byte) (drops : Nat) (inj : Bool) : List Byte :=
  match c with
  | .forecast => sealAt 0x3C (putBytes bs 0x30 4 drops)
  | .view => sealAt 0x1C (putBytes (putBytes bs 2 1 (leAt bs 2 1 ||| (2 * b2n (drops != 0) + 4 * b2n inj))) 0x18 4 drops)
  | .tap => sealAt 0x24 (putBytes (putBytes bs 3 1 (leAt bs 3 1 ||| (b2n (drops != 0) + 4 * b2n inj))) 0x1C 4 drops)
  | _ => bs

/-- A record of a stream has been written. -/
def Dev.streamOut (c : ArchClass) (key : Nat) (d : Dev) : Dev :=
  match c with
  | .forecast => { d with cls := { d.cls with fcDrops := 0 } }
  | .view => d.setHeadS key { d.headS key with viewDrops := 0, viewInj := false }
  | .tap => ({ d with pipe := { d.pipe with
      tapDrops := d.pipe.tapDrops.set (key % 4) 0 (Nat.mod_lt _ (by decide))
      tapInj := d.pipe.tapInj &&& ~~~(BitVec.ofNat 4 (1 <<< key)) } }).count Reg.TAP_LINES 1 key
  | _ => d

/-- R44, R217, R222, R292: a record of a stream is dropped, counted and reported. -/
def Dev.streamLost (c : ArchClass) (key : Nat) (d : Dev) : Dev :=
  match c with
  | .forecast => ({ d with cls := { d.cls with fcDrops := sat32 (d.cls.fcDrops + 1) } }).lostBudget
  | .view =>
    ((((d.setHeadS key { d.headS key with viewDrops := sat32 ((d.headS key).viewDrops + 1) }).count Reg.VIEW_DROPS).lostBudget).orBits
      Reg.VIEW_DROP 1).raise { source := 201, inst := key, key := key, data := [(1, key)], limited := true }
  | .tap =>
    let n := sat32 (d.pipe.tapDrops[key % 4] + 1)
    (((({ d with pipe := { d.pipe with tapDrops := d.pipe.tapDrops.set (key % 4) n (Nat.mod_lt _ (by decide)) } }).count
      Reg.TAP_DROPS 1 key).lostBudget).orBits Reg.TAP_DROP (1 <<< key)).raise
      { source := 200, inst := key, key := key, data := [(1, key)], limited := true }
  | _ => d

/-- A record of a stream leaves for its window, which may refuse it (R409). -/
def Dev.leave (c : ArchClass) (r : StreamRec) (d : Dev) : Dev :=
  let owes := d.streamOwes c r.key
  match d.placeRecord (raiseDeep 8) r.win (stampDrops c r.bytes owes.1 owes.2) with
  | (d, true) => (d.charge c r.bytes.length).streamOut c r.key
  | (d, false) => d.streamLost c r.key

/-- The buffer of a stream has room for a record of `n` bytes: 256 MiB of the line store for the view (R217), 1 GiB for taps (R222). -/
def Dev.streamRoom (d : Dev) (c : ArchClass) (n : Nat) : Bool :=
  let size := if c = .view then 2 ^ 28 else 2 ^ 30
  d.domainReady 15 && d.domainReady 16 && decide (((d.waiting c).map (·.bytes.length)).foldl (· + ·) n ≤ size)

/-- R44, R217, R222, R292: a record of a stream leaves while its share has tokens, waits behind others while its buffer has room,
and is dropped otherwise. Of the forecasts that wait the oldest are dropped; how many may wait is not stated.
(DESIGN CHOICE, log 33) (DESIGN CHOICE, log 118) -/
def Dev.offer (c : ArchClass) (r : StreamRec) (d : Dev) : Dev :=
  if !d.winOpen r.win then (d.lostRecord r.win).streamLost c r.key
  else if (d.waiting c).isEmpty && d.affords c r.bytes.length then d.leave c r
  else if c = .forecast then
    let d := d.setWaiting c (d.waiting c ++ [r])
    if (d.waiting c).length ≤ Config.forecastSlots then d else (d.setWaiting c ((d.waiting c).drop 1)).streamLost c r.key
  else if d.streamRoom c r.bytes.length then d.setWaiting c (d.waiting c ++ [r])
  else d.streamLost c r.key

/-- Every second value of a list paired with the one before it: tags and classes, two in a byte (R218). -/
def nibbles : List Nat → List Byte
  | [] => []
  | [a] => [BitVec.ofNat 8 (a % 16)]
  | a :: b :: rest => BitVec.ofNat 8 (a % 16 + 16 * (b % 16)) :: nibbles rest

/-- R218: the payload of T1 to T3: chosen samples column by column, then tags, zero-padded. -/
def samplePayload (pick : List Nat) (ps : List Pixel) : List Byte :=
  padTo 8 (ps.flatMap (fun p => pick.flatMap (fun i => leBytes 2 ((p.vals[i]?).getD 0))) ++ nibbles (ps.map (·.tag)))

/-- The TAP registers of a channel (R225). -/
def Dev.noteTap (d : Dev) (t : Tap) (armed : Bool) : Dev :=
  (((d.putFlag Reg.TAP_ARMED armed t.channel).put Reg.TAP_POINT t.point t.channel).put Reg.TAP_SOURCE t.source t.channel).put
    Reg.TAP_WINDOW t.window t.channel

/-- R219: a tap record. `planes`, columns and payload depend on the point. -/
structure TapLine where
  num : Nat
  tb : Nat
  gen : Nat
  missing : Bool
  origin : Nat
  planes : Nat
  colFirst : Nat
  colCount : Nat
  inj : Bool
  payload : List Byte
  deriving DecidableEq, Repr

def Tap.record (t : Tap) (x : TapLine) (last inj : Bool) : List Byte :=
  let flags := 2 * b2n last + 4 * b2n (inj || x.inj) + 8 * b2n x.missing
  sealAt 0x24 (pack [(1, 0x54), (1, t.point + 16 * t.channel), (1, t.source), (1, flags), (4, x.num), (8, x.tb), (2, x.gen),
    (2, x.planes), (2, x.colFirst), (2, x.colCount), (4, x.origin), (4, 0), (4, x.payload.length), (4, 0)]
    ++ x.payload)

/-- An arming replaced by its next state. -/
def Dev.setTap (d : Dev) (old new : Tap) : Dev :=
  { d with pipe := { d.pipe with taps := d.pipe.taps.map (fun x => if x == old then new else x) } }

/-- R221: the first line of an arming's source from n on, and how far apart the lines are that it selects. At T3 and T4 there are the
lines alone that AT_DEC keeps, one in `dec`. -/
def Tap.lead (t : Tap) (dec n : Nat) : Nat := if t.point < 3 then n else lineAdd n ((dec - n % dec) % dec)
def Tap.stride (t : Tap) (dec : Nat) : Nat := if t.point < 3 then t.step else ceilDiv t.step dec * dec

/-- R221: an arming that still selects takes line n. -/
def Tap.takes (t : Tap) (n : Nat) : Bool :=
  match t.next with
  | some m => lineFrom n m && (3 ≤ t.point || (lineDiff n m).toNat % t.step = 0)
  | none => true

/-- R221, R222, R460: a line at the point and source of an arming: selected or not, written or dropped. (DEDUCED, log 28) -/
def Dev.tapOne (d : Dev) (t : Tap) (make : Tap → TapLine) : Dev :=
  let x := make t
  let dec := 2 ^ d.get Reg.AT_DEC
  let ended := match t.stop with | some (s, _) => lineAfter x.num s | none => false
  if t.waits then d
  else if ended then d.endTap t ((t.stop.map (·.2)).getD 1)
  else if !t.takes x.num then d
  else
    let more := t.lead dec (lineAdd x.num t.step)
    let last := t.left == some 1 || (match t.stop with | some (s, _) => lineAfter more s | none => false)
    let d := if d.therm.noTaps then d.streamLost .tap t.channel
      else d.offer .tap ⟨t.window, t.channel, t.record x last x.inj⟩
    let t' := { t with next := some (lineAdd x.num t.step), left := t.left.map (· - 1), lastSel := x.num }
    let d := d.setTap t t'
    if t.left == some 1 then d.endTap t' 0
    else if last then d.endTap t' ((t.stop.map (·.2)).getD 1)
    else d

/-- A line at a point and source, for every arming there. -/
def Dev.tap (d : Dev) (point source : Nat) (make : Tap → TapLine) : Dev :=
  (d.pipe.taps.filter (fun t => t.point == point && t.source == source)).foldl (fun d t => d.tapOne t make) d

/-- R218: the columns an arming takes of a line. -/
def Tap.columns (t : Tap) (ps : List Pixel) : List Pixel :=
  (ps.drop t.colFirst).take (if t.colCount = 0 then ps.length else t.colCount)

/-- A tap of a head line at T1 or T2. -/
def HLine.tapLine (l : HLine) (tb : Nat) (r : LineRec) (t : Tap) : TapLine :=
  let slots := bitsOf 7 l.mask
  let want := if t.planes = 0 then l.mask else t.planes &&& l.mask
  let pick := (List.range slots.length).filter (fun i => want.testBit ((slots[i]?).getD 0))
  let ps := t.columns l.cols
  ⟨l.num, tb, l.gen, r.missing, r.origin, want, t.colFirst, ps.length, r.inj || ps.any (·.has tagInj), samplePayload pick ps⟩

def formTapArm : Form :=
  { code := 0x0A03, managed := true, states := stIASHF, sel := 3,
    inl := [(12, 0x1F), (13, 0xFF), (14, 0x3F), (15, 0xFF)] ++ inlBytes 16 21 ++ inlBytes 24 31 }

/-- The slots that a source delivers (R85, R180). -/
def Dev.slotsOf (d : Dev) (h : Nat) : Nat :=
  if h = 0 then (if d.runMode % 4 = 2 then 1 <<< (d.runMode / 4 % 4) else 0x0F) else d.declMask h % 128

/-- The columns of a head. -/
def Dev.widthOf (d : Dev) (h : Nat) : Nat := if h = 0 then 16384 else d.declColumns h

/-- R220: the fields of an arming. POINT is checked of a DISARM too; the others say nothing there. (DEDUCED, log 131) -/
def checkTapArm (e : Entry) (d : Dev) : Option Nat :=
  let point := e.inl 12 1 % 8
  let source := e.inl 13 1
  let first := e.inl 16 2
  let count := e.inl 18 2
  let width := if point < 3 then d.widthOf source else 49152
  if 4 < point then some 0x0C
  else if (e.inl 12 1).testBit 3 then none
  else if (point < 3 && 11 < source) || (3 ≤ point && 1 < source) then some 0x0D
  else if point ≠ 0 && (width < first + count || width ≤ first) then some 0x10
  else if (point = 1 || point = 2) && (e.inl 20 2 &&& d.slotsOf source) ≠ e.inl 20 2 then some 0x14
  else if !(e.inl 12 1).testBit 4 && d.arr.running && d.arr.begun && !lineAfter (e.inl 24 4) d.lineNow then some 0x18
  else none

/-- R221: an arming ends after the line in progress; at once where nothing is left for it to select. -/
def Dev.stopTap (d : Dev) (t : Tap) : Dev :=
  if !(d.arr.running && d.arr.begun) then d.endTap t 1
  else
    match t.next with
    | some n => if lineAfter n d.lineNow then d.endTap t 1 else d.setTap t { t with stop := some (d.lineNow, 1) }
    | none => d.endTap t 1

/-- The last line an arming selects by line `c`. -/
def Tap.lastBy (t : Tap) (dec c : Nat) : Nat :=
  match t.next with
  | none => t.lastSel
  | some n =>
    let n := t.lead dec n
    if t.waits || lineAfter n c then t.lastSel
    else
      let k := (lineDiff c n).toNat / t.stride dec
      lineAdd n ((match t.left with | some m => min k (m - 1) | none => k) * t.stride dec)

/-- TAP_ARM's effect (R220, R221). -/
def effTapArm (e : Entry) (d : Dev) : Dev × Reply :=
  let ch := e.sel 1 0
  let old := d.pipe.taps.find? (fun t => t.channel == ch && t.stop.isNone)
  if (e.inl 12 1).testBit 3 then
    match old with
    | none => (d, {})
    | some t => (d.stopTap t, { result :=
        if d.arr.running && d.arr.begun then t.lastBy (2 ^ d.get Reg.AT_DEC) d.lineNow else t.lastSel })
  else if !(d.win (e.inl 14 1)).attached then (d, { status := .noResource, detail := 1 })
  else
    let going := d.arr.running && d.arr.begun
    let first : Option Nat :=
      if (e.inl 12 1).testBit 4 then (if going then some (lineAdd d.lineNow 1) else none) else some (e.inl 24 4)
    let t : Tap := ⟨ch, e.inl 12 1 % 8, e.inl 13 1, e.inl 14 1 % 64, max 1 (e.inl 15 1), e.inl 16 2, e.inl 18 2,
      e.inl 20 2, first, !d.arr.running, (if e.inl 28 4 = 0 then none else some (e.inl 28 4)), 0, none⟩
    let d := match old with | some o => d.stopTap o | none => d
    let d := ({ d with pipe := { d.pipe with taps := d.pipe.taps ++ [t] } }).noteTap t true
    (d, { result := first.getD 0xFFFFFFFF + 2 ^ 32 * b2n old.isSome })

end Sys2Proof.Machine
end

