-- ==== Sys2Proof/Machine/Correct.lean ====
section
/-!
DEFINITION. Corrections (R175 to R182): black level, the DUAL merge, defect replacement and shading; and frame statistics
(R110 to R112, R411).
-/

namespace Sys2Proof.Machine

/-- A sample as ingest hands it on: its code, SAT, PAD, and in DUAL the long code beside the short one. -/
structure Raw where
  x : Nat
  sat : Bool
  pad : Bool
  lx : Nat := 0
  lsat : Bool := false
  deriving DecidableEq, Repr

/-- A line as ingest shapes it (R172): the samples of each column in rising slot order; none where head 0 did not convert
the column. -/
structure RawLine where
  num : Nat
  gen : Nat
  mask : Nat
  dual : Bool
  cols : List (Option (List Raw))
  deriving DecidableEq, Repr

/-- A sample after a step of the corrections. -/
structure Samp where
  b : Int
  sat : Bool
  pad : Bool
  defective : Bool
  deriving DecidableEq, Repr

/-- Floor of a quotient, half rounded up. -/
def roundInt (a b : Int) : Int := (2 * a + b) / (2 * b)

/-- A value held between 0 and a top. -/
def clampNat (top : Nat) (v : Int) : Nat := if v < 0 then 0 else min v.toNat top

/-! Black level. -/

/-- What the corrections of one line use. -/
structure CorrEnv where
  head : Nat
  conf : Conf
  dual : Bool
  /-- DARK_REF by row, of the only or long window and of the short one; 0 where it is not applied. -/
  dark : List Nat
  darkShort : List Nat
  ratio : List Nat
  deriving DecidableEq, Repr

/-- Table 02h: the offset of a column and slot, in 1/16 LSB. -/
def Conf.offset (c : Conf) (h col slot : Nat) : Int :=
  signed 16 (c.table 0x02 h (4 * col + slot / 2) >>> (16 * (slot % 2)))

/-- Table 03h: the gain of a column and slot, 2.14. -/
def Conf.gain (c : Conf) (h col slot : Nat) : Nat := c.table 0x03 h (4 * col + slot / 2) >>> (16 * (slot % 2)) % 2 ^ 16

/-- R175, R178: a sample's black-corrected value in 1/16 LSB, merged in DUAL. -/
def CorrEnv.black (v : CorrEnv) (col slot : Nat) (r : Raw) : Samp :=
  if r.pad then ⟨0, false, true, false⟩
  else
    let o := if v.conf.flag Reg.OFFSET_EN then v.conf.offset v.head col slot else 0
    let d : Int := (v.dark[slot]?).getD 0
    if v.dual then
      if r.lx < v.conf.get Reg.DUAL_KNEE && !r.lsat then ⟨16 * r.lx - d - o, r.lsat, false, false⟩
      else
        let b : Int := 16 * r.x - (v.darkShort[slot]?).getD 0 - o
        ⟨(b * (v.ratio[slot]?).getD 0 + 0x8000) >>> 16, r.sat, false, false⟩
    else ⟨16 * r.x - d - o, r.sat, false, false⟩

/-- R176: the mean of valid dark codes in 1/16 LSB drawn into a reference, rounded to the nearest 1/16 LSB.
(DEDUCED, log 27) -/
def darkFilter (ref alpha sum count : Nat) : Nat :=
  roundDiv (ref * (2 ^ alpha - 1) * count + 16 * sum) (2 ^ alpha * count)

/-- R176: the dark reference of one row and window after a line; `i` is its word, `codes` the line's dark codes with SAT.
`first` says that the line is the first of its run. A window that no run has had stands at 16 x PEDESTAL. -/
def Dev.darkStep (d : Dev) (c : Conf) (row i : Nat) (first : Bool) (codes : List (Nat × Bool)) : Dev :=
  let ref := if d.pipe.darkSet.getLsbD i then d.get Reg.DARK_REF i else 16 * c.get Reg.PEDESTAL
  let off := d.pipe.darkOpen.getLsbD i
  let valid := codes.filter (fun x => !x.2 && (off || decide (((16 * x.1 : Nat) - (ref : Int)).natAbs ≤ 1024)))
  let bit8 : BitVec 8 := BitVec.ofNat 8 (1 <<< i)
  let d := { d with pipe := { d.pipe with darkSet := d.pipe.darkSet ||| bit8 } }
  if valid.length < c.get Reg.DARK_MIN then
    ((d.put Reg.DARK_REF ref i).orBits Reg.DARK_HOLD (1 <<< row)).raise
      { source := 168, inst := 0, limited := true }
  else
    let alpha := if first then 0 else c.get Reg.DARK_ALPHA
    let new := darkFilter ref alpha ((valid.map (·.1)).foldl (· + ·) 0) valid.length
    ({ d with pipe := { d.pipe with darkOpen := d.pipe.darkOpen &&& ~~~bit8 } }).put Reg.DARK_REF new i

/-! Defects. -/

/-- COUNT of a defect map, 0 to 4,096 (R181). A larger value names every entry that the table has. (DESIGN CHOICE, log 129) -/
def defectCount (w : Nat) : Nat := min 4096 (w % 2 ^ 13)

/-- Table 01h as a mask of slots by column (R181). -/
def Conf.defects (c : Conf) (h width : Nat) : Array Nat :=
  (List.range (defectCount (c.table 0x01 h 0))).foldl (fun a i =>
    let w := c.table 0x01 h (1 + i)
    let col := w % 2 ^ 14
    if col < width then a.modify col (· ||| w / 2 ^ 16 % 128) else a) (Array.replicate width 0)

/-- R179: how far apart the positions of a sample's plane lie. -/
def planeStep (slot col : Nat) : Nat := if slot = 3 then (if col % 2 = 0 then 2 else 4) else 1

/-- A line's black-corrected samples by column and place among its slots. -/
abbrev SampLine := Array (Option (List Samp))

/-- R179: a neighbour's value, where it is usable. -/
def usable (line : SampLine) (bad : Array Nat) (slot place : Nat) (col : Int) : Option Samp :=
  if col < 0 then none
  else if ((bad[col.toNat]?).getD 0).testBit slot then none
  else match (line)[col.toNat]? with
    | some (some ss) => match ss[place]? with | some s => if s.pad then none else some s | none => none
    | _ => none

/-- R179: the columns of the nearest usable neighbours on one side, `dir` -1 or 1. -/
def nearest (line : SampLine) (bad : Array Nat) (slot place col : Nat) (dir : Int) : Option (Nat × Samp) :=
  [1, 2, 3, 4].findSome? (fun k =>
    let c : Int := col + dir * (k * planeStep slot col : Nat)
    (usable line bad slot place c).map (fun s => (c.toNat, s)))

/-- R179: a defective sample replaced; with no usable neighbour it becomes PAD. -/
def replaceSamp (line : SampLine) (bad : Array Nat) (slot place col : Nat) : Samp :=
  match nearest line bad slot place col (-1), nearest line bad slot place col 1 with
  | some (_, a), some (_, c) => ⟨(a.b + c.b + 1) >>> 1, a.sat || c.sat, false, true⟩
  | some (_, a), none => ⟨a.b, a.sat, false, true⟩
  | none, some (_, c) => ⟨c.b, c.sat, false, true⟩
  | none, none => ⟨0, false, true, true⟩

/-- R175: shading: the 14-bit output of a sample that is not PAD. -/
def shade (b : Int) (gain shift : Nat) : Nat := clampNat 16383 (roundInt (b * gain) (65536 * 2 ^ shift))

/-- The corrected line of a head: each sample's output and its own tags, and whether a sample could not be replaced. -/
structure Corrected where
  black : SampLine
  out : List (Option (List (Nat × Samp)))
  unreplaced : Bool
  deriving Repr

/-- R175: the corrections of a line, in their fixed order. -/
def CorrEnv.correct (v : CorrEnv) (l : RawLine) : Corrected :=
  let slots := bitsOf 7 l.mask
  let idx := slots.zip (List.range slots.length)
  let black : SampLine := ((l.cols.zip (List.range l.cols.length)).map (fun p =>
    p.1.map (fun rs => List.zipWith (fun s r => v.black p.2 s r) slots rs))).toArray
  let bad := if v.conf.flag Reg.DEFECT_EN then v.conf.defects v.head l.cols.length else #[]
  let shift := if v.dual then v.conf.get Reg.DUAL_SHIFT else 0
  let pad := v.conf.get Reg.PAD_VALUE
  let out := (black.toList.zip (List.range l.cols.length)).map (fun p =>
    p.1.map (fun ss => List.zipWith (fun (s : Samp) (q : Nat × Nat) =>
      let s' := if !s.pad && ((bad[p.2]?).getD 0).testBit q.1 then replaceSamp black bad q.1 q.2 p.2 else s
      let gain := if v.conf.flag Reg.SHADE_EN then v.conf.gain v.head p.2 q.1 else 0x4000
      (if s'.pad then pad else shade s'.b gain shift, s')) ss idx))
  ⟨black, out, out.any (fun o => match o with | some ss => ss.any (fun x => x.2.pad && x.2.defective) | none => false)⟩

/-- R174: a corrected pixel: SAT, DEF and PAD of its samples ORed. (DEDUCED, log 26) -/
def toPixel (n : Nat) (inj : Bool) : Option (List (Nat × Samp)) → Pixel
  | none => ⟨List.replicate n 0, tagOff⟩
  | some ss => ⟨ss.map (·.1), b2n (ss.any (·.2.sat)) + 2 * b2n (ss.any (·.2.defective)) + 4 * b2n (ss.any (·.2.pad))
      + 16 * b2n inj⟩

/-! Frame statistics. -/

/-- R111: the plane of a sample: slots 0 to 2, the mosaic's plane at its column, or slots 4 to 6. -/
def planeOf (slot col : Nat) : Nat :=
  if slot < 3 then slot else if slot = 3 then (if col % 2 = 0 then 3 else if col % 4 = 1 then 4 else 5) else slot - 1

def PlaneStats.add (p : PlaneStats) (v : Nat) (sat : Bool) : PlaneStats :=
  ⟨p.sum + v, p.count + 1, if p.count = 0 then v else Nat.min p.min v, Nat.max p.max v, p.sat + b2n sat⟩

/-- A line's samples added to a block. -/
def Stats.addLine (s : Stats) (mask : Nat) (out : List (Option (List (Nat × Samp)))) : Stats :=
  let slots := bitsOf 7 mask
  (out.zip (List.range out.length)).foldl (fun s p =>
    match p.1 with
    | none => s
    | some ss => (ss.zip slots).foldl (fun s q =>
        let x := q.1
        if x.2.pad then { s with padSamples := s.padSamples + 1, defSamples := s.defSamples + b2n x.2.defective }
        else { s with
          defSamples := s.defSamples + b2n x.2.defective
          planes := s.planes.modify (planeOf q.2 p.2) (fun t => t.add x.1 x.2.sat) }) s) s

/-- R111: the 256 bytes of a block. (DESIGN CHOICE, log 122) -/
def Stats.bytes (s : Stats) : List Byte :=
  let flags := b2n s.mixed + 2 * b2n s.genLag + 4 * b2n s.genLead + 8 * b2n s.short + 16 * b2n s.marked + 32 * b2n s.injected
    + 64 * b2n s.slip + 128 * b2n s.missing
  let dark := s.dark.map (fun p => (2, if p.2 = 0 then 0 else roundDiv (16 * p.1) p.2))
  let planes := s.planes.flatMap (fun p => [(8, p.sum), (4, p.count), (2, p.min), (2, p.max), (4, p.sat)])
  let body := pack ([(4, s.frame), (2, s.gen), (2, flags), (4, s.firstLine), (4, s.lineCount), (8, s.tb), (1, s.head),
    (1, s.mode), (2, 0), (4, s.missingLines), (4, s.padSamples), (4, s.defSamples)] ++ dark)
  body ++ List.replicate 16 0 ++ pack planes ++ List.replicate 72 0

/-- R411: a frame's statistics record. -/
def Dev.statsRecord (d : Dev) (s : Stats) : List Byte :=
  sealAt 0x1C (pack [(1, 0x41), (1, s.head), (2, 0), (4, s.frame), (8, d.tb), (8, 0), (4, 0), (4, 0)] ++ s.bytes)

/-- R111, R112, R411: a head's frame closes. The last 16 closed frames are held. `short` says that the run has ended: it ended the
frame in progress, if that had not all its lines yet. -/
def Dev.closeStats (d : Dev) (h : Nat) (short : Bool) : Dev :=
  if hh : h < 12 then
    match d.arr.cur[h] with
    | none => d
    | some s =>
      let count := (d.arr.lines.filter (fun l => l.frame == s.frame)).length
      let short := short && s.frame == d.arr.frameNum && decide (d.arr.frameOff < d.arr.frameLines)
      let s := { s with lineCount := count, short := short, marked := d.arr.markedFrames.contains s.frame }
      let mine : List Stats := (s :: d.arr.closed.filter (fun (x : Stats) => x.head == h)).take 16
      let d := { d with arr := { d.arr with
        cur := d.arr.cur.set h none, closed := mine ++ d.arr.closed.filter (fun (x : Stats) => x.head != h) } }
      if (d.get Reg.STATS_HEADS).testBit h then d.archive .stats (d.get Reg.STATS_WINDOW) (d.statsRecord s) else d
  else d

/-- The block of a head's frame that a line stands in: the old frame closes where the line begins another. -/
def Dev.openStats (d : Dev) (h : Nat) (l : LineInfo) : Dev :=
  if hh : h < 12 then
    let same := match d.arr.cur[h] with | some s => s.frame == l.frame | none => false
    if same then d
    else
      let d := d.closeStats h false
      let first := (d.arr.lines.filter (fun x => x.frame == l.frame)).getLast?.getD l
      let mode := if h = 0 then d.runMode else 0
      let zero : PlaneStats := ⟨0, 0, 0, 0, 0⟩
      let s : Stats := ⟨h, l.frame, first.gen, false, false, false, false, false, false, false, false, first.num, 0, first.tb,
        mode, 0, 0, 0, List.replicate 4 (0, 0), List.replicate 6 zero⟩
      { d with arr := { d.arr with cur := d.arr.cur.set h (some s) } }
  else d

/-- R112: STATS_READ's form. -/
def formStatsRead : Form :=
  { code := 0x0303, managed := true, states := stIASHF, sel := 0xF, inl := inlBytes 12 15 ++ [(16, 1)], buf := true }

/-- STATS_READ's checks: a head, and a buffer of 256 bytes (R112). -/
def checkStatsRead (e : Entry) (_ : Dev) : Option Nat :=
  if 11 < e.sel 3 0 then some 4 else if e.bufLen.toNat ≠ 256 then some 0x38 else none

/-- STATS_READ's effect (R112). -/
def effStatsRead (e : Entry) (d : Dev) : Dev × Reply :=
  let mine := d.arr.closed.filter (fun s => s.head == e.sel 3 0)
  match (if (e.inl 16 1).testBit 0 then mine.head? else mine.find? (fun s => s.frame == e.inl 12 4)) with
  | none => (d, badParam 0x0C)
  | some s => (d, { result := s.frame + 2 ^ 32 * s.gen + 2 ^ 48 * b2n s.mixed, out := s.bytes })

end Sys2Proof.Machine
end

