-- ==== Sys2Proof/Machine/Ingest.lean ====
section
/-!
DEFINITION. Ingest (R166 to R174): segment checks, origin checks, line identity and shape, missing lines; head 0's conversion
(R121 to R124); and what CALIBRATE gathers (R183 to R185).
-/

namespace Sys2Proof.Machine

/-! Samples in words (R147). -/

/-- Samples of `b` bits as one number, the first lowest. -/
def chunkValue (b : Nat) (xs : List Nat) : Nat := xs.foldr (fun x a => x + 2 ^ b * a) 0

/-- A number cut into 64-bit words, the first lowest. -/
def splitWords : Nat → Nat → List Nat
  | 0, _ => []
  | n + 1, v => v % 2 ^ 64 :: splitWords n (v / 2 ^ 64)

/-- A number cut into samples. -/
def splitSamples (b : Nat) : Nat → Nat → List Nat
  | 0, _ => []
  | n + 1, v => v % 2 ^ b :: splitSamples b n (v / 2 ^ b)

/-- R147: samples packed, 64 at a time (64 samples fill `b` words). -/
def packSamples (b : Nat) : Nat → List Nat → List Nat
  | 0, _ => []
  | n + 1, xs =>
    if xs.isEmpty then []
    else splitWords (ceilDiv ((xs.take 64).length * b) 64) (chunkValue b (xs.take 64)) ++ packSamples b n (xs.drop 64)

/-- R147: `count` samples read from words. -/
def unpackSamples (b : Nat) : Nat → Nat → List Nat → List Nat
  | 0, _, _ => []
  | n + 1, count, ws =>
    if count = 0 then []
    else splitSamples b (min 64 count) (chunkValue 64 (ws.take b)) ++ unpackSamples b n (count - 64) (ws.drop b)

/-- A list cut into pieces of `p`. -/
def piecesOf (p : Nat) : Nat → List Nat → List (List Nat)
  | 0, _ => []
  | n + 1, xs => if xs.isEmpty then [] else xs.take p :: piecesOf p n (xs.drop p)

/-! Detectors. -/

/-- R187: a detector of a head: its flag, its counter and its event. -/
def Dev.headEvent (d : Dev) (source h : Nat) (flag : Fld) (counter : Option Fld) (inj : Bool := false) : Dev :=
  let d := match counter with | some c => d.count c 1 h | none => d
  (d.orBits flag (1 <<< h)).raise { source := source, inst := h, key := h, limited := true, inj := inj }

/-- R111: something to be marked in a head's frame in progress. -/
def Dev.markStats (d : Dev) (h : Nat) (f : Stats → Stats) : Dev := d.setStats h f

/-! Origin checks. -/

/-- R168: the origin check of a missing line. -/
def missingOrigin (h line : Nat) : Nat := crc32c (leBytes 4 line ++ leBytes 1 h ++ [0xFF, 0xFF, 0xFF])

/-! Shape. -/

/-- R172: the sample that stands in for an absent one. -/
def padRaw : Raw := ⟨0, false, true, 0, false⟩

/-- R95, R170: a padded line: every declared column and slot, of head 0 the converted columns. -/
def Dev.paddedLine (d : Dev) (h line gen : Nat) (c : Conf) : RawLine :=
  let mask := d.slotsOf h
  let n := (bitsOf 7 mask).length
  ⟨line, gen, mask, false, (List.range (d.widthOf h)).map (fun col =>
    if h = 0 && !d.converted c col then none else some (List.replicate n padRaw))⟩

/-- R122, R167: a received 12-bit value as a sample. -/
def rawOf (x : Nat) : Raw := ⟨x, x == 0 || x == 0xFFF, false, 0, false⟩

/-- R167, R172: an accepted segment shaped to its head's declaration. Answers the line and which of SHORT_LINE, LONG_LINE
and PLANE_MISMATCH befell it. -/
def Dev.shape (d : Dev) (c : Conf) (words : List Nat) : RawLine × Bool × Bool × Bool :=
  let s := segHead words
  let have' := bitsOf 7 s.planes
  let bits := if s.fmt = 1 then 10 else 12
  let codes := unpackSamples bits (s.count * have'.length / 64 + 1) (s.count * have'.length) (words.drop 3)
  let values := if s.fmt = 1 then codes.map (fun k => c.table 0x0F 0 k % 2 ^ 12) else codes
  let columns := (piecesOf have'.length s.count values).toArray
  let mask := d.slotsOf s.head
  let width := d.widthOf s.head
  let line := (List.range width).map (fun col =>
    let got := if col < s.colStart then none else columns[col - s.colStart]?
    some ((bitsOf 7 mask).map (fun slot =>
      match got with
      | none => padRaw
      | some vs => match (have'.zip vs).find? (fun p => p.1 == slot) with | some p => rawOf p.2 | none => padRaw)))
  (⟨s.line, s.gen, mask, false, line⟩, decide (0 < s.colStart) || decide (s.colStart + s.count < width),
    decide (width < s.colStart + s.count), s.planes % 128 != mask)

/-! What CALIBRATE gathers. -/

/-- Sums over a block are kept to 2^-20 of 1/16 LSB when it ends. -/
def calScale : Int := 1048576

def CalAcc.zero : CalAcc := ⟨0, 0, 0, []⟩

def CalAcc.add (a : CalAcc) (v : Int) : CalAcc :=
  { a with sum := a.sum + v, n := a.n + 1, low := if a.n = 0 then v else Min.min a.low v }

/-- R185: a FLAT block ends: it is accepted unless its least value lies below 75 % of its mean. -/
def CalAcc.endBlock (a : CalAcc) : CalAcc :=
  if a.n = 0 then a
  else
    let keep := decide (3 * a.sum ≤ 4 * a.low * a.n)
    ⟨0, 0, 0, if keep then a.levels ++ [roundInt (a.sum * calScale) a.n] else a.levels⟩

/-- R184, R185: one line added to what is gathered of a head. DARK takes 16x - DARK_REF (in DUAL of the long sample), FLAT
the black-corrected values. `ref` is DARK_REF by row. -/
def CalHead.addLine (x : CalHead) (flat : Bool) (blocks : Nat) (v : CorrEnv) (ref : List Nat) (l : RawLine) (black : SampLine) :
    CalHead :=
  if blocks ≤ x.blocks then x
  else
    let slots := bitsOf 7 l.mask
    let empty := List.replicate l.cols.length (List.replicate slots.length CalAcc.zero)
    let acc := if x.acc.length = l.cols.length then x.acc else empty
    let rows := l.cols.zip black.toList
    let acc := List.zipWith (fun (as : List CalAcc) (p : Option (List Raw) × Option (List Samp)) =>
      match p with
      | (some rs, some ss) =>
        (as.zip (rs.zip (ss.zip slots))).map (fun q =>
          let (a, r, s, slot) := q
          if r.pad then a
          else if flat then a.add s.b
          else a.add (16 * (if v.dual then r.lx else r.x : Nat) - (ref[slot]?).getD 0))
      | _ => as) acc rows
    let full := if flat then 65536 else 4096
    if x.lines + 1 < full then { x with lines := x.lines + 1, mask := l.mask, acc := acc }
    else { x with lines := 0, blocks := x.blocks + 1, mask := l.mask,
                  acc := if flat then acc.map (fun r => r.map CalAcc.endBlock) else acc }

/-- A line of a head that CALIBRATE measures. -/
def Dev.gather (d : Dev) (h : Nat) (v : CorrEnv) (l : RawLine) (black : SampLine) : Dev :=
  match d.pipe.calib with
  | none => d
  | some c =>
    let ref := if h = 0 then (List.range 4).map (fun r => d.get Reg.DARK_REF r) else []
    let heads := c.heads.map (fun x => if x.head = h then x.addLine c.flat c.blocks v ref l black else x)
    let done := (heads.map (·.blocks)).foldl min c.blocks
    ({ d with pipe := { d.pipe with calib := some { c with heads := heads } } }).put Reg.CAL_BLOCKS done

/-! A line through ingest and corrections. -/

/-- The corrections' settings for a line of a head. -/
def Dev.corrEnv (d : Dev) (h : Nat) (c : Conf) (dual : Bool) (ratio : List Nat) : CorrEnv :=
  let on := h == 0 && c.flag Reg.DARK_EN
  ⟨h, c, dual, (List.range 4).map (fun r => if on then d.get Reg.DARK_REF r else 0),
    (List.range 4).map (fun r => if on then d.get Reg.DARK_REF (4 + r) else 0), ratio⟩

/-- The first line of a path, brought up once it lies 2^30 lines back, so that comparisons under R14 still place it behind. No
stage reaches back so far. -/
def keepUp (first n : Nat) : Nat :=
  if (2 ^ 30 : Int) ≤ lineDiff n first then lineSub n (2 ^ 29) else first

/-- R170, R172 to R175: a line of a head, shaped, through corrections: taps T0 and T1, statistics, and the history that
alignment draws on. `t0` holds the words of its T0 payload. -/
def Dev.handleLine (d : Dev) (h : Nat) (l : RawLine) (r : LineRec) (t0 : List Nat) (ratio : List Nat) (info : LineInfo) :
    Dev :=
  let c := d.confAt l.num
  let d := d.tap 0 h (fun _ =>
    let s := segHead t0
    if r.missing then ⟨l.num, info.tb, l.gen, true, r.origin, 0, 0, 0, r.inj, []⟩
    else ⟨l.num, info.tb, l.gen, false, r.origin, s.planes, s.colStart, s.count, r.inj, groupBytes t0⟩)
  let v := d.corrEnv h c l.dual ratio
  let k := v.correct l
  let d := if k.unreplaced then d.headEvent 169 h Reg.DEF_UNREPLACED none else d
  let n := (bitsOf 7 l.mask).length
  let line : HLine := ⟨l.num, l.gen, l.mask, k.out.map (toPixel n r.inj)⟩
  let d := d.tap 1 h (line.tapLine info.tb r)
  let d := (d.openStats h info).setStats h (fun s =>
    { s.addLine l.mask k.out with
      mixed := s.mixed || info.gen != s.gen, missing := s.missing || r.missing,
      missingLines := s.missingLines + b2n r.missing, injected := s.injected || r.inj })
  let d := if r.missing then d else d.gather h v l k.black
  let x := d.headS h
  d.setHeadS h { x with
    first := keepUp x.first l.num, corr := line :: x.corr, hist := r :: x.hist
    missRun := if r.missing then x.missRun + 1 else 0
    injLost := if r.missing then false else x.injLost
    lastTb := if r.missing then x.lastTb else d.clk.bus }

/-- The place of a line that the unit has triggered. -/
def Dev.placeOf (d : Dev) (n : Nat) : LineInfo :=
  (d.lineInfo n).getD ⟨n, d.tb, d.conf.gen, d.arr.frameNum, 0, false, [], d.clk.bus, d.clk.bus, d.clk.bus, 0, true, false⟩

/-- R170: a line handled as missing. -/
def Dev.handleMissing (d : Dev) (h n : Nat) : Dev :=
  let info := d.placeOf n
  let c := d.confAt n
  d.handleLine h (d.paddedLine h n info.gen c) ⟨n, missingOrigin h n, true, (d.headS h).injLost⟩ [] [] info

/-- R109: the header's generation against the one in effect. -/
def Dev.checkGen (d : Dev) (h gen : Nat) (info : LineInfo) : Dev :=
  if gen = info.gen then d
  else
    let older := (BitVec.ofNat 16 gen - BitVec.ofNat 16 info.gen).toInt < 0
    let d := d.orBits (if older then Reg.GEN_LAG else Reg.GEN_LEAD) (1 <<< h)
    (d.raise { source := if older then 68 else 69, inst := h, limited := true }).setStats h
      (fun s => { s with mixed := true, genLag := s.genLag || older, genLead := s.genLead || !older })

/-- R172: the discrepancies of a shaped segment. -/
def Dev.noteShape (d : Dev) (h : Nat) (short long planes inj : Bool) : Dev :=
  let d := if short then d.headEvent 164 h Reg.SHORT_LINE (some Reg.SHORT_LINES) inj else d
  let d := if long then d.headEvent 165 h Reg.LONG_LINE (some Reg.LONG_LINES) inj else d
  if planes then d.headEvent 167 h Reg.PLANE_MISMATCH (some Reg.PLANE_MISMATCHES) inj else d

/-- R167, R172, R173: an accepted segment handled, once the unit has triggered its line. -/
def Dev.handleSegment (d : Dev) (words : List Nat) (inj : Bool) : Dev :=
  let s := segHead words
  let h := s.head
  let info := d.placeOf s.line
  let c := d.confAt s.line
  let (l, short, long, planes) := d.shape c words
  let d := d.noteShape h short long planes inj
  let d := d.handleLine h l ⟨s.line, hfield words 2 63 32, false, inj⟩ words [] info
  let d := d.checkGen h s.gen info
  if s.frame != (info.offset == 0) then
    (d.headEvent 166 h Reg.FRAME_SLIP (some Reg.FRAME_SLIPS) inj).setStats h (fun st => { st with slip := true })
  else d

/-- R169, R173: what ingest has taken ahead of the unit's triggers is handled as soon as its lines are triggered. -/
def Dev.handleEarly (d : Dev) (h : Nat) : Dev :=
  ((d.headS h).early).foldl (fun d e =>
    if (d.lineInfo e.num).isNone then d
    else
      let x := d.headS h
      let d := d.setHeadS h { x with early := x.early.drop 1 }
      match e.seg with
      | some ws => d.handleSegment ws e.inj
      | none => d.handleMissing h e.num) d

/-- R169: a line joins what its head has, in increasing order, and is handled once it is triggered. -/
def Dev.take (d : Dev) (h n : Nat) (seg : Option (List Nat)) (inj : Bool) : Dev :=
  let x := d.headS h
  (d.setHeadS h { x with last := some n, early := x.early ++ [⟨n, seg, inj⟩] }).handleEarly h

/-- R170: a line declared missing. -/
def Dev.declare (d : Dev) (h n : Nat) : Dev :=
  (d.headEvent 161 h Reg.MISSING_LINE (some Reg.MISSING_LINES) (d.headS h).injLost).take h n none false

/-- R169, R170: every line after LAST and before `upTo` is declared missing. -/
def Dev.declareUpTo (d : Dev) (h upTo : Nat) : Dev :=
  let last := ((d.headS h).last).getD 0
  (List.range (lineDiff upTo last - 1).toNat).foldl (fun d i => d.declare h (lineAdd last (i + 1))) d

/-! External heads. -/

/-- There is a line in progress C for ingest: a run has its first line, or a run that has ended still waits for its last
lines (R32, R169). -/
def Dev.ingestOn (d : Dev) : Bool := d.arr.begun && (d.arr.running || d.arr.draining)

/-- The newest line of the run. -/
def Dev.newestLine (d : Dev) : Nat := (d.arr.lines.head?.map (·.num)).getD 0

/-- R171: the head is declared and shares a plane with the segment. -/
def Dev.declared (d : Dev) (h planes : Nat) : Bool := d.widthOf h != 0 && (d.slotsOf h &&& planes) != 0

/-- R169: a segment of the line was accepted. Lines not after LAST that were not are those declared missing, and those before the
run's first line or of the head's absence. -/
def HeadS.took (x : HeadS) (n : Nat) : Bool :=
  match x.early.find? (fun e => e.num == n) with
  | some e => e.seg.isSome
  | none => (x.hist.find? (fun r => r.num == n)).any (fun r => !r.missing)

/-- R169, R171: a segment that passed R166. (DEDUCED, log 24) -/
def Dev.placeSegment (d : Dev) (words : List Nat) (inj : Bool) : Dev :=
  let s := segHead words
  let h := s.head
  let x := d.headS h
  let c := d.newestLine
  let ahead := if d.arr.running then d.get Reg.EARLY_LINES else 0
  let drop := fun (d : Dev) => d.headEvent 163 h Reg.OUT_OF_WINDOW (some Reg.WINDOW_DROPS) inj
  match x.last with
  | none => d
  | some last =>
    if lineAfter s.line (lineAdd c ahead) then (if d.arr.running then drop d else d)
    else if lineAfter s.line last then
      let d := d.declareUpTo h s.line
      if d.declared h s.planes then d.take h s.line (some words) inj else d.declare h s.line
    else if x.took s.line then
      d.headEvent 162 h Reg.DUP_LINE (some Reg.DUP_LINES) inj
    else drop d

/-- R166: a segment that the lanes accepted. -/
def Dev.ingestSegment (d : Dev) (p : Packet) : Dev :=
  let h := (segHead p.words).head
  if !bodyGood p.words then
    (d.headEvent 160 h Reg.SEG_CRC (some Reg.SEG_CRC_FAILS) p.injected).noteLost h p.injected
  else if d.ingestOn then d.placeSegment p.words p.injected
  else d

/-- R170, R171: the heads whose lines ingest expects. -/
def Dev.expects (d : Dev) (h : Nat) : Bool := h == 0 || (d.headsInLink.any (fun p => p.2 == h))

/-- R170: when the deadline of a line passes: LATE_US after the unit's trigger of the next line. After a run's last line
that is the end of the line (R32). (DEDUCED, log 23) -/
def Dev.deadline (d : Dev) (n : Nat) : Option Nat :=
  let late := d.get Reg.LATE_US * 200
  match d.lineInfo (lineAdd n 1) with
  | some l => some (l.tb + late)
  | none =>
    match d.lineInfo n with
    | some l => if d.arr.draining then some (l.tb + ceilDiv l.period (2 ^ 16) + late) else none
    | none => none

/-- MISSING_LINE (R170): the deadline of a head's next line has passed. -/
def Dev.missingLine (d : Dev) (h : Nat) : Dev :=
  if !(d.ingestOn && decide (h < 12) && d.expects h) then d
  else
    match (d.headS h).last with
    | none => d
    | some last =>
      let n := lineAdd last 1
      let lost := h != 0 || ((d.lineInfo n).map (·.skipped)).getD false
      match d.deadline n with
      | some t => if lost && decide (t < d.tb) then d.declare h n else d
      | none => d

/-! Head 0. -/

/-- R121, R122: the code of a charge of N electrons, below 0 for an input below black, in a column whose gain is g / 10^9 electron
per code. -/
def codeOf (pedestal : Nat) (n : Int) (g : Nat) : Nat := clampNat 4095 (roundInt (n * 1000000000) (max 1 g : Nat) + pedestal)

/-- R121: the gain trimmed for a column at manufacture, 6.1 to 7.7 electron per code. Columns count DW, active, DE. -/
def columnTrim (i : Nat) : Nat := 6100000000 + Config.columnGain i % 1600000001

/-- R124: a column's comparator trips on a charge: always above 150 % of full scale, the signal that reaches code 4,095 from
PEDESTAL, and from 130 % on where it is `given`. No column trips below 24,361 electrons, which is 130 % at the least gain and the
greatest PEDESTAL. -/
def glintAt (pedestal : Nat) (n : Int) (i : Nat) (given : Bool) : Bool :=
  decide (24361 ≤ n) &&
    (let full : Int := ((4095 - pedestal) * columnTrim i : Nat)
     decide (3 * full < 2 * (n * 1000000000)) || (given && decide (13 * full ≤ 10 * (n * 1000000000))))

/-- R124: the columns of an exposure, counted over DW, active and DE, whose comparators trip. -/
def glintsOf (pedestal : Nat) (charges : List Int) (given : List Nat) : List Nat :=
  (charges.zipIdx.filter (fun p => glintAt pedestal p.1 p.2 (given.contains p.2))).map (·.2)

/-- R121, R122, R124: the codes of one exposure: 64 dark columns, 16,384 active, 64 dark; with SAT. `near` are the trips of its row
on the line. (DESIGN CHOICE, log 12) -/
def Dev.convert (d : Dev) (pedestal : Nat) (charges : List Int) (near : List Nat) : List (Nat × Bool) :=
  let near := if d.flag Reg.GLINT_MARK then near else []
  List.zipWith (fun n i =>
    let x := codeOf pedestal n (columnTrim i)
    (x, x == 0 || x == 4095 || near.any (fun t => decide (t ≤ i + 2) && decide (i ≤ t + 2))))
    (charges ++ List.replicate (16512 - charges.length) 0) (List.range 16512)

/-- R124, R132: glint trips, each an occurrence. -/
def Dev.glints (d : Dev) : Nat → Dev
  | 0 => d
  | n + 1 => (((d.count Reg.GLINTS).orBits Reg.GLINT 1).raise { source := 72, limited := true }).glints n

/-- The trips of the exposures of a line: row and column of each. -/
def rowTrips (c : Conf) (ws : List Window) (charges : List (List Int)) (trips : List (Nat × Nat)) : List (Nat × Nat) :=
  ws.zipIdx.flatMap (fun p =>
    (glintsOf (c.get Reg.PEDESTAL) ((charges[p.2]?).getD []) ((trips.filter (·.1 == p.2)).map (·.2))).map (fun i => (p.1.row, i)))

/-- The exposures of a line as head 0 delivers them: row, long or only, and the codes; `near` are its trips by row and column. -/
def Dev.rowsOf (d : Dev) (c : Conf) (ws : List Window) (charges : List (List Int)) (near : List (Nat × Nat)) :
    List (Window × List (Nat × Bool)) :=
  ws.zipIdx.map (fun p =>
    (p.1, d.convert (c.get Reg.PEDESTAL) ((charges[p.2]?).getD []) ((near.filter (·.1 == p.1.row)).map (·.2))))

/-- The codes of an exposure's dark columns that are converted: those whose domain is on (R82, R115). -/
def Dev.darkCodes (d : Dev) (codes : List (Nat × Bool)) : List (Nat × Bool) :=
  (if d.groupPowered 512 then codes.take 64 else []) ++ (if d.groupPowered 514 then codes.drop 16448 else [])

/-- Lists of equal length turned into the list of their columns. -/
def columnsOf {α : Type} (n : Nat) (rows : List (List α)) : List (List α) :=
  rows.foldr (fun r acc => List.zipWith (fun x xs => x :: xs) r acc) (List.replicate n [])

/-- R168: the words of head 0's virtual segment: header words 0 to 2 and the payload of converted columns. -/
def virtualSegment (frame : Bool) (mask line gen : Nat) (dual : Bool) (first : Nat) (cols : List (List Nat)) : List Nat :=
  let w0 := line + 2 ^ 40 * mask + 2 ^ 49 * b2n frame + 2 ^ 50 * (2 * b2n dual) + 2 ^ 56 * 0x5C
  let w1 := 2 ^ 16 * cols.length + 2 ^ 32 * first + 2 ^ 48 * gen
  let codes := cols.flatMap id
  [w0, w1, 0] ++ packSamples 12 (codes.length / 64 + 1) codes

/-- The oldest line of the run that head 0 has converted and not delivered: its last conversion has ended (R118). -/
def Dev.nextHead0 (d : Dev) : Option LineInfo :=
  match (d.headS 0).last with
  | none => none
  | some last =>
    (d.arr.lines.reverse.find? (fun l => lineAfter l.num last && !l.skipped)).bind (fun l =>
      if l.doneBus ≤ d.clk.bus then some l else none)

/-- HEAD0_LINE_DELIVERY (R119, R168, R176): the oldest converted line of head 0 reaches ingest. `charges` gives the electrons
of each exposure in the order of R117, `trips` the comparators that trip between 130 % and 150 % of full scale (exposure, column
counted over DW, active, DE). (DEDUCED, log 32) -/
def Dev.head0Line (d : Dev) (charges : List (List Int)) (trips : List (Nat × Nat)) : Dev :=
  if !d.ingestOn then d
  else
    match d.nextHead0 with
    | none => d
    | some info =>
      let c := d.confAt info.num
      let dual := d.runMode % 4 == 1
      let near := rowTrips c info.windows charges trips
      let rows := d.rowsOf c info.windows charges near
      let d := (d.declareUpTo 0 info.num).glints near.length
      let isFirst := (d.headS 0).hist.isEmpty
      let d := rows.foldl (fun d p =>
        d.darkStep c p.1.row (if dual && !p.1.long then 4 + p.1.row else p.1.row) isFirst (d.darkCodes p.2)) d
      let mask := d.slotsOf 0
      let active := fun (p : Window × List (Nat × Bool)) => (p.2.drop 64).take 16384
      let shorts := columnsOf 16384 ((rows.filter (fun p => !p.1.long)).map active)
      let longs := columnsOf 16384 ((rows.filter (fun p => p.1.long)).map active)
      let raws := List.zipWith (fun (s l : List (Nat × Bool)) =>
        if dual then List.zipWith (fun a b => (⟨a.1, a.2, false, b.1, b.2⟩ : Raw)) s l
        else s.map (fun a => (⟨a.1, a.2, false, 0, false⟩ : Raw))) shorts longs
      let on := d.converted c
      let cols := (raws.zip (List.range 16384)).map (fun p => if on p.2 then some p.1 else none)
      let codes := (List.zipWith (fun (s l : List (Nat × Bool)) => (s ++ l).map (·.1)) shorts longs).zip (List.range 16384)
        |>.filter (fun p => on p.2)
      let words := virtualSegment (info.offset == 0) mask info.num info.gen dual ((codes.head?.map (·.2)).getD 0) (codes.map (·.1))
      let origin := crc32c (groupBytes (words.take 2 ++ words.drop 3))
      let x := d.headS 0
      let d := d.setHeadS 0 { x with last := some info.num }
      let d := d.handleLine 0 ⟨info.num, info.gen, mask, dual, cols⟩ ⟨info.num, origin, false, false⟩ words
        ((List.range 4).map (dualRatio info.windows)) info
      let ds := rows.filter (fun (p : Window × List (Nat × Bool)) => !dual || p.1.long)
      d.setStats 0 (fun s => { s with dark := ds.foldl (fun (acc : List (Nat × Nat)) (p : Window × List (Nat × Bool)) =>
        let codes := (d.darkCodes p.2).map (·.1)
        acc.modify p.1.row (fun q => (q.1 + codes.foldl (· + ·) 0, q.2 + codes.length))) s.dark })

end Sys2Proof.Machine
end

