-- ==== Sys2Proof/Machine/Align.lean ====
section
/-!
DEFINITION. Plane alignment and filters (R189 to R206): the interpolator and its banks, cross-fades, the along-track FIR,
binning and the CIC decimator; reconstruction (R210 to R214) and the operator view (R215 to R217).
-/

namespace Sys2Proof.Machine

/-! Banks. -/

/-- A word of an alignment bank (R208): bank 0 is table 04h, bank 1 table 05h. -/
def Dev.bankWord (d : Dev) (bank h off : Nat) : Nat := (Store.get tableDefault d.pipe.banks (tableKey (4 + bank) h off)).toNat

/-- R190: INT and FRAC of a slot. -/
def Dev.delayOf (d : Dev) (bank h slot : Nat) : Nat × Nat :=
  let w := d.bankWord bank h slot
  (w / 2 ^ 8 % 64, w % 64)

/-- R190: the eight coefficients of a phase, s2.14. -/
def Dev.phaseOf (d : Dev) (bank h f : Nat) : List Int :=
  (List.range 8).map (fun k => signed 16 (d.bankWord bank h (8 + 4 * f + k / 2) >>> (16 * (k % 2))))

/-- The counted taps of a slot: lines back from n, and coefficients (R192). -/
def Dev.tapsOf (d : Dev) (bank h slot : Nat) : List (Nat × Int) :=
  let (i, f) := d.delayOf bank h slot
  (((List.range 8).zip (d.phaseOf bank h f)).filter (fun p => p.2 != 0)).map (fun p => (i + p.1, p.2))

/-- R197: what the interpolator uses for aligned line n of a head: one bank, or a blend of the old and the new with the
new one's weight. -/
inductive BankUse where
  | one (bank : Nat)
  | blend (old new weight : Nat)
  deriving DecidableEq, Repr

/-- R197: the weight of the new bank on the k-th line of a fade of L lines. -/
def fadeWeight (k len : Nat) : Nat := (65536 * (k + 1) + len / 2) / len

/-- The bank of a line by fades, newest first: the newest that has reached the line. `act` is the bank in use after all of them. Of a
fade cut short, `cut` is the first line of the new bank alone; a head accepted after a fade began takes no part in its blend. -/
def bankBy (h n : Nat) (late : Nat → Bool) : Nat → List (Fade × Option Nat) → BankUse
  | act, [] => .one act
  | act, (f, cut) :: rest =>
    if !f.heads.testBit h then bankBy h n late act rest
    else
      let old := b2n (f.old.testBit h)
      let past := match cut with | some c => lineFrom n c | none => false
      match f.start with
      | some s =>
        if !(past || lineFrom n s) then bankBy h n late old rest
        else if past || late s || f.len ≤ (lineDiff n s).toNat then .one (1 - old)
        else .blend old (1 - old) (fadeWeight (lineDiff n s).toNat f.len)
      | none => if past then .one (1 - old) else bankBy h n late old rest

def Dev.bankUse (d : Dev) (h n : Nat) : BankUse :=
  let x := d.headS h
  bankBy h n (fun s => x.joined && lineAfter x.first s) (b2n ((d.get Reg.ACTIVE_BANK).testBit h))
    (d.pipe.fade.toList.map (fun f => (f, none)) ++ d.pipe.cuts.map (fun p => (p.1, some p.2)))

/-- The counted taps of a line: of one bank, or of both. -/
def Dev.usedTaps (d : Dev) (h n slot : Nat) : List (List (Nat × Int)) :=
  match d.bankUse h n with
  | .one b => [d.tapsOf b h slot]
  | .blend o w _ => [d.tapsOf o h slot, d.tapsOf w h slot]

/-! The interpolator. -/

/-- A pixel before the first line of the run (R193). -/
def padPixel (n pad : Nat) : Pixel := ⟨List.replicate n pad, tagPad⟩

/-- R190, R193: the line `back` lines before n, shaped to a width and a slot mask; PAD before the first line of the run. -/
def Dev.drawn (d : Dev) (h n back width mask pad : Nat) : List Pixel :=
  let x := d.headS h
  let k := (bitsOf 7 mask).length
  let m := lineSub n back
  let none' := List.replicate width (padPixel k pad)
  if !lineFrom m x.first then none'
  else match x.corr.find? (fun l => l.num == m) with
    | none => none'
    | some l => (l.cols ++ List.replicate (width - l.cols.length) (padPixel k pad)).take width

/-- R190: rounded, clamped to 14 bits; and whether it was clamped. -/
def roundClamp (acc : Int) : Nat × Bool :=
  let y := (acc + 0x2000) >>> 14
  (clampNat 16383 y, decide (y < 0) || decide (16383 < y))

/-- R192: the place of the tap of largest magnitude, the lowest k winning a tie. -/
def mainTap (taps : List (Nat × Int)) : Option Nat :=
  (taps.foldl (fun (best : Option (Nat × Nat)) t =>
    match best with
    | some (_, m) => if m < t.2.natAbs then some (t.1, t.2.natAbs) else best
    | none => some (t.1, t.2.natAbs)) none).map (·.1)

/-- Lines added column by column with coefficients: the sum of each column for one place among the slots. -/
def tapSum (width place : Nat) (lines : List (Int × List Pixel)) : List Int :=
  lines.foldl (fun acc l => List.zipWith (fun a (p : Pixel) => a + l.1 * ((p.vals[place]?).getD 0 : Nat)) acc l.2)
    (List.replicate width 0)

/-- Tags ORed over lines, but PAD (R192). -/
def tapTags (width : Nat) (lines : List (List Pixel)) : List Nat :=
  lines.foldl (fun acc l => List.zipWith (fun a (p : Pixel) => a ||| (p.tag &&& (tagSat ||| tagDef ||| tagInj ||| tagOff))) acc l)
    (List.replicate width 0)

/-- PAD of the tap of largest magnitude, for each plane (R192). -/
def padTags (width : Nat) (lines : List (List Pixel)) : List Nat :=
  lines.foldl (fun acc l => List.zipWith (fun a (p : Pixel) => a ||| (p.tag &&& tagPad)) acc l) (List.replicate width 0)

/-- R190, R192, R197: aligned line n of a head, and how many samples were clamped. -/
def Dev.interpolate (d : Dev) (h n width mask pad : Nat) : HLine × Nat :=
  let slots := bitsOf 7 mask
  let x := d.headS h
  let draw := fun back => d.drawn h n back width mask pad
  let one := fun (place : Nat) (taps : List (Nat × Int)) => show List (Nat × Bool) from
    (tapSum width place (taps.map (fun t => (t.2, draw t.1)))).map roundClamp
  let cols : List (List (Nat × Bool)) := (slots.zip (List.range slots.length)).map (fun s =>
    match d.bankUse h n with
    | .one b => one s.2 (d.tapsOf b h s.1)
    | .blend o w wt =>
      List.zipWith (fun (a b : Nat × Bool) => ((a.1 * (65536 - wt) + b.1 * wt + 0x8000) / 65536, a.2 || b.2))
        (one s.2 (d.tapsOf o h s.1)) (one s.2 (d.tapsOf w h s.1)))
  let clips := (cols.map (fun c => (c.filter (·.2)).length)).foldl (· + ·) 0
  let used := slots.flatMap (d.usedTaps h n)
  let tags := List.zipWith (· ||| ·)
    (tapTags width ((used.flatMap (fun t => t.map (·.1))).eraseDups.map draw))
    (padTags width ((used.filterMap mainTap).eraseDups.map draw))
  let vals := columnsOf width (cols.map (fun c => c.map (·.1)))
  let gen := ((x.corr.find? (fun l => l.num == n)).map (·.gen)).getD (d.placeOf n).gen
  (⟨n, gen, mask, List.zipWith Pixel.mk vals tags⟩, clips)

/-- ALIGN_CLIP (R191, R200, R207). -/
def Dev.clipped (d : Dev) (h n : Nat) : Dev :=
  if n = 0 then d
  else ((d.count Reg.CLIPS n).orBits Reg.ALIGN_CLIP (1 <<< h)).raise
    { source := 192, inst := h, key := h, limited := true }

/-! The along-track FIR. -/

/-- R200: the kernel g[0] to g[7]. -/
def Conf.kernel (c : Conf) : List Int :=
  (List.range 8).map (fun k =>
    signed 16 (if k % 2 = 1 then c.get Reg.FIR_ODD (k / 2) else if k = 0 then c.get Reg.FIR_EVEN0 else c.get Reg.FIR_EVEN (k / 2 - 1)))

/-- R200: the FIR's output for aligned line n, the newest of `x.aligned`, and how many samples were clamped. -/
def firLine (c : Conf) (x : HeadS) (l : HLine) (pad : Nat) : HLine × Nat :=
  if !c.flag Reg.FIR_EN then (l, 0)
  else
    let width := l.cols.length
    let k := (bitsOf 7 l.mask).length
    let taps := ((List.range 8).zip c.kernel).filter (fun p => p.2 != 0)
    let draw := fun back =>
      match x.aligned.find? (fun a => a.num == lineSub l.num back) with
      | some a => (a.cols ++ List.replicate (width - a.cols.length) (padPixel k pad)).take width
      | none => List.replicate width (padPixel k pad)
    let cols := (List.range k).map (fun place => (tapSum width place (taps.map (fun t => (t.2, draw t.1)))).map roundClamp)
    let tags := List.zipWith (· ||| ·) (tapTags width (taps.map (fun t => draw t.1)))
      (padTags width ((mainTap taps).toList.map draw))
    ({ l with cols := List.zipWith Pixel.mk (columnsOf width (cols.map (fun c => c.map (·.1)))) tags },
      (cols.map (fun c => (c.filter (·.2)).length)).foldl (· + ·) 0)

/-! Binning (R202, R203). -/

/-- R202: the factor of a head. -/
def Dev.xbin (d : Dev) (h : Nat) : Nat := 2 ^ (d.get Reg.XBIN / 4 ^ h % 4)

/-- A list cut into whole groups of `b`. -/
def groupsOf {α : Type} (b : Nat) : Nat → List α → List (List α)
  | 0, _ => []
  | n + 1, xs => if (xs.take b).length < b then [] else xs.take b :: groupsOf b n (xs.drop b)

/-- The mean of values, rounded half up. -/
def meanOf (vs : List Nat) : Nat := if vs.isEmpty then 0 else roundDiv (vs.foldl (· + ·) 0) vs.length

/-- The value of a slot in a pixel. -/
def Pixel.slot (p : Pixel) (slots : List Nat) (s : Nat) : Nat :=
  match (slots.zip p.vals).find? (fun q => q.1 == s) with | some q => q.2 | none => 0

/-- R202, R203: binned column j of a group of pixels, as six planes RED, GRN, BLU, CLR, NIRA, NIRB; planes that the column
does not carry read 0. -/
def binPixel (slots : List Nat) (pad j : Nat) (g : List Pixel) : Pixel :=
  let b := g.length
  let live := g.filter (fun p => !p.has tagPad)
  let full := fun s => if !slots.contains s then 0 else if live.isEmpty then pad else meanOf (live.map (fun p => p.slot slots s))
  let mix := slots.contains 3
  let at' := fun i => ((g[i]?).map (fun p => p.slot slots 3)).getD 0
  let clr := ([0, 2].filterMap (fun i => g[i]?)).filter (fun p => !p.has tagPad)
  let (c, na, nb) :=
    if !mix then (full 4, full 5, full 6)
    else if b = 1 then (if j % 2 = 0 then at' 0 else 0, if j % 4 = 1 then at' 0 else 0, if j % 4 = 3 then at' 0 else 0)
    else if b = 2 then (at' 0, if j % 2 = 0 then at' 1 else 0, if j % 2 = 1 then at' 1 else 0)
    else (if clr.isEmpty then pad else meanOf (clr.map (fun p => p.slot slots 3)), at' 1, at' 3)
  let or := (g.map (fun p => p.tag &&& (tagSat ||| tagDef ||| tagInj ||| tagOff))).foldl (· ||| ·) 0
  let padded :=
    if !mix then live.isEmpty
    else if b = 4 then live.isEmpty || clr.isEmpty || [1, 3].any (fun i => ((g[i]?).map (·.has tagPad)).getD false)
    else g.any (·.has tagPad)
  ⟨[full 0, full 1, full 2, c, na, nb], or + 4 * b2n padded⟩

/-- R210, R214: the planes a head delivers or can reconstruct, RED to NIRB. -/
def planesOf (mask : Nat) : Nat := mask % 8 + (if mask.testBit 3 then 0x38 else mask / 16 % 8 * 8)

def binLine (b pad : Nat) (l : HLine) : HLine :=
  let slots := bitsOf 7 l.mask
  let gs := groupsOf b l.cols.length l.cols
  { l with cols := List.zipWith (fun j g => binPixel slots pad j g) (List.range gs.length) gs }

/-! Reconstruction (R210 to R213). -/

/-- R211: the period and phase of a mosaic plane after binning (3 CLR, 4 NIRA, 5 NIRB). -/
def carrier (b plane : Nat) : Nat × Nat :=
  match b, plane with
  | 1, 3 => (2, 0)
  | 1, 4 => (4, 1)
  | 1, _ => (4, 3)
  | 2, 4 => (2, 0)
  | 2, 5 => (2, 1)
  | _, _ => (1, 0)

/-- R213: a carrier can be used. -/
def canUse (cols : Array Pixel) (c : Int) : Bool :=
  if c < 0 then false
  else match cols[c.toNat]? with | some p => !p.has tagPad && !p.has tagOff | none => false

/-- A plane's value in a column. -/
def valAt (vals : Array Nat) (c : Nat) : Nat := (vals[c]?).getD 0

/-- R212, R213: one plane reconstructed: each column's value, and the tags of the carriers drawn on (PAD where none can be).
`guide` is the guide plane, where one is used, with GUIDE_MIN; CLR's arithmetic doubles the guide. -/
def reconPlane (cols : Array Pixel) (vals : Array Nat) (guide : Option (Array Nat)) (guideMin p f pad : Nat) (clr : Bool) :
    List (Nat × Nat) :=
  (List.range cols.size).map (fun c =>
    let tagAt := fun i => ((cols[i]?).map (·.tag)).getD 0 &&& (tagSat ||| tagDef ||| tagInj)
    if c % p = f then (valAt vals c, 0)
    else
      let t := (c + p - f) % p
      let a : Int := (c : Int) - t
      match canUse cols a, canUse cols (a + p) with
      | true, false => (valAt vals a.toNat, tagAt a.toNat)
      | false, true => (valAt vals (a.toNat + p), tagAt (a + p).toNat)
      | false, false => (pad, tagPad)
      | true, true =>
        let a := a.toNat
        let lin := if clr then (valAt vals a + valAt vals (a + p) + 1) / 2 else (valAt vals a * (p - t) + valAt vals (a + p) * t + p / 2) / p
        let r := match guide with
          | none => 0x1000
          | some g =>
            let den := if clr then valAt g a + valAt g (a + p) else (valAt g a * (p - t) + valAt g (a + p) * t + p / 2) / p
            if guideMin ≤ den && 0 < den then
              min 0x2000 (max 0x800 ((if clr then 2 * valAt g c else valAt g c) * 4096 / den))
            else 0x1000
        (min ((lin * r + 0x800) / 4096) 16383, tagAt a ||| tagAt (a + p)))

/-- R210 to R214: a binned line with its mosaic planes reconstructed. `nir` is false for the view, which takes CLR alone. -/
def reconstruct (c : Conf) (b pad : Nat) (nir : Bool) (l : HLine) : HLine :=
  if !l.mask.testBit 3 then l
  else
    let cols := l.cols.toArray
    let plane := fun i => (l.cols.map (fun p => (p.vals[i]?).getD 0)).toArray
    let gmin := c.get Reg.GUIDE_MIN
    let v := (l.cols.map (fun p => (p.vals.take 3).foldl (· + ·) 0)).toArray
    let guideC := if c.flag Reg.GUIDE_CLR && l.mask % 8 == 7 then some v else none
    let run := fun (i : Nat) (g : Option (Array Nat)) =>
      let (p, f) := carrier b i
      reconPlane cols (plane i) g gmin p f pad (i == 3)
    let clr := run 3 guideC
    let guideN := if c.flag Reg.GUIDE_NIR then some (clr.map (·.1)).toArray else none
    let na := if nir then run 4 guideN else l.cols.map (fun p => ((p.vals[4]?).getD 0, 0))
    let nb := if nir then run 5 guideN else l.cols.map (fun p => ((p.vals[5]?).getD 0, 0))
    let new := List.zipWith (fun x (y : (Nat × Nat) × (Nat × Nat)) => (x, y)) clr (na.zip nb)
    { l with cols := List.zipWith (fun (p : Pixel) q =>
        ⟨p.vals.take 3 ++ [q.1.1, q.2.1.1, q.2.2.1], p.tag ||| q.1.2 ||| q.2.1.2 ||| q.2.2.2⟩) l.cols new }

/-! CIC decimator (R204 to R206). -/

/-- An integrator chain takes a value: each register adds the one before it, modulo 2^40. -/
def cicIn (v : Nat) : List Nat → List Nat
  | [] => []
  | r :: rest => let s := (r + v) % 2 ^ 40; s :: cicIn s rest

/-- A comb chain takes a value: each stage subtracts its last input. Answers the registers and the output. -/
def cicOut (v : Nat) : List Nat → List Nat × Nat
  | [] => ([], v)
  | r :: rest => let p := cicOut ((v + 2 ^ 40 - r) % 2 ^ 40) rest; (v :: p.1, p.2)

/-- R204: an input of one column and plane; `out` asks for the comb output. -/
def Cic.step (x : Cic) (v : Nat) (out : Bool) : Cic × Nat :=
  let i := cicIn v x.integ
  if out then let o := cicOut (i.getLast?.getD v) x.comb; (⟨i, o.1⟩, o.2) else (⟨i, x.comb⟩, 0)

def Cic.fresh (n : Nat) : Cic := ⟨List.replicate n 0, List.replicate n 0⟩

/-- R215 steps 3 to 6: the three bytes of a view column. `x` holds RED, GRN, BLU, CLR. -/
def viewPixel (c : Conf) (x : List Nat) : List Byte :=
  let wb := [c.get Reg.WB_RED, c.get Reg.WB_GRN, c.get Reg.WB_BLU, c.get Reg.WB_CLR]
  let v := List.zipWith (fun a w => min (a * w / 16384) 16383) x wb
  let m := [[Reg.M00, Reg.M01, Reg.M02, Reg.M03], [Reg.M10, Reg.M11, Reg.M12, Reg.M13], [Reg.M20, Reg.M21, Reg.M22, Reg.M23]]
  (m.zip [0, 1, 2]).map (fun row =>
    let acc := (List.zipWith (fun f (a : Nat) => signed 16 (c.get f) * a) row.1 v).foldl (· + ·) 0
    let o := clampNat 16383 ((acc + 0x800) >>> 12)
    BitVec.ofNat 8 (c.table 0x06 0 (4096 * row.2 + o / 4) >>> (8 * (o % 4))))

/-- R215: groups of view columns averaged. -/
def viewColumns (xdec : Nat) (ps : List Pixel) : List (List Nat) :=
  (groupsOf xdec ps.length ps).map (fun g => (List.range 4).map (fun i => meanOf (g.map (fun p => (p.vals[i]?).getD 0))))

/-- R226: the words of a head's entry in the stitch map. -/
structure Place where
  placed : Bool
  face : Nat
  start : Int
  scale : Nat
  ownFirst : Nat
  ownLast : Nat
  blend : Nat
  atInt : Nat
  atFrac : Nat
  deriving DecidableEq, Repr

/-- R244: an entry read from four words. -/
def placeOfWords (w : Nat → Nat) : Place :=
  ⟨(w 0).testBit 31, b2n ((w 0).testBit 30), signed 24 (w 0), w 1 % 2 ^ 20, w 2 % 2 ^ 16, w 2 / 2 ^ 16, w 3 / 2 ^ 16 % 2 ^ 10,
    w 3 / 2 ^ 8 % 64, w 3 % 64⟩

def Conf.place (c : Conf) (h : Nat) : Place := placeOfWords (fun i => c.table 0x0C 0 (4 * h + i))

/-- R216: a view record. -/
def Dev.viewRecord (d : Dev) (c : Conf) (h n : Nat) (settling : Bool) (xdec : Nat) (cols : List (List Nat)) (inj : Bool) :
    List Byte :=
  let p := c.place h
  let info := d.placeOf n
  let flags := b2n settling + 4 * b2n inj + 8 * b2n (!p.placed) + 16 * (if p.placed then p.face else 0)
  let col := if p.placed then unsigned 16 (p.start >>> 4) else 0
  sealAt 0x1C (padTo 8 (pack [(1, 0x56), (1, h), (2, flags), (4, n), (8, info.tb), (2, info.gen), (2, cols.length), (2, col),
    (1, d.xbin h * xdec), (1, 0), (4, 0), (4, 0)] ++ cols.flatMap (viewPixel c)))

/-- R204, R206, R215 to R217: a binned line at the view. Its samples carry no tags; whether a column lies in a window still shows. -/
def Dev.viewLine (d : Dev) (c : Conf) (h pad : Nat) (l : HLine) : Dev :=
  let word := c.cicWord.toNat
  let order := c.get Reg.VIEW_ORDER + 1
  let rlog := c.get Reg.VIEW_RLOG
  let x := d.headS h
  let clear := x.cic.length ≠ l.cols.length || x.cicWord ≠ word
  let regs := if clear then List.replicate l.cols.length (List.replicate 4 (Cic.fresh order)) else x.cic
  let settle := if clear then 0 else x.settle
  let out := rlog == 0 || (l.num + 1) % 2 ^ rlog == 0
  let s := order * rlog
  let stepped := List.zipWith (fun (rs : List Cic) (p : Pixel) => List.zipWith (fun r v => r.step v out) rs p.vals) regs l.cols
  let cic := stepped.map (fun rs => rs.map (·.1))
  let d := d.setHeadS h { x with cic := cic, cicWord := word, settle := if out then settle + 1 else settle }
  if !(out && d.flag Reg.VIEW_EN && (d.get Reg.VIEW_HEADS).testBit h) then d
  else
    let vals := fun (p : Pixel) (rs : List (Cic × Nat)) =>
      if rlog = 0 then p.vals else (rs.map (fun r => (r.2 + 2 ^ (s - 1)) / 2 ^ s)) ++ p.vals.drop 4
    let made : HLine := { l with cols := List.zipWith (fun p rs => ⟨vals p rs, p.tag &&& tagOff⟩) l.cols stepped }
    let xdec := 2 ^ d.get Reg.VIEW_XDEC
    let cols := viewColumns xdec (reconstruct c (d.xbin h) pad false made).cols
    let inj := l.cols.any (·.has tagInj)
    let rec' := d.viewRecord c h l.num (decide (settle < order)) xdec cols inj
    d.offer .view ⟨d.get Reg.VIEW_WINDOW, h, rec'⟩

/-! The chain. -/

/-- R193: every line that a counted tap of aligned line n draws on has left corrections. (DEDUCED, log 25) -/
def Dev.canAlign (d : Dev) (h n : Nat) : Bool :=
  let x := d.headS h
  let newest := x.corr.head?.map (·.num)
  (bitsOf 7 (d.slotsOf h)).all (fun slot => (d.usedTaps h n slot).all (fun taps => taps.all (fun t =>
    let m := lineSub n t.1
    !lineFrom m x.first || (match newest with | some c => lineFrom c m | none => false))))

/-- R539: T2 takes the aligned lines whose origin checks have come, oldest first. -/
def Dev.tapT2 (d : Dev) (h : Nat) : Dev :=
  (((d.headS h).aligned.takeWhile (fun l => lineFrom l.num (d.headS h).t2)).reverse).foldl (fun d l =>
    let x := d.headS h
    if l.num ≠ x.t2 then d
    else match x.hist.find? (fun r => r.num == l.num) with
      | some r => (d.setHeadS h { x with t2 := lineAdd l.num 1 }).tap 2 h (l.tapLine (d.placeOf l.num).tb r)
      | none => d) d

/-- R189, R193, R539: aligned line n of a head, through the FIR, binning, the view and reconstruction. T2 waits for head
line n. -/
def Dev.alignLine (d : Dev) (h n : Nat) : Dev :=
  let c := d.confAt n
  let pad := c.get Reg.PAD_VALUE
  let mask := d.slotsOf h
  let (l, clips) := d.interpolate h n (d.widthOf h) mask pad
  let d := d.clipped h clips
  let x := d.headS h
  let d := d.setHeadS h { x with aligned := l :: x.aligned, next := lineAdd n 1 }
  let d := d.tapT2 h
  let (f, clips) := firLine c (d.headS h) l pad
  let d := d.clipped h clips
  let bl := binLine (d.xbin h) pad f
  let d := d.viewLine c h pad bl
  let done := reconstruct c (d.xbin h) pad true bl
  let x := d.headS h
  d.setHeadS h { x with recon := done :: x.recon }

/-- R197: a running fade ends once its last line has been produced for every head that takes part. -/
def Dev.fadeCheck (d : Dev) : Dev :=
  match d.pipe.fade with
  | none => d
  | some f =>
    match f.start with
    | none => d
    | some s =>
      let stop := lineAdd s f.len
      let all := (bitsOf 12 f.heads).all (fun h => !d.expects h || lineFrom (d.headS h).next stop)
      if f.begun && lineFrom d.newestLine stop && all then
        ((({ d.touch with pipe := { d.pipe with fade := none } }).putFlag Reg.FADING false).count Reg.SWAPS).raise
          { source := 193, data := [(4, s), (4, stop), (1, 0), (4, 0)] }
      else d

/-- R483: a line lies beyond line c of a RESET_PIPELINE whose flush is still to come. -/
def Dev.behindFlush (d : Dev) (n : Nat) : Bool :=
  d.track.flushes.any (fun f => !f.done && lineAfter n f.line)

/-- Aligned lines of a head that can be produced, at most `n` of them (R193). -/
def Dev.alignSome (d : Dev) (h : Nat) : Nat → Dev
  | 0 => d
  | n + 1 =>
    let x := d.headS h
    if (d.lineInfo x.next).isSome && d.canAlign h x.next && !d.behindFlush x.next then (d.alignLine h x.next).alignSome h n else d

/-- R189, R193, R197: everything that a head's new lines let the chain produce. T2 takes lines whose origin check has come. -/
def Dev.pump (d : Dev) (h : Nat) : Dev :=
  if !d.ingestOn then d
  else
    let d := (d.handleEarly h).tapT2 h
    (d.alignSome h (d.arr.lines.length + 1)).fadeCheck

/-! BANK_SWAP (R197, R198). -/

def formBankSwap : Form := { code := 0x0207, managed := false, states := stIASH, sel := 0xFFF, inl := inlBytes 12 13 ++ [(14, 1)] }

def checkBankSwap (e : Entry) (_ : Dev) : Option Nat :=
  if e.sel 11 0 = 0 then some 4 else if 4096 < e.inl 12 2 then some 0x0C else none

/-- R75, R106: the generation that a frame starting at a line is to begin under, a waiting one included. -/
def Dev.confFor (d : Dev) (start : Nat) : Conf :=
  (d.chan.confs.find? (fun c => match c.fromLine with | none => true | some l => lineFrom start l)).getD d.conf

/-- R106, R540: frames from (first line, length, number) on, to the one that holds a line. The number bounds how many. -/
def Dev.framesOn (d : Dev) (line : Nat) : Nat → Nat × Nat × Nat → Nat × Nat × Nat
  | 0, f => f
  | n + 1, (first, len, num) =>
    if (lineDiff line first).toNat < len then (first, len, num)
    else
      let next := lineAdd first len
      d.framesOn line n (next, max 1 ((d.confFor next).get Reg.FRAME_LINES), (num + 1) % 2 ^ 32)

/-- R540: the frame of a line ahead, as FRAME_LINES predicts it: its first line, its length and its number. -/
def Dev.frameOf (d : Dev) (line : Nat) : Nat × Nat × Nat :=
  d.framesOn line 16 (lineSub d.newestLine (d.arr.frameOff - 1), max 1 d.arr.frameLines, d.arr.frameNum)

/-- R540: the first line of the first frame whose first line is `after` or later. -/
def Dev.frameFrom (d : Dev) (after : Nat) : Nat :=
  let (first, len, _) := d.frameOf after
  if first = after then first else lineAdd first len

/-- BANK_SWAP's effect (R197, R198, R540). -/
def effBankSwap (e : Entry) (d : Dev) : Dev × Reply :=
  let mask := e.sel 11 0
  let len := e.inl 12 2
  if d.pipe.fade.isSome then (d, { status := .bankBusy, detail := 2 })
  else if !(d.arr.running && d.arr.begun) then
    let d := if d.arr.draining then
        { d with pipe := { d.pipe with
            cuts := (⟨mask, none, 0, 0, d.get Reg.ACTIVE_BANK, true⟩, lineAdd d.newestLine 1) :: d.pipe.cuts } }
      else d
    let d := (d.put Reg.ACTIVE_BANK (d.get Reg.ACTIVE_BANK ^^^ mask)).put Reg.FADE_HEADS mask
    let d := ((d.put Reg.FADE_FIRST 0xFFFFFFFF).put Reg.FADE_END 0xFFFFFFFF).put Reg.FADE_LEN 0
    ((d.count Reg.SWAPS).raise { source := 193, data := [(4, 0xFFFFFFFF), (4, 0xFFFFFFFF), (1, 0), (4, 0)] },
      { result := 0xFFFFFFFF + 2 ^ 32 * 0xFFFFFFFF })
  else
    let atFrame := (e.inl 14 1).testBit 0
    let c := d.lineNow
    let s := if atFrame then d.frameFrom (lineAdd c 2) else lineAdd c 1
    let f : Fade := ⟨mask, if atFrame then none else some s, lineAdd c 2, len, d.get Reg.ACTIVE_BANK, false⟩
    let d := ((({ d with pipe := { d.pipe with fade := some f } }).putFlag Reg.FADING true).put Reg.FADE_HEADS mask).put
      Reg.FADE_LEN len
    ((d.put Reg.FADE_FIRST s).put Reg.FADE_END (lineAdd s len), { result := s + 2 ^ 32 * lineAdd s len })

end Sys2Proof.Machine
end

