-- ==== Sys2Proof/Machine/Stitch.lean ====
section
/-!
DEFINITION. Stitching and faces (R226 to R239): placement, along-track offsets, seams, BLIND columns, the wait for head lines;
pixel classes (R246 to R248) and the line ring (R414).
-/

namespace Sys2Proof.Machine

def Dev.faceS (d : Dev) (f : Nat) : FaceS := d.track.faces[f % 2]

def Dev.setFaceS (d : Dev) (f : Nat) (x : FaceS) : Dev :=
  { d with track := { d.track with faces := d.track.faces.set (f % 2) x (Nat.mod_lt _ (by decide)) } }

/-- R234: the columns of a face. -/
def Conf.faceWidth (c : Conf) (f : Nat) : Nat := 256 * c.get (if f = 0 then Reg.FRONT_STRIPES else Reg.REAR_STRIPES)

/-- The heads placed on a face (R226), rising. -/
def Conf.faceHeads (c : Conf) (f : Nat) : List Nat :=
  (List.range 12).filter (fun h => (c.place h).placed && (c.place h).face == f)

/-- R226: the columns of a placed head after binning. -/
def Dev.placedWidth (d : Dev) (h : Nat) : Nat := d.widthOf h / d.xbin h

/-! Head positions (R227). -/

/-- R227: the head position of a face column: whole column and weight, where the head covers it. -/
def Place.sample (p : Place) (n f : Nat) : Option (Nat × Nat) :=
  let x : Int := (((f : Int) * 16 - p.start) * 2 ^ 28) / (max 1 p.scale : Nat)
  if x < 0 then none
  else
    let k := x.toNat / 2 ^ 16
    let w := x.toNat / 2 ^ 8 % 256
    if k + 1 < n || (k + 1 == n && w == 0) then some (k, w) else none

/-- R227: two terms with weights: SAT, DEF (and the model's own bits) ORed over nonzero weights, PAD of the larger. -/
def mixTags (a b wa wb : Nat) : Nat :=
  let keep := tagSat ||| tagDef ||| tagInj ||| tagOff
  (if wa = 0 then 0 else a &&& keep) ||| (if wb = 0 then 0 else b &&& keep) |||
    ((if wb ≤ wa then a else b) &&& tagPad)

/-! Along-track offset (R229). -/

/-- R227: head 0's windows at line m leave a column of it, after binning, unconverted (R94, R95). -/
def Dev.outside (d : Dev) (h m k : Nat) : Bool := h == 0 && !(d.confAt m).converts (k * d.xbin 0 / 32)

/-- R227: a column that head line m does not hold: PAD_VALUE with PAD, in the planes that the head carries (R214), or what head 0 did
not convert. -/
def Dev.absentPixel (d : Dev) (h m mask pad k : Nat) : Pixel :=
  ⟨(List.range 6).map (fun i => if (planesOf mask).testBit i then pad else 0), if d.outside h m k then tagOff else tagPad⟩

/-- R229, R227: a head's reconstructed line m, shaped to N columns; PAD before the run's first line. -/
def Dev.reconOf (d : Dev) (h m n pad : Nat) : List Pixel :=
  let x := d.headS h
  let line := if lineFrom m x.first then x.recon.find? (fun l => l.num == m) else none
  let mask := (line.map (·.mask)).getD (d.slotsOf h)
  let cols := ((line.map (·.cols)).getD []).toArray
  (List.range n).map (fun k => (cols[k]?).getD (d.absentPixel h m mask pad k))

/-- The head lines that face line n draws on (R229). -/
def Place.draws (p : Place) (n : Nat) : List Nat :=
  lineSub n p.atInt :: (if p.atFrac = 0 then [] else [lineSub n (p.atInt + 1)])

/-- R229: the along-track values of a head's columns for face line n. -/
def Dev.alongTrack (d : Dev) (c : Conf) (h n : Nat) : List Pixel :=
  let p := c.place h
  let pad := c.get Reg.PAD_VALUE
  let w := d.placedWidth h
  let a := d.reconOf h (lineSub n p.atInt) w pad
  if p.atFrac = 0 then a
  else
    let b := d.reconOf h (lineSub n (p.atInt + 1)) w pad
    List.zipWith (fun (x y : Pixel) =>
      ⟨List.zipWith (fun s t => (s * (64 - p.atFrac) + t * p.atFrac + 32) / 64) x.vals y.vals,
        mixTags x.tag y.tag (64 - p.atFrac) p.atFrac⟩) a b

/-! BLIND (R235). -/

/-- The run of lines declared missing that a line of a head stands in (R235 cause 3). (DEDUCED, log 29) -/
def missBlock (m : Nat) (hist : List LineRec) : Nat :=
  let after := (hist.takeWhile (fun r => lineAfter r.num m)).reverse.takeWhile (·.missing)
  let upTo := (hist.dropWhile (fun r => lineAfter r.num m)).takeWhile (·.missing)
  if upTo.isEmpty then 0 else after.length + upTo.length

/-- R235 causes 2 and 3 for a placed head on face line n. -/
def Dev.headBlind (d : Dev) (c : Conf) (h n : Nat) : Nat :=
  let x := d.headS h
  let ms := (c.place h).draws n
  let away := h != 0 && (!d.expects h || (x.joined && ms.any (fun m => !lineFrom m x.first)))
  let miss := d.get Reg.BLIND_MISS
  let gone := miss != 0 && ms.all (fun m => decide (miss ≤ missBlock m (x.hist.takeWhile (fun r => lineFrom r.num x.first))))
  if away then 2 else if gone then 3 else 0

/-- R235 cause 5: the column of head 0 lies in a converter domain that is off or calibrates in the foreground. -/
def Dev.converterOff (d : Dev) (h k : Nat) : Bool :=
  let g := k * d.xbin 0 / 32
  h == 0 && (!d.groupPowered g || d.conv.fgMask.testBit (if g < 256 || g == 512 || g == 513 then 4 else 5))

/-- What a head contributes to a face column: not covered, BLIND with its cause, or a pixel. -/
inductive Contribution where
  | absent | blind (cause : Nat) | seen (p : Pixel)
  deriving DecidableEq, Repr

/-- A head with what its contribution is computed from. -/
structure Source where
  head : Nat
  place : Place
  blind : Nat
  width : Nat
  cols : Array Pixel
  deriving Repr

/-- R227: the contribution of a head to a face column. -/
def Dev.contribution (d : Dev) (s : Source) (f : Nat) : Contribution :=
  match s.place.sample s.width f with
  | none => .absent
  | some (k, w) =>
    if s.blind ≠ 0 then .blind s.blind
    else if d.converterOff s.head k || (w != 0 && d.converterOff s.head (k + 1)) then .blind 5
    else
      let a := (s.cols[k]?).getD ⟨[], 0⟩
      let b := (s.cols[k + 1]?).getD ⟨[], 0⟩
      let p : Pixel := if w = 0 then { a with tag := a.tag }
        else ⟨List.zipWith (fun x y => (x * (256 - w) + y * w + 128) / 256) a.vals b.vals, mixTags a.tag b.tag (256 - w) w⟩
      if p.has tagOff then .blind 4 else .seen p

/-- R231: a blend column: the left head's pixel and the right head's, i columns into a blend of lb. -/
def blendPixel (lb i : Nat) (l r : Pixel) : Pixel :=
  ⟨List.zipWith (fun x y => (x * (lb - i) + y * (i + 1) + (lb + 1) / 2) / (lb + 1)) l.vals r.vals,
    mixTags r.tag l.tag (i + 1) (lb - i)⟩

/-- R231, R235, R236: a face column: a pixel, or none where it is BLIND. -/
def Dev.faceColumn (d : Dev) (ss : List Source) (f : Nat) : Option Pixel :=
  match ss.find? (fun s => s.place.ownFirst ≤ f && f ≤ s.place.ownLast) with
  | none => none
  | some j =>
    let i := f - j.place.ownFirst
    let left := if i < j.place.blend then ss.find? (fun s => s.place.ownLast + 1 == j.place.ownFirst) else none
    let own := d.contribution j f
    match left with
    | none => match own with | .seen p => some p | _ => none
    | some l =>
      match d.contribution l f, own with
      | .seen a, .seen b => some (blendPixel j.place.blend i a b)
      | .seen a, _ => some a
      | _, .seen b => some b
      | _, _ => none

/-! Assembly. -/

/-- A face line (R239): its pixels, and which columns are BLIND. -/
structure FaceLine where
  num : Nat
  gen : Nat
  tb : Nat
  cols : List Pixel
  deriving DecidableEq, Repr

def Pixel.isBlind (p : Pixel) : Bool := p.has tagBlind

/-- R237: the next face line of a face, once the unit has triggered it: the first kept line after the last one. -/
def Dev.nextFaceLine (d : Dev) (f : Nat) : Option LineInfo :=
  if !d.ingestOn then none
  else d.arr.lines.reverse.find? (fun l => l.kept && !d.behindFlush l.num &&
    (match (d.faceS f).last with | some n => lineAfter l.num n | none => true))

/-- The face columns that a head owns within a face's width (R231). -/
def Place.owned (p : Place) (width : Nat) : List Nat :=
  (List.range (min width (p.ownLast + 1) - p.ownFirst)).map (p.ownFirst + ·)

/-- R235, R237: every owned column of a head is BLIND on line n, whatever its lines hold: by cause 2 or 3, or, for head 0, each by
cause 4 or 5. -/
def Dev.allBlind (d : Dev) (c : Conf) (h n : Nat) : Bool :=
  let p := c.place h
  let dead := fun (k : Nat) => d.converterOff h k || (p.draws n).any (fun m => d.outside h m k)
  d.headBlind c h n != 0 || (h == 0 && (p.owned (c.faceWidth p.face)).all (fun f =>
    match p.sample (d.placedWidth h) f with
    | some (k, w) => dead k || (w != 0 && dead (k + 1))
    | none => false))

/-- R237: a face line can be assembled: every placed head has finished the lines it draws on. -/
def Dev.faceReady (d : Dev) (f : Nat) (l : LineInfo) : Bool :=
  let c := d.confAt l.num
  (c.faceHeads f).all (fun h =>
    let x := d.headS h
    d.allBlind c h l.num || ((c.place h).draws l.num).all (fun m =>
      !lineFrom m x.first || (match x.recon with | r :: _ => lineFrom r.num m | [] => false)))

/-- The sources of a face line (R226, R229, R235). -/
def Dev.sources (d : Dev) (c : Conf) (f n : Nat) : List Source :=
  (c.faceHeads f).map (fun h =>
    ⟨h, c.place h, d.headBlind c h n, d.placedWidth h, (d.alongTrack c h n).toArray⟩)

/-- R414, R243: maximal runs of one nonzero number, from a column on: first column, length, number. -/
def tagRuns : Nat → List Nat → List (Nat × Nat × Nat)
  | _, [] => []
  | i, t :: ts =>
    match tagRuns (i + 1) ts with
    | (a, n, u) :: rest =>
      if a = i + 1 && u = t then (i, n + 1, t) :: rest else if t = 0 then (a, n, u) :: rest else (i, 1, t) :: (a, n, u) :: rest
    | [] => if t = 0 then [] else [(i, 1, t)]

/-- The number of a column in some runs; 0 outside them. -/
def runAt (rs : List (Nat × Nat × Nat)) (k : Nat) : Nat :=
  ((rs.find? (fun r => r.1 ≤ k && decide (k < r.1 + r.2.1))).map (·.2.2)).getD 0

/-- R235: for each column that a head owns, the cause 2 to 5 by which its contribution is BLIND on a line, or 0. -/
def Dev.blindCauses (d : Dev) (s : Source) (width : Nat) : List Nat :=
  (s.place.owned width).map (fun f => match d.contribution s f with | .blind k => k | _ => 0)

/-- R243: BLIND_ON, for each cause by which a column turned BLIND, and BLIND_OFF, where a column returned, of a head at a face line. -/
def Dev.noteBlind (d : Dev) (n : Nat) (width : Nat) (s : Source) : Dev :=
  let x := d.headS s.head
  let causes := d.blindCauses s width
  let turned := (s.place.owned width).zip causes
  let on := [2, 3, 4, 5].filter (fun k => turned.any (fun p => p.2 == k && runAt x.blind p.1 != k))
  let off := turned.any (fun p => p.2 == 0 && runAt x.blind p.1 != 0)
  let d := (d.setHeadS s.head { x with blind := tagRuns s.place.ownFirst causes }).putBit Reg.BLIND_HEADS s.head (causes.any (· != 0))
  let d := on.foldl (fun d k => d.raise
    { source := 224, inst := s.head, key := s.head, data := [(1, s.head), (1, k), (4, n)], limited := true }) d
  if off then d.raise { source := 225, inst := s.head, key := s.head, data := [(1, s.head), (4, n)], limited := true } else d

/-- R245: the heads placed in a generation's map, as a mask. -/
def Conf.placedHeads (c : Conf) : Nat := maskOf ((List.range 12).filter (fun h => (c.place h).placed))

/-- R243: a head that the map does not place has no BLIND columns. -/
def Dev.dropUnplaced (d : Dev) (c : Conf) : Dev :=
  ((List.range 12).filter (fun h => !(c.place h).placed)).foldl (fun d h =>
    (d.setHeadS h { d.headS h with blind := [] }).putBit Reg.BLIND_HEADS h false) d

/-- R238: a face line that is late. -/
def Dev.noteLate (d : Dev) (f n : Nat) : Dev :=
  match d.lineInfo (lineAdd n 1) with
  | some l =>
    if l.tb + 200 * d.get Reg.FACE_LATE_US < d.tb then
      ((d.count Reg.FACE_LATES).orBits (if f = 0 then Reg.FACE_LATE_FRONT else Reg.FACE_LATE_REAR) 1).raise
        { source := 226, inst := f, key := f, data := [(1, f), (4, n)], limited := true }
    else d
  | none => d

/-- R231 to R236: a face line put together, with the events that its BLIND columns and its lateness raise. -/
def Dev.assemble (d : Dev) (f : Nat) (l : LineInfo) : Dev × FaceLine :=
  let c := d.confAt l.num
  let width := c.faceWidth f
  let ss := d.sources c f l.num
  let pad := c.get Reg.PAD_VALUE
  let cols := (List.range width).map (fun i => (d.faceColumn ss i).getD ⟨List.replicate 6 pad, tagBlind⟩)
  let d := ss.foldl (fun d s => d.noteBlind l.num width s) (d.dropUnplaced c)
  let d := d.noteLate f l.num
  let d := d.put (if f = 0 then Reg.BLIND_COLS_FRONT else Reg.BLIND_COLS_REAR) ((cols.filter Pixel.isBlind).length)
  let d := if f = 0 then d.put Reg.LAST_LINE l.num else d
  (d.setFaceS f { d.faceS f with last := some l.num }, ⟨l.num, c.gen, l.tb, cols⟩)

/-! Pixel classes (R246 to R248). -/

/-- R246: the six indices of a pixel: projection j, output k at 3j + k. -/
def Conf.indices (c : Conf) (f : Nat) (v : List Nat) : List Nat :=
  (List.range 6).map (fun i =>
    let q := 6 * f + i
    let ws := [Reg.W_RED, Reg.W_GRN, Reg.W_BLU, Reg.W_CLR, Reg.W_NIRA, Reg.W_NIRB].map (fun r => signed 16 (c.get r q))
    let acc := (List.zipWith (fun (w : Int) (x : Nat) => w * (x : Int)) ws v).foldl (· + ·) 0
    clampNat 63 (((acc >>> 14) + signed 20 (c.get Reg.BIAS q)) >>> c.get Reg.PSHIFT q))

/-- R246, R269: class and priority from pixel-class LUT j. -/
def Conf.lut (c : Conf) (j f : Nat) (idx : List Nat) : Nat × Nat :=
  let e := 4096 * (idx[3 * j]?).getD 0 + 64 * (idx[3 * j + 1]?).getD 0 + (idx[3 * j + 2]?).getD 0
  let b := c.table (7 + j) f (e / 4) >>> (8 * (e % 4))
  (b % 16, b / 16 % 16)

/-- R247: the class of a pixel. -/
def Conf.classOf (c : Conf) (f : Nat) (p : Pixel) (idx : List Nat) : Nat :=
  if p.isBlind then 0
  else
    let (c0, p0) := c.lut 0 f idx
    let (c1, p1) := c.lut 1 f idx
    match c.get Reg.COMBINE f with
    | 0 => c0
    | 1 => c1
    | 2 => if p1 ≤ p0 then c0 else c1
    | _ => if c0 = c1 then c0 else c.get Reg.DISAGREE_CLASS f

/-! The line ring (R414). -/

/-- The integer square root of a number below 2^16. -/
def sqrt16 (v : Nat) : Nat := [128, 64, 32, 16, 8, 4, 2, 1].foldl (fun k b => if (k + b) * (k + b) ≤ v then k + b else k) 0

/-- R414: a companded sample. -/
def compand (y : Nat) : Nat := min (sqrt16 (4 * y)) 255

/-- R414: a face line into the ring, which holds the last 4,096 kept lines. -/
def Dev.toLineRing (d : Dev) (f : Nat) (l : FaceLine) : Dev :=
  let runs := tagRuns 0 (l.cols.map (fun p => p.tag % 16))
  let x : RingLine := ⟨l.num, l.gen, l.tb, l.cols.map (fun p => p.vals.map compand), runs.take 2048, decide (2048 < runs.length)⟩
  let s := d.faceS f
  d.setFaceS f { s with ring := (x :: s.ring).take 4096 }

/-- R218, R219: T3 and T4 of a face line. -/
def Dev.tapFace (d : Dev) (f : Nat) (l : FaceLine) (classes : List Nat) : Dev :=
  let c := d.confAt l.num
  let planes := ((c.faceHeads f).map (fun h => planesOf (d.slotsOf h))).foldl (· ||| ·) 0
  let inj := fun (ps : List Pixel) => ps.any (·.has tagInj)
  let d := d.tap 3 f (fun t =>
    let ps := t.columns l.cols
    ⟨l.num, l.tb, l.gen, false, 0, planes, t.colFirst, ps.length, inj ps, samplePayload [0, 1, 2, 3, 4, 5] ps⟩)
  d.tap 4 f (fun t =>
    let ps := t.columns l.cols
    ⟨l.num, l.tb, l.gen, false, 0, 0, t.colFirst, ps.length, inj ps,
      padTo 8 (nibbles ((classes.drop t.colFirst).take ps.length))⟩)

/-! Table 0Ch at COMMIT (R232). -/

/-- R232: a head covers a face column. -/
def Place.covers (p : Place) (n f : Nat) : Bool := (p.sample n f).isSome

/-- R232: the first check that an entry fails, in the order of their codes. `width n` are the face widths and head widths to
be in effect, `all` the entries. -/
def stitchCode (faceWidth : Nat → Nat) (headWidth : Nat → Nat) (all : List (Nat × Place)) (h : Nat) (p : Place) : Option Nat :=
  let mates := all.filter (fun q => q.1 != h && q.2.placed && q.2.face == p.face)
  let left := mates.find? (fun q => q.2.ownLast + 1 == p.ownFirst)
  let bad1 := p.ownLast < p.ownFirst || faceWidth p.face ≤ p.ownLast
  let cov := fun (q : Place) (h' a n : Nat) => (List.range n).all (fun i => q.covers (headWidth h') (a + i))
  if bad1 then some 1
  else if p.scale = 0 || !cov p h p.ownFirst (p.ownLast + 1 - p.ownFirst) then some 2
  else if mates.any (fun q => q.2.ownFirst ≤ p.ownLast && p.ownFirst ≤ q.2.ownLast) then some 3
  else if p.blend ≠ 0 && !(match left with
      | some q => cov q.2 q.1 p.ownFirst p.blend && decide (p.blend ≤ p.ownLast - p.ownFirst + 1)
      | none => false) then some 4
  else if p.start < -262144 || 786431 < p.start || p.scale < 0x4000 || 0x40000 < p.scale then some 5
  else none

/-- R232: the first failing head, with its code. -/
def stitchCheck (faceWidth : Nat → Nat) (headWidth : Nat → Nat) (all : List (Nat × Place)) : Option (Nat × Nat) :=
  (all.filter (·.2.placed)).findSome? (fun q => (stitchCode faceWidth headWidth all q.1 q.2).map (fun c => (q.1, c)))

end Sys2Proof.Machine
end

