-- ==== Sys2Proof/Machine/Track.lean ====
section
/-!
DEFINITION. Segmentation (R249 to R268): runs, components, merges, slots and quotas, storms, object IDs and feature words.
-/

namespace Sys2Proof.Machine

/-! Object IDs (R3, R262). -/

/-- R3: a global object ID. -/
def Dev.objectId (d : Dev) (seq : Nat) : Nat := d.get Reg.UNIT_ID * 2 ^ 48 + seq % 2 ^ 48

/-- R262, R466: the reservation goes to flash once the write window is open and the Barometer runs. -/
def Dev.writeReservation (d : Dev) : Dev :=
  match d.baro.seqHeld with
  | none => d
  | some v =>
    if d.windowOpen && d.baro.booted && !d.baro.halted then
      { d with baro := { d.baro with seqHeld := none, flash := { d.baro.flash with seqReserved := v } } }
    else d

/-- R262: the next sequence number, and a new reservation where the counter reaches a multiple of 2^32. -/
def Dev.takeSeq (d : Dev) : Dev × Nat :=
  let n := d.track.seqNext
  let next := (n + 1) % 2 ^ 48
  let d := { d with track := { d.track with seqNext := next } }
  (if next % 2 ^ 32 = 0 then
      ({ d with baro := { d.baro with seqHeld := some (next + 2 ^ 32) } }).writeReservation
    else d, n)

/-! The table. -/

/-- R256: slots held. -/
def Dev.openNow (d : Dev) : Nat := d.track.objs.length

/-- R256: free slots. -/
def Dev.freeSlots (d : Dev) : Nat := 2048 - d.openNow

/-- R251: the open count of a zone of a face. -/
def Dev.zoneCount (d : Dev) (f z : Nat) : Nat := (d.track.objs.filter (fun o => o.face == f && o.zone == z)).length

/-- R256: zones at or above their quota, as a mask. -/
def Dev.overQuota (d : Dev) (c : Conf) (f : Nat) : Nat :=
  maskOf ((List.range 12).filter (fun z => decide (c.get Reg.QUOTA (12 * f + z) ≤ d.zoneCount f z)))

/-- R257: zones in storm, as a mask. -/
def Dev.stormZones (d : Dev) (f : Nat) : Nat := maskOf ((d.track.storms.filter (fun s => s.face == f)).map (·.zone))

def Dev.obj? (d : Dev) (seq : Nat) : Option Obj := d.track.objs.find? (fun o => o.seq == seq)

/-- An open object changed. -/
def Dev.modObj (d : Dev) (seq : Nat) (g : Obj → Obj) : Dev :=
  { d with track := { d.track with objs := d.track.objs.map (fun o => if o.seq == seq then g o else o) } }

def Dev.storm? (d : Dev) (f z : Nat) : Option Storm := d.track.storms.find? (fun s => s.face == f && s.zone == z)

/-- A storm changed. -/
def Dev.modStorm (d : Dev) (seq : Nat) (g : Storm → Storm) : Dev :=
  { d with track := { d.track with storms := d.track.storms.map (fun s => if s.seq == seq then g s else s) } }

/-- R266, R267: the peaks, and OPEN_HIGH. -/
def Dev.noteOpen (d : Dev) (c : Conf) : Dev :=
  let n := d.openNow
  let d := { d with track := { d.track with peak := max d.track.peak n } }
  let d := d.put Reg.OPEN_PEAK (max n (d.get Reg.OPEN_PEAK))
  if d.track.highArmed && decide (c.get Reg.HIGH_MARK ≤ n) then
    (({ d with track := { d.track with highArmed := false } }).orBits Reg.OPEN_HIGH 1).raise { source := 261, data := [(2, n)] }
  else d

/-- R267: OPEN_HIGH is armed again 64 below the mark. -/
def Dev.rearmHigh (d : Dev) (c : Conf) : Dev :=
  if !d.track.highArmed && decide (d.openNow + 64 ≤ c.get Reg.HIGH_MARK) then
    { d with track := { d.track with highArmed := true } }
  else d

/-! Accumulators (R263). -/

def Acc64.zero : Acc64 :=
  ⟨0, 0xFFFF, 0, 0, 0, 0, 0, 0, List.replicate 15 0, List.replicate 6 0, List.replicate 6 0, 0, List.replicate 6 0,
    List.replicate 6 0, 0, 0, 0, 0, 0, 0, 0, 0, 0, false, false, false⟩

/-- R263: accumulators added: sums add, extremes stay, flags are ORed. `dy` is what the second one's lines count from. -/
def Acc64.add (a b : Acc64) (dy : Nat) : Acc64 :=
  let plus := List.zipWith (· + ·)
  { area := a.area + b.area, colMin := min a.colMin b.colMin, colMax := max a.colMax b.colMax, sx := a.sx + b.sx
    sy := a.sy + b.sy + dy * b.area, sxx := a.sxx + b.sxx, syy := a.syy + b.syy + 2 * dy * b.sy + dy * dy * b.area
    sxy := a.sxy + b.sxy + dy * b.sx, classes := plus a.classes b.classes, sums := plus a.sums b.sums
    squares := plus a.squares b.squares, focusCount := a.focusCount + b.focusCount, focus := plus a.focus b.focus
    proj := plus a.proj b.proj, edges := a.edges + b.edges, maxY := max a.maxY b.maxY, maxX := max a.maxX b.maxX
    runs := a.runs + b.runs, sat := a.sat + b.sat, defs := a.defs + b.defs, pads := a.pads + b.pads
    blindEdge := a.blindEdge + b.blindEdge, merges := a.merges + b.merges, edge := a.edge || b.edge
    touch := a.touch || b.touch, inj := a.inj || b.inj }

/-! Feature words (R264). -/

/-- A quotient in a format of `frac` fraction bits, rounded half up, saturated to 32 bits; 0 for a divisor of 0. -/
def quot (frac a b : Nat) : Nat := if b = 0 then 0 else sat32 (roundDiv (a * 2 ^ frac) b)

/-- A signed quotient, saturated to 32 bits. -/
def quotS (frac : Nat) (a : Int) (b : Nat) : Nat :=
  if b = 0 then 0
  else
    let v := roundInt (a * (2 ^ frac : Nat)) b
    unsigned 32 (if v < -2147483648 then -2147483648 else if 2147483647 < v then 2147483647 else v)

/-- The class with the most member pixels, the lowest on a tie, and its count. -/
def majority (classes : List Nat) : Nat × Nat :=
  ((List.range classes.length).zip classes).foldl (fun b p => if b.2 < p.2 then (p.1 + 1, p.2) else b) (0, 0)

/-- R264: the 64 feature words of an object whose last line is `last`; `step` is AT_DEC, `tall` and `stopped` its flags. -/
def Obj.words (o : Obj) (last step : Nat) (tall stopped : Bool) : List Nat :=
  let a := o.acc
  let n := a.area
  let height := min 8191 ((lineDiff last o.firstLine).toNat + 1)
  let (mc, mn) := majority a.classes
  [sat32 n, o.firstLine, a.colMax * 65536 + a.colMin, (a.colMax + 1 - a.colMin) % 65536 * 65536 + height,
    quot 16 a.sx n, quot 16 a.sy n] ++ a.classes.map sat32 ++ a.sums.map (quot 16 · n) ++ a.squares.map (quot 4 · n) ++
  [sat32 a.edges, min 65535 (a.maxY * step) * 65536 + min 65535 a.maxX, sat32 a.runs, sat32 a.sat, sat32 a.defs,
    sat32 a.pads, sat32 a.blindEdge, quot 8 (n * a.sxx - a.sx * a.sx) (n * n), quot 8 (n * a.syy - a.sy * a.sy) (n * n),
    quotS 8 ((n * a.sxy : Nat) - (a.sx * a.sy : Nat)) (n * n), (if n = 0 then 0 else 255 * mn / n) * 256 + mc] ++
  a.focus.map (quot 16 · a.focusCount) ++ [sat32 a.focusCount] ++ a.proj.map (quot 16 · n) ++
  [last, (o.pred.getD 0) % 2 ^ 32, min 65535 a.merges, 0, 0, 0,
    b2n a.inj * 2 ^ 13 + o.zone * 2 ^ 9 + o.face * 2 ^ 8 + b2n (a.sat != 0) * 2 ^ 7 + b2n (a.blindEdge != 0) * 2 ^ 6 +
      b2n a.edge * 2 ^ 5 + b2n a.touch * 2 ^ 4 + b2n stopped * 2 ^ 3 + b2n o.pred.isSome * 2 ^ 2 + b2n tall * 2]

/-- A feature word. -/
def fw (ws : List Nat) (i : Nat) : Nat := (ws[i]?).getD 0

/-! Storms (R257 to R261). -/

/-- R261, R404: object, retraction and storm records go to OBJ_WINDOW. -/
def Dev.objRecord (d : Dev) (bytes : List Byte) : Dev :=
  if d.flag Reg.OBJ_EN then d.archive .object (d.get Reg.OBJ_WINDOW) bytes else d

/-- R234: the columns of a zone within a face's width; none where the zone lies wholly beyond it. -/
def zoneCols (width z : Nat) : Option (Nat × Nat) :=
  if 4096 * z < width then some (4096 * z, min (4096 * z + 4095) (width - 1)) else none

/-- R257, R268: the columns that a storm's entry record holds: those of the refused run, or of the forced zone. Of an empty zone the
spec states none: free values. (DESIGN CHOICE, log 132) -/
def Dev.stormCols (d : Dev) (c : Conf) (f z : Nat) (run : Option (Nat × Nat)) : Dev × (Nat × Nat) :=
  match run.orElse (fun _ => zoneCols (c.faceWidth f) z) with
  | some cols => (d, cols)
  | none =>
    let (d, i) := d.takeFree
    let (d, j) := d.takeFree
    (d, (Config.freeValue i % 2 ^ 16, Config.freeValue j % 2 ^ 16))

/-- R261: a storm record. -/
def Dev.stormRecord (d : Dev) (s : Storm) (exit : Bool) (flags line : Nat) (cols : Nat × Nat) : List Byte :=
  let tb := ((d.lineInfo line).map (·.tb)).getD d.tb
  sealAt 0x3C (pack [(1, 0x53), (1, s.face), (1, s.zone), (1, b2n exit), (2, flags + b2n s.forced + 8 * b2n s.full), (1, s.action),
    (1, 0), (8, d.objectId s.seq), (8, tb), (4, s.firstLine), (4, line), (2, d.zoneCount s.face s.zone), (2, d.freeSlots),
    (4, if exit then sat32 s.pixels else 0), (2, cols.1), (2, cols.2), (2, (d.confAt line).gen)]
    ++ List.replicate 18 0)

/-- R257, R268: a zone enters storm at a refused run, or by force. -/
def Dev.enterStorm (d : Dev) (c : Conf) (f z n : Nat) (run : Option (Nat × Nat)) : Dev :=
  let full := d.freeSlots == 0
  let (d, seq) := d.takeSeq
  let (d, cols) := d.stormCols c f z run
  let s : Storm := ⟨f, z, seq, c.get Reg.STORM_ACTION, n, 0, cols.1, cols.2, run.isNone, full, none⟩
  let d := { d with track := { d.track with storms := d.track.storms ++ [s] } }
  let d := (d.orBits Reg.STORM 1).count Reg.STORMS
  let d := d.raise { source := 256, inst := z + 16 * f, data := [(1, f), (1, z), (8, d.objectId seq)], inj := run.isNone }
  let d := d.objRecord (d.stormRecord s false 0 n cols)
  if full then
    (d.orBits Reg.TABLE_FULL 1).raise
      { source := 258, inst := z + 16 * f, key := z + 16 * f, data := [(1, f), (1, z)], limited := true, inj := run.isNone }
  else d

/-- R259: a storm ends. Cause 0 STORM_MIN and LOW_WATER, 1 STORM_CLEAR, 2 the run's end, 3 RESET_PIPELINE. -/
def Dev.exitStorm (d : Dev) (line cause : Nat) (s : Storm) : Dev :=
  let d := { d with track := { d.track with storms := d.track.storms.filter (fun x => x.seq != s.seq) } }
  let d := d.raise { source := 257, inst := s.zone + 16 * s.face,
                     data := [(1, s.face), (1, s.zone), (1, cause), (4, sat32 s.pixels)], inj := s.forced }
  d.objRecord (d.stormRecord s true (2 * b2n (cause == 1) + 4 * b2n (cause ≥ 2)) line (s.colMin, s.colMax))

/-- The kept lines of a face up to a line are all assembled. -/
def Dev.assembledTo (d : Dev) (f : Nat) (upTo : Option Nat) : Bool :=
  !(d.arr.lines.any (fun l => l.kept && (match upTo with | some c => !lineAfter l.num c | none => true) &&
    (match (d.faceS f).last with | some n => lineAfter l.num n | none => true)))

/-- R259: STORM_CLEAR names the storm, the line that was in progress then has ended, and the face has labelled the kept lines up to
it. (DEDUCED, log 133) -/
def Dev.clearDue (d : Dev) (s : Storm) : Bool :=
  match s.clear with
  | none => false
  | some l => (!d.arr.running || lineAfter d.newestLine l || d.lineOver) && d.assembledTo s.face (some l)

/-- R259: storms that STORM_CLEAR ends, once they are due. -/
def Dev.stormCheck (d : Dev) : Dev :=
  (d.track.storms.filter d.clearDue).foldl (fun d s => d.exitStorm ((d.faceS s.face).prevNum.getD s.firstLine) 1 s) d

/-- R259: the storms of a face that end when the labelling of line `n` ends. -/
def Dev.endStorms (d : Dev) (c : Conf) (f n : Nat) : Dev :=
  (d.track.storms.filter (fun s => s.face == f)).foldl (fun d s =>
    let cleared := d.clearDue s
    let done := decide (c.get Reg.STORM_MIN ≤ (lineDiff n s.firstLine).toNat + 1) &&
      decide (d.zoneCount f s.zone < c.get Reg.LOW_WATER (12 * f + s.zone))
    if cleared then d.exitStorm n 1 s else if done then d.exitStorm n 0 s else d) d

/-! Labelling (R249 to R255). -/

/-- A face line being labelled: merges made on it (absorbed, survivor), objects forced closed, objects a run has joined, its
runs so far with their owners, newest first, and the absorbed objects that had issued forecasts. -/
structure Labels where
  face : Nat
  num : Nat
  prev : Array LabelCol
  renamed : List (Nat × Nat)
  tall : List Nat
  joined : List Nat
  runs : List (Nat × Nat × Owner)
  folds : List (Nat × Obj)
  deriving Repr

/-- An owner after the merges made on this line. -/
def Labels.resolve (l : Labels) (s : Nat) : Nat := ((l.renamed.find? (fun p => p.1 == s)).map (·.2)).getD s

/-- R249: the owners on the line before that a run from `a` to `b` connects to. -/
def Labels.touched (l : Labels) (a b : Nat) : List Owner :=
  (List.range (b + 3 - a)).filterMap (fun i => if a + i = 0 then none else (l.prev[a + i - 1]?).map (·.owner))

/-- The open objects among some owners, resolved, each once. -/
def Labels.objects (l : Labels) (os : List Owner) : List Nat :=
  (os.filterMap (fun o => match o with | .object s => some (l.resolve s) | _ => none)).eraseDups

/-- R256: a new component is granted a slot. -/
def Dev.grants (d : Dev) (c : Conf) (f z : Nat) : Bool :=
  decide (0 < d.freeSlots) &&
    (decide (d.zoneCount f z < c.get Reg.QUOTA (12 * f + z)) || decide (c.get Reg.RESERVE < d.freeSlots))

/-- R251, R255: a new object. -/
def Dev.openObj (d : Dev) (c : Conf) (l : Labels) (z : Nat) (pred : Option Nat) (touch : Bool) : Dev × Nat :=
  let full := decide (c.get Reg.QUOTA (12 * l.face + z) ≤ d.zoneCount l.face z)
  let (d, seq) := d.takeSeq
  let o : Obj := ⟨seq, l.face, z, l.num, l.num, 1, { Acc64.zero with touch := touch }, pred, none, none, [], false⟩
  let d := ({ d with track := { d.track with objs := d.track.objs ++ [o] } }).count Reg.OPENED
  let d := if full then
      (d.orBits Reg.QUOTA_OVER 1).raise
        { source := 259, inst := z + 16 * l.face, key := z + 16 * l.face, data := [(1, l.face), (1, z)], limited := true }
    else d
  (d.noteOpen c, seq)

/-- R252: one object is absorbed by the survivor. Its slot goes when the line's labelling ends. (DEDUCED, log 44) -/
def Dev.absorb (d : Dev) (l : Labels) (into gone : Nat) : Dev × Labels :=
  match d.obj? into, d.obj? gone with
  | some a, some b =>
    let acc := a.acc.add b.acc (lineDiff b.firstLine a.firstLine).toNat
    let d := d.modObj into (fun o => { o with
      acc := { acc with merges := acc.merges + 1 }
      pred := match o.pred with | some p => some p | none => b.pred
      folded := o.folded ++ (match b.forecast with | some f => [f] | none => []) ++ b.folded })
    (d.count Reg.MERGED, { l with
      renamed := (gone, into) :: l.renamed.map (fun p => if p.2 = gone then (p.1, into) else p)
      joined := l.joined.filter (· != gone)
      runs := l.runs.map (fun r => if r.2.2 = .object gone then (r.1, r.2.1, .object into) else r)
      folds := if b.forecast.isSome then l.folds ++ [(into, b)] else l.folds })
  | _, _ => (d, l)

/-- The least of some numbers. -/
def leastOf : List Nat → Nat
  | [] => 0
  | [a] => a
  | a :: rest => min a (leastOf rest)

/-- R250: one run takes its place. -/
def Dev.takeRun (c : Conf) (dl : Dev × Labels) (run : Nat × Nat) : Dev × Labels :=
  let (d, l) := dl
  let (a, b) := run
  let z := a / 4096
  let os := l.touched a b
  let objs := l.objects os
  let live := objs.filter (fun s => !l.tall.contains s)
  let keep := fun (o : Owner) (l : Labels) => { l with runs := (a, b, o) :: l.runs }
  let join := fun (s : Nat) (d : Dev) (l : Labels) =>
    (d.modObj s (fun o => { o with acc := { o.acc with runs := o.acc.runs + 1, maxX := max o.acc.maxX (b + 1 - a) } }),
      keep (.object s) { l with joined := if l.joined.contains s then l.joined else s :: l.joined })
  let intoStorm := fun (s : Storm) (d : Dev) (l : Labels) =>
    let w := b + 1 - a
    ((d.modStorm s.seq (fun s => { s with
        pixels := s.pixels + w
        colMin := if s.pixels = 0 then a else min s.colMin a, colMax := if s.pixels = 0 then b else max s.colMax b })).count
      Reg.STORM_PIXELS w, keep (.storm s.seq) l)
  match live with
  | [] =>
    match d.storm? l.face z with
    | some s => intoStorm s d l
    | none =>
      if d.grants c l.face z then
        let talls := objs.filter (fun s => l.tall.contains s)
        let touch := os.any (fun o => match o with | .storm _ => true | _ => false)
        let (d, seq) := d.openObj c l z (if talls.isEmpty then none else some (leastOf talls)) touch
        join seq d l
      else
        let d := d.enterStorm c l.face z l.num (some run)
        match d.storm? l.face z with
        | some s => intoStorm s d l
        | none => (d, l)
  | _ =>
    let into := leastOf live
    let (d, l) := (live.filter (· != into)).foldl (fun dl gone => dl.1.absorb dl.2 into gone) (d, l)
    join into d l

/-! The pixels of a line. -/

/-- What the pixels of a face line give an object, for one run of it: sums over its columns. -/
def runSums (focus : Nat) (a b : Nat) (px : Array Pixel) (cls : Array Nat) (idx : Array (List Nat)) (width : Nat) : Acc64 :=
  (List.range (b + 1 - a)).foldl (fun s i =>
    let x := a + i
    let p := (px[x]?).getD ⟨[], 0⟩
    let k := (cls[x]?).getD 0
    let f := focus != 0 && k == focus
    { s with
      area := s.area + 1, colMin := min s.colMin x, colMax := max s.colMax x, sx := s.sx + x, sxx := s.sxx + x * x
      classes := s.classes.modify (k - 1) (· + 1), sums := List.zipWith (· + ·) s.sums p.vals
      squares := List.zipWith (fun t v => t + v * v) s.squares p.vals
      focusCount := s.focusCount + b2n f, focus := if f then List.zipWith (· + ·) s.focus p.vals else s.focus
      proj := List.zipWith (· + ·) s.proj ((idx[x]?).getD [])
      sat := s.sat + b2n (p.has tagSat), defs := s.defs + b2n (p.has tagDef), pads := s.pads + b2n (p.has tagPad)
      edge := s.edge || x == 0 || x + 1 == width, inj := s.inj || p.has tagInj }) Acc64.zero

/-- The owner of a column on the line before, after this line's merges. -/
def Labels.before (l : Labels) (x : Nat) : Owner :=
  match ((l.prev[x]?).map LabelCol.owner).getD .none with | .object s => .object (l.resolve s) | o => o

/-- The columns of the line as the next line will see them. -/
def Labels.columns (l : Labels) (px : Array Pixel) : Array LabelCol :=
  let owners : Array Owner := l.runs.foldl (fun o r =>
    (List.range (r.2.1 + 1 - r.1)).foldl (fun o i => o.set! (r.1 + i) r.2.2) o) (Array.replicate px.size .none)
  let blind := fun (a : Array Bool) (x : Nat) => (a[x]?).getD false
  let here : Array Bool := px.map Pixel.isBlind
  let up : Array Bool := l.prev.map (·.blind)
  (Array.range px.size).map (fun x =>
    let o := (owners[x]?).getD .none
    let y := if o != .none && o == l.before x then ((l.prev[x]?).map (·.yrun)).getD 0 + 1 else 1
    let near := o != .none && (blind here (x + 1) || blind up x || blind up (x + 1) ||
      (x != 0 && (blind here (x - 1) || blind up (x - 1))))
    ⟨o, blind here x, if o = .none then 0 else y, near⟩)

/-- F33, F34, F39 of an object's pixels on a run of this line: sides to others, the longest run along-track, BLIND near. -/
def Labels.runEdges (l : Labels) (cols : Array LabelCol) (a b : Nat) (o : Owner) : Nat × Nat × Nat :=
  (List.range (b + 1 - a)).foldl (fun s i =>
    let x := a + i
    let c := (cols[x]?).getD ⟨.none, false, 0, false⟩
    (s.1 + b2n (x == a) + b2n (x == b) + b2n (l.before x != o), max s.2.1 c.yrun, s.2.2 + b2n c.nearBlind)) (0, 0, 0)

/-- F33, F39 of the pixels of the line before, now that this line is labelled: sides below, and BLIND pixels below. -/
def Labels.below (l : Labels) (cols : Array LabelCol) : List (Nat × Nat × Nat) :=
  (List.range l.prev.size).filterMap (fun x =>
    match l.before x with
    | .object s =>
      let c := fun (x : Nat) => (cols[x]?).getD ⟨.none, false, 0, false⟩
      let near := !(((l.prev[x]?).map (·.nearBlind)).getD true) &&
        ((c x).blind || (c (x + 1)).blind || (x != 0 && (c (x - 1)).blind))
      let side := (c x).owner != .object s
      if side || near then some (s, b2n side, b2n near) else none
    | _ => none)

/-- The objects of a face line take in their pixels; the line becomes the one before. -/
def Dev.takePixels (d : Dev) (c : Conf) (l : Labels) (fl : FaceLine) (cls : List Nat) (idx : List (List Nat)) : Dev :=
  let px := fl.cols.toArray
  let ca := cls.toArray
  let ia := idx.toArray
  let cols := l.columns px
  let d := l.runs.foldl (fun d r =>
    match r.2.2 with
    | .object s =>
      let sums := runSums (c.get Reg.FOCUS_CLASS) r.1 r.2.1 px ca ia px.size
      let (e, y, n) := l.runEdges cols r.1 r.2.1 r.2.2
      d.modObj s (fun o =>
        let acc := o.acc.add sums (lineDiff l.num o.firstLine).toNat
        { o with acc := { acc with edges := acc.edges + e, maxY := max acc.maxY y, blindEdge := acc.blindEdge + n } })
    | _ => d) d
  let d := (l.below cols).foldl (fun d (s, e, n) =>
    d.modObj s (fun o => { o with acc := { o.acc with edges := o.acc.edges + e, blindEdge := o.acc.blindEdge + n } })) d
  let d := l.joined.foldl (fun d s =>
    d.modObj s (fun o => { o with lastLine := l.num, kept := if o.firstLine = l.num then 1 else o.kept + 1 })) d
  d.setFaceS l.face { d.faceS l.face with prev := cols.toList, prevNum := some l.num }

/-- R255: the objects that a run of this line would make taller than 4,096 lines. -/
def Dev.tallObjects (d : Dev) (l : Labels) (runs : List (Nat × Nat)) : List Nat :=
  let old := (d.track.objs.filter (fun o => o.face == l.face && decide (4096 ≤ (lineDiff l.num o.firstLine).toNat))).map (·.seq)
  if old.isEmpty then [] else
    let hit := runs.flatMap (fun r => l.objects (l.touched r.1 r.2))
    old.filter hit.contains

/-- What the labelling of a face line leaves for later stages: the objects it closed, in order of their numbers, with TALL;
and the absorbed objects that had issued forecasts, with their survivors. -/
structure Labelled where
  closed : List (Obj × Bool)
  folds : List (Nat × Obj)
  /-- The storms of the face in which the line was labelled (R311). -/
  storms : List Storm
  deriving DecidableEq, Repr

/-- R249 to R259: the labelling of a face line. -/
def Dev.labelLine (d : Dev) (fl : FaceLine) (f : Nat) (cls : List Nat) (idx : List (List Nat)) : Dev × Labelled :=
  let n := fl.num
  let c := d.confAt n
  let runs := (tagRuns 0 (cls.map (fun k => b2n (k != 0)))).map (fun r => (r.1, r.1 + r.2.1 - 1))
  let l : Labels := ⟨f, n, (d.faceS f).prev.toArray, [], [], [], [], []⟩
  let l := { l with tall := d.tallObjects l runs }
  let d := (d.track.forced.filter (fun p => p.1 == f && (d.storm? f p.2).isNone)).foldl (fun d p => d.enterStorm c f p.2 n none) d
  let d := { d with track := { d.track with forced := d.track.forced.filter (fun p => p.1 != f) } }
  let (d, l) := runs.foldl (Dev.takeRun c) (d, l)
  let d := d.takePixels c l fl cls idx
  let d := l.tall.foldl (fun d s =>
    match d.obj? s with
    | some o => ((d.orBits Reg.TALL 1).count Reg.TALLS).raise
        { source := 260, inst := o.zone + 16 * f, key := o.zone + 16 * f, data := [(8, d.objectId s)], limited := true, inj := o.acc.inj }
    | none => d) d
  let gone := l.renamed.map (·.1)
  let closed := d.track.objs.filter (fun o => o.face == f && o.lastLine != n && !gone.contains o.seq)
  let d := { d with track := { d.track with
    objs := d.track.objs.filter (fun o => !(o.face == f && (o.lastLine != n || gone.contains o.seq))), labelledAt := n } }
  let storms := d.track.storms.filter (fun s => s.face == f)
  let d := (d.rearmHigh c).endStorms c f n
  (d, ⟨closed.map (fun o => (o, l.tall.contains o.seq)), l.folds, storms⟩)

/-- R265, R483: every open object of a face closes with LINE_STOPPED on the last line labelled, and its storms end. -/
def Dev.stopFace (d : Dev) (f cause : Nat) : Dev × Labelled :=
  let x := d.faceS f
  let n := x.prevNum.getD 0
  let d := x.prev.foldl (fun d c => match c.owner with
    | .object s => d.modObj s (fun o => { o with acc := { o.acc with edges := o.acc.edges + 1 } })
    | _ => d) d
  let closed := d.track.objs.filter (fun o => o.face == f)
  let d := { d with track := { d.track with objs := d.track.objs.filter (fun o => o.face != f) } }
  let d := d.rearmHigh (d.confAt n)
  let d := (d.track.storms.filter (fun s => s.face == f)).foldl (fun d s => d.exitStorm n cause s) d
  (d.setFaceS f { x with prev := [], prevNum := none }, ⟨closed.map (fun o => (o, false)), [], []⟩)

end Sys2Proof.Machine
end

