-- ==== Sys2Proof/Machine/Eject.lean ====
section
/-!
DEFINITION. The scheduler (R298 to R315, R321): valve time, windows of verdicts, forecasts, storms and BLIND columns, the
composing of valve frames under the pulse rules, and VALVE_TEST.
-/

namespace Sys2Proof.Machine

/-! Valves and columns. -/

/-- Table 0Bh: the entry of a valve. -/
structure Valve where
  id : Nat
  valid : Bool
  face : Nat
  engine : Nat
  bit : Nat
  minPulse : Nat
  colFirst : Nat
  colLast : Nat
  trail : Nat
  lead : Nat
  maxPulse : Nat
  refract : Nat
  deriving DecidableEq, Repr

/-- R323: an entry read from its four words. -/
def valveOfWords (v : Nat) (w : Nat → Nat) : Valve :=
  ⟨v, (w 0).testBit 31, w 0 / 2 ^ 29 % 4, w 0 / 2 ^ 20 % 16, w 0 / 2 ^ 10 % 1024, w 0 % 1024, w 1 % 65536, w 1 / 65536,
    w 2 / 65536, w 2 % 65536, w 3 / 65536, w 3 % 65536⟩

def Conf.valve (c : Conf) (v : Nat) : Valve := valveOfWords v (fun i => c.table 0x0B 0 (4 * v + i))

/-- The mapped valves of a generation. -/
def Conf.valves (c : Conf) : List Valve := ((List.range 1024).map c.valve).filter (·.valid)

/-- R240: a REAR column on FRONT. -/
def Conf.mapCol (c : Conf) (r : Nat) : Int :=
  (((signed 32 (c.get Reg.MAP_A) * r) >>> 12) + signed 32 (c.get Reg.MAP_B)) >>> 4

/-- R240: the FRONT columns of a REAR range, clamped to FRONT's width. -/
def Conf.mapRange (c : Conf) (r0 r1 : Nat) : Nat × Nat :=
  let a := c.mapCol r0
  let b := c.mapCol r1
  let top := c.faceWidth 0 - 1
  (clampNat top (min a b), clampNat top (max a b))

/-- R301: a range widened by a margin and clamped. -/
def widen (margin : Nat) (r : Nat × Nat) : Nat × Nat := (r.1 - margin, min 49151 (r.2 + margin))

/-- R298, R301: the valve serves the face, and its columns share one with a range of that face's columns. -/
def Valve.reaches (v : Valve) (c : Conf) (f : Nat) (margin : Nat) (cols : Nat × Nat) : Bool :=
  if v.face ≠ 2 ∧ v.face ≠ f then false
  else
    let r := widen margin (if v.face = 2 ∧ f = 1 then c.mapRange cols.1 cols.2 else cols)
    v.colFirst ≤ r.2 && r.1 ≤ v.colLast

/-! Time. -/

/-- R299: a valve frame in counts, and the frame in progress. -/
def Dev.frameLen (d : Dev) : Nat := 200 * max 1 (d.get Reg.VALVE_FRAME)

def Dev.frameNow (d : Dev) : Nat := d.tb / d.frameLen

/-- R303: K, the first frame whose boundary falls after the present cycle. -/
def Dev.frameNext (d : Dev) : Nat := d.frameNow + 1

/-- R300: the trigger time of a line, predicted where it has not been triggered. -/
def Dev.lineTime (d : Dev) (m : Nat) : Nat :=
  match d.arr.lines with
  | [] => d.tb
  | c :: _ =>
    if lineAfter m c.num then c.tb + (lineDiff m c.num).toNat * d.linePeriod / 65536
    else ((d.lineInfo m).map (·.tb)).getD c.tb

/-- R300: the valve time of a line of a face. (DEDUCED, log 54) -/
def Dev.valveTime (d : Dev) (c : Conf) (f n : Nat) : Nat :=
  d.lineTime (lineAdd n (c.get Reg.VD_INT f)) + (c.get Reg.VD_FRAC f * d.linePeriod + 32 * 65536) / (64 * 65536)

/-- R301: F_open and F_end of a valve for lines of a face. -/
def Dev.frames (d : Dev) (c : Conf) (f : Nat) (v : Valve) (first last : Nat) : Nat × Nat :=
  ((d.valveTime c f first - 200 * v.lead) / d.frameLen, ceilDiv (d.valveTime c f last + 200 * v.trail) d.frameLen)

/-- R31: the valves are live. -/
def Dev.valvesLive (d : Dev) : Bool :=
  d.st == .sorting && (match d.eject.liveFrom with | some k => decide (k ≤ d.frameNow) | none => false)

/-- R314: windows with these first frames, formed now, are dry. -/
def Dev.dryNow (d : Dev) (firsts : List Nat) : Bool :=
  !d.valvesLive ||
    (!firsts.isEmpty && (match d.eject.liveFrom with | some k => firsts.all (fun f => decide (f < k)) | none => true))

/-! The window store (R304). -/

def Dev.setEject (d : Dev) (g : EjectS → EjectS) : Dev := { d with eject := g d.eject }

def Dev.winRoom (d : Dev) : Nat := 16384 - d.eject.wins.length

/-- Windows written into the store. -/
def Dev.putWins (d : Dev) (ws : List ValveWin) : Dev :=
  let d := (d.setEject (fun e => { e with wins := e.wins ++ ws })).count Reg.WINDOWS_WRITTEN ws.length
  d.put Reg.WINDOWS_PEAK (max d.eject.wins.length (d.get Reg.WINDOWS_PEAK))

/-- R314: windows that leave the store; those of which no frame was driven are counted. (DEDUCED, log 50) -/
def Dev.dropWins (d : Dev) (which : ValveWin → Bool) : Dev :=
  let gone := d.eject.wins.filter which
  let dry := (gone.filter (fun w => !w.driven)).length
  let d := d.setEject (fun e => { e with wins := e.wins.filter (fun w => !which w) })
  if dry = 0 then d else d.count Reg.DRY_WINDOWS dry

/-- The shot that some windows of an object make, if there are any; `stop` is the frame at whose boundary it ends. -/
def shotOfWins (seq stop : Nat) : List ValveWin → Option Shot
  | [] => none
  | w :: rest => some ⟨seq, rest.foldl (fun m x => min m x.fOpen) w.fOpen, rest.foldl (fun m x => min m x.valve) w.valve,
      rest.foldl (fun m x => max m x.valve) w.valve, stop, w.driven || rest.any (·.driven)⟩

/-- R282: the shot of an object's fired forecast, if one is in the store. (DEDUCED, log 53) -/
def Dev.firedShot (d : Dev) (seq : Nat) : Option Shot :=
  shotOfWins seq d.frameNext
    (d.eject.wins.filter (fun w => w.kind == .forecast && w.owner == seq && decide (w.fOpen ≤ d.frameNow)))

/-- Two parts of one shot. -/
def Shot.join (a b : Shot) : Shot :=
  ⟨a.seq, min a.first b.first, min a.valveFirst b.valveFirst, max a.valveLast b.valveLast, max a.stop b.stop, a.driven || b.driven⟩

/-- R284: a shot whose windows leave the store before the verdict is not forgotten. -/
def EjectS.saveShot (e : EjectS) (s : Shot) : EjectS :=
  let all := match e.shots.find? (fun x => x.seq == s.seq) with | some x => s.join x | none => s
  { e with shots := all :: e.shots.filter (fun x => x.seq != s.seq) }

/-- R315: the store and the hold table emptied. The shots that forecasts had fired are not forgotten (R284). -/
def Dev.emptyStore (d : Dev) : Dev :=
  let owners := ((d.eject.wins.filter (fun w => w.kind == .forecast)).map (·.owner)).eraseDups
  let shots := owners.filterMap d.firedShot
  (d.dropWins (fun _ => true)).setEject (fun e => shots.foldl EjectS.saveShot { e with holds := [] })

/-- R304, R305: no room. -/
def Dev.windowFull (d : Dev) (data : List (Nat × Nat)) (inj : Bool) : Dev :=
  (d.orBits Reg.WINDOW_FULL 1).raise { source := 323, data := data, limited := true, inj := inj }

/-- R305: a HOLD span over frames of a valve. -/
def Dev.putHold (d : Dev) (v fOpen fEnd : Nat) : Dev :=
  let k := d.frameNext
  let old := d.eject.holds.find? (fun h => h.valve == v && decide (k ≤ h.fEnd))
  let h : Hold := match old with
    | some h => ⟨v, min h.fOpen fOpen, max h.fEnd fEnd⟩
    | none => ⟨v, fOpen, fEnd⟩
  d.setEject (fun e => { e with holds := h :: e.holds.filter (fun x => x.valve != v) })

/-! Verdicts (R303, R306, R310). -/

/-- An object whose verdict or forecast asks for a shot: its face, its generation (R302), the line after whose labelling a forecast
was taken, its words, and the forecasts that the verdict settles. -/
structure Shooter where
  seq : Nat
  face : Nat
  gen : Nat
  line : Nat
  words : List Nat
  forecasts : List Nat
  inj : Bool
  deriving DecidableEq, Repr

/-- Forecast windows of some objects. -/
def Dev.forecastWins (d : Dev) (seqs : List Nat) : List ValveWin :=
  d.eject.wins.filter (fun w => w.kind == .forecast && seqs.contains w.owner)

/-- R282, R310: forecast windows end at the next boundary if they have fired, and are withdrawn if not. (DEDUCED, log 43) -/
def Dev.endForecasts (d : Dev) (seqs : List Nat) : Dev :=
  let k := d.frameNext
  let its := fun (w : ValveWin) => w.kind == .forecast && seqs.contains w.owner
  let d := d.dropWins (fun w => its w && decide (k ≤ w.fOpen))
  d.setEject (fun e => { e with wins := e.wins.map (fun w => if its w then { w with fEnd := some k } else w) })

/-- What R303 makes of one valve: a window with its frames, whether it replaces forecast windows, and K - F_open of a late
one. -/
structure Planned where
  win : ValveWin
  merged : Bool
  late : Option Nat
  deriving DecidableEq, Repr

/-- R301: the columns and lines of an object's words. -/
def wordCols (ws : List Nat) : Nat × Nat := (fw ws 2 % 65536, fw ws 2 / 65536)

/-- R302: MARGIN of a face. -/
def Conf.margin (c : Conf) (f : Nat) : Nat := c.get (if f = 0 then Reg.MARGIN_FRONT else Reg.MARGIN_REAR)

/-- R303, R310: the windows of an object whose verdict shoots. -/
def Dev.plan (d : Dev) (group : Nat) (x : Shooter) : List Planned :=
  let c := d.confOf x.gen
  let k := d.frameNext
  let fcs := d.forecastWins x.forecasts
  (c.valves.filter (fun v => v.reaches c x.face (c.margin x.face) (wordCols x.words))).filterMap (fun v =>
    let (fo, fe) := d.frames c x.face v (fw x.words 1) (fw x.words 57)
    let mine := fcs.filter (fun w => w.valve == v.id)
    let late := if fo < k ∧ k < fe then some (k - fo) else none
    let win := fun a b => (⟨v.id, .verdict, x.seq, group, fw x.words 57, a, some b, false, false, x.inj⟩ : ValveWin)
    match mine with
    | w :: ws =>
      let first := ws.foldl (fun m y => min m y.fOpen) w.fOpen
      let open' := decide (first < k) && d.eject.valves.any (fun s => s.valve == v.id && s.dry.isOpen)
      some ⟨{ win first (max fe k) with driven := mine.any (·.driven) }, true, if open' then none else late⟩
    | [] =>
      if k ≤ fo then some ⟨win fo fe, false, none⟩
      else if k < fe then some ⟨win k fe, false, late⟩
      else none)

/-- How a verdict's shot came out: the windows of each object as written, and whether it was missed. -/
structure ShotResult where
  wins : List (Nat × List ValveWin)
  missed : Bool
  deriving DecidableEq, Repr

/-- R303 to R306, R310: the windows of a verdict that shoots are written, all or none. (DEDUCED, log 48) -/
def Dev.shoot (d : Dev) (group : Nat) (xs : List Shooter) : Dev × ShotResult :=
  let plans := xs.map (fun x => (x.seq, d.plan group x))
  let all := plans.flatMap (·.2)
  let seqs := xs.flatMap (·.forecasts)
  let new := (all.filter (fun p => !p.merged)).length
  let replaced := fun (w : ValveWin) => w.kind == .forecast && seqs.contains w.owner && all.any (fun p => p.merged &&
      p.win.valve == w.valve)
  if d.winRoom < new then
    ((d.endForecasts seqs).windowFull [(8, d.objectId group)] (xs.any (·.inj)), ⟨xs.map (fun x => (x.seq, [])), true⟩)
  else
    let d := d.setEject (fun e => { e with
      wins := e.wins.filter (fun w => !replaced w) ++ (all.filter (·.merged)).map (·.win) })
    let d := (d.endForecasts seqs).putWins ((all.filter (fun p => !p.merged)).map (·.win))
    let d := match all.filterMap (·.late) with
      | [] => d
      | n :: ns => ((d.count Reg.LATE_SHOTS).orBits Reg.LATE_SHOT 1).raise
          { source := 320, data := [(8, d.objectId group), (4, ns.foldl max n)], limited := true, inj := xs.any (·.inj) }
    (d, ⟨plans.map (fun p => (p.1, p.2.map (·.win))), all.isEmpty⟩)

/-! Forecasts (R305, R309). -/

/-- R309: the windows of a forecast that meets R279; answers whether they were written, and whether the store was full. -/
def Dev.fireForecast (d : Dev) (x : Shooter) : Dev × Bool × Bool :=
  let c := d.confOf x.gen
  let k := d.frameNext
  let ws : List ValveWin := (c.valves.filter (fun v => v.reaches c x.face (c.margin x.face) (wordCols x.words))).map (fun v =>
    ⟨v.id, .forecast, x.seq, x.seq, x.line, max k (d.frames c x.face v (fw x.words 1) (fw x.words 1)).1, none, false, false, x.inj⟩)
  if ws.isEmpty then (d, false, false)
  else if d.winRoom < ws.length then
    ((d.count Reg.SPANS_LOST ws.length).windowFull [(8, d.objectId x.seq)] x.inj, false, true)
  else (d.putWins ws, true, false)

/-! Storms and BLIND columns (R311, R312). -/

/-- A span of an EJECT storm or of BLIND columns on one valve: it grows the window it joins, or is written. -/
def Dev.putSpan (d : Dev) (w : ValveWin) (joins : ValveWin → Bool) (face zone : Nat) : Dev :=
  let k := d.frameNext
  let fe := w.fEnd.getD k
  if d.eject.wins.any joins then
    d.setEject (fun e => { e with wins := e.wins.map (fun x => if joins x then { x with fEnd := some fe, line := w.line } else x) })
  else if fe ≤ k then d
  else if d.winRoom = 0 then (d.count Reg.SPANS_LOST).windowFull [(1, face), (1, zone)] w.inj
  else d.putWins [{ w with fOpen := max k w.fOpen }]

/-- R311, R234: what a storm's line does in the valve domain. -/
def Dev.stormSpan (d : Dev) (c : Conf) (n : Nat) (s : Storm) : Dev :=
  let k := d.frameNext
  let below := fun (v : Valve) => (zoneCols (c.faceWidth s.face) s.zone).any (v.reaches c s.face 0)
  (c.valves.filter below).foldl (fun d v =>
    let (fo, fe) := d.frames c s.face v s.firstLine n
    match s.action with
    | 0 => d.putSpan ⟨v.id, .storm, s.seq, s.seq, n, fo, some fe, false, false, s.forced⟩
        (fun w => w.kind == .storm && w.owner == s.seq && w.valve == v.id) s.face s.zone
    | 2 => if fe ≤ k then d else d.putHold v.id (max k fo) fe
    | _ => d) d

/-- R312: the BLIND columns of a face line in the valve domain. `before` is the kept line before. -/
def Dev.blindSpans (d : Dev) (c : Conf) (f n before : Nat) (runs : List (Nat × Nat)) : Dev :=
  let k := d.frameNext
  let action := c.get (if f = 0 then Reg.BLIND_ACTION_FRONT else Reg.BLIND_ACTION_REAR)
  if action = 0 || runs.isEmpty then d
  else
    let vs := c.valves.filterMap (fun v => (runs.find? (fun r => v.reaches c f 0 r)).map (fun r => (v, r.1 / 4096)))
    let d := if action = 1 && !vs.isEmpty && !(d.faceS f).blindBefore then
        (d.orBits Reg.BLIND_EJECT 1).raise
          { source := 327, inst := f, key := f, data := [(1, f), (2, ((runs.head?).map (·.1)).getD 0)], limited := true }
      else d
    vs.foldl (fun d (v, z) =>
      let (fo, fe) := d.frames c f v n n
      if action = 1 then
        d.putSpan ⟨v.id, .blind, f, f, n, fo, some fe, false, false, false⟩
          (fun w => w.kind == .blind && w.owner == f && w.valve == v.id && w.line == before) f z
      else if fe ≤ k then d else d.putHold v.id (max k fo) fe) d

/-- R311, R312: the spans of a labelled face line. (DEDUCED, log 49) -/
def Dev.spans (d : Dev) (f n : Nat) (storms : List Storm) (blind : List (Nat × Nat)) (before : Nat) : Dev :=
  let c := d.confAt n
  let d := storms.foldl (fun d s => d.stormSpan c n s) d
  let d := d.blindSpans c f n before blind
  d.setFaceS f { d.faceS f with blindBefore := !blind.isEmpty }

/-! Composing a frame (R307, R308). -/

/-- A limit in whole frames. -/
def Dev.inFrames (d : Dev) (us : Nat) : Nat := ceilDiv (200 * us) d.frameLen

def Pulse.shut : Pulse := ⟨false, 0, false, false⟩

/-- R307: a valve forced off. (DEDUCED, log 51) -/
def Pulse.force (p : Pulse) (k : Nat) : Pulse := if p.isOpen then ⟨false, k, false, false⟩ else { p with delayed := false }

/-- R308: the pulse rules at the boundary of frame `k`. `mx` 0 sets no limit; `again` says that a window of the store asks
for the valve before REFRACT would end. Answers also a cut and a delay. -/
def Pulse.step (p : Pulse) (k : Nat) (ask again : Bool) (mn mx : Nat) (rf : Nat) (fresh : Bool) : Pulse × Bool × Bool :=
  if p.isOpen then
    let held := decide (k - p.since < max 1 mn)
    if mx ≠ 0 && decide (mx ≤ k - p.since) then (⟨false, k, false, false⟩, ask || again, false)
    else if ask || held || again then (p, false, false)
    else (⟨false, k, false, false⟩, false, false)
  else if !ask then ({ p with delayed := false }, false, false)
  else if !fresh && decide (k < p.since + rf) then ({ p with delayed := true }, false, !p.delayed)
  else (⟨true, k, false, false⟩, false, false)

/-- A window covers frame `k`. -/
def ValveWin.covers (w : ValveWin) (k : Nat) : Bool :=
  w.fOpen ≤ k && (match w.fEnd with | some e => decide (k < e) | none => true)

/-- What the composing of a frame gives for one valve. -/
structure Composed where
  state : ValveS
  cuts : Nat
  delays : Nat
  /-- MAX_PULSE has closed it, so that forecast windows on it end (R309). -/
  ends : Bool
  deriving DecidableEq, Repr

/-- R307, R308: one valve at the boundary of frame `k`. -/
def Dev.composeValve (d : Dev) (v : Valve) (k : Nat) : Composed :=
  let known := d.eject.valves.find? (fun x => x.valve == v.id)
  let s := known.getD ⟨v.id, Pulse.shut, Pulse.shut⟩
  let fresh := fun (p : Pulse) => !p.isOpen && p.since == 0
  let ws := d.eject.wins.filter (fun w => w.valve == v.id)
  let held := d.eject.holds.any (fun h => h.valve == v.id && decide (h.fOpen ≤ k) && decide (k < h.fEnd))
  let mn := d.inFrames v.minPulse
  let mx := d.inFrames v.maxPulse
  let rf := d.inFrames v.refract
  let live := d.st == .sorting && (match d.eject.liveFrom with | some l => decide (l ≤ k) | none => false)
  let ask := fun (sel : ValveWin → Bool) => ws.any (fun w => sel w && w.covers k)
  let again := fun (sel : ValveWin → Bool) => ws.any (fun w => sel w && decide (k < w.fOpen) && decide (w.fOpen < k + rf))
  let run := fun (p : Pulse) (sel : ValveWin → Bool) =>
    if held then (p.force k, false, false) else p.step k (ask sel) (again sel) mn mx rf (fresh p)
  let isTest := fun (w : ValveWin) => w.kind == .test
  if !v.valid then ⟨⟨v.id, s.pin.force k, s.dry.force k⟩, 0, 0, false⟩
  else if live then
    let drives := fun (w : ValveWin) => !isTest w && (match d.eject.liveFrom with | some l => decide (l ≤ w.fOpen) | none => false)
    let (p, cut, delay) := run s.pin drives
    ⟨⟨v.id, p, p⟩, b2n cut, b2n delay, cut⟩
  else
    let (q, cut, delay) := run s.dry (fun w => !isTest w)
    if d.st == .hold then
      let pin := if s.pin.isOpen && !s.pin.test then s.pin.force k else s.pin
      let (p, cut', delay') := run pin isTest
      ⟨⟨v.id, { p with test := p.isOpen }, q⟩, b2n cut + b2n cut', b2n delay + b2n delay', cut⟩
    else ⟨⟨v.id, s.pin.force k, q⟩, b2n cut, b2n delay, cut⟩

/-- R313: verdicts that a HOLD span refuses in frame `k`. -/
def Dev.noteHeld (d : Dev) (k : Nat) : Dev :=
  let hit := d.eject.wins.filter (fun w => w.kind == .verdict && !w.held && w.covers k &&
    d.eject.holds.any (fun h => h.valve == w.valve && decide (h.fOpen ≤ k) && decide (k < h.fEnd)))
  let groups := (hit.map (·.group)).eraseDups
  let d := groups.foldl (fun d g => ((d.count Reg.HELD_SHOTS).orBits Reg.HELD_SHOT 1).raise
    { source := 324, data := [(8, d.objectId g)], limited := true, inj := hit.any (fun w => w.group == g && w.inj) }) d
  d.setEject (fun e => { e with
    wins := e.wins.map (fun w => if w.kind == .verdict && groups.contains w.group then { w with held := true } else w) })

/-- R309: the forecast windows on valves that MAX_PULSE closed at boundary `k` end there; their shots are kept for their verdicts. -/
def Dev.endCut (d : Dev) (k : Nat) (valves : List Nat) : Dev :=
  let ended := fun (w : ValveWin) => w.kind == .forecast && valves.contains w.valve && w.covers k
  let gone := d.eject.wins.filter ended
  let shots := ((gone.map (·.owner)).eraseDups).filterMap (fun o => shotOfWins o k (gone.filter (fun w => w.owner == o)))
  (d.dropWins ended).setEject (fun e => shots.foldl EjectS.saveShot e)

/-- R307, R314: the frame of boundary `k` composed: valve states, counters, and the windows that leave. -/
def Dev.compose (d : Dev) (k : Nat) : Dev :=
  let c := d.conf
  let d := d.dropWins (fun w => match w.fEnd with | some e => decide (e ≤ k) | none => false)
  let ids := (d.eject.wins.map (·.valve) ++ d.eject.valves.map (·.valve)).eraseDups
  let d := d.noteHeld k
  let done := ids.map (fun v => (c.valve v, d.composeValve (c.valve v) k))
  let d := d.setEject (fun e => { e with
    frame := some k, valves := (done.map (·.2.state)).filter (fun s => s.pin != Pulse.shut || s.dry != Pulse.shut) })
  let live := d.st == .sorting || d.st == .hold
  let d := d.setEject (fun e => { e with wins := e.wins.map (fun w =>
    if live && w.covers k && (w.kind == .test) == (d.st == .hold) &&
        e.valves.any (fun s => s.valve == w.valve && s.pin.isOpen) &&
        (w.kind == .test || (match e.liveFrom with | some l => decide (l ≤ w.fOpen) && decide (l ≤ k) | none => false))
      then { w with driven := true } else w) })
  let d := d.endCut k ((done.filter (·.2.ends)).map (·.1.id))
  done.foldl (fun d (v, x) =>
    let d := if x.cuts = 0 then d else ((d.count Reg.PULSE_CUTS x.cuts).orBits Reg.PULSE_CUT 1).raise
      { source := 321, data := [(2, v.id)], limited := true }
    if x.delays = 0 then d else ((d.count Reg.REFRACT_DELAYS x.delays).orBits Reg.REFRACT_DELAY 1).raise
      { source := 322, data := [(2, v.id)], limited := true }) d

/-- The valves open now. -/
def Dev.openValves (d : Dev) : List Nat := (d.eject.valves.filter (fun s => s.pin.isOpen)).map (·.valve)

/-- R33, R319: every valve off at once. -/
def Dev.valvesOff (d : Dev) : Dev :=
  d.setEject (fun e => { e with valves := e.valves.map (fun s => { s with pin := s.pin.force d.frameNow }) })

/-- R316: bits of a valve engine's frame that are open. -/
def Dev.frameBits (d : Dev) (e : Nat) : List Nat :=
  let c := d.conf
  let n := c.get Reg.FRAME_BITS e
  (d.openValves.map c.valve).filterMap (fun v => if v.valid && v.engine == e && decide (v.bit < n) then some v.bit else none)

/-- R316: the words of a valve engine's frame `k`. -/
def Dev.frameWords (d : Dev) (e k : Nat) (allOff : Bool) : List Word :=
  let c := d.conf
  let bits := if allOff then [] else d.frameBits e
  (List.range (ceilDiv (c.get Reg.FRAME_BITS e) 32)).map (fun w =>
      BitVec.ofNat 32 (maskOf ((bits.filter (fun b => b / 32 == w)).map (· % 32)))) ++
    (if c.flag Reg.SIG_EN e then [if k % 2 = 0 then 0x5A else 0xA5] else [])

/-! VALVE_TEST and table 0Bh (R321, R324). -/

def formValveTest : Form := { code := 0x0701, managed := true, states := [.hold], inl := inlBytes 12 20 }

/-- VALVE_TEST's effect. (DEDUCED, log 52) -/
def effValveTest (e : Entry) (d : Dev) : Dev × Reply :=
  let first := e.inl 12 2
  let last := e.inl 14 2
  let vs := (d.conf.valves.filter (fun v => first ≤ v.id && v.id ≤ last)).map (·.id)
  if e.inl 16 2 < 10 then (d, badParam 0x10)
  else if last < first || vs.isEmpty then (d, badParam 0x0C)
  else if !d.liveAllowed then (d, { status := .restrictedMode })
  else
    let k := d.frameNext
    let n := max 1 (e.inl 20 1)
    let p := d.inFrames (e.inl 16 2)
    let g := d.inFrames (e.inl 18 2)
    let ws : List ValveWin := vs.flatMap (fun v => (List.range n).map (fun i =>
      ⟨v, .test, v, v, 0, k + i * (p + g), some (k + i * (p + g) + p), false, false, false⟩))
    let begun := fun (w : ValveWin) => !(w.kind == .test && decide (k ≤ w.fOpen))
    let kept := (d.eject.wins.filter begun).length
    if 16384 < kept + ws.length then ((d.count Reg.SPANS_LOST ws.length).windowFull [] false, { status := .noResource, detail := 2 })
    else
      let d := (d.dropWins (fun w => !begun w)).putWins ws
      (d, { result := k % 2 ^ 32 + 2 ^ 32 * ((k + (n - 1) * (p + g) + p) % 2 ^ 32) })

/-- R305, R321: leaving HOLD ends a test. -/
def Dev.endTest (d : Dev) : Dev := d.dropWins (fun w => w.kind == .test)

/-- R324: the first valve that fails a check, with its code. -/
def valveCheck (vs : List Valve) (bits : Nat → Nat) : Option (Nat × Nat) :=
  vs.findSome? (fun v =>
    if v.colLast < v.colFirst || 49151 < v.colLast then some (v.id, 1)
    else if bits v.engine ≤ v.bit then some (v.id, 2)
    else if vs.any (fun w => w.id != v.id && w.engine == v.engine && w.bit == v.bit) then some (v.id, 3)
    else if v.maxPulse ≠ 0 && v.maxPulse < v.minPulse then some (v.id, 4)
    else if v.face = 3 then some (v.id, 5)
    else none)

end Sys2Proof.Machine
end

