-- ==== Sys2Proof/Machine/Classify.lean ====
section
/-!
DEFINITION. Classification (R271 to R297): evaluations, forecasts and verdicts, fused pairs (R240 to R242, R288), the
records they leave (R291 to R293), and chips (R415 to R418).
-/

namespace Sys2Proof.Machine

def Dev.setCls (d : Dev) (g : ClassS → ClassS) : Dev := { d with cls := g d.cls }

/-! The tree ensemble (R271 to R273). -/

/-- R295: the two words of a node. -/
def Conf.node (c : Conf) (n : Nat) : Nat × Nat := (c.table 9 0 (128 + 2 * n), c.table 9 0 (129 + 2 * n))

/-- R271, R272: one walk: a leaf's class and weight, or the node of an error. The number is how many internal nodes the
path may still hold. -/
def walkTree (c : Conf) (f : Array Nat) : Nat → Nat → (Nat × Nat) ⊕ Nat
  | 0, n => let (t, w) := c.node n; if w.testBit 31 then .inl (t % 16, t / 65536) else .inr n
  | k + 1, n =>
    let (t, w) := c.node n
    if w.testBit 31 then .inl (t % 16, t / 65536)
    else
      let left := w % 2 ^ 18
      if left = 0x3FFFF then .inr n
      else
        let x := (f[w / 2 ^ 24 % 64]?).getD 0
        let lt := if w.testBit 30 then decide (signed 32 x < signed 32 t) else decide (x < t)
        walkTree c f k (if lt then left else left + 1)

/-- R271: the sums of an evaluation, and its errors (tree, node). -/
def Conf.evaluate (c : Conf) (ws : List Nat) : List Nat × List (Nat × Nat) :=
  let f := ws.toArray
  (List.range (c.get Reg.TREE_COUNT)).foldl (fun (s, errs) t =>
    match walkTree c f 12 (c.table 9 0 t % 2 ^ 18) with
    | .inl (k, w) => (s.modify k (· + w), errs)
    | .inr n => (s, errs ++ [(t, n)])) (List.replicate 16 0, [])

/-- The greatest sum and its class, the lowest on a tie. -/
def bestOf (s : List Nat) : Nat × Nat :=
  ((List.range s.length).zip s).foldl (fun b p => if b.2 < p.2 then p else b) (0, (s[0]?).getD 0)

/-- R273: class and confidence. -/
def judge (s : List Nat) : Nat × Nat :=
  let t := s.foldl (· + ·) 0
  if t = 0 then (0, 0) else let (k, v) := bestOf s; (k, (510 * v + t) / (2 * t))

/-- R274: an evaluation as a verdict: class and confidence; the overload verdict has OVERLOAD_CLASS and 0. -/
def EvalResult.judge (r : EvalResult) (c : Conf) : Nat × Nat :=
  if r.overload then (c.get Reg.OVERLOAD_CLASS, 0) else Machine.judge r.scores

/-- R296: a rule. -/
def Conf.rule (c : Conf) (k : Nat) : Nat := c.table 0x0A 0 k

/-- R276: the action of a class, and whether it shoots, cuts a chip. -/
def Conf.action (c : Conf) (k : Nat) : Nat := c.rule k % 8

def shoots (action : Nat) : Bool := action == 1 || action == 2
def cutsChip (action : Nat) : Bool := action == 2 || action == 3

/-- R272: DEPTH_ERR of an object's record, whether it is open or closed. -/
def Dev.markDepth (d : Dev) (seq : Nat) : Dev :=
  { d with track := { d.track with
      objs := d.track.objs.map (fun o => if o.seq == seq then { o with depthErr := true } else o)
      closed := d.track.closed.map (fun x => if x.seq == seq then { x with depthErr := true } else x) } }

/-- R272: the trees that an evaluation of an object dropped, each an occurrence. -/
def Dev.noteErrors (d : Dev) (seq : Nat) (inj : Bool) (errs : List (Nat × Nat)) : Dev :=
  errs.foldl (fun d (t, n) =>
    ((((d.count Reg.DEPTH_ERRS).put Reg.DEPTH_TREE t).put Reg.DEPTH_NODE n).orBits Reg.DEPTH_ERR 1).raise
      { source := 288, data := [(8, d.objectId seq)], limited := true, inj := inj })
    (if errs.isEmpty then d else d.markDepth seq)

/-! The engine (R274). -/

/-- An evaluation joins those that wait: readiness first, then FRONT, then sequence number. -/
def joinEvals (x : Eval) : List Eval → List Eval
  | [] => [x]
  | y :: ys =>
    if x.ready < y.ready || (x.ready == y.ready && (x.face < y.face || (x.face == y.face && x.seq < y.seq))) then x :: y :: ys
    else y :: joinEvals x ys

/-- An evaluation held. -/
def Dev.holdEval (d : Dev) (x : Eval) : Dev :=
  let d := d.setCls (fun c => { c with evals := joinEvals x c.evals })
  d.put Reg.IN_FLIGHT_PEAK (max d.cls.evals.length (d.get Reg.IN_FLIGHT_PEAK))

/-- A closed object's evaluation has ended. -/
def Dev.setResult (d : Dev) (seq : Nat) (r : EvalResult) : Dev :=
  { d with track := { d.track with
      closed := d.track.closed.map (fun x => if x.seq == seq then { x with result := some r } else x) } }

/-- The ten counters of R289 beside VERDICTS. -/
def yAccepted : Nat := 0
def yEjected : Nat := 1
def yCounted : Nat := 2
def yAcceptedArea : Nat := 3
def yEjectedArea : Nat := 4
def yShots : Nat := 5
def yUnconfirmed : Nat := 6
def yMissed : Nat := 7
def yOverload : Nat := 8
def yStopped : Nat := 9

/-- R289: a 64-bit counter counts and saturates. -/
def Dev.countYield (d : Dev) (i n : Nat) : Dev :=
  d.setCls (fun c => { c with yields := c.yields.set (i % 10) (min (c.yields[i % 10] + n) (2 ^ 64 - 1)) (Nat.mod_lt _ (by decide)) })

/-- R289: VERDICTS counts. -/
def Dev.countVerdict (d : Dev) (f k : Nat) : Dev :=
  let i := (16 * f + k) % 32
  d.setCls (fun c => { c with verdicts := c.verdicts.set i (sat32 (c.verdicts[i]'(Nat.mod_lt _ (by decide)) + 1)) (Nat.mod_lt _ (by decide)) })

/-- R274: an object takes the overload verdict. -/
def Dev.overload (d : Dev) (seq : Nat) : Dev :=
  let d := d.setResult seq ⟨List.replicate 16 0, true, false⟩
  let here := d.interval.run * 2 ^ 32 + d.interval.num
  let d := d.setCls (fun c => { c with overloads := if c.overFrame = here then c.overloads + 1 else 1, overFrame := here })
  ((d.countYield yOverload 1).orBits Reg.CLASS_OVERLOAD 1).raise
    { source := 289, data := [(4, d.cls.overloads)], limited := true, inj := d.track.closed.any (fun x => x.seq == seq && x.inj) }

/-- The evaluation taken out of the engine. -/
def Dev.dropEval (d : Dev) (x : Eval) : Dev :=
  d.setCls (fun c => { c with evals := c.evals.filter (fun y => !(y == x)) })

/-- R278: the provisional evaluation that makes room for a verdict's: the newest that waits, else the newest that runs. -/
def Dev.yielding (d : Dev) : Option Eval :=
  let ps := d.cls.evals.reverse.filter (fun x => !x.verdict)
  (ps.find? (fun x => !x.running)).orElse (fun _ => ps.head?)

/-- R274, R278: a verdict evaluation becomes ready. In a full engine it takes the place of a provisional one; an engine full of verdict
evaluations cannot take it in. (DEDUCED, log 46) -/
def Dev.readyVerdict (d : Dev) (x : Closed) : Dev :=
  let e : Eval := ⟨x.seq, x.face, true, d.cycle, x.closeLine, x.gen, x.words, false, x.inj⟩
  if d.cls.evals.length < 2048 then d.holdEval e
  else match d.yielding with
    | some p => (d.dropEval p).holdEval e
    | none => d.overload x.seq

/-- R274: the wait after which a verdict evaluation is not started: 10 us. -/
def Eval.late (x : Eval) (now : Nat) : Bool := decide (x.ready + 4000 ≤ now)

/-- EVALUATION_START: the next waiting evaluation starts, verdicts before provisional ones. -/
def Dev.startEval (d : Dev) : Dev :=
  let waits := fun (x : Eval) => !x.running && !(x.verdict && x.late d.cycle)
  let next := match d.cls.evals.find? (fun x => waits x && x.verdict) with
    | some x => some x
    | none => d.cls.evals.find? waits
  match next with
  | none => d
  | some x => d.setCls (fun c => { c with
      evals := c.evals.map (fun y =>
        if y.seq == x.seq && y.verdict == x.verdict && y.line == x.line then { y with running := true } else y) })

/-! Fusion (R240 to R242). -/

/-- R240: the FRONT columns of a closed object under a generation. -/
def Closed.range (x : Closed) (c : Conf) : Nat × Nat :=
  let r := wordCols x.words
  if x.face = 0 then r else c.mapRange r.1 r.2

/-- R240: two objects of different faces match. -/
def fuses (c : Conf) (x y : Closed) : Bool :=
  let m := c.get Reg.FUSE_MARGIN
  let a := x.range c
  let b := y.range c
  let near := fun (p q : Nat) => decide ((lineDiff p q).natAbs ≤ c.get Reg.FUSE_WINDOW)
  a.1 ≤ b.2 + 2 * m && b.1 ≤ a.2 + 2 * m && near (fw x.words 1) (fw y.words 1) && near (fw x.words 57) (fw y.words 57)

/-- R241: how well two match: overlap, then nearness of the last lines. -/
def fuseScore (c : Conf) (x y : Closed) : Nat × Nat :=
  let a := x.range c
  let b := y.range c
  (min a.2 b.2 + 1 - max a.1 b.1, (lineDiff (fw x.words 57) (fw y.words 57)).natAbs)

/-- R241: the best of some candidates, in the order of their closing. -/
def bestMatch (c : Conf) (x : Closed) : List Closed → Option Closed
  | [] => none
  | y :: ys => some (ys.foldl (fun b z =>
      let sb := fuseScore c x b
      let sz := fuseScore c x z
      if sb.1 < sz.1 || (sb.1 == sz.1 && sz.2 < sb.2) then z else b) y)

/-- A closed object changed. -/
def Dev.modClosed (d : Dev) (which : Closed → Bool) (g : Closed → Closed) : Dev :=
  { d with track := { d.track with closed := d.track.closed.map (fun x => if which x then g x else x) } }

/-- R241, R242: waits end unfused. -/
def Dev.endWaits (d : Dev) (which : Closed → Bool) : Dev :=
  let ends := d.track.closed.filter (fun x => x.waiting && which x)
  let d := d.modClosed (fun x => x.waiting && which x) (fun x => { x with waiting := false, unpaired := true })
  let d := d.count Reg.UNPAIRED_FRONT (ends.filter (fun x => x.face == 0)).length
  d.count Reg.UNPAIRED_REAR (ends.filter (fun x => x.face == 1)).length

/-- R241: the other face has labelled line `n`, and the wait of an object is over. -/
def Dev.waitOver (d : Dev) (n : Nat) (x : Closed) : Bool :=
  lineFrom n (lineAdd (fw x.words 57) ((d.confOf x.gen).get Reg.FUSE_WINDOW + 1))

/-- R241: an object that has just closed meets those that wait on the other face; it waits where none matches, unless its wait is
over already. -/
def Dev.fuse (d : Dev) (x : Closed) : Dev :=
  let c := d.confOf x.gen
  if !c.flag Reg.FUSE_EN then d
  else
    let cands := d.track.closed.filter (fun y => y.waiting && y.face != x.face && fuses c x y)
    match bestMatch c x cands with
    | none =>
      let d := d.modClosed (fun y => y.seq == x.seq) (fun y => { y with waiting := true })
      match (d.faceS (1 - x.face)).prevNum with
      | some n => if d.waitOver n x then d.endWaits (fun y => y.seq == x.seq) else d
      | none => d
    | some y =>
      let d := d.modClosed (fun z => z.seq == x.seq) (fun z => { z with partner := some y.seq })
      let d := d.modClosed (fun z => z.seq == y.seq) (fun z => { z with partner := some x.seq, waiting := false })
      let d := d.count Reg.FUSED_PAIRS
      if 2 ≤ cands.length then
        ((d.count Reg.FUSE_AMBIGS).orBits Reg.FUSE_AMBIG 1).raise
          { source := 227, key := x.face, data := [(8, d.objectId x.seq), (8, d.objectId y.seq)], limited := true, inj := x.inj || y.inj }
      else d

/-- R241: the waits that end because a face has labelled a line. (DEDUCED, log 45) -/
def Dev.waitsAt (d : Dev) (f n : Nat) : Dev :=
  if !(d.confAt n).flag Reg.FUSE_EN then d.endWaits (fun _ => true)
  else d.endWaits (fun x => x.face != f && d.waitOver n x)

/-! The forecast stream (R292). -/

/-- A forecast-stream record. -/
structure FcRecord where
  kind : Nat
  flags : Nat
  cls : Nat
  conf : Nat
  verdict : Nat
  outcome : Nat
  id : Nat
  other : Nat
  line : Nat
  tb : Nat
  gen : Nat
  firstLine : Nat
  cols : Nat × Nat
  height : Nat
  deriving DecidableEq, Repr

/-- R292, R44: a forecast-stream record leaves, or is dropped whole and counted. -/
def Dev.forecastOut (d : Dev) (r : FcRecord) : Dev :=
  if !d.flag Reg.FC_STREAM_EN then d
  else
    let bytes := sealAt 0x3C (pack [(1, 0x46), (1, r.kind), (2, r.flags), (1, r.cls), (1, r.conf), (1, r.verdict), (1, r.outcome),
      (8, r.id), (8, r.other), (8, r.tb), (4, r.line), (4, r.firstLine), (2, r.cols.1), (2, r.cols.2), (2, r.height),
      (2, r.gen), (4, 0), (8, 0), (4, 0)])
    d.offer .forecast ⟨d.get Reg.FC_WINDOW, 0, bytes⟩

/-- The trigger's timebase of a line that the unit holds. -/
def Dev.timeOf (d : Dev) (n : Nat) : Nat := ((d.lineInfo n).map (·.tb)).getD d.tb

/-- F03: the height of an object so far. -/
def Obj.height (o : Obj) : Nat := (lineDiff o.lastLine o.firstLine).toNat + 1

/-- R287: the fold notice of an absorbed object that had issued a forecast. -/
def Dev.foldNotice (d : Dev) (n : Nat) (into : Nat) (o : Obj) : Dev :=
  d.forecastOut ⟨2, 8 * b2n ((o.forecast.map (·.inj)).getD false), 0, 0, 0, 0, d.objectId o.seq, d.objectId into, n, d.timeOf n,
    (d.confAt n).gen, o.firstLine, (o.acc.colMin, o.acc.colMax), o.height⟩

/-- PROVISIONAL_RESULT (R277 to R279): the oldest running provisional evaluation ends. Its object issues a forecast if it
is still open and has issued none. -/
def Dev.provisionalResult (d : Dev) : Dev :=
  match d.cls.evals.find? (fun x => x.running && !x.verdict) with
  | none => d
  | some x =>
    let d := d.dropEval x
    let c := d.confOf x.gen
    let (s, errs) := c.evaluate x.words
    let d := d.noteErrors x.seq x.inj errs
    match d.obj? x.seq with
    | none => d
    | some o =>
      let (k, q) := judge s
      let rule := c.rule k
      if o.forecast.isSome || !rule.testBit 8 || q < rule / 2 ^ 16 % 256 then d
      else
        let met := rule.testBit 9 && shoots (rule % 8) && decide (rule / 2 ^ 24 ≤ q)
        let (d, fire, full) := if met then d.fireForecast ⟨x.seq, x.face, x.gen, x.line, x.words, [], x.inj⟩ else (d, false, false)
        let f : Forecast := ⟨x.seq, x.face, k, q, x.line, x.gen, fw x.words 1, shoots (rule % 8), met, fire, full, x.inj⟩
        let d := d.modObj x.seq (fun o => { o with forecast := some f })
        let firsts := (d.forecastWins [x.seq]).map (·.fOpen)
        d.forecastOut ⟨0, 1 + 2 * b2n fire + 4 * b2n (fire && d.dryNow firsts) + 8 * b2n x.inj + 16 * b2n full, k, q, 0, 0,
          d.objectId x.seq, 0, x.line, d.timeOf x.line, x.gen, o.firstLine, (o.acc.colMin, o.acc.colMax), o.height⟩

/-- R277: provisional evaluations of the open objects of a face after the labelling of line `n`. -/
def Dev.provisional (d : Dev) (f n step : Nat) : Dev :=
  let c := d.confAt n
  if !c.flag Reg.FC_EN then d
  else
    (d.track.objs.filter (fun o => o.face == f && o.forecast.isNone)).foldl (fun d o =>
      let h := (lineDiff n o.firstLine).toNat + 1
      let due := match o.nextEval with
        | none => decide (c.get Reg.FC_MIN_LINES ≤ h) && decide (3 ≤ o.kept)
        | some at' => at' != 0 && decide (at' ≤ h)
      if !due then d
      else
        let d := d.modObj o.seq (fun o => { o with nextEval := some (if c.get Reg.FC_STEP = 0 then 0 else h + c.get Reg.FC_STEP) })
        if 2048 ≤ d.cls.evals.length then d
        else d.holdEval ⟨o.seq, f, false, d.cycle, n, c.gen, o.words n step false false, false, o.acc.inj⟩) d

/-! Origin checks (R417, R418). -/

/-- R418: the origin check of a head's line: none while it is still to come; `some none` where the head has no such line. -/
def Dev.originCheck (d : Dev) (h m : Nat) : Option (Option Nat) :=
  let x := d.headS h
  match (x.hist ++ x.old).find? (fun r => r.num == m) with
  | some r => some (some r.origin)
  | none =>
    let toCome := lineFrom m x.first && (match x.last with | some l => lineAfter m l | none => true)
    if toCome && d.expects h && (d.arr.running || d.arr.draining) then none else some none

/-- Origin checks where each has come; those of lines that no head has are free values. -/
def Dev.fillChecks (d : Dev) : List (Option Nat) → Dev × List Nat
  | [] => (d, [])
  | some v :: rest => let (d, vs) := d.fillChecks rest; (d, v :: vs)
  | none :: rest =>
    let (d, n) := d.takeFree
    let (d, vs) := d.fillChecks rest
    (d, Config.freeValue n % 2 ^ 32 :: vs)

/-- All of some, or none. -/
def allSome : List (Option (Option Nat)) → Option (List (Option Nat))
  | [] => some []
  | none :: _ => none
  | some v :: rest => (allSome rest).map (v :: ·)

/-- The kept lines from `a` to `b`. -/
def keptLines (step a b : Nat) : List Nat :=
  ((List.range ((lineDiff b a).toNat + 1)).map (fun i => lineAdd a i)).filter (fun n => n % step == 0)

/-- R418: the digest of an object of a face, once all its checks have come. -/
def Dev.digest (d : Dev) (f first last : Nat) : Dev × Option Nat :=
  let lines := keptLines (2 ^ d.get Reg.AT_DEC) first last
  let checks := lines.flatMap (fun n =>
    let c := d.confAt n
    (c.faceHeads f).map (fun h => d.originCheck h (lineSub n (c.place h).atInt)))
  match allSome checks with
  | none => (d, none)
  | some cs => let (d, vs) := d.fillChecks cs; (d, some (crc32c (vs.flatMap (leBytes 4))))

/-! Chips (R415, R416). -/

/-- R415: the columns of a chip. -/
def Conf.chipCols (c : Conf) (f : Nat) (ws : List Nat) : Nat × Nat :=
  let m := c.get Reg.CHIP_MARGIN_COLS
  let r := wordCols ws
  (r.1 - m, min (c.faceWidth f - 1) (r.2 + m))

/-- R415: the kept lines of a chip. (DEDUCED, log 47) -/
def Dev.chipLines (d : Dev) (x : HeldRec) : List Nat :=
  let m := (d.confOf x.gen).get Reg.CHIP_MARGIN_LINES
  keptLines (2 ^ d.get Reg.AT_DEC) (lineSub (fw x.words 1) m) (lineAdd (fw x.words 57) m)

/-- R415: the last margin line of a chip is in the ring, or can no longer come. -/
def Dev.chipDue (d : Dev) (x : HeldRec) : Bool :=
  x.run != d.arr.runNum || match (d.chipLines x).getLast?, (d.faceS x.face).ring with
  | some n, r :: _ => lineFrom r.num n || !(d.arr.running || d.arr.draining)
  | _, _ => true

/-- R416: the tag runs of ring lines, clipped to the chip. -/
def chipRuns (lines : List RingLine) (c0 c1 : Nat) : List (List Byte) :=
  ((List.range lines.length).zip lines).flatMap (fun (i, l) => l.runs.filterMap (fun (a, n, t) =>
    let lo := max a c0
    let hi := min (a + n - 1) c1
    if lo ≤ hi then some (leBytes 8 (i + (lo - c0) * 2 ^ 16 + (hi + 1 - lo) * 2 ^ 32 + t * 2 ^ 48)) else none))

/-- The origin group of one head in a chip of lines `l0` to `last`, put behind the groups before it. -/
def Dev.chipGroup (d : Dev) (c : Conf) (h l0 last : Nat) (bs : List Byte) : Dev × List Byte :=
  let p := c.place h
  let first := lineSub l0 (p.atInt + b2n (p.atFrac != 0))
  let n := (lineDiff (lineSub last p.atInt) first).toNat + 1
  let checks := (List.range n).map (fun i => (d.originCheck h (lineAdd first i)).getD none)
  let (d, vs) := d.fillChecks checks
  (d, bs ++ padTo 8 (pack [(1, h), (1, 0), (2, n), (4, first)] ++ vs.flatMap (leBytes 4)))

/-- R416: a chip, where every line of its extent is in the ring. -/
def Dev.chip (d : Dev) (x : HeldRec) (digest : Nat) : Dev × Option (List Byte) :=
  let c := d.confOf x.gen
  let nums := d.chipLines x
  let ring := (d.faceS x.face).ring
  let lines := nums.filterMap (fun n => ring.find? (fun l => l.num == n))
  match lines with
  | [] => (d, none)
  | l0 :: _ =>
    if lines.length ≠ nums.length then (d, none)
    else
      let (c0, c1) := c.chipCols x.face x.words
      let want := c.get Reg.CHIP_PLANES
      let planes := padTo 8 ((bitsOf 6 want).flatMap (fun p => lines.flatMap (fun l =>
        ((l.codes.drop c0).take (c1 + 1 - c0)).map (fun v => BitVec.ofNat 8 ((v[p]?).getD 0)))))
      let runs := chipRuns lines c0 c1
      let last := (nums.getLast?).getD l0.num
      let heads := c.faceHeads x.face
      let (d, groups) := heads.foldl (fun x h => x.1.chipGroup c h l0.num last x.2) (d, [])
      let body := planes ++ runs.flatten ++ groups
      let head := pack [(1, 0x43), (1, x.face), (2, b2n (lines.any (·.trunc)) + 2 * b2n x.inj), (1, want), (1, heads.length),
        (2, x.gen), (8, d.objectId x.seq), (4, l0.num), (2, nums.length), (2, c1 + 1 - c0), (2, c0), (1, 2 ^ d.get Reg.AT_DEC), (1, 0),
        (4, runs.length), (4, 64 + body.length), (4, digest), (8, l0.tb)] ++ List.replicate 12 0 ++ leBytes 4 0
      (d, some (sealAt 0x3C (head ++ body)))

/-- The object record of R291 with its chip's fate: 0 none, 1 a chip follows, 2 unavailable. -/
def HeldRec.bytes (x : HeldRec) (digest fate : Nat) : List Byte :=
  let flags := leAt x.head 0x28 4 + (if fate = 1 then 2 ^ 5 else if fate = 2 then 2 ^ 6 else 0)
  sealAt 0x7C (x.head.take 0x28 ++ leBytes 4 flags ++ (x.head.drop 0x2C).take (0x78 - 0x2C) ++ leBytes 4 digest ++ leBytes 4 0)

def Dev.dropHeld (d : Dev) (x : HeldRec) : Dev := d.setCls (fun c => { c with held := c.held.filter (fun y => y.seq != x.seq) })

/-- The digest of a held record, taken once and kept. -/
def Dev.heldDigest (d : Dev) (x : HeldRec) : Dev × Option Nat :=
  match x.digest with
  | some v => (d, some v)
  | none =>
    match d.digest x.face (fw x.words 1) (fw x.words 57) with
    | (d, none) => (d, none)
    | (d, some v) =>
      (d.setCls (fun c => { c with held := c.held.map (fun y => if y.seq == x.seq then { y with digest := some v } else y) }), some v)

/-- R415, R418: object records that cut no chip leave in the order of their verdicts, each once its digest is complete. -/
def Dev.releaseFrom (d : Dev) : List HeldRec → Dev
  | [] => d
  | x :: rest =>
    if x.chip then (d.heldDigest x).1.releaseFrom rest
    else
      match d.heldDigest x with
      | (d, none) => d
      | (d, some v) => ((d.dropHeld x).objRecord (x.bytes v 0)).releaseFrom rest

def Dev.releaseRecords (d : Dev) : Dev := if d.cls.held.isEmpty then d else d.releaseFrom d.cls.held

/-- R415: a chip found unavailable. Its cause is not encoded by the spec: a free value. (DESIGN CHOICE, log 21) -/
def Dev.chipUnavailable (d : Dev) (seq : Nat) (inj : Bool) : Dev :=
  let (d, n) := d.takeFree
  ((d.count Reg.CHIPS_UNAVAILABLE).orBits Reg.CHIP_UNAVAIL 1).raise
    { source := 515, data := [(8, d.objectId seq), (1, Config.freeValue n)], limited := true, inj := inj }

/-- CHIP_STAGING (R415, R460): the oldest chip whose last margin line is in the ring is staged; its object record goes before it. -/
def Dev.stageChip (d : Dev) : Dev :=
  match d.cls.held.find? (fun x => x.chip && d.chipDue x) with
  | none => d
  | some x =>
    match d.heldDigest x with
    | (d, none) => d
    | (d, some v) =>
      let d := d.dropHeld x
      let (d, chip) := d.chip x v
      let w := d.get Reg.CHIP_WINDOW
      let gone := ((d.objRecord (x.bytes v 2)).chipUnavailable x.seq x.inj).releaseRecords
      match chip with
      | none => gone
      | some bytes =>
        if !(d.flag Reg.CHIP_EN && d.winOpen w) || d.therm.noChips then
          (if d.flag Reg.CHIP_EN && !d.winOpen w then gone.lostRecord w else gone)
        else if !d.affords .chip bytes.length then gone.lostBudget
        else
          match (d.objRecord (x.bytes v 1)).stream .chip w bytes with
          | (d, true) => (d.count Reg.CHIPS_WRITTEN).releaseRecords
          | (_, false) => gone

/-! Verdicts (R281 to R291). -/

/-- The verdict of an object or of a pair: its class and confidence, its action, and the sums it rests on. -/
structure Verdict where
  cls : Nat
  conf : Nat
  action : Nat
  scores : List Nat
  overload : Bool
  deriving DecidableEq, Repr

/-- R288: the rank of an action under EITHER. -/
def rankOf (action : Nat) : Nat := match action with | 2 => 4 | 1 => 3 | 3 => 2 | 4 => 1 | _ => 0

/-- R281, R288: the verdict of an object, or of a FRONT and a REAR object, under a generation. -/
def formVerdict (c : Conf) (a : EvalResult) (b : Option EvalResult) : Verdict :=
  let one := fun (r : EvalResult) => let (k, q) := r.judge c; (⟨k, q, c.action k, r.scores, r.overload⟩ : Verdict)
  match b with
  | none => one a
  | some b =>
    if c.get Reg.FUSED_MODE = 1 then
      let x := one a
      let y := one b
      if rankOf x.action < rankOf y.action || (rankOf x.action == rankOf y.action && x.conf < y.conf) then y else x
    else if a.overload && b.overload then one a
    else
      let s := List.zipWith (· + ·) a.scores b.scores
      let (k, q) := judge s
      ⟨k, q, c.action k, s, false⟩

/-- R286: the outcome of a forecast: the first row of its table that fits. -/
def outcomeOf (f : Forecast) (fired : Bool) (v : Verdict) : Nat :=
  if f.cls = v.cls then 0
  else if f.shoots = shoots v.action then 1
  else if fired then 3
  else if f.met && f.fire && !shoots v.action then 4
  else 2

/-- The shot of a fired forecast, in the store, or gone from it in part or whole. -/
def Dev.shotOf (d : Dev) (seq : Nat) : Option Shot :=
  let kept := d.eject.shots.find? (fun s => s.seq == seq)
  match d.firedShot seq with
  | some s => some ((kept.map s.join).getD s)
  | none => kept

/-- R293: a retraction record held until its frame has latched. -/
def Dev.retract (d : Dev) (x : Closed) (f : Forecast) (v : Verdict) (s : Shot) : Dev :=
  let bytes := sealAt 0x3C (pack [(1, 0x52), (1, v.cls + 16 * v.action), (2, b2n (!s.driven) + 2 * b2n (f.inj || x.inj)),
    (4, fw x.words 57), (8, d.objectId x.seq), (8, d.tb), (2, s.valveFirst), (2, s.valveLast), (4, s.first), (4, s.stop), (2, x.gen)]
    ++ List.replicate 26 0)
  let d := d.setCls (fun c => { c with retractions := c.retractions ++ [⟨s.stop, bytes⟩] })
  ((d.countYield yUnconfirmed 1).orBits Reg.UNCONFIRMED_SHOT 1).raise
    { source := 290, data := [(8, d.objectId x.seq)], limited := true, inj := f.inj || x.inj }

/-- R286, R287: the forecasts that an object's verdict settles. `shots` are the shots fired before the verdict acted. -/
def Dev.settle (d : Dev) (x : Closed) (v : Verdict) (shots : List Shot) : Dev :=
  x.forecasts.foldl (fun d f =>
    let shot := shots.find? (fun s => s.seq == f.seq)
    let out := outcomeOf f shot.isSome v
    let d := match shot with
      | some s => if shoots v.action then d else d.retract x f v s
      | none => d
    let dry := match shot with | some s => !s.driven | none => false
    d.forecastOut ⟨1, 2 * b2n f.fire + 4 * b2n dry + 8 * b2n (f.inj || x.inj) + 16 * b2n f.full, f.cls, f.conf,
      v.cls + 16 * v.action, out, d.objectId f.seq, d.objectId x.seq, x.closeLine, x.closeTb, x.gen, f.firstLine, wordCols x.words,
      fw x.words 3 % 2 ^ 13⟩) d

/-- R291: an object record but for its chip flags, digest and check. `dry` is DRY of the verdict (R314). -/
def Dev.recordHead (d : Dev) (x : Closed) (v : Verdict) (own : EvalResult) (wins : List ValveWin) (dry missed : Bool) : List Byte :=
  let c := d.confOf x.gen
  let (k, q) := own.judge c
  let (win, top) := ((v.scores[v.cls]?).getD 0, v.scores.foldl (· + ·) 0)
  let (nk, nv) := bestOf (v.scores.set v.cls 0)
  let nk := if v.overload then 0 else if nv = 0 && v.cls = 0 then 1 else nk
  let flags := b2n x.partner.isSome + 2 * b2n x.unpaired + 4 * b2n (shoots v.action) + 8 * b2n dry + 16 * b2n missed +
    2 ^ 7 * b2n own.overload + 2 ^ 8 * b2n (own.depthErr || x.depthErr) + 2 ^ 9 * b2n x.inj
  let w := fw x.words
  pack [(1, 0x4F), (1, v.cls + 16 * v.action), (1, v.conf), (1, k), (1, q), (3, 0), (8, d.objectId x.seq),
    (8, (x.partner.map d.objectId).getD 0), (8, x.closeTb), (8, d.tb), (4, flags), (2, x.gen), (2, 0), (4, w 0), (4, w 1), (4, w 57),
    (4, w 2), (4, w 3), (4, w 4), (4, w 5), (4, w 43), (4, w 36), (4, w 39), (4, w 58), (4, w 63), (4, win), (4, nv + nk * 2 ^ 24),
    (4, top), (4, 0), (2, (wins.map (·.valve)).foldl min 0xFFFF),
    (2, if wins.isEmpty then 0xFFFF else (wins.map (·.valve)).foldl max 0),
    (4, match wins with | [] => 0 | y :: ys => ys.foldl (fun m z => min m z.fOpen) y.fOpen)]

/-- R281 to R291: a verdict is formed: counted, scheduled, its forecasts settled, its records held. `xs` is one object, or
a FRONT and a REAR object. -/
def Dev.giveVerdict (d : Dev) (xs : List Closed) (v : Verdict) : Dev :=
  let lead := (xs.head?).getD ⟨0, 0, [], 0, 0, 0, true, false, [], none, false, false, none, false⟩
  let live := xs.filter (fun x => !x.stopped)
  let seqs := (xs.flatMap (·.forecasts)).map (·.seq)
  let shots := seqs.filterMap d.shotOf
  let shot := shoots v.action
  let (d, res) := if shot && !live.isEmpty then
      d.shoot lead.seq (live.map (fun x => ⟨x.seq, x.face, x.gen, x.closeLine, x.words, x.forecasts.map (·.seq), x.inj⟩))
    else (d.endForecasts seqs, ⟨[], false⟩)
  let d := xs.foldl (fun d x => (d.countVerdict x.face v.cls).countYield yStopped (b2n x.stopped)) d
  let area := fw lead.words 0
  let d := match v.action with
    | 1 | 2 => (d.countYield yEjected 1).countYield yEjectedArea area
    | 4 => d.countYield yCounted 1
    | _ => (d.countYield yAccepted 1).countYield yAcceptedArea area
  let d := if shot && !live.isEmpty then d.countYield yShots 1 else d
  let d := if res.missed then ((d.countYield yMissed 1).orBits Reg.MISSED_SHOT 1).raise
      { source := 291, data := [(8, d.objectId lead.seq)], limited := true, inj := xs.any (·.inj) } else d
  let d := xs.foldl (fun d x => d.settle x v shots) d
  let d := d.setEject (fun e => { e with shots := e.shots.filter (fun s => !seqs.contains s.seq) })
  let dry := d.dryNow (res.wins.flatMap (fun p => p.2.map (·.fOpen)))
  xs.foldl (fun d x =>
    let own := x.result.getD ⟨List.replicate 16 0, false, false⟩
    let wins := ((res.wins.find? (fun p => p.1 == x.seq)).map (·.2)).getD []
    let head := d.recordHead x v own wins dry (res.missed && !x.stopped)
    d.setCls (fun c => { c with held := c.held ++ [⟨x.seq, d.arr.runNum, x.face, x.words, x.gen, head, none, cutsChip v.action,
        x.inj⟩] })) d

/-- The object or pair of an entry whose verdict can be formed (R281, R288). -/
def Dev.ripe (d : Dev) (x : Closed) : Option (List Closed) :=
  if x.waiting || x.result.isNone then none
  else match x.partner with
    | none => some [x]
    | some p =>
      match d.track.closed.find? (fun y => y.seq == p) with
      | some y => if y.result.isNone then none else some (if x.face = 0 then [x, y] else [y, x])
      | none => some [x]

/-- The generation of the object that closed last. -/
def laterGen : List Closed → Nat
  | [] => 0
  | x :: rest => (rest.foldl (fun (p : Nat × Nat) y => if lineFrom y.closeLine p.1 then (y.closeLine, y.gen) else p) (x.closeLine, x.gen)).2

/-- One verdict formed, if one can be. -/
def Dev.oneVerdict (d : Dev) : Option Dev :=
  match d.track.closed.findSome? d.ripe with
  | none => none
  | some xs =>
    let seqs := xs.map (·.seq)
    let c := d.confOf (laterGen xs)
    let rs := xs.filterMap (·.result)
    let v := formVerdict c ((rs.head?).getD ⟨List.replicate 16 0, false, false⟩) (rs[1]?)
    let d := { d with track := { d.track with closed := d.track.closed.filter (fun y => !seqs.contains y.seq) } }
    some (d.giveVerdict xs v)

/-- Verdicts formed while any can be; the number bounds how many. -/
def Dev.formVerdicts : Nat → Dev → Dev
  | 0, d => d
  | n + 1, d => match d.oneVerdict with | some d => Dev.formVerdicts n d | none => d

/-- Verdicts and records that can go, go. -/
def Dev.verdicts (d : Dev) : Dev := (Dev.formVerdicts d.track.closed.length d).releaseRecords

/-- VERDICT: the oldest running verdict evaluation ends, and the verdict is formed if it waits for nothing else. -/
def Dev.verdictDone (d : Dev) : Dev :=
  match d.cls.evals.find? (fun x => x.running && x.verdict) with
  | none => d
  | some x =>
    let (s, errs) := (d.confOf x.gen).evaluate x.words
    (((d.dropEval x).noteErrors x.seq x.inj errs).setResult x.seq ⟨s, false, !errs.isEmpty⟩).verdicts

/-- CLASS_OVERLOAD: the oldest verdict evaluation not started in time is not started. -/
def Dev.classOverload (d : Dev) : Dev :=
  match d.cls.evals.find? (fun x => x.verdict && !x.running && x.late d.cycle) with
  | none => d
  | some x => ((d.dropEval x).overload x.seq).verdicts

/-! Counters (R290). -/

def formCountersRead : Form := { code := 0x0601, managed := false, states := stIASHF, inl := [(12, 1)], buf := true }

def checkCountersRead (e : Entry) (_ : Dev) : Option Nat :=
  if e.bufLen.toNat = 0 || e.bufLen.toNat = 256 then none else some 0x38

/-- R290: every counter cleared. -/
def Dev.clearCounters (d : Dev) (cls yield shot : Bool) : Dev :=
  d.setCls (fun c => { c with
    verdicts := if cls then Vector.replicate 32 0 else c.verdicts
    yields := Vector.ofFn (fun i : Fin 10 => if (if i.val < 5 then yield else shot) then 0 else c.yields[i]), clearedAt := d.tb })

/-- COUNTERS_READ's effect. -/
def effCountersRead (e : Entry) (d : Dev) : Dev × Reply :=
  let block := d.cls.verdicts.toList.flatMap (leBytes 4) ++ d.cls.yields.toList.flatMap (leBytes 8) ++ leBytes 8 d.cls.clearedAt ++
    leBytes 8 d.tb ++ List.replicate 28 0
  let r : Reply := { result := d.cls.yields[0] % 2 ^ 32 + 2 ^ 32 * (d.cls.yields[1] % 2 ^ 32)
                     out := if e.bufLen = 0 then [] else block ++ leBytes 4 (crc32c block) }
  (if (e.inl 12 1).testBit 0 then d.clearCounters true true true else d, r)

def formCountersClear : Form := { code := 0x0602, managed := false, states := stIASHF, inl := [(12, 7)] }

/-- COUNTERS_CLEAR's effect. -/
def effCountersClear (e : Entry) (d : Dev) : Dev × Reply :=
  let m := e.inl 12 1
  (if m = 0 then d else d.clearCounters (m.testBit 0) (m.testBit 1) (m.testBit 2), {})

end Sys2Proof.Machine
end

