-- ==== Sys2Proof/Machine/Face.lean ====
section
/-!
DEFINITION. A face line from assembly to the classifier (FACE_ASSEMBLY), the end of a run's lines (R32, R265), RESET_PIPELINE
(R483), and the tracker's opcodes (R266).
-/

namespace Sys2Proof.Machine

/-! Closing (R253, R254). -/

/-- R253, R254: an object closes on line `n`: a speck goes, any other passes to the classifier. -/
def Dev.closeObj (d : Dev) (n step : Nat) (tall stopped : Bool) (o : Obj) : Dev :=
  let c := d.confAt n
  if o.kept ≤ 2 && decide (o.acc.area < c.get Reg.SPECK_AREA) then d.count Reg.SPECKS
  else
    let tb := ((d.lineInfo n).map (·.tb)).getD d.tb
    let x : Closed := ⟨o.seq, o.face, o.words o.lastLine step tall stopped, n, c.gen, tb, stopped, o.acc.inj,
      (match o.forecast with | some f => [f] | none => []) ++ o.folded, none, false, false, none, o.depthErr⟩
    let d := { d with track := { d.track with closed := d.track.closed ++ [x] } }
    ((d.count Reg.CLOSED).fuse x).readyVerdict x

/-- The objects that a labelling closed, and its fold notices. -/
def Dev.closeAll (d : Dev) (n : Nat) (stopped : Bool) (l : Labelled) : Dev :=
  let step := 2 ^ d.get Reg.AT_DEC
  let d := l.folds.foldl (fun d p => d.foldNotice n p.1 p.2) d
  l.closed.foldl (fun d p => d.closeObj n step p.2 stopped p.1) d

/-- R32, R265, R483: a face's objects and storms end on the last line labelled. -/
def Dev.endFace (d : Dev) (f cause : Nat) : Dev :=
  match (d.faceS f).prevNum with
  | none => d
  | some n => let (d, l) := d.stopFace f cause; d.closeAll n true l

/-! The end of a run's lines. -/

/-- R32, R221, R242: the run has ended and its last line has gone the whole way: fusion waits end, its taps end, and the frames in
progress close SHORT. -/
def Dev.drained (d : Dev) : Dev :=
  let d := (d.endFace 0 2).endFace 1 2
  let d := d.endWaits (fun _ => true)
  let d := d.endTaps (fun t => t.stop.isSome) 2
  let d := { d with pipe := { d.pipe with cuts := [] } }
  let d := (List.range 12).foldl (fun d h => d.closeStats h true) d
  ({ d with arr := { d.arr with draining := false } }).verdicts

/-- R32, R101: what happens once the lines that a run accepted are through. -/
def Dev.drainCheck (d : Dev) : Dev :=
  if !d.arr.draining then d
  else
    let last := d.newestLine
    let heads := (List.range 12).all (fun h => !d.expects h || (match (d.headS h).last with
      | some n => lineFrom n last
      | none => true))
    let closeFace := fun (d : Dev) f => if d.assembledTo f none then d.endFace f 2 else d
    let d := closeFace (closeFace d 0) 1
    if heads && d.assembledTo 0 none && d.assembledTo 1 none then d.drained else d.verdicts

/-! RESET_PIPELINE (R483). -/

/-- R483 step 4: what the paths behind ingest forget. -/
def Dev.forgetLines (d : Dev) (c : Nat) : Dev :=
  let later := fun (n : Nat) => lineAfter n c
  let head := fun (x : HeadS) => { x with
    last := x.last.map (fun n => lineMax n c), first := lineAdd c 1, early := x.early.filter (fun e => later e.num)
    corr := x.corr.filter (fun l => later l.num), next := lineAdd c 1, t2 := lineAdd c 1, aligned := [], recon := [], cic := [], settle := 0
    missRun := 0, joined := false }
  ({ d with
      pipe := { d.pipe with heads := d.pipe.heads.map head, cuts := d.pipe.cuts.filter (fun p => later (lineSub p.2 1)) }
      track := { d.track with faces := d.track.faces.map (fun (f : FaceS) =>
        { f with last := some c, prev := [], prevNum := none, blindBefore := false }) } }).count Reg.CIC_RESTARTS

/-- R206, R315, R483: with no run in progress, or before a run's first line. -/
def Dev.forgetIdle (d : Dev) : Dev :=
  (({ d with
      pipe := { d.pipe with heads := d.pipe.heads.map (fun (x : HeadS) =>
        { x with early := [], corr := [], aligned := [], recon := [], cic := [], settle := 0, missRun := 0 }) }
      track := { d.track with faces := d.track.faces.map (fun (f : FaceS) => { f with prev := [], prevNum := none }) } }).count
    Reg.CIC_RESTARTS).emptyStore

/-- R483: the flush at line c, once its labelling has ended on both faces. -/
def Dev.flushAt (d : Dev) (f : Flush) : Dev :=
  if f.done || !(d.assembledTo 0 (some f.line) && d.assembledTo 1 (some f.line)) then d
  else
    let d := (d.endFace 0 3).endFace 1 3
    let d := (d.endWaits (fun _ => true)).emptyStore
    let d := d.forgetLines f.line
    let d := { d with track := { d.track with
      flushes := d.track.flushes.map (fun g => if g.line = f.line then { g with done := true } else g) } }
    ((List.range 12).foldl Dev.pump d).verdicts

/-- R483: a RESET_PIPELINE completes once line c + 1 has been accepted at ingest, or can no longer be. (DEDUCED, log 59) -/
def Dev.flushEnd (d : Dev) (g : Flush) : Dev :=
  let accepted := (List.range 12).any (fun h => d.expects h && (match (d.headS h).last with
    | some n => lineAfter n g.line
    | none => true))
  if g.done && (accepted || !d.ingestOn) then
    ({ d with track := { d.track with flushes := d.track.flushes.erase g } }).finish g.cmd { result := lineAdd g.line 1 }
  else d

/-- R483: the RESET_PIPELINEs in progress. -/
def Dev.flushCheck (d : Dev) : Dev :=
  if d.track.flushes.isEmpty then d
  else
    let d := d.track.flushes.foldl Dev.flushAt d
    d.track.flushes.foldl Dev.flushEnd d

/-! FACE_ASSEMBLY. -/

/-- R312: runs of BLIND columns. -/
def blindRuns (cols : List Pixel) : List (Nat × Nat) :=
  (tagRuns 0 (cols.map (fun p => b2n p.isBlind))).map (fun r => (r.1, r.1 + r.2.1 - 1))

/-- R249 to R259, R277, R311, R312: a face line labelled, and what follows from it. -/
def Dev.label (d : Dev) (f : Nat) (l : FaceLine) (cls : List Nat) (idx : List (List Nat)) : Dev :=
  let n := l.num
  let step := 2 ^ d.get Reg.AT_DEC
  let (d, r) := d.labelLine l f cls idx
  let d := d.closeAll n false r
  let d := d.provisional f n step
  let d := d.spans f n r.storms (blindRuns l.cols) (lineSub n step)
  (d.waitsAt f n).verdicts

/-- A face line of face `f` is put together, classified and, where objects are tracked, labelled (R237 to R259). -/
def Dev.faceLine (d : Dev) (f : Nat) (info : LineInfo) : Dev :=
  let (d, l) := d.stormCheck.assemble f info
  let c := d.confAt l.num
  let idx := l.cols.map (fun p => c.indices f p.vals)
  let cls := List.zipWith (fun p i => c.classOf f p i) l.cols idx
  let d := (d.tapFace f l cls).toLineRing f l
  let d := if info.tracked then d.label f l cls idx else d
  d.drainCheck.flushCheck

/-- FACE_ASSEMBLY: the next face line of a face, once every head line it draws on has come. -/
def Dev.faceAssembly (d : Dev) (f : Nat) : Dev :=
  match d.nextFaceLine f with
  | none => d
  | some info => if d.faceReady f info then d.faceLine f info else d

/-! What ingest's commands end with. -/

/-- A head's lines moved on: the chain behind ingest follows. -/
def Dev.headMoved (d : Dev) (h : Nat) : Dev := (d.pump h).drainCheck.flushCheck.releaseRecords

/-- Every head's chain follows an accepted trigger. -/
def Dev.allMoved (d : Dev) : Dev :=
  (((List.range 12).filter d.expects).foldl Dev.pump d.stormCheck).drainCheck.flushCheck.releaseRecords

/-! Opcodes (R266, R483). -/

def formTrackerStatus : Form := { code := 0x0501, managed := false, states := stIASHF, inl := [(12, 1)], buf := true }

def checkTrackerStatus (e : Entry) (_ : Dev) : Option Nat :=
  if e.bufLen.toNat = 0 || e.bufLen.toNat = 64 then none else some 0x38

/-- TRACKER_STATUS's effect. -/
def effTrackerStatus (e : Entry) (d : Dev) : Dev × Reply :=
  let c := d.conf
  let counts := [0, 1].flatMap (fun f => (List.range 12).flatMap (fun z => leBytes 2 (d.zoneCount f z)))
  let block := counts ++ leBytes 2 (d.overQuota c 0) ++ leBytes 2 (d.overQuota c 1) ++ leBytes 4 d.track.labelledAt ++ leBytes 8 0
  let r : Reply := { result := d.openNow + d.track.peak * 2 ^ 12 + d.stormZones 0 * 2 ^ 24 + d.stormZones 1 * 2 ^ 36 +
                       d.freeSlots * 2 ^ 48
                     out := if e.bufLen = 0 then [] else block }
  (if (e.inl 12 1).testBit 0 then { d with track := { d.track with peak := d.openNow } } else d, r)

def formStormClear : Form :=
  { code := 0x0502, managed := false, states := stASH, inl := [(12, 0xFF), (13, 0xF), (14, 0xFF), (15, 0xF)] }

/-- STORM_CLEAR's effect. -/
def effStormClear (e : Entry) (d : Dev) : Dev × Reply :=
  let named := fun (s : Storm) => (e.inl (if s.face = 0 then 12 else 14) 2).testBit s.zone
  let r := d.stormZones 0 &&& e.inl 12 2
  let q := d.stormZones 1 &&& e.inl 14 2
  ({ d with track := { d.track with
      storms := d.track.storms.map (fun s => if named s then { s with clear := some (s.clear.getD d.newestLine) } else s) } },
    { result := r + q * 2 ^ 16 })

def formResetPipeline : Form := { code := 0x0105, managed := true, states := stIAHF }

/-- SELFTEST runs this test. -/
def Dev.testing (d : Dev) (id : Nat) : Bool :=
  (match d.longOp with | some o => o.opcode == 0x0C01 | none => false) && d.chan.longArgs.head? == some id

/-- RESET_PIPELINE's effect: it completes when line c + 1 has been accepted at ingest. -/
def effResetPipeline (e : Entry) (d : Dev) : Dev × Reply :=
  if d.testing 0x20 then (d, { status := .busy, detail := 2 })
  else if d.arr.running && d.arr.begun then
    let d := d.cutFade d.lineNow
    ({ d with track := { d.track with flushes := d.track.flushes ++ [⟨d.lineNow, false, ⟨e.sq, e.tag.toNat, 0x0105, false⟩⟩] } },
      { held := true })
  else (d.forgetIdle, { result := 0xFFFFFFFF })

end Sys2Proof.Machine
end

