-- ==== Sys2Proof/Machine/Engine.lean ====
section
/-!
DEFINITION. The I/O engines (R326 to R344): ticks, pins, FIFOs, the eleven instructions, synchronisation, load, start and stop.
-/

namespace Sys2Proof.Machine

def Dev.eng (d : Dev) (e : Nat) : Eng := d.engine.engs[e % 16]

def Dev.setEng (d : Dev) (e : Nat) (x : Eng) : Dev :=
  { d with engine := { d.engine with engs := d.engine.engs.set (e % 16) x (Nat.mod_lt _ (by decide)) } }

/-- The EJECT domain, in which engines and timers run, is ready. -/
def Dev.ejectOn (d : Dev) : Bool := d.domainReady 13

/-! Programs (R332, R343). -/

/-- A halfword of table 10h. -/
def progWord (prog : Store) (e a : Nat) : Nat :=
  (Store.get tableDefault prog (tableKey 0x10 e (a / 2))).toNat >>> (16 * (a % 2)) % 65536

/-- The instruction at an address of an engine. -/
def Dev.instr (d : Dev) (e a : Nat) : Nat := progWord d.engine.prog e a

def instrOp (w : Nat) : Nat := w / 4096

/-- R332: an illegal instruction. Bits that are not named must be 0. -/
def instrIllegal (w : Nat) : Bool :=
  let idx := w % 64
  match instrOp w with
  | 0 => w / 64 % 64 != 0
  | 1 => w / 32 % 128 != 0
  | 2 | 3 | 9 | 10 => w % 4096 != 0
  | 4 => w / 256 % 16 != 0
  | 5 =>
    let kind := w / 1024 % 4
    w / 64 % 8 != 0 || (kind != 0 && w.testBit 9) || (kind == 3 && decide (4 ≤ idx) && decide (idx ≤ 15))
  | 6 => w / 16 % 256 != 0
  | 7 => w / 512 % 8 != 0 || w / 64 % 8 == 7
  | 8 => w / 1024 % 4 != 0
  | _ => true

/-- OUT and IN: the bit count. -/
def bitsCount (w : Nat) : Nat := if w % 32 = 0 then 32 else w % 32

/-! Pins (R329). -/

/-- The role of a window pin. -/
def Dev.role (d : Dev) (e i : Nat) : Nat :=
  d.get (([Reg.ROLE_W0, Reg.ROLE_W1, Reg.ROLE_W2, Reg.ROLE_W3, Reg.ROLE_W4, Reg.ROLE_W5, Reg.ROLE_W6, Reg.ROLE_W7][i]?).getD
    Reg.ROLE_W7) e

/-- The window pins of a role, rising. -/
def Dev.rolePins (d : Dev) (e r : Nat) : List Nat := (List.range 8).filter (fun i => d.role e i == r)

/-- The window pins that an engine drives. -/
def Dev.drivenPins (d : Dev) (e : Nat) : List Nat := (List.range 8).filter (fun i => [1, 2, 3].contains (d.role e i))

/-- The engine pin of a window pin. -/
def Dev.enginePin (d : Dev) (e i : Nat) : Nat := (d.get Reg.PIN_BASE e + i) % 64

/-- Widths of OUT and of IN. -/
def Dev.outWidth (d : Dev) (e : Nat) : Nat := max 1 (d.rolePins e 2).length
def Dev.inWidth (d : Dev) (e : Nat) : Nat := max 1 (d.rolePins e 4).length

/-- R331: a pin's SHORT bit. -/
def Dev.setShort (d : Dev) (p : Nat) (v : Bool) : Dev :=
  if p < 32 then d.putBit Reg.SHORT_LO p v else d.putBit Reg.SHORT_HI (p - 32) v

/-- The engine that drives a pin, if one does and the pin is not released. -/
def Dev.driver (d : Dev) (p : Nat) : Option Nat :=
  (List.range 16).find? (fun e => (d.eng e).drives && (d.drivenPins e).any (fun i => d.enginePin e i == p))

/-- R328: the engine is in the first half of a tick of an OUT or IN: its CLOCK pin has fallen and not yet risen. -/
def Dev.clockLow (d : Dev) (e : Nat) : Bool :=
  let x := d.eng e
  let start := x.pos / 4096
  let m := (x.pos + x.div) / 4096 - start
  x.running && decide (instrOp (d.instr e x.pc) ≤ 1) && decide (start ≤ d.clk.bus) && decide (d.clk.bus < start + m / 2)

/-- The level of a window pin that an engine drives. -/
def Dev.windowLevel (d : Dev) (e i : Nat) : Bool := (d.eng e).outs.getLsbD i && !(d.role e i == 1 && d.clockLow e)

/-- The level of an engine pin as the unit drives it: none where nothing drives it or it is released as shorted. -/
def Dev.pinLevel (d : Dev) (p : Nat) : Option Bool :=
  if d.engine.released.getLsbD p then none
  else (d.driver p).bind (fun e => ((d.drivenPins e).find? (fun i => d.enginePin e i == p)).map (d.windowLevel e))

/-- A window pin driven to a level. -/
def Eng.setPin (x : Eng) (i : Nat) (v : Bool) : Eng :=
  let m : BitVec 8 := BitVec.ofNat 8 (1 <<< i)
  { x with outs := if v then x.outs ||| m else x.outs &&& ~~~m }

/-! Ticks (R327). -/

/-- The tick in progress has ended. -/
def Dev.tickOver (d : Dev) (x : Eng) : Bool := x.running && decide ((x.pos + x.div) / 4096 ≤ d.clk.bus)

/-- The next tick begins `n` ticks on; DIV takes effect there. -/
def Dev.nextTick (d : Dev) (e n : Nat) (x : Eng) : Eng := { x with pos := x.pos + n * x.div, div := d.get Reg.DIV e }

/-- The whole ticks that have ended. -/
def Dev.ticksOver (d : Dev) (x : Eng) : Nat := ((d.clk.bus + 1) * 4096 - 1 - x.pos) / max 1 x.div

/-- The ticks to the first tick start at or after the present edge, at least one. -/
def Dev.ticksTo (d : Dev) (x : Eng) : Nat := max 1 (ceilDiv (d.clk.bus * 4096 - x.pos) (max 1 x.div))

/-- The tick generator cleared on this edge. -/
def Dev.clearTicks (d : Dev) (e : Nat) (x : Eng) : Eng := { x with pos := d.clk.bus * 4096, div := d.get Reg.DIV e }

/-! Flow (R328). -/

/-- An engine reaches the instruction at its program counter: waits, SYNC and DELAY begin. -/
def Dev.arrive (d : Dev) (e : Nat) (x : Eng) : Eng :=
  let w := d.instr e x.pc
  { x with
    stall := 0, wait := if instrOp w = 5 then some ⟨none, false⟩ else none, sync := instrOp w == 10
    delay := if instrOp w = 8 then (if w % 1024 = 0 then 1024 else w % 1024) else 0 }

/-- The normal flow to the next instruction; from LEN - 1 to ENTRY, which LOOPS counts. -/
def Dev.flow (d : Dev) (e : Nat) (x : Eng) : Dev :=
  let last := x.pc + 1 == d.get Reg.LEN e
  let x := { x with pc := if last then d.get Reg.ENTRY e else (x.pc + 1) % 64 }
  let d := if last then d.put Reg.LOOPS (d.get Reg.LOOPS e + 1) e else d
  d.setEng e (d.arrive e x)

/-- An instruction of one tick ends. -/
def Dev.stepOn (d : Dev) (e : Nat) (x : Eng) : Dev := d.flow e (d.nextTick e 1 x)

/-! FIFOs (R316, R340). -/

/-- R316: a valve engine: its FRAME_BITS is nonzero. -/
def Dev.valveEngine (d : Dev) (e : Nat) : Bool := d.conf.get Reg.FRAME_BITS e != 0

/-- R316: words of a frame go into the pull FIFO as space frees. -/
def Eng.refill (x : Eng) : Eng :=
  let room := 8 - x.pull.length
  { x with pull := x.pull ++ x.frame.take room, frame := x.frame.drop room }

/-- PULL_DATA: the host appends a word. -/
def Dev.pullData (d : Dev) (e : Nat) (w : Word) : Dev :=
  let x := d.eng e
  if d.valveEngine e then d
  else if 8 ≤ x.pull.length then d.setEng e { x with pullOvf := true }
  else d.setEng e { x with pull := x.pull ++ [w] }

/-- PUSH_DATA: the host reads the oldest word. -/
def Dev.pushData (d : Dev) (e : Nat) : Dev × Nat :=
  let x := d.eng e
  if d.valveEngine e then (d, 0)
  else match x.push with
    | w :: rest => (d.setEng e { x with push := rest }, w.toNat)
    | [] => (d.setEng e { x with pushUnder := true }, 0)

/-! Events (R334, R336). -/

/-- R334: an event occurs for engines whose WAIT names it. -/
def Dev.pulse (d : Dev) (idx : Nat) : Dev :=
  (List.range 16).foldl (fun d e =>
    let x := d.eng e
    let w := d.instr e x.pc
    match x.wait with
    | some k => if x.running && w / 1024 % 4 == 3 && w % 64 == idx then d.setEng e { x with wait := some { k with hit := true } } else d
    | none => d) d

/-- R336: an engine is released from SYNC on this edge. -/
def Dev.release (d : Dev) (e : Nat) : Dev := d.flow e (d.clearTicks e (d.eng e))

/-- R336: the engines that stand at SYNC on a source are released together: 1 valve-frame boundary, 2 line, 3 frame. -/
def Dev.syncOn (d : Dev) (src : Nat) : Dev :=
  ((List.range 16).filter (fun e => (d.eng e).running && (d.eng e).sync && d.get Reg.SYNC_SRC e == src)).foldl Dev.release d

/-- SYNC_RELEASE (R336): a group is released once every running engine of it stands at SYNC. -/
def Dev.syncGroup (d : Dev) (g : Nat) : Dev :=
  let its := (List.range 16).filter (fun e => (d.eng e).running && d.get Reg.SYNC_SRC e == 0 && d.get Reg.SYNC_GROUP e == g)
  let at' := fun e => (d.eng e).sync && d.get Reg.SYNC_SRC e == 0
  if g = 0 then (its.filter at').foldl Dev.release d
  else
    let members := (List.range 16).filter (fun e => (d.eng e).running && d.get Reg.SYNC_GROUP e == g)
    if members.all (fun e => (d.eng e).sync) then (members.filter at').foldl Dev.release d else d

/-- R342: an engine raises its event. Its pulse to timers is Timer.lean's. -/
def Dev.engineEvent (d : Dev) (e : Nat) : Dev :=
  ((d.count Reg.ENG_EVENTS).raise { source := 352 + e, inst := e, limited := true }).pulse (16 + e)

/-! Instructions (R333). Each ends with its tick, where the engine stands at such an instruction; SET and OUT drive their pins
from the start of it. -/

/-- An engine whose tick is over and that stands at an instruction of this code; with the instruction. -/
def Dev.atInstr (d : Dev) (e op : Nat) : Option (Eng × Nat) :=
  let x := d.eng e
  let w := d.instr e x.pc
  if d.ejectOn && instrOp w == op && d.tickOver x then some (x, w) else none

/-- An engine whose tick has begun and is not over, and that stands at an instruction of this code; with the instruction. -/
def Dev.atStart (d : Dev) (e op : Nat) : Option (Eng × Nat) :=
  let x := d.eng e
  let w := d.instr e x.pc
  if d.ejectOn && instrOp w == op && x.running && decide (x.pos / 4096 ≤ d.clk.bus) && !d.tickOver x then some (x, w) else none

/-- The bits a shift takes out, as a number, and the register with others shifted in. -/
def shiftBits (left : Bool) (w : Nat) (r : Word) (fill : Nat) : Nat × Word :=
  let v := r.toNat
  let f := fill % 2 ^ w
  if left then (v >>> (32 - w), BitVec.ofNat 32 (v <<< w ||| f)) else (v % 2 ^ w, BitVec.ofNat 32 (v >>> w ||| f <<< (32 - w)))

/-- A tick of OUT or IN counted: the instruction goes on, or ends after its last bit. -/
def Dev.shiftTick (d : Dev) (e w n : Nat) (x : Eng) : Dev :=
  let k := x.bitCount + w
  if k < n then d.setEng e (d.nextTick e 1 { x with bitCount := k }) else d.stepOn e { x with bitCount := 0 }

/-- R328: the bits of a tick of OUT on the DATA_OUT pins, from its start. -/
def Dev.outPins (d : Dev) (e : Nat) (x : Eng) : Eng :=
  let pins := d.rolePins e 2
  let bits := (shiftBits (d.flag Reg.SHIFT_DIR e) (d.outWidth e) x.reg 0).1
  ((List.range pins.length).zip pins).foldl (fun x p => x.setPin p.2 (bits.testBit p.1)) x

/-- OUT: one tick. `captured` are the bits on the DATA_IN pins at its middle. Within the tick its pins are driven.
(DESIGN CHOICE, log 57) -/
def Dev.opOut (d : Dev) (e captured : Nat) : Dev :=
  match d.atInstr e 0 with
  | none => match d.atStart e 0 with | none => d | some (x, _) => d.setEng e (d.outPins e x)
  | some (x, i) =>
    let w := d.outWidth e
    let xin := i.testBit 5
    let (_, r) := shiftBits (d.flag Reg.SHIFT_DIR e) w x.reg (if xin then captured else 0)
    d.shiftTick e w (bitsCount i)
      { d.outPins e x with reg := r, inCount := if xin then min 32 (x.inCount + w) else x.inCount }

/-- IN: one tick. -/
def Dev.opIn (d : Dev) (e captured : Nat) : Dev :=
  match d.atInstr e 1 with
  | none => d
  | some (x, i) =>
    let w := d.inWidth e
    let (_, r) := shiftBits (d.flag Reg.SHIFT_DIR e) w x.reg captured
    d.shiftTick e w (bitsCount i) { x with reg := r, inCount := min 32 (x.inCount + w) }

/-- PULL: the oldest word, or a stall. -/
def Dev.opPull (d : Dev) (e : Nat) : Dev :=
  match d.atInstr e 2 with
  | none => d
  | some (x, _) =>
    match x.pull with
    | w :: rest => d.flow e (d.nextTick e (d.ticksOver x) ({ x with reg := w, inCount := 0, pull := rest }).refill)
    | [] => d.setEng e (d.nextTick e (d.ticksOver x) { x with stall := 2 })

/-- The word a PUSH puts (R333). -/
def pushWord (left : Bool) (inCount : Nat) (r : Word) : Word :=
  if !left && 1 ≤ inCount && inCount ≤ 31 then r >>> (32 - inCount) else r

/-- PUSH: a word into the push FIFO, or a stall. -/
def Dev.opPush (d : Dev) (e : Nat) : Dev :=
  match d.atInstr e 3 with
  | none => d
  | some (x, _) =>
    if 8 ≤ x.push.length then d.setEng e (d.nextTick e (d.ticksOver x) { x with stall := 3 })
    else d.flow e (d.nextTick e (d.ticksOver x)
      { x with push := x.push ++ [pushWord (d.flag Reg.SHIFT_DIR e) x.inCount x.reg], reg := 0, inCount := 0 })

/-- R333: the CONTROL pins that SET names, from the start of its tick. -/
def Dev.setPins (d : Dev) (e i : Nat) (x : Eng) : Eng :=
  let pins := d.rolePins e 3
  ((List.range pins.length).zip pins).foldl (fun x p => if i.testBit (4 + p.1) then x.setPin p.2 (i.testBit p.1) else x) x

/-- SET: CONTROL pins. -/
def Dev.opSet (d : Dev) (e : Nat) : Dev :=
  match d.atInstr e 4 with
  | none => match d.atStart e 4 with | none => d | some (x, i) => d.setEng e (d.setPins e i x)
  | some (x, i) => d.stepOn e (d.setPins e i x)

/-- WAIT and its release: a look at the pin (`level`, synchronised) or at the event. -/
def Dev.lookWait (d : Dev) (e : Nat) (level : Bool) : Dev :=
  let x := d.eng e
  let i := d.instr e x.pc
  match x.wait with
  | none => d
  | some k =>
    if !(d.ejectOn && x.running) then d
    else
      let met := match i / 1024 % 4 with
        | 0 => level == i.testBit 9
        | 1 => k.prev == some false && level
        | 2 => k.prev == some true && !level
        | _ => k.hit
      if met then d.flow e (d.nextTick e (d.ticksTo x) x) else d.setEng e { x with wait := some { k with prev := some level } }

/-- WAIT: its first look. -/
def Dev.opWait (d : Dev) (e : Nat) (level : Bool) : Dev :=
  match (d.eng e).wait with
  | some k => if k.prev.isNone then d.lookWait e level else d
  | none => d

/-- WAIT_RELEASE: a later look. -/
def Dev.waitRelease (d : Dev) (e : Nat) (level : Bool) : Dev := d.lookWait e level

/-- CMP: sets FLAG or raises the event; answers whether it raised it. -/
def Dev.opCmp (d : Dev) (e : Nat) : Dev × Bool :=
  match d.atInstr e 6 with
  | none => (d, false)
  | some (x, i) =>
    let cmp := d.get Reg.CMPVAL e
    let hit := if i.testBit 2 then cmp.testBit (16 * (i / 8 % 2) + x.reg.toNat % 16)
      else (x.reg.toNat ^^^ cmp) &&& d.get Reg.CMP_MASK e == 0
    match i % 4 with
    | 0 => (d.stepOn e { x with flag := hit }, false)
    | 1 => (d.stepOn e { x with flag := !hit }, false)
    | 2 => if hit then ((d.stepOn e x).engineEvent e, true) else (d.stepOn e x, false)
    | _ => if !hit then ((d.stepOn e x).engineEvent e, true) else (d.stepOn e x, false)

/-- JMP: `level` is the synchronised level of the TEST pin. -/
def Dev.opJmp (d : Dev) (e : Nat) (level : Bool) : Dev :=
  match d.atInstr e 7 with
  | none => d
  | some (x, i) =>
    let go := match i / 64 % 8 with
      | 0 => true
      | 1 => x.flag
      | 2 => !x.flag
      | 3 => !x.pull.isEmpty
      | 4 => decide (x.push.length < 8)
      | 5 => level
      | _ => !level
    if go then d.setEng e (d.arrive e (d.nextTick e 1 { x with pc := i % 64 })) else d.stepOn e x

/-- DELAY: the ticks that have passed. -/
def Dev.opDelay (d : Dev) (e : Nat) : Dev :=
  match d.atInstr e 8 with
  | none => d
  | some (x, _) =>
    let n := min x.delay (if x.div = d.get Reg.DIV e then d.ticksOver x else 1)
    if n < x.delay then d.setEng e (d.nextTick e n { x with delay := x.delay - n }) else d.flow e (d.nextTick e n x)

/-- EVENT: answers whether it raised the event. -/
def Dev.opEvent (d : Dev) (e : Nat) : Dev × Bool :=
  match d.atInstr e 9 with
  | none => (d, false)
  | some (x, _) => ((d.stepOn e x).engineEvent e, true)

/-- SYNC: an engine that stands at SYNC on GROUP may release its group. -/
def Dev.opSync (d : Dev) (e : Nat) : Dev :=
  let x := d.eng e
  if d.ejectOn && x.running && x.sync && d.get Reg.SYNC_SRC e == 0 then d.syncGroup (d.get Reg.SYNC_GROUP e) else d

/-! Stop, load and start (R337 to R339). -/

/-- R337: an engine that stops keeps the level of its CLOCK pins. -/
def Dev.heldClock (d : Dev) (e : Nat) (x : Eng) : Eng :=
  (d.rolePins e 1).foldl (fun x i => x.setPin i (d.windowLevel e i)) x

/-- R337: engines stop; with `release` the pins of each engine of the mask are released, of one that was stopped too. -/
def Dev.stopEngines (d : Dev) (mask : Nat) (release : Bool) : Dev :=
  (bitsOf 16 mask).foldl (fun d e =>
    let x := if (d.eng e).running then d.heldClock e (d.eng e) else d.eng e
    d.setEng e { x with running := false, stall := 0, wait := none, sync := false, drives := x.drives && !release }) d

/-- Engines of a mask that run. -/
def Dev.runningOf (d : Dev) (mask : Nat) : Nat := maskOf ((bitsOf 16 mask).filter (fun e => (d.eng e).running))

/-- R339: the checks of one engine, with code and address. `others` are the engines that would run beside it. -/
def Dev.startCheck (d : Dev) (others : List Nat) (e : Nat) : Option (Nat × Nat) :=
  let len := d.get Reg.LEN e
  let at' := fun (bad : Nat → Bool) => (List.range len).find? (fun a => bad (d.instr e a))
  let outs := (d.rolePins e 2).length
  let ins := (d.rolePins e 4).length
  let badWidth := fun (n : Nat) => !([0, 1, 2, 4].contains n)
  match at' instrIllegal with
  | some a => some (1, a)
  | none => match at' (fun i => (instrOp i == 0 && bitsCount i % max 1 outs != 0) || (instrOp i == 1 && bitsCount i % max 1 ins != 0)) with
    | some a => some (4, a)
    | none => match at' (fun i => instrOp i == 0 && i.testBit 5 && outs != ins) with
      | some a => some (5, a)
      | none =>
        let mine := (d.drivenPins e).map (d.enginePin e)
        if others.any (fun f => f != e && ((d.drivenPins f).map (d.enginePin f)).any mine.contains) then some (6, 0)
        else if (List.range 8).any (fun i => 6 ≤ d.role e i) || 1 < (d.rolePins e 1).length || 1 < (d.rolePins e 5).length ||
            4 < (d.rolePins e 3).length || badWidth outs || badWidth ins then some (7, 0)
        else if len ≤ d.get Reg.ENTRY e then some (8, d.get Reg.ENTRY e)
        else (at' (fun i => instrOp i == 7 && (decide (len ≤ i % 64) ||
          ([5, 6].contains (i / 64 % 8) && (d.rolePins e 5).isEmpty)))).map (fun a => (8, a))

/-- ENG_CHECK (R344). -/
def Dev.engCheck (d : Dev) (e code addr : Nat) : Dev :=
  ((d.put Reg.CHECK_CODE_0900 code).put Reg.CHECK_ADDR addr).put Reg.CHECK_ENG e

/-- R339: one engine starts on this edge. -/
def Dev.startEngine (d : Dev) (flush restart : Bool) (e : Nat) : Dev :=
  let x := d.eng e
  let x := if flush then { x with pull := [], push := [], frame := [] } else x
  let fresh := x.loaded || restart
  let x := if fresh then { x with pc := 0, bitCount := 0, inCount := 0, flag := false, reg := 0 } else x
  let x := (d.rolePins e 1).foldl (fun x i => x.setPin i true) (if x.loaded then { x with outs := 0 } else x)
  let x := d.clearTicks e { x with running := true, drives := true, loaded := false }
  (d.put Reg.LOOPS 0 e).setEng e (d.arrive e x)

/-- R339: ENGINE_START on a mask: the first failing engine's check, or the engines started. -/
def Dev.startEngines (d : Dev) (mask : Nat) (flush restart : Bool) : Dev ⊕ (Nat × Nat × Nat) :=
  let new := (bitsOf 16 mask).filter (fun e => !(d.eng e).running)
  let all := (List.range 16).filter (fun e => (d.eng e).running || new.contains e)
  match (bitsOf 16 mask).findSome? (fun e => (d.startCheck all e).map (fun p => (e, p.1, p.2))) with
  | some bad => .inr bad
  | none => .inl (new.foldl (Dev.startEngine · flush restart) d)

/-- R319: valve engines stopped even in mid-shift, their FIFOs flushed, and restarted with an all-off frame, as
ENGINE_START does. -/
def Dev.restartValves (d : Dev) : Dev :=
  let vs := (List.range 16).filter d.valveEngine
  let d := (d.stopEngines (maskOf vs) false).valvesOff
  let d := vs.foldl (fun d e =>
    let x := d.eng e
    d.setEng e ({ x with pull := [], push := [], frame := d.frameWords e d.frameNow true, sent := 1 }).refill) d
  if !d.ejectOn then d
  else match d.startEngines (maskOf vs) false true with
    | .inl d => d
    | .inr (e, code, addr) => d.engCheck e code addr

/-- R338, R343: words into table 10h of an engine, which counts as a load: refused while it runs, or for an illegal
instruction. -/
def Dev.progWrite (d : Dev) (e off : Nat) (ws : List Word) : Dev × Reply :=
  if (d.eng e).running then (d, { status := .notStopped })
  else
    let halves := ws.flatMap (fun w => [w.toNat % 65536, w.toNat / 65536])
    match (List.range halves.length).find? (fun i => instrIllegal ((halves[i]?).getD 0)) with
    | some i => (d.engCheck e 1 (2 * off + i), badParam 0xFF)
    | none =>
      let d := { d.touch with engine := { d.engine with prog := Store.putAll tableDefault d.engine.prog (tableKey 0x10 e off) ws } }
      (d.setEng e { d.eng e with loaded := true }, {})

/-- Halfwords packed two to a word. -/
def packHalves : List Nat → List Word
  | [] => []
  | [a] => [BitVec.ofNat 32 a]
  | a :: b :: rest => BitVec.ofNat 32 (a + 65536 * b) :: packHalves rest

def formEngineLoad : Form :=
  { code := 0x0801, managed := true, states := stIASHF, sel := 0xF, inl := (12, 0xFF) :: inlBytes 16 19, buf := true }

def checkEngineLoad (e : Entry) (_ : Dev) : Option Nat :=
  if e.inl 12 1 = 0 || 64 < e.inl 12 1 then some 0x0C
  else if e.bufLen.toNat ≠ 2 * e.inl 12 1 then some 0x38 else none

/-- ENGINE_LOAD's effect (R338, R341). (DEDUCED, log 56) -/
def effEngineLoad (e : Entry) (d : Dev) : Dev × Reply :=
  let n := e.inl 12 1
  let g := e.sel 3 0
  if crc32c e.data ≠ e.inl 16 4 then (d, { status := .checkFail, detail := 2 })
  else
    let code := (List.range n).map (fun i => leAt e.data (2 * i) 2)
    let all := code ++ (List.range (64 - n)).map (fun i => 0x7000 + n + i)
    match d.progWrite g 0 (packHalves all) with
    | (d, { status := .ok, .. }) => (d.put Reg.LEN n g, { result := n })
    | (d, r) => (d, r)

def formEngineStart : Form := { code := 0x0802, managed := false, states := stIASHF, inl := inlBytes 12 13 ++ [(14, 3)] }

/-- ENGINE_START's effect. (DEDUCED, log 55) -/
def effEngineStart (e : Entry) (d : Dev) : Dev × Reply :=
  let mask := e.inl 12 2
  if mask = 0 then (d, badParam 0x0C)
  else if !d.ejectOn then (d, { result := d.tb % 2 ^ 32 * 2 ^ 32 })
  else
    let was := d.runningOf mask
    match d.startEngines mask ((e.inl 14 1).testBit 0) ((e.inl 14 1).testBit 1) with
    | .inr (g, code, addr) => (d.engCheck g code addr, badParam 0x0C)
    | .inl d => (d, { result := (mask - was) + was * 2 ^ 16 + d.tb % 2 ^ 32 * 2 ^ 32 })

def formEngineStop : Form := { code := 0x0803, managed := false, states := stIASHF, inl := inlBytes 12 13 ++ [(14, 1)] }

/-- ENGINE_STOP's effect. -/
def effEngineStop (e : Entry) (d : Dev) : Dev × Reply :=
  let mask := e.inl 12 2
  (d.stopEngines mask ((e.inl 14 1).testBit 0), { result := d.runningOf mask + d.tb % 2 ^ 32 * 2 ^ 32 })

/-- STATUS (R344). -/
def Eng.status (x : Eng) : Nat :=
  (if x.running then max 1 x.stall else 0) + 4 * x.pc + 2 ^ 12 * x.pull.length + 2 ^ 16 * x.push.length + 2 ^ 20 * b2n x.flag +
    2 ^ 21 * (x.bitCount % 32) + 2 ^ 26 * x.inCount

def formEngineStatus : Form := { code := 0x0804, managed := false, states := stIASHF, sel := 0xF }

/-- ENGINE_STATUS's effect. -/
def effEngineStatus (e : Entry) (d : Dev) : Dev × Reply :=
  let x := d.eng (e.sel 3 0)
  (d, { result := x.status + x.reg.toNat * 2 ^ 32 })

end Sys2Proof.Machine
end

