-- ==== Sys2Proof/Machine/AuxMeasure.lean ====
section
/-!
DEFINITION. Auxiliary measurement (R360 to R379): the sequencer, results and their flags, check conversions, calibration.
-/

namespace Sys2Proof.Machine

def Dev.setAux (d : Dev) (g : AuxS → AuxS) : Dev := { d with aux := g d.aux }

/-- The AUX domain is on (R369). -/
def Dev.auxOn (d : Dev) : Bool := d.domainOn 24

/-- R362: a code held within 24 bits. -/
def auxClamp (v : Int) : Int := if v < -8388608 then -8388608 else if 8388607 < v then 8388607 else v

/-- R361: the divider of an internal channel. -/
def railDivider (ch : Nat) : Nat := match ch with | 16 => 8 | 17 => 2 | 22 => 2 | 23 => 2 | _ => 1

/-- R361: a code of an internal channel lies outside its limits; the rail voltage is code x 2,500 / 2^23 x divider. -/
def Dev.railBad (d : Dev) (ch : Nat) (code : Int) : Bool :=
  let mv := code * (2500 * railDivider ch : Nat)
  16 ≤ ch && (decide (mv < (d.get Reg.LO_MV (ch - 16) * 8388608 : Nat)) || decide ((d.get Reg.HI_MV (ch - 16) * 8388608 : Nat) < mv))

/-- The period of an output data rate in microseconds (R364). -/
def odrPeriod (odr : Nat) : Nat := ([125, 250, 500, 1000, 2000, 4000, 10000, 20000, 50000, 100000][odr]?).getD 100000

/-- SWITCH_DELAY and the pipeline's time, in microseconds (R364). -/
def Dev.auxLead (d : Dev) (s : Nat) : Nat := (d.get Reg.STEP_SWITCH s + 1) * 20 + (if d.flag Reg.AUX_LP then 16 else 4)

/-- R364: t_settle of a step in microseconds. -/
def Dev.auxSettle (d : Dev) (s : Nat) : Nat :=
  d.auxLead s + (d.get Reg.STEP_ORDER s + 3) * odrPeriod (d.get Reg.ODR s) +
    (if d.flag Reg.NOTCH_5060 s then (if d.flag Reg.AUX_LP then 36668 else 36667) else 0)

/-- R371: the time of a check conversion: sinc3 at 8 kHz, or at 2 kHz in low-power mode. -/
def Dev.auxCheckTime (d : Dev) (s : Nat) : Nat := d.auxLead s + 3 * (if d.flag Reg.AUX_LP then 500 else 125)

/-- R378: one occurrence on a channel. -/
def Dev.auxEvent (d : Dev) (source ch : Nat) (flag : Fld) (chans : Option (Fld × Nat)) (data : List (Nat × Nat)) (inj : Bool := false) :
    Dev :=
  let d := d.orBits flag 1
  let d := match chans with | some (f, b) => d.orBits f (1 <<< b) | none => d
  d.raise { source := source, inst := ch, key := ch, data := data, limited := true, inj := inj }

/-- The flags of a result (R377): what each of AUX_OVR to AUX_RAIL sets. -/
def Dev.auxFlag (d : Dev) (ch bit : Nat) (code : Nat) : Dev :=
  match bit with
  | 1 => d.auxEvent 448 ch Reg.AUX_OVR (some (Reg.OVR_CH, ch)) [(1, ch)]
  | 2 => d.auxEvent 449 ch Reg.AUX_OPEN (some (Reg.OPEN_CH, ch)) [(1, ch)]
  | 3 => d.auxEvent 450 ch Reg.AUX_SHORT (some (Reg.SHORT_CH, ch)) [(1, ch)]
  | 4 => d.auxEvent 451 ch Reg.AUX_REVERSED (some (Reg.REV_CH, ch)) [(1, ch)]
  | _ => d.auxEvent 452 ch Reg.AUX_RAIL (some (Reg.RAIL_CH, ch - 16)) [(1, ch), (4, code)]

/-- The channel of the present step. -/
def Dev.auxChan (d : Dev) : Nat := d.get Reg.CHAN d.aux.step % 24

/-- A channel's latest result changed. -/
def Dev.modResult (d : Dev) (ch : Nat) (g : AuxResult → AuxResult) : Dev :=
  d.setAux (fun a => { a with results := a.results.set (ch % 24) (g a.results[ch % 24]) (Nat.mod_lt _ (by decide)) })

/-! The sequencer (R366, R367). -/

/-- The sequencer begins to wait for the trigger of a step. -/
def AuxS.await (a : AuxS) (step : Nat) : AuxS := { a with step := step, phase := .waiting, hit := false }

/-- A step ends: the next one, the first again, or the end of the sequence, which clears TRIG_LATCH. -/
def AuxS.stepEnd (a : AuxS) : AuxS :=
  if a.step + 1 < a.steps then a.await (a.step + 1)
  else if a.loop then a.await 0
  else { a.await 0 with running := false, latch := 0 }

/-- R366: what follows a step's last result, or its open check: the checks it asks for, then its end. -/
def Dev.auxChecks (d : Dev) (openDone : Bool) : Dev :=
  let s := d.aux.step
  let at' := d.clk.bus + 200 * d.auxCheckTime s
  if !openDone && d.flag Reg.OPEN_EN s then d.setAux (fun a => { a with phase := .openCheck, due := at' })
  else if d.flag Reg.SHORT_EN s then d.setAux (fun a => { a with phase := .shortCheck, due := at' })
  else d.setAux AuxS.stepEnd

/-- R351, R367: the AUX action of a timer. -/
def Dev.auxTimer (d : Dev) (t : Nat) : Dev :=
  if d.aux.latch.getLsbD t then
    ((d.count Reg.TRIG_DROPS).orBits Reg.TRIG_DROP 1).raise { source := 453, inst := t, key := t, data := [(1, t)], limited := true }
  else d.setAux (fun a => { a with latch := a.latch ||| BitVec.ofNat 32 (1 <<< t) })

/-- R367: an accepted line trigger, or a first line of a frame, for a step that waits for one. -/
def Dev.auxLine (d : Dev) (frame : Bool) : Dev :=
  let t := d.get Reg.STEP_TRIG d.aux.step
  if d.aux.running && d.aux.phase == .waiting && !d.aux.fgCal && (t == 2 || (t == 3 && frame)) then
    d.setAux (fun a => { a with hit := true })
  else d

/-- AUX_STEP_START (R367): the step whose trigger is met starts. -/
def Dev.auxStart (d : Dev) : Dev :=
  let a := d.aux
  let s := a.step
  let tm := d.get Reg.STEP_TMR s
  let met := match d.get Reg.STEP_TRIG s with | 0 => true | 1 => a.latch.getLsbD tm | _ => a.hit
  if !(a.running && a.phase == .waiting && !a.fgCal && d.auxOn && met) then d
  else
    d.setAux (fun a => { a with
      phase := .converting, hit := false
      latch := if d.get Reg.STEP_TRIG s = 1 then a.latch &&& ~~~(BitVec.ofNat 32 (1 <<< tm)) else a.latch
      left := if d.get Reg.STEP_COUNT s = 0 then 32 else d.get Reg.STEP_COUNT s
      due := d.clk.bus + 200 * d.auxSettle s })

/-- R375: a background calibration runs: it is due, and the sequencer waits for a TIMER, LINE or FRAME trigger, or no sequence runs.
(DESIGN CHOICE, log 58) -/
def Dev.auxCalibrates (d : Dev) : Bool :=
  let a := d.aux
  let idle := !a.running || (a.phase == .waiting && d.get Reg.STEP_TRIG a.step != 0)
  let iv := d.get Reg.CAL_INTERVAL
  d.auxOn && !a.fgCal && idle && (a.calNow || (iv != 0 && decide (a.calAt + iv * 200000000 ≤ d.clk.bus)))

/-! Results (R361 to R373). -/

/-- The flag bits of a result, in rising order: 1 OVR, 4 REVERSED, 5 RAIL. -/
def Dev.auxFlagsOf (d : Dev) (s ch : Nat) (code : Int) (overload : Bool) : List Nat :=
  (if overload || code == -8388608 || code == 8388607 then [1] else []) ++
    (if d.flag Reg.UNIPOLAR s && decide (code * 100 ≤ -(d.get Reg.REV_PCT * 8388608 : Nat)) then [4] else []) ++
    (if d.railBad ch code then [5] else [])

/-- AUX_RESULT (R368): a conversion ends. `raw` is round(2^23 x V / FS), `overload` says that its window overlaps an overload. -/
def Dev.auxResult (d : Dev) (raw : Int) (overload : Bool) : Dev :=
  let a := d.aux
  if !(a.running && a.phase == .converting && decide (a.due ≤ d.clk.bus)) then d
  else
    let s := a.step
    let ch := d.auxChan
    let code := auxClamp raw
    let owed := ((a.inject.filter (fun p => p.1 == ch)).map (·.2))
    let bits := d.auxFlagsOf s ch code overload
    let n := (a.counts[ch % 24]'(Nat.mod_lt _ (by decide)) + 1) % 65536
    let all := maskOf (0 :: bits ++ owed ++ (if owed.isEmpty then [] else [6])) + 2 ^ 7 * b2n (d.flag Reg.STEP_RANGE s) + 2 ^ 8 * s
    let word := unsigned 32 code
    let d := d.modResult ch (fun _ => ⟨word, all, n, d.tb⟩)
    let d := d.setAux (fun a => { a with
      counts := a.counts.set (ch % 24) n (Nat.mod_lt _ (by decide)), inject := a.inject.filter (fun p => p.1 != ch)
      left := a.left - 1, due := a.due + 200 * odrPeriod (d.get Reg.ODR s) })
    let d := d.count Reg.RESULTS
    let d := bits.foldl (fun d b => d.auxFlag ch b word) d
    if d.aux.left = 0 then d.auxChecks false else d

/-- The last result of a channel as a number. -/
def Dev.auxLast (d : Dev) (ch : Nat) : Int := signed 32 (d.aux.results[ch % 24]'(Nat.mod_lt _ (by decide))).code

/-- AUX_CHECK_CONVERSION (R371, R372): a check conversion ends with this code. -/
def Dev.auxCheck (d : Dev) (raw : Int) : Dev :=
  let a := d.aux
  let s := a.step
  let ch := d.auxChan
  let code := auxClamp raw
  let last := d.auxLast ch
  let diff := (code - last).natAbs
  let fs := if d.flag Reg.STEP_RANGE s then 10000000 else 2500000
  if !(a.running && decide (a.due ≤ d.clk.bus)) then d
  else match a.phase with
  | .openCheck =>
    let bad := decide (d.get Reg.OPEN_PCT * 8388608 ≤ 100 * diff)
    (if bad then (d.modResult ch (fun r => { r with flags := r.flags ||| 4 })).auxFlag ch 2 0 else d).auxChecks true
  | .shortCheck =>
    let bad := decide (last.natAbs * fs ≤ d.get Reg.SHORT_BAND * 10 * 8388608) && decide (diff * fs < 100 * 8388608)
    (if bad then (d.modResult ch (fun r => { r with flags := r.flags ||| 8 })).auxFlag ch 3 0 else d).setAux AuxS.stepEnd
  | _ => d

/-! Calibration (R374, R375). -/

/-- AUX_CAL_FAIL of a range. -/
def Dev.auxCalFail (d : Dev) (range : Nat) : Dev :=
  (d.orBits Reg.AUX_CAL_FAIL 1).raise { source := 454, key := range, data := [(1, range)], limited := true }

/-- R374, R375: an offset in codes beyond 0.5 % of FS. -/
def offsetBad (m : Int) : Bool := decide (8388608 < 200 * m.natAbs)

/-- R374: a range takes what its calibration measured, an offset in codes and a gain error in ppm; beyond 0.5 % of FS or 1 % it takes
the flash calibration values. -/
def Dev.calibrateRange (d : Dev) (range : Nat) (m : Int × Int) : Dev :=
  let bad := offsetBad m.1 || decide (10000 < m.2.natAbs)
  let v := if bad then Config.auxCal range else (m.1 * 65536, m.2)
  let d := d.setAux (fun a => { a with
    offsets := a.offsets.set (range % 2) v.1 (Nat.mod_lt _ (by decide)), gains := a.gains.set (range % 2) v.2 (Nat.mod_lt _ (by decide)) })
  if bad then d.auxCalFail range else d

/-- AUX_FOREGROUND_CAL (R374): it ends, with what it measured in each range. -/
def Dev.auxForeground (d : Dev) (measured : List (Int × Int)) : Dev :=
  if !d.aux.fgCal then d
  else
    let d := d.setAux (fun a => { a with fgCal := false, calAt := d.clk.bus })
    ((List.range measured.length).zip measured).foldl (fun d p => d.calibrateRange p.1 p.2) d

/-- R375: a range's offset after a measurement in codes; beyond 0.5 % of FS it is not applied. -/
def auxOffset (old m : Int) : Int := old + (m * 65536 - old) / 16

/-- AUX_BACKGROUND_CAL (R375): a calibration of both ranges ends. -/
def Dev.auxBackground (d : Dev) (m1 m4 : Int) : Dev :=
  if !d.auxCalibrates then d
  else
    let take := fun (old m : Int) => if offsetBad m then old else auxOffset old m
    let d := d.setAux (fun a => { a with
      calAt := d.clk.bus, calNow := false, offsets := ⟨#[take a.offsets[0] m1, take a.offsets[1] m4], rfl⟩ })
    let d := if offsetBad m1 then d.auxCalFail 0 else d
    if offsetBad m4 then d.auxCalFail 1 else d

/-- R369, R475: the AUX domain is switched off, or on. -/
def Dev.auxPower (d : Dev) (on : Bool) : Dev :=
  if on then d.setAux (fun a => { a with results := Vector.replicate 24 ⟨0, 0, 0, 0⟩, fgCal := true })
  else d.setAux (fun a => { a.await 0 with running := false, latch := 0, fgCal := false })

/-! Opcodes (R377). -/

def formAuxSequence : Form :=
  { code := 0x0901, managed := true, states := stIASHF, inl := [(12, 7), (13, 0xFF)], buf := true }

def auxSteps (e : Entry) : Nat := if e.inl 13 1 = 0 then 32 else e.inl 13 1

def checkAuxSequence (e : Entry) (_ : Dev) : Option Nat :=
  if 32 < e.inl 13 1 then some 0x0D
  else if e.bufLen.toNat = 0 || e.bufLen.toNat = 4 * auxSteps e then none else some 0x38

/-- R377: the code of the first check that a step word fails. (DEDUCED, log 60) -/
def auxStepCheck (lp : Bool) (w : Word) : Option Nat :=
  let odr := Reg.ODR.ofWord w
  let chan := Reg.CHAN.ofWord w
  if lp && odr < 2 then some 1
  else if Reg.NOTCH_5060.ofWord w = 1 && odr ≠ 9 then some 2
  else if 16 ≤ chan && chan ≤ 23 && (Reg.STEP_RANGE.ofWord w + Reg.UNIPOLAR.ofWord w + Reg.OPEN_EN.ofWord w + Reg.SHORT_EN.ofWord w) ≠ 0
    then some 3
  else if Reg.STEP_ORDER.ofWord w = 3 || 9 < odr then some 4
  else if 23 < chan then some 5
  else none

/-- AUX_SEQUENCE's effect. -/
def effAuxSequence (e : Entry) (d : Dev) : Dev × Reply :=
  if !d.auxOn then (d, { status := .noResource, detail := 1 })
  else
    let m := e.inl 12 1
    let n := auxSteps e
    let reply := fun (d : Dev) => (d, ({ result := d.get Reg.SEQ_NUM + d.tb % 2 ^ 32 * 2 ^ 32 } : Reply))
    if m.testBit 0 then
      let key := Reg.CHAN.key 0
      let words := if e.bufLen = 0 then (List.range n).map (fun s => d.word (key + s)) else leWords e.data
      match (List.range n).findSome? (fun s => (auxStepCheck (d.flag Reg.AUX_LP) ((words[s]?).getD 0)).map (fun c => (s, c))) with
      | some (s, c) => ((d.put Reg.CHECK_STEP s).put Reg.CHECK_CODE_0A00 c, badParam 0xFF)
      | none =>
        let d := (d.put Reg.CHECK_STEP 0).put Reg.CHECK_CODE_0A00 0
        let d := ((List.range n).zip words).foldl (fun d p => d.setWord (key + p.1) p.2) d
        let d := d.put Reg.SEQ_NUM (d.get Reg.SEQ_NUM + 1)
        reply (d.setAux (fun a => { a.await 0 with
          running := true, loop := m.testBit 2, steps := n, latch := 0, counts := Vector.replicate 24 0 }))
    else if m.testBit 1 then reply (d.setAux (fun a => { a.await 0 with running := false, latch := 0 }))
    else reply d

def formAuxRead : Form := { code := 0x0902, managed := false, states := stIASHF, sel := 0x1F, buf := true }

def checkAuxRead (e : Entry) (_ : Dev) : Option Nat :=
  if e.bufLen.toNat = 384 then none
  else if e.bufLen.toNat ≠ 0 then some 0x38
  else if 23 < e.sel 4 0 then some 4 else none

/-- AUX_READ's effect. -/
def effAuxRead (e : Entry) (d : Dev) : Dev × Reply :=
  if !d.auxOn then (d, { status := .noResource, detail := 1 })
  else if e.bufLen = 0 then
    let r := d.aux.results[e.sel 4 0 % 24]'(Nat.mod_lt _ (by decide))
    (d, { result := r.code + r.flags * 2 ^ 32 + r.count * 2 ^ 48 })
  else (d, { out := d.aux.results.toList.flatMap (fun r => pack [(4, r.code), (2, r.flags), (2, r.count), (8, r.tb)]) })

end Sys2Proof.Machine
end

