-- ==== Sys2Proof/Machine/Timer.lean ====
section
/-!
DEFINITION. The timers (R345 to R359): arming, compares and ends with their actions, captures, registers, TIMER_CONFIG; and
what an accepted line, an edge and an engine's event mean to timers, engines and the auxiliary sequencer.
-/

namespace Sys2Proof.Machine

def Dev.tmr (d : Dev) (t : Nat) : Timer := d.timers[t % 32]

def Dev.setTmr (d : Dev) (t : Nat) (x : Timer) : Dev :=
  { d with timers := d.timers.set (t % 32) x (Nat.mod_lt _ (by decide)) }

/-- R355: the timer is frozen. -/
def Dev.frozen (d : Dev) (t : Nat) : Bool := d.baro.halted && d.flag Reg.FREEZE_ON_HALT t

/-- The BUSCLK cycles counted since the arming edge. -/
def Timer.cycles (x : Timer) (now : Nat) : Nat := x.held.getD (now - x.start)

/-- R345: the counter. -/
def Timer.counter (x : Timer) (now : Nat) : Nat := min x.period (x.cycles now / 2 ^ x.presc)

/-- The edge at which the counter reaches a value. -/
def Timer.edge (x : Timer) (v : Nat) : Nat := x.start + v * 2 ^ x.presc

/-- R346: an ARM on the BUSCLK edge `edge`. Without the EJECT domain there is no timer to arm. -/
def Dev.armAt (d : Dev) (edge t : Nat) : Dev :=
  let x := d.tmr t
  if !d.ejectOn then d
  else d.setTmr t { x with
    running := true, start := edge, held := if d.frozen t then some 0 else none, presc := d.get Reg.PRESC t
    period := max 1 x.prePeriod, cmpA := x.preA, cmpB := x.preB, acts := (d.word (Reg.ACT_A.key t)).toNat
    doneA := false, doneB := false }

/-- R413: the line in progress at a BUSCLK edge that has passed. -/
def Dev.lineAt (d : Dev) (edge : Nat) : Nat :=
  if d.arr.running then ((d.arr.lines.find? (fun l => decide (l.bus ≤ edge))).map (·.num)).getD 0xFFFFFFFF else 0xFFFFFFFF

/-- R413: a snapshot request for a timer's edge; the seventeenth is dropped. -/
def Dev.snapRequest (d : Dev) (edge t cause : Nat) : Dev :=
  if 16 ≤ d.arch.snaps.length then
    ((d.count Reg.SNAP_DROPS).orBits Reg.SNAP_DROP 1).raise { source := 516, inst := t, data := [(1, t)], limited := true }
  else { d with arch := { d.arch with snaps := d.arch.snaps ++ [⟨t, cause, d.lineAt edge,
      (d.tb + 2 ^ 64 - (d.clk.bus - edge)) % 2 ^ 64, edge⟩] } }

/-- R351: the action of a compare (cause 0 or 1) or of the end (2); `arm` is how it arms a timer on an edge. -/
def Dev.timerAct (d : Dev) (arm : Dev → Nat → Nat → Dev) (edge t cause : Nat) : Dev :=
  let w : Word := BitVec.ofNat 32 (d.tmr t).acts
  let (act, tgt) := match cause with
    | 0 => (Reg.ACT_A.ofWord w, Reg.TGT_A.ofWord w)
    | 1 => (Reg.ACT_B.ofWord w, Reg.TGT_B.ofWord w)
    | _ => (Reg.ACT_END.ofWord w, Reg.TGT_END.ofWord w)
  match act with
  | 1 => d.auxTimer t
  | 2 => d.snapRequest edge t cause
  | 3 => arm d edge tgt
  | _ => d

/-- R350: a compare of a running timer that the counter has reached by the edge `now`. -/
def Dev.matchDue (d : Dev) (now t : Nat) (b : Bool) : Bool :=
  let x := d.tmr t
  let v := if b then x.cmpB else x.cmpA
  x.running && x.held.isNone && !(if b then x.doneB else x.doneA) && v != 0 && decide (v ≤ x.period) && decide (x.edge v ≤ now)

/-- R350: a match of one compare, with its action. -/
def Dev.matchOne (d : Dev) (arm : Dev → Nat → Nat → Dev) (now t : Nat) (b : Bool) : Dev :=
  if !d.matchDue now t b then d
  else
    let x := d.tmr t
    let d := d.setTmr t (if b then { x with matchB := true, doneB := true } else { x with matchA := true, doneA := true })
    d.timerAct arm (x.edge (if b then x.cmpB else x.cmpA)) t (if b then 1 else 0)

/-- The count has reached PERIOD by the edge `now`. -/
def Dev.endDue (d : Dev) (now t : Nat) : Bool :=
  let x := d.tmr t
  x.running && x.held.isNone && decide (x.edge x.period ≤ now)

/-- R346, R351, R359: the end of a timer, its event, WAIT's event, and the action. -/
def Dev.timerEnd (d : Dev) (arm : Dev → Nat → Nat → Dev) (t : Nat) : Dev :=
  let x := d.tmr t
  let d := d.setTmr t { x with running := false, held := some (x.period * 2 ^ x.presc), done := true }
  let d := (d.raise { source := 384 + t, inst := t, key := t, data := [(1, t)], limited := true }).pulse (32 + t)
  d.timerAct arm (x.edge x.period) t 2

/-- R350, R351: all that a timer reaches by an edge: its matches in the order of their counts, CMPA first, then its end. A match may
have armed the timer again, and then its end has taken place already. -/
def Dev.settleTimer (d : Dev) (arm : Dev → Nat → Nat → Dev) (now t : Nat) : Dev :=
  let first := decide ((d.tmr t).cmpA ≤ (d.tmr t).cmpB)
  let d := (d.matchOne arm now t (!first)).matchOne arm now t first
  if d.endDue now t then d.timerEnd arm t else d

/-- R348, R351: an ARM on an edge. What the timer reaches by that edge takes place first, and may arm other timers on their edges; the
number bounds how deep. A timer that is armed reaches nothing on its arming edge, so three for each timer are enough. -/
def Dev.armOn : Nat → Dev → Nat → Nat → Dev
  | 0, d, edge, t => d.armAt edge t
  | n + 1, d, edge, t => (d.settleTimer (Dev.armOn n) edge t).armAt edge t

/-- R348: an ARM of a chained action. -/
def Dev.armChain : Dev → Nat → Nat → Dev := Dev.armOn 96

/-- TIMER_MATCH (R350, R351): CMPA goes before CMPB where both have come. -/
def Dev.timerMatch (d : Dev) (t : Nat) (b : Bool) : Dev :=
  let now := d.clk.bus
  if b && d.matchDue now t true && decide ((d.tmr t).cmpA ≤ (d.tmr t).cmpB) then
    (d.matchOne Dev.armChain now t false).matchOne Dev.armChain now t true
  else d.matchOne Dev.armChain now t b

/-- TIMER_DONE (R346): the matches before it, then the end. -/
def Dev.timerDone (d : Dev) (t : Nat) : Dev :=
  if d.endDue d.clk.bus t then d.settleTimer Dev.armChain d.clk.bus t else d

/-- R348: an ARM on this edge; what falls on it takes place first. -/
def Dev.arm (d : Dev) (t : Nat) : Dev := d.armChain d.clk.bus t

/-- R349: STOP. -/
def Dev.stopTimer (d : Dev) (t : Nat) : Dev :=
  let d := d.settleTimer Dev.armChain d.clk.bus t
  let x := d.tmr t
  if x.running then d.setTmr t { x with running := false, held := some (x.cycles d.clk.bus) } else d

/-- Every timer stops: the EJECT domain is switched off. -/
def Dev.stopTimers (d : Dev) : Dev := (List.range 32).foldl Dev.stopTimer d

/-- R355: a timer that has become frozen holds its count, and one that thaws goes on from it. -/
def Dev.freeze (d : Dev) (t : Nat) : Dev :=
  let x := d.tmr t
  if !x.running then d
  else match d.frozen t, x.held with
  | true, none => let d := d.settleTimer Dev.armChain d.clk.bus t; let x := d.tmr t
                  if x.running then d.setTmr t { x with held := some (x.cycles d.clk.bus) } else d
  | false, some h => d.setTmr t { x with held := none, start := d.clk.bus - h }
  | _, _ => d

def Dev.freezeAll (d : Dev) : Dev := (List.range 32).foldl Dev.freeze d

/-! Captures (R352, R353). -/

/-- A capture: into CAP, or the pending slot while a pair is open. One that takes an unreturned capture's place is reported.
(DEDUCED, log 61) -/
def Dev.capture (d : Dev) (t : Nat) : Dev :=
  let x := d.tmr t
  let v := if d.flag Reg.CAP_WHAT t then d.tb % 2 ^ 48 else x.counter d.clk.bus
  let taken := x.capNext.isSome || (x.newCap && !x.pairOpen)
  let x := if x.pairOpen then { x with capNext := some v } else { x with cap := v, capNext := none, newCap := true }
  if taken then
    (d.setTmr t { x with capOvr := true }).raise { source := 416 + t, inst := t, key := t, data := [(1, t)], limited := true }
  else d.setTmr t x

/-- R352: an event of the list reaches the timers: captures first, then the arms. `eng` is the engine of code 011b. -/
def Dev.timerEvent (d : Dev) (src eng : Nat) : Dev :=
  if !d.ejectOn then d
  else
    let named := fun (d : Dev) (f g : Fld) (t : Nat) => d.get f t == src && (src != 3 || d.get g t == eng)
    let caps := (List.range 32).filter (named d Reg.CAP_SRC Reg.CAP_ENG)
    let d := caps.foldl Dev.capture d
    ((List.range 32).filter (named d Reg.ARM_SRC Reg.ARM_ENG)).foldl Dev.arm d

/-- R353: a read of CAP_LO. Answers the word read. -/
def Dev.readCapLo (d : Dev) (t : Nat) : Dev × Nat :=
  let x := d.tmr t
  let x := match x.capNext with | some v => { x with cap := v, capNext := none, newCap := true } | none => x
  (d.setTmr t { x with pairOpen := true, capHi := x.cap / 2 ^ 32 }, x.cap % 2 ^ 32)

/-- R353: a read of CAP_HI. -/
def Dev.readCapHi (d : Dev) (t : Nat) : Dev × Nat :=
  let x := d.tmr t
  ((if x.pairOpen then d.setTmr t { x with pairOpen := false, newCap := false } else d), x.capHi)

/-! BAR2 (R354, R356). -/

/-- A read of a timer register by offset. -/
def Dev.readTimer (d : Dev) (t off : Nat) : Dev × Nat :=
  let x := d.tmr t
  match off with
  | 0x00 => let c := x.counter d.clk.bus; (d.setTmr t { x with countHi := c / 2 ^ 32 }, c % 2 ^ 32)
  | 0x04 => (d, x.countHi)
  | 0x08 => d.readCapLo t
  | 0x0C => d.readCapHi t
  | 0x10 => (d, x.prePeriod % 2 ^ 32)
  | 0x14 => (d, x.prePeriod / 2 ^ 32)
  | 0x18 => (d, x.preA % 2 ^ 32)
  | 0x1C => (d, x.preA / 2 ^ 32)
  | 0x20 => (d, x.preB % 2 ^ 32)
  | 0x24 => (d, x.preB / 2 ^ 32)
  | 0x2C => (d, b2n x.running + 2 * b2n x.done + 4 * b2n x.matchA + 8 * b2n x.matchB + 16 * b2n (x.newCap || x.capNext.isSome) +
      32 * b2n x.capOvr + 64 * b2n (d.frozen t))
  | _ => (d, 0)

/-- A write of a timer register by offset. -/
def Dev.writeTimer (d : Dev) (t off v : Nat) : Dev :=
  let x := d.tmr t
  match off with
  | 0x10 => d.setTmr t { x with prePeriod := v + x.periodHi * 2 ^ 32 }
  | 0x14 => d.setTmr t { x with periodHi := v % 2 ^ 16 }
  | 0x18 => d.setTmr t { x with preA := v + x.aHi * 2 ^ 32 }
  | 0x1C => d.setTmr t { x with aHi := v % 2 ^ 16 }
  | 0x20 => d.setTmr t { x with preB := v + x.bHi * 2 ^ 32 }
  | 0x24 => d.setTmr t { x with bHi := v % 2 ^ 16 }
  | 0x28 => if v.testBit 0 then d.arm t else if v.testBit 1 then d.stopTimer t else d
  | 0x2C => d.setTmr t { x with
      done := x.done && !v.testBit 1, matchA := x.matchA && !v.testBit 2, matchB := x.matchB && !v.testBit 3
      capOvr := x.capOvr && !v.testBit 5 }
  | _ => d

/-! TIMER_CONFIG (R358). -/

def formTimerConfig : Form :=
  { code := 0x0805, managed := true, states := stIASHF, inl := inlBytes 12 23 ++ [(24, 1)] }

/-- The byte of a value that holds a code outside its range, or a bit that no field covers. -/
def timerWordBad (a b : Nat) : Option Nat :=
  let r := a - (a &&& 0xC0F0F7F7)
  let q := b - (b &&& 0x007F7F7F)
  if a % 8 = 7 then some 0x10
  else if a / 256 % 8 = 7 then some 0x11
  else if r ≠ 0 then some (0x10 + lowByte r)
  else if q ≠ 0 then some (0x14 + lowByte q)
  else none

def checkTimerConfig (e : Entry) (_ : Dev) : Option Nat :=
  if e.inl 12 4 = 0 then some 0x0C else timerWordBad (e.inl 16 4) (e.inl 20 4)

/-- TIMER_CONFIG's effect. -/
def effTimerConfig (e : Entry) (d : Dev) : Dev × Reply :=
  let mask := e.inl 12 4
  let ts := bitsOf 32 mask
  let d := ts.foldl (fun d t =>
    ((d.setWord (Reg.PRESC.key t) (BitVec.ofNat 32 (e.inl 16 4))).setWord (Reg.ACT_A.key t) (BitVec.ofNat 32 (e.inl 20 4))).freeze t) d
  if e.inl 24 1 = 1 then (ts.foldl Dev.arm d, { result := mask + d.tb % 2 ^ 32 * 2 ^ 32 }) else (d, { result := mask })

/-! What other chapters' happenings mean here (R334, R336, R352, R367). -/

/-- An engine raised its event. -/
def Dev.engineRaised (p : Dev × Bool) (e : Nat) : Dev := if p.2 then p.1.timerEvent 3 e else p.1

/-- An accepted line trigger, and the first line of a frame. -/
def Dev.lineHappened (d : Dev) : Dev :=
  match d.arr.lines with
  | [] => d
  | l :: _ =>
    let d := ((d.pulse 0).syncOn 2).timerEvent 1 0
    let first := l.offset = 0
    let d := if first then ((d.pulse 1).syncOn 3).timerEvent 2 0 else d
    (d.auxLine first).allMoved

/-- A command may have accepted a trigger: what follows from a line of a run that was not there before. -/
def Dev.afterTrigger (d old : Dev) : Dev :=
  if d.arr.running && d.arr.begun && (d.arr.lines.head?.map (·.num) != old.arr.lines.head?.map (·.num) || !old.arr.begun) then
    d.lineHappened
  else d

end Sys2Proof.Machine
end

