-- ==== Sys2Proof/Machine/Fault.lean ====
section
/-!
DEFINITION. Stopping faults (R500 to R502): FAULT_CAUSE, entry to FAULT, and how a run ends there (R32, R101, R315, R319).
-/

namespace Sys2Proof.Machine

/-- R32, R101: the run in progress ends after the line in progress, and its lines go on to their end; one with no line yet, and one
that waits to begin, ends at once. -/
def Dev.endRun (d : Dev) : Dev :=
  let d := d.forgetRun
  if d.arr.running && d.arr.begun && !d.lineOver then
    { d with arr := { d.arr with stopping := true, held := none, due := false } }
  else d.stopLines.drainCheck.flushCheck

/-- R101, R103: what time does to runs: the line after which a run ends is over, and a run that waited for the path begins. -/
def Dev.runCheck (d : Dev) : Dev :=
  let d := if d.arr.running && d.arr.stopping && d.lineOver then d.stopLines.drainCheck.flushCheck else d
  match d.arr.pendingRun with
  | some (byStart, first) => if d.runThrough then d.beginRun byStart first else d
  | none => d

/-- What is in flight from ingest to verdict is lost: a domain of the path is off (R475), or the unit is reset (R480). -/
def Dev.losePath (d : Dev) : Dev :=
  let gone := d.track.flushes
  let d := { d with
    arr := { d.arr with draining := false, closing := none, cur := Vector.replicate 12 none, due := false }
    track := { d.track with objs := [], storms := [], closed := [], forced := [], flushes := []
                            faces := d.track.faces.map (fun (f : FaceS) => { f with prev := [], prevNum := none }) }
    cls := { d.cls with evals := [], held := [], retractions := [] }
    pipe := { d.pipe with cuts := [], heads := d.pipe.heads.map (fun (x : HeadS) =>
      { x with early := [], corr := [], aligned := [], recon := [], cic := [], settle := 0, missRun := 0 }) } }
  gone.foldl (fun d g => d.finish g.cmd { result := lineAdd g.line 1 }) ((d.rearmHigh d.conf).endTaps (fun t => !t.waits) 2)

/-- Every run domain is on (R476). -/
def Dev.pathOn (d : Dev) : Bool := runDomains.all d.domainOn

/-- A run ends, with its domains powered or not (R32). -/
def Dev.closeRun (d : Dev) : Dev := if d.pathOn then d.endRun else d.forgetRun.stopLines.losePath

/-- R447: AUTOSTART ends at FAULT and at a host's request, counting as an abort. -/
def Dev.abortAuto (d : Dev) : Dev := if d.get Reg.AS_RESULT = 1 then d.put Reg.AS_RESULT 4 else d

/-- R502: entry to FAULT. -/
def Dev.enterFault (d : Dev) (source : Nat) (inj : Bool) : Dev :=
  let test := d.st == .hold
  let d := d.enter .fault source inj
  let d := (({ d with faultTb := d.tb }).count Reg.FAULT_ENTRIES).raise
    { source := 32, data := [(2, d.get Reg.FAULT_CAUSE), (2, d.get Reg.FAULT_FIRST)], inj := inj }
  let d := (if test then d.endTest else d).restartValves.abortAuto
  let d := { d with eject := { d.eject with liveFrom := none }, power := { d.power with bistHold := false } }
  d.closeRun.emptyStore

/-- R500 to R502: an occurrence that sets a stopping cause: its record first, then FAULT. TRIPPED is left by no fault (R29). -/
def Dev.stopOn (d : Dev) (o : Occ) (bit : Nat) : Dev :=
  let d := if d.get Reg.FAULT_CAUSE = 0 then d.put Reg.FAULT_FIRST o.source else d
  let d := d.orBits Reg.FAULT_CAUSE (1 <<< bit)
  let d := { d with faultInj := d.faultInj || o.inj }
  let d := d.raise { o with stopping := true }
  if d.st = .fault || d.st = .tripped then d else d.enterFault o.source o.inj

/-- R501: a stopping cause clears; FAULT_CLEAR when none is left. (DEDUCED, log 94) -/
def Dev.clearCause (d : Dev) (bit : Nat) : Dev :=
  if !d.bitOf Reg.FAULT_CAUSE bit then d
  else
    let d := d.putBit Reg.FAULT_CAUSE bit false
    if d.get Reg.FAULT_CAUSE ≠ 0 then d
    else
      let inj := d.faultInj
      ({ d with faultInj := false }).raise
        { source := 33, data := [(8, d.faultTb)], inj := inj }

end Sys2Proof.Machine
end

