-- ==== Sys2Proof/Machine/Clock.lean ====
section
/-!
DEFINITION. Clocks and timebase: reference, line synthesizer, ramps, phase steps, the plant timebase and its alignment
(R380 to R401).
-/

namespace Sys2Proof.Machine

/-! The synthesizer. -/

def Dev.putNf (d : Dev) (nf : Nat) : Dev := (d.put Reg.N_INT (nf / 2 ^ 24)).put Reg.N_FRAC nf

/-- R399: RAMP_DONE with its cause and the final N.F. -/
def Dev.rampDone (d : Dev) (cause : Nat) : Dev :=
  ((({ d with clk := { d.clk with ramp := none } }).putFlag Reg.RAMPING false).orBits Reg.RAMP_DONE 1).raise
    { source := 482, data := [(1, cause), (4, d.nf)] }

/-- R387, R460: a ramp's last step is past; the unit's own ramp sets CAP_SHORT where it ended short of its goal. -/
def Dev.rampOver (d : Dev) (r : Ramp) : Dev :=
  let d := d.rampDone 0
  match r.goal with
  | some g => d.putFlag Reg.CAP_SHORT (decide (g < d.nf))
  | none => d

/-- R387: one step of a running ramp at a line edge; at a segment's end the heads hear of it (R149). -/
def Dev.rampStep (d : Dev) : Dev :=
  match d.clk.ramp with
  | none => d
  | some r =>
    match r.segs[r.seg]? with
    | none => d.rampOver r
    | some (inc, _) =>
      let d := d.putNf ((d.nf : Int) + inc).toNat
      if 1 < r.left then
        (({ d with clk := { d.clk with ramp := some { r with left := r.left - 1 } } }).put Reg.RAMP_LEFT (r.left - 1))
      else
        match r.segs[r.seg + 1]? with
        | some (_, steps) =>
          let d := { d with clk := { d.clk with ramp := some { r with seg := r.seg + 1, left := steps } } }
          ((d.put Reg.RAMP_SEG (r.seg + 1)).put Reg.RAMP_LEFT steps).sendAlign
        | none => ((d.put Reg.RAMP_LEFT 0).rampOver r).sendAlign

/-- A ramp takes its place and takes its first step. -/
def Dev.rampBegin (d : Dev) (segs : List (Int × Nat)) (goal : Option Nat) : Dev :=
  let left := (segs.head?.map (·.2)).getD 0
  ((((({ d with clk := { d.clk with ramp := some ⟨segs, 0, left, goal⟩ } }).putFlag Reg.RAMPING true).put Reg.RAMP_SEG 0).put
    Reg.RAMP_LEFT left).rampStep)

/-- R389: the number of the line that begins at the next line edge. -/
def Dev.edgeLine (d : Dev) : Nat :=
  if d.arr.running && !d.arr.stopping && d.trigSrc == 0 then
    (if d.arr.begun then lineAdd ((d.arr.lines.head?.map (·.num)).getD 0) 1 else d.lineFirst)
  else 0xFFFFFFFF

/-- R389: what a ramp command asked for acts at this line edge; one that executed in the same CTLCLK cycle acts at the next. -/
def Dev.rampAsked (d : Dev) (a : RampAsk) : Dev :=
  let was := d.clk.ramp.isSome
  let line := d.edgeLine
  let d := { d with clk := { d.clk with ask := none } }
  let done := fun (d : Dev) (result : Nat) => match a.cmd with | some o => d.finish o { result := result } | none => d
  match a.start with
  | some segs =>
    let d := if was then d.rampDone 3 else d
    done (d.rampBegin segs a.goal) (line + 2 ^ 32 * b2n was)
  | none => done (if was then d.rampDone 1 else d) (0xFFFFFFFF + 2 ^ 33 * b2n was)

/-- R390: a phase step uses up at most 64 units in each grain. -/
def phaseAfter (p : Int) (grains : Nat) : Int := if 0 ≤ p then max 0 (p - 64 * grains) else min 0 (p + 64 * grains)

/-- R390: PSTEP_LEFT now, the grains of the rate in effect counted from when the amount stood. (DEDUCED, log 137) -/
def Dev.pstepLeft (d : Dev) : Int := phaseAfter d.clk.pstep ((d.clk.bus - d.clk.pstepAt) * d.nf / (d.postdiv * 2 ^ 26))

/-- The amount of a phase step as it stands now. -/
def Dev.settlePhase (d : Dev) (p : Int) : Dev := { d with clk := { d.clk with pstep := p, pstepAt := d.clk.bus } }

/-- LINE_EDGE (R387, R538): a ramp takes its step, and under LSYN a trigger is due. -/
def Dev.lineEdge (d : Dev) : Dev :=
  if !(d.flag Reg.LSYN_EN && d.flag Reg.LSYN_SETTLED) then d
  else
    let d := if d.clk.pstep = 0 then d else (d.settlePhase d.pstepLeft).sendAlign
    let d := match d.clk.ask with
      | some a => if a.cycle = d.cycle then d.rampStep else d.rampAsked a
      | none => d.rampStep
    if d.arr.running && !d.arr.stopping && d.trigSrc == 0 then { d with arr := { d.arr with due := true } } else d

/-! The modulator. -/

def Dev.setMash (d : Dev) (m : Mash) : Dev := { d with clk := { d.clk with mash := m } }

/-- R384: the dither LFSR, polynomial x^32 + x^22 + x^2 + x + 1, shifts once. (DESIGN CHOICE, log 135) -/
def ditherNext (l : BitVec 32) : BitVec 32 :=
  (l <<< 1) ||| BitVec.ofNat 32 (b2n ((l.getLsbD 31 != l.getLsbD 21) != (l.getLsbD 1 != l.getLsbD 0)))

/-- R384: one reference cycle of MASH 1-1-1: each accumulator adds the one before it, and the carries, the second once and the
third twice differenced, make the division ratio. -/
def Mash.next (m : Mash) (frac : Nat) (dither : Bool) : Mash :=
  let s1 := m.acc[0] + frac + (if dither then b2n (m.lfsr.getLsbD 0) else 0)
  let s2 := m.acc[1] + s1 % 2 ^ 24
  let s3 := m.acc[2] + s2 % 2 ^ 24
  let carry := fun (s : Nat) => decide (2 ^ 24 ≤ s)
  let c := fun (b : Bool) => ((b2n b : Nat) : Int)
  { acc := ⟨#[s1 % 2 ^ 24, s2 % 2 ^ 24, s3 % 2 ^ 24], rfl⟩
    c2 := carry s2, c3 := carry s3, c3old := m.c3
    lfsr := ditherNext m.lfsr
    offset := c (carry s1) + (c (carry s2) - c m.c2) + (c (carry s3) - 2 * c m.c3 + c m.c3old) }

/-- R383, R384: the instantaneous division ratio of the feedback divider. -/
def Dev.divRatio (d : Dev) : Int := d.get Reg.N_INT + d.clk.mash.offset

/-- R383, R384: the synthesizer's reference is BUSCLK / 4; at each of its cycles the modulator of an enabled synthesizer steps. -/
def Dev.modulate (d : Dev) : Dev :=
  if d.clk.bus % 4 = 0 && d.flag Reg.LSYN_EN && d.domainOn 2 then
    d.setMash (d.clk.mash.next (d.get Reg.N_FRAC) (d.flag Reg.DITHER_EN))
  else d

/-- The synthesizer begins to settle (R385). -/
def Dev.unsettle (d : Dev) : Dev :=
  ({ d with clk := { d.clk with settleFrom := d.clk.bus } }).putFlag Reg.LSYN_SETTLED false

/-- LSYN_SETTLED: 256 us (51,200 counts) after the change; the divider restarts with a line edge (R385, R538), and the run that
LEAVE_GUST left begins again (R460). -/
def Dev.lsynSettled (d : Dev) : Dev :=
  if d.flag Reg.LSYN_EN && d.domainOn 2 && !d.flag Reg.LSYN_SETTLED && decide (d.clk.settleFrom + 51200 ≤ d.clk.bus) then
    let d := (d.putFlag Reg.LSYN_SETTLED true).putBit Reg.DOMAIN_READY 2 true
    let d := match d.arr.rerun with | some (n, byStart) => d.startRun byStart (some n) | none => d
    d.lineEdge
  else d

/-- R386: POSTDIV and N.F that AUTO chooses for a rate in mHz. -/
def lsynAuto (rate : Nat) : Nat × Nat :=
  let p0 := min 1023 (max 2 (roundDiv 3600000000000 (4096 * rate)))
  let vco := fun p => 4096 * rate * p
  let p := if vco p0 < 3000000000000 then min 1023 (p0 + 1) else if 4200000000000 < vco p0 then max 2 (p0 - 1) else p0
  (p, roundDiv (vco p * 2 ^ 24) 50000000000)

/-- The settings that LSYN_CONFIG or a recipe's LSYN section asks for (R386, R443). -/
structure LsynWant where
  enable : Bool
  dither : Bool
  auto : Bool
  rate : Nat
  nf : Nat
  postdiv : Nat
  seed : Nat
  deriving DecidableEq, Repr

/-- R386: the divider settings, or the detail of the BAD_PARAM. -/
def Dev.lsynCheck (d : Dev) (w : LsynWant) : Except Nat (Nat × Nat) :=
  let (p, nf) := if w.auto then lsynAuto w.rate else (w.postdiv, w.nf)
  if w.auto && (w.rate < 1000000 || 400000000 < w.rate) then .error 0x10
  else if !w.auto && (p < 2 || 1023 < p) then .error 0x1A
  else if nf < 60 * 2 ^ 24 || 84 * 2 ^ 24 < nf then .error 0x14
  else if rateBelow nf p 1000 || rateAbove nf p 400000 || rateAbove nf p d.modeMaxRate then
    .error (if w.auto then 0x10 else 0x14)
  else .ok (nf, p)

/-- A ramp command that another replaced before it acted. (DEDUCED, log 39) -/
def Dev.dropAsk (d : Dev) : Dev :=
  match d.clk.ask with
  | none => d
  | some a =>
    let d := { d with clk := { d.clk with ask := none } }
    match a.cmd with
    | some o => d.finish o { status := .superseded }
    | none => d

/-- R386: the settings written. A ramp ends where it stands, the rest of a phase step is discarded. -/
def Dev.lsynWrite (d : Dev) (w : LsynWant) (nf postdiv : Nat) : Dev :=
  let d := d.dropAsk
  let d := if d.clk.ramp.isSome then d.rampDone 2 else d
  let d := d.settlePhase 0
  let d := ((d.putNf nf).put Reg.POSTDIV postdiv).putFlag Reg.LSYN_EN w.enable
  let d := d.putFlag Reg.DITHER_EN w.dither
  let d := if w.seed = 0 then d else d.put Reg.DITHER_SEED w.seed
  (if w.enable then d.setMash { d.clk.mash with lfsr := BitVec.ofNat 32 (d.get Reg.DITHER_SEED) } else d).unsettle

def formLsynConfig : Form :=
  { code := 0x0B01, managed := true, states := [.idle],
    inl := [(12, 7)] ++ inlBytes 16 22 ++ [(24, 0xFF)] ++ inlBytes 26 31 }

/-- R386: with AUTO, bytes 20 to 27 are 0. -/
def checkLsynConfig (e : Entry) (_ : Dev) : Option Nat :=
  if (e.inl 12 1).testBit 2 then ((List.range 8).find? (fun i => e.inl (20 + i) 1 != 0)).map (20 + ·) else none

/-- LSYN_CONFIG's effect (R386). -/
def effLsynConfig (e : Entry) (d : Dev) : Dev × Reply :=
  if d.runOn then (d, { status := .wrongState })
  else
    let o := e.inl 12 1
    let w : LsynWant := ⟨o.testBit 0, o.testBit 1, o.testBit 2, e.inl 16 4, e.inl 24 1 * 2 ^ 24 + e.inl 20 3, e.inl 26 2,
      e.inl 28 4⟩
    match d.lsynCheck w with
    | .error o => (d, badParam o)
    | .ok (nf, p) => (d.lsynWrite w nf p, { result := nf + 2 ^ 32 * p })

/-! Ramps and phase steps. -/

/-- R388: the first segment of a profile that fails, and its code. -/
def Dev.rampFault (d : Dev) (nf : Nat) (i : Nat) : List (Int × Nat) → Option (Nat × Nat)
  | [] => none
  | (inc, steps) :: rest =>
    let next := (nf : Int) + inc * steps
    if 2 ^ 20 < inc.natAbs then some (i, 1)
    else if steps = 0 then some (i, 5)
    else if next < 60 * 2 ^ 24 || 84 * 2 ^ 24 < next then some (i, 2)
    else if rateAbove next.toNat d.postdiv d.modeMaxRate then some (i, 3)
    else if rateBelow next.toNat d.postdiv 1000 then some (i, 4)
    else d.rampFault next.toNat (i + 1) rest

/-- A word of table 0Eh in effect (R400). -/
def Dev.rampWord (d : Dev) (i : Nat) : Nat := d.conf.table 0x0E 0 i

/-- Table 0Eh as a profile (R400); none when SEGMENTS is outside 1 to 32. -/
def Dev.rampProfile (d : Dev) : Option (List (Int × Nat)) :=
  let n := d.rampWord 0 % 64
  if n = 0 || 32 < n then none
  else some ((List.range n).map (fun s => (signed 24 (d.rampWord (1 + 2 * s)), d.rampWord (2 + 2 * s) % 2 ^ 16)))

def formLsynRamp : Form := { code := 0x0B02, managed := true, states := stIASH, inl := [(12, 3)] }

def checkLsynRamp (e : Entry) (_ : Dev) : Option Nat :=
  if e.inl 12 1 % 4 = 1 || e.inl 12 1 % 4 = 2 then none else some 12

/-- LSYN_RAMP's effect (R388, R389): the profile is checked, and the command completes at the next line edge. -/
def effLsynRamp (e : Entry) (d : Dev) : Dev × Reply :=
  if !(d.flag Reg.LSYN_EN && d.flag Reg.LSYN_SETTLED) then (d, { status := .wrongState })
  else
    let cmd : Outst := ⟨e.sq, e.tag.toNat, 0x0B02, false⟩
    let ask := fun (d : Dev) (a : RampAsk) =>
      let d := d.dropAsk
      ({ d with clk := { d.clk with ask := some a } }, ({ held := true } : Reply))
    if (e.inl 12 1).testBit 0 then
      match d.rampProfile with
      | none => ((d.put Reg.CHECK_SEG 0).put Reg.CHECK_CODE_0100 5, badParam 0xFF)
      | some segs =>
        match d.rampFault d.nf 0 segs with
        | some (seg, code) => ((d.put Reg.CHECK_SEG seg).put Reg.CHECK_CODE_0100 code, badParam 0xFF)
        | none => ask ((d.put Reg.CHECK_SEG 0).put Reg.CHECK_CODE_0100 0) ⟨some segs, some cmd, none, d.cycle⟩
    else ask d ⟨none, some cmd, none, d.cycle⟩

def formLsynPhaseStep : Form := { code := 0x0B03, managed := false, states := stIASH, inl := inlBytes 12 15 }

/-- R391: STEP and the amount left lie in -2,097,152 to 2,097,151. -/
def phaseFits (v : Int) : Bool := -2097152 ≤ v && v ≤ 2097151

/-- LSYN_PHASE_STEP's effect (R390, R391). -/
def effLsynPhaseStep (e : Entry) (d : Dev) : Dev × Reply :=
  let step := signed 32 (e.inl 12 4)
  if !(d.flag Reg.LSYN_EN && d.flag Reg.LSYN_SETTLED) then (d, { status := .wrongState })
  else if !(phaseFits step && phaseFits (d.pstepLeft + step)) then (d, badParam 0x0C)
  else
    let left := d.pstepLeft + step
    (d.settlePhase left, { result := unsigned 23 left + 2 ^ 32 * ceilDiv left.natAbs 64 })

/-! The plant timebase. -/

/-- R396: the timebase in sixteenths of a count. -/
def Dev.tb16 (d : Dev) : Nat := d.tb * 16 + d.clk.frac

/-- The timebase set to a value in sixteenths. -/
def Dev.setTb16 (d : Dev) (v : Nat) : Dev :=
  let log := max 16 d.clk.syncLog
  { d with tb := v / 16 % 2 ^ 64, clk := { d.clk with
      frac := v % 16, slew := 0, lastE := v / 16 / 2 ^ log * 2 ^ log, lastOut := v / 16 / 2 ^ log * 2 ^ log } }

/-- R397, R398: a jump, counted, with the values before and after. -/
def Dev.tbJump (d : Dev) (v16 : Nat) : Dev :=
  let old := d.tb
  let d := d.setTb16 v16
  ((d.count Reg.TB_JUMPS).orBits Reg.TB_JUMP 1).raise { source := 486, data := [(8, old), (8, d.tb)] }

/-- R396, R398: acquisition starts again: the next pulse is accepted whatever its error. (DEDUCED, log 136) -/
def Dev.reacquire (d : Dev) : Dev := { d with clk := { d.clk with acquired := false, lockRun := 0 } }

/-- R397: lock is lost. -/
def Dev.tbUnlock (d : Dev) : Dev :=
  if !d.flag Reg.TB_LOCKED then d.reacquire
  else (((d.putFlag Reg.TB_LOCKED false).reacquire).orBits Reg.TB_UNLOCK 1).raise { source := 484, data := [(4, d.get Reg.TB_ERROR)] }

/-- R397: the slew that removes an error, and the rate correction the unit learns, whose value the spec does not give.
(DESIGN CHOICE, log 20) -/
def Dev.tbSlew (d : Dev) (e : Int) : Dev :=
  let (d, n) := d.takeFree
  ({ d with clk := { d.clk with slew := -e } }).put Reg.TB_RATE_PPB (Config.freeValue n)

/-- SYNCIN_EDGE (R394 to R397): an edge `sixteenths` after the timebase's count. -/
def Dev.syncinEdge (d : Dev) (sixteenths : Nat) : Dev :=
  let cap := d.tb * 16 + sixteenths % 16
  let d := { d with clk := { d.clk with scap := cap } }
  if d.get Reg.TB_ROLE ≠ 1 then d
  else
    let log := max 16 d.clk.syncLog
    let t : Int := (cap : Int) - signed 16 (d.get Reg.CABLE_COMP)
    let grid : Int := (2 ^ (log + 4) : Nat)
    let expect := (t + grid / 2) / grid * grid
    let e := t - expect
    if d.clk.acquired && decide ((2 ^ log : Nat) < e.natAbs) then d
    else
      let d := (d.count Reg.SYNC_PULSES).put Reg.TB_ERROR (unsigned 32 e)
      let d := { d with clk := { d.clk with
        lastE := (expect / 16).toNat, syncLog := d.get Reg.SYNC_LOG, missRun := 0, acquired := true } }
      let tol := d.get Reg.LOCK_TOL
      let d := if !d.runOn && decide (d.get Reg.JUMP_LIMIT * 16 < e.natAbs) then
          let last := d.clk.lastE
          let d := d.tbJump ((d.tb16 : Int) - e).toNat
          { d with clk := { d.clk with lastE := last } }
        else d.tbSlew e
      if e.natAbs ≤ tol then
        let run := d.clk.lockRun + 1
        let d := { d with clk := { d.clk with lockRun := run } }
        if 8 ≤ run && !d.flag Reg.TB_LOCKED then
          (d.putFlag Reg.TB_LOCKED true).raise { source := 483, data := [(4, d.get Reg.TB_ERROR)] }
        else d
      else
        let d := { d with clk := { d.clk with lockRun := 0 } }
        if 4 * tol < e.natAbs then d.tbUnlock else d

/-- SYNC_MISS (R396, R397): a follower's expected pulse whose window has passed without an edge. -/
def Dev.syncMiss (d : Dev) : Dev :=
  let log := max 16 d.clk.syncLog
  let due := (d.tb - (2 ^ (log - 4) + 1)) / 2 ^ log * 2 ^ log
  if d.get Reg.TB_ROLE ≠ 1 || due ≤ d.clk.lastE then d
  else
    let d := { d with clk := { d.clk with lastE := due, syncLog := d.get Reg.SYNC_LOG, missRun := d.clk.missRun + 1 } }
    let d := ((d.count Reg.SYNC_MISSES).orBits Reg.SYNC_MISS 1).raise { source := 485, limited := true }
    if 4 ≤ d.clk.missRun then d.tbUnlock else d

/-- SYNCOUT (R393, R395): a pulse for a multiple of 2^SYNC_LOG that the timebase has reached. (DEDUCED, log 91) -/
def Dev.syncout (d : Dev) : Dev :=
  let log := max 16 d.clk.syncLog
  let due := d.tb / 2 ^ log * 2 ^ log
  if d.clk.lastOut < due then
    let d := { d with clk := { d.clk with
      lastOut := due, syncLog := if d.get Reg.TB_ROLE = 0 then d.get Reg.SYNC_LOG else d.clk.syncLog } }
    if d.flag Reg.SYNCOUT_EN && (d.get Reg.TB_ROLE == 0 || d.flag Reg.TB_LOCKED) then d.send (.syncout due 16) else d
  else d

/-- R397: the rate correction of a follower, in ppb, gathered into sixteenths of a count that the slew then adds. -/
def Dev.rateStep (d : Dev) : Dev :=
  let acc := d.clk.rateAcc + 16 * signed 32 (d.get Reg.TB_RATE_PPB)
  let n := acc.tdiv 1000000000
  { d with clk := { d.clk with rateAcc := acc - n * 1000000000, slew := d.clk.slew + n } }

/-- R397: one BUSCLK period: the timebase counts, a slew adding or withholding 1/16 count in at most one of 64. -/
def Dev.countTb (d : Dev) : Dev :=
  let d := if d.get Reg.TB_RATE_PPB = 0 then d else d.rateStep
  let act := d.clk.slew != 0 && decide (63 ≤ d.clk.sinceSlew)
  let add := if !act then 16 else if 0 < d.clk.slew then 17 else 15
  let v := d.clk.frac + add
  { d with tb := (d.tb + v / 16) % 2 ^ 64, clk := { d.clk with
      frac := v % 16
      slew := if !act then d.clk.slew else if 0 < d.clk.slew then d.clk.slew - 1 else d.clk.slew + 1
      sinceSlew := if act then 0 else d.clk.sinceSlew + 1 } }

def formTimebaseAlign : Form :=
  { code := 0x0B04, managed := true, states := stIASHF, inl := [(12, 3)] ++ inlBytes 16 23 }

/-- SET and ADD in FOLLOW clear TB_LOCKED (R398). -/
def Dev.tbMoved (d : Dev) : Dev := if d.get Reg.TB_ROLE = 1 then (d.putFlag Reg.TB_LOCKED false).reacquire else d

/-- TIMEBASE_ALIGN's effect (R398); SET and ADD answer the timebase on the BUSCLK edge after the change. (DEDUCED, log 138) -/
def effTimebaseAlign (e : Entry) (d : Dev) : Dev × Reply :=
  match e.inl 12 1 % 4 with
  | 0 => (d, { result := d.get Reg.TB_ERROR + 2 ^ 32 * d.get Reg.TB_LOCKED })
  | 1 =>
    if d.runOn then (d, { status := .wrongState })
    else
      let d := (d.tbJump (e.inl 16 8 * 16)).tbMoved
      (d, { result := d.countTb.tb })
  | 2 =>
    let off := signed 64 (e.inl 16 8)
    if d.runOn then
      if 65536 < off.natAbs then (d, { status := .wrongState })
      else
        let d := ({ d with clk := { d.clk with slew := d.clk.slew + 16 * off } }).tbMoved
        (d, { result := d.countTb.tb })
    else
      let d := (d.tbJump ((((d.tb : Int) + off) % (2 ^ 64 : Nat)).toNat * 16 + d.clk.frac)).tbMoved
      (d, { result := d.countTb.tb })
  | _ =>
    ((d.reacquire.putFlag Reg.TB_LOCKED false).put Reg.TB_RATE_PPB 0, {})

/-! Reference. -/

/-- REF_LOSS (R382): holdover; a stopping fault. -/
def Dev.refLoss (d : Dev) : Dev :=
  if d.flag Reg.HOLDOVER || !d.flag Reg.SYSPLL_SETTLED then d
  else
    let d := ((d.putFlag Reg.HOLDOVER true).putFlag Reg.REF_PRESENT false).count Reg.REF_LOSSES
    let d := { d with clk := { d.clk with lostAt := d.clk.bus } }
    (d.orBits Reg.REF_LOSS 1).stopOn { source := 480 } 3

/-- REF_RETURN (R382): the PLL has relocked; the cause clears. -/
def Dev.refReturn (d : Dev) : Dev :=
  if !d.flag Reg.HOLDOVER then d
  else
    let d := ((d.putFlag Reg.HOLDOVER false).putFlag Reg.REF_PRESENT true).orBits Reg.REF_RETURN 1
    ((d.raise { source := 481, data := [(8, d.clk.bus - d.clk.lostAt)] }).clearCause 3).reacquire

/-- SYSPLL_SETTLED (R381, R392): the timebase starts at 0. -/
def Dev.pllSettled (d : Dev) : Dev :=
  if d.flag Reg.SYSPLL_SETTLED || !d.power.starting || !d.power.vin || !d.power.vstby || d.therm.tripLatch then d
  else
    let d := (((d.putFlag Reg.SYSPLL_SETTLED true).putFlag Reg.REF_PRESENT true).orBits Reg.DOMAIN_ON 2).orBits Reg.DOMAIN_READY 2
    { d with tb := 0, half := false, clk := { d.clk with frac := 0, slew := 0, lastE := 0, lastOut := 0 } }

end Sys2Proof.Machine
end

