-- ==== Sys2Proof/Machine/UnitState.lean ====
section
/-!
DEFINITION. Unit states and their transitions (R28 to R33, R535, R321), runs begun and ended by command (R101 to R103), power
domains (R475 to R478), and the converters' foreground calibration (R130).
-/

namespace Sys2Proof.Machine

/-! Domains switched. -/

/-- Ready times of R475, in BUSCLK cycles. -/
def readyTime (n : Nat) : Nat :=
  match n with
  | 1 => 100000 | 2 => 51200 | 4 => 400000 | 5 => 400000 | 15 => 28000000 | 16 => 28000000 | 24 => 4000000 | _ => 20000

/-- R130: foreground calibration of COLW and COLE begins. -/
def Dev.calibrateGroups (d : Dev) (mask : Nat) : Dev :=
  if mask = 0 then d
  else ({ d with conv := { d.conv with fgMask := d.conv.fgMask ||| mask } }).putFlag Reg.CONV_FG_CAL true

/-- What a domain does as it is switched on. -/
def Dev.domainStarts (d : Dev) (n : Nat) : Dev :=
  match n with
  | 2 => (d.setMash { d.clk.mash with lfsr := BitVec.ofNat 32 (d.get Reg.DITHER_SEED) }).unsettle
  | 4 => d.calibrateGroups 0x10
  | 5 => d.calibrateGroups 0x20
  | 24 => d.auxPower true
  | _ => d

/-- R475: domains switched on; those on already are left alone. -/
def Dev.switchOn (d : Dev) (mask : Nat) : Dev :=
  (((List.range 25).filter (fun n => mask.testBit n && !d.domainOn n))).foldl (fun d n =>
    let d := { d with power := { d.power with onAt := d.power.onAt.set (n % 25) d.clk.bus (Nat.mod_lt _ (by decide)) } }
    ((d.putBit Reg.DOMAIN_ON n true).putBit Reg.DOMAIN_READY n false).domainStarts n) d

/-- Calibration of a converter domain that is off is over. -/
def Dev.dropCalibration (d : Dev) (bit : Nat) : Dev :=
  let m := d.conv.fgMask - (if d.conv.fgMask.testBit bit then 1 <<< bit else 0)
  ({ d with conv := { d.conv with fgMask := m } }).putFlag Reg.CONV_FG_CAL (m != 0)

/-- R475: the EJECT domain off. Programs, configuration and the flags that wait for the host are kept. (DEDUCED, log 64) -/
def Dev.ejectDown (d : Dev) : Dev :=
  let d := ((d.stopEngines 0xFFFF true).stopTimers).emptyStore
  { d with
    engine := { d.engine with engs := d.engine.engs.map (fun (x : Eng) =>
      { Eng.zero with pullOvf := x.pullOvf, pushUnder := x.pushUnder }) }
    eject := { d.eject with valves := [], liveFrom := none, misses := Vector.replicate 16 0 } }

/-- R475: the line store off: the ring, tap staging and the view buffers are empty. -/
def Dev.storeDown (d : Dev) : Dev :=
  { d with
    track := { d.track with faces := d.track.faces.map (fun (f : FaceS) => { f with ring := [] }) }
    arch := { d.arch with views := [], taps := [] } }

/-- What a domain loses as it is switched off (R475). -/
def Dev.domainStops (d : Dev) (n : Nat) : Dev :=
  match n with
  | 2 => (({ d.dropAsk with clk := { d.dropAsk.clk with ramp := none, pstep := 0 } }).putFlag Reg.RAMPING false).putFlag
      Reg.LSYN_SETTLED false
  | 4 => d.dropCalibration 4
  | 5 => d.dropCalibration 5
  | 13 => d.ejectDown
  | 14 => { d with arch := { d.arch with
      queue := [], forecasts := [], views := [], taps := [], snaps := [],
          wins := d.arch.wins.map (fun (w : Win) => { w with placed := [] }) } }
  | 15 => d.storeDown
  | 16 => d.storeDown
  | 24 => d.auxPower false
  | _ => if 18 ≤ n && n ≤ 23 then d.lanesOff (n - 18) else if 6 ≤ n && n ≤ 12 then d.losePath else d

/-- R475: domains switched off. -/
def Dev.switchOff (d : Dev) (mask : Nat) : Dev :=
  (((List.range 25).filter (fun n => mask.testBit n && d.domainOn n))).foldl (fun d n =>
    ((d.domainStops n).putBit Reg.DOMAIN_ON n false).putBit Reg.DOMAIN_READY n false) d

/-- R477: DOMAIN_SETs whose domains are ready complete. (DEDUCED, log 65) -/
def Dev.domainWaits (d : Dev) : Dev :=
  let done := fun (p : Nat × Outst) => (bitsOf 25 p.1).all (fun n => d.domainReady n || !d.domainOn n)
  let ended := d.power.waits.filter done
  let d := { d with power := { d.power with waits := d.power.waits.filter (fun p => !done p) } }
  ended.foldl (fun d p => d.finish p.2 { result := d.get Reg.DOMAIN_ON + d.get Reg.DOMAIN_READY * 2 ^ 32 }) d

/-- DOMAIN_READY (R475): a switched-on domain becomes ready after its time: SYSPLL by SYSPLL_SETTLED, LSYN by LSYN_SETTLED,
the converters and AUX after their calibration. -/
def Dev.readyNow (d : Dev) (n : Nat) : Dev :=
  let since := d.power.onAt[n % 25]'(Nat.mod_lt _ (by decide))
  let waits := n == 0 || n == 1 || n == 2 || ((n == 4 || n == 5) && d.conv.fgMask.testBit n) || (n == 24 && d.aux.fgCal)
  if decide (25 ≤ n) || !d.domainOn n || d.domainReady n || waits || d.clk.bus < since + readyTime n then d
  else (d.putBit Reg.DOMAIN_READY n true).domainWaits

/-- The mask of R476. -/
def runMask : Nat := maskOf runDomains

/-- R478: a domain's regulator fails, and the unit switches the domain off. -/
def Dev.domainFails (d : Dev) (n : Nat) : Dev :=
  if n = 0 || !d.domainOn n || 25 ≤ n then d
  else
    let stops := runDomains.contains n || (n == 13 && d.st.imaging)
    let d := (d.switchOff (1 <<< n)).orBits Reg.DOMAIN_FAULT (1 <<< n)
    let o : Occ := { source := 609, inst := n, data := [(1, n)] }
    let d := if stops then d.stopOn o 7 else d.raise o
    (if runDomains.contains n then d.closeRun else d).domainWaits

/-! Foreground calibration (R130). -/

/-- The groups of the converter domains of a mask. -/
def groupsOfMask (mask : Nat) : List Nat :=
  (List.range 516).filter (fun g => mask.testBit (if g < 256 || g == 512 || g == 513 then 4 else 5))

/-- R130: a group after its foreground calibration, with what its slices measured. The slices that passed stand in the duty positions
in rising order, the last in the seat where all passed. -/
def Dev.groupCalibrated (d : Dev) (cals : List SliceCal) (g : Nat) : Dev :=
  let x := d.conv.groupOf g
  let mine := (List.range 65).filterMap (fun i => cals.find? (fun c => c.group == g && c.slice == i))
  let failed := (mine.filter calFails).map (·.slice)
  let passed := (List.range 65).filter (fun i => !failed.contains i)
  let x : ConvGroup := { (mine.filter (fun c => !calFails c)).foldl ConvGroup.applied x with
    duty := passed.take 64, seat := passed[64]?, next := 0, halted := false }
  let d := failed.foldl (fun d i => d.calFailed g i) ((d.setGroup x).noSpare g (!failed.isEmpty))
  if 64 ≤ passed.length then d else { d with conv := { d.conv with bad := g :: d.conv.bad } }

/-- FG_CAL (R130): foreground calibration ends, with what the slices measured; those that no operand names measured what they had
before. -/
def Dev.fgCal (d : Dev) (cals : List SliceCal) : Dev :=
  if d.conv.fgMask = 0 then d
  else
    let gs := groupsOfMask d.conv.fgMask
    let d := { d with conv := { d.conv with bad := d.conv.bad.filter (fun g => !gs.contains g) } }
    let d := gs.foldl (fun d g => d.groupCalibrated cals g) d
    let d := ({ d with conv := { d.conv with fgMask := 0 } }).putFlag Reg.CONV_FG_CAL false
    match d.conv.bad with
    | [] => d.clearCause 0
    | g :: _ => d.stopOn { source := 74, inst := if g < 256 then g else 0xFF, limited := true } 0

/-! Runs by command (R101 to R103). -/

/-- R101, R476: a run begins, with its domains switched on. -/
def Dev.newRun (d : Dev) (byStart : Bool) : Dev := (d.switchOn runMask).startRun byStart

/-- The number of the first line of the run in progress (R103). -/
def Dev.firstNumber (d : Dev) : Nat :=
  if d.arr.pendingRun.isNone && d.arr.begun then d.arr.firstLine
  else if d.trigSrc = 2 then d.syncLine (d.syncTrigger (if d.arr.pendingRun.isSome then d.tb + 1 else d.arr.syncNext))
  else match d.arr.pendingRun with
    | some p => p.2.getD (d.get Reg.LINE_FIRST)
    | none => d.lineFirst

def formLineStart : Form := { code := 0x0301, managed := false, states := [.idle] }

/-- LINE_START's effect. -/
def effLineStart (_ : Entry) (d : Dev) : Dev × Reply :=
  if d.runOn then (d, { result := d.firstNumber + 2 ^ 32 })
  else
    let d := d.newRun true
    (d, { result := d.firstNumber })

def formLineStop : Form := { code := 0x0302, managed := false, states := [.idle] }

/-- LINE_STOP's effect. -/
def effLineStop (_ : Entry) (d : Dev) : Dev × Reply :=
  if !d.runOn then (d, { result := 2 ^ 32 })
  else if d.arr.pendingRun.isSome || !d.arr.begun then (d.endRun, { result := 2 ^ 33 })
  else (d.endRun, { result := d.newestLine })

/-! Transitions (R29 to R32). -/

/-- R29: the transitions that a request can make. -/
def UState.reaches : UState → UState → Bool
  | .idle, .armed | .idle, .hold | .armed, .sorting | .hold, .sorting | .sorting, .armed | .hold, .armed | .armed, .hold
  | .sorting, .hold | .armed, .idle | .hold, .idle | .sorting, .idle => true
  | _, _ => false

/-- A transition of R29 between IDLE and the imaging states, with what it brings. -/
def Dev.moveTo (d : Dev) (new : UState) (why : Nat) : Dev :=
  if d.st = new then d
  else
    let old := d.st
    let d := if old = .hold then d.endTest else d
    let d := if old = .sorting then { d with eject := { d.eject with liveFrom := none } } else d
    let d := d.enter new why
    match old, new with
    | _, .idle => d.endRun.emptyStore
    | _, .sorting => { d with eject := { d.eject with liveFrom := some d.frameNext } }
    | .idle, _ =>
      let d := d.switchOn (1 <<< 13)
      if d.arr.running && !d.arr.stopping then { d with arr := { d.arr with trackNext := true } }.switchOn runMask
      else match d.arr.pendingRun with
        | some p => { d with arr := { d.arr with pendingRun := some (false, p.2) } }.switchOn runMask
        | none => d.newRun false
    | _, _ => d

/-- The first live frame, or the frame at whose boundary the valves go off (R535). -/
def Dev.liveFrame (d : Dev) (old : UState) : Nat :=
  if d.st = .sorting && old ≠ .sorting then d.eject.liveFrom.getD 0
  else if old = .sorting && d.st ≠ .sorting then d.frameNext else 0

/-- R535: a request for a state, by the opcode `why`. -/
def Dev.setState (d : Dev) (new : UState) (why : Nat) : Dev × Reply :=
  let old := d.st
  let go := fun (d : Dev) => let d := d.moveTo new why; (d, ({ result := d.st.code + d.liveFrame old % 2 ^ 32 * 2 ^ 32 } : Reply))
  if old = new then (d, { result := old.code })
  else if new = .sorting && old.reaches new && !d.liveAllowed then (d, { status := .restrictedMode })
  else if old.reaches new then go d
  else if old = .fault && new = .idle && d.get Reg.FAULT_CAUSE = 0 then go d
  else (d, { status := .wrongState })

def formStateSet : Form := { code := 0x0102, managed := true, states := stIASHF, inl := [(12, 0xF)] }

def stateOf (t : Nat) : UState := match t with | 2 => .idle | 3 => .armed | 4 => .sorting | _ => .hold

def checkStateSet (e : Entry) (_ : Dev) : Option Nat := if e.inl 12 1 < 2 || 5 < e.inl 12 1 then some 0x0C else none

/-- STATE_SET's effect (R535). -/
def effStateSet (e : Entry) (d : Dev) : Dev × Reply := d.abortAuto.setState (stateOf (e.inl 12 1)) 0x0102

def formStateGet : Form := { code := 0x0103, managed := false, states := stAll }

/-- STATE_GET's effect: the state and FAULT_PRESENT. -/
def effStateGet (_ : Entry) (d : Dev) : Dev × Reply :=
  (d, { result := d.st.code + 16 * b2n (d.get Reg.FAULT_CAUSE != 0) })

def formEjectLive : Form := { code := 0x0702, managed := false, states := stASH }

/-- EJECT_LIVE's effect (R321). -/
def effEjectLive (_ : Entry) (d : Dev) : Dev × Reply := d.abortAuto.setState .sorting 0x0702

def formEjectDry : Form := { code := 0x0703, managed := false, states := stASH }

/-- EJECT_DRY's effect (R321). -/
def effEjectDry (_ : Entry) (d : Dev) : Dev × Reply := d.abortAuto.setState .armed 0x0703

/-! DOMAIN_SET (R477). -/

def formDomainSet : Form :=
  { code := 0x0E02, managed := true, states := stIASHF,
    inl := inlBytes 12 14 ++ [(15, 1)] ++ inlBytes 16 18 ++ [(19, 1)] }

/-- The checks that need no state: masks that meet, and domains that are never switched off. -/
def checkDomainSet (e : Entry) (_ : Dev) : Option Nat :=
  if e.inl 12 4 &&& e.inl 16 4 ≠ 0 then some 0x0C
  else if e.inl 16 4 &&& 0x20003 ≠ 0 then some 0x10 else none

/-- R475: a domain may be switched off in the present state. -/
def Dev.mayStop (d : Dev) (n : Nat) : Bool :=
  if runDomains.contains n then !d.runOn
  else if n = 13 then (d.st == .idle || d.st == .fault) && !d.runOn
  else true

/-- DOMAIN_SET's effect. -/
def effDomainSet (e : Entry) (d : Dev) : Dev × Reply :=
  let on := e.inl 12 4
  let off := e.inl 16 4
  if !(bitsOf 25 off).all d.mayStop || (bitsOf 25 on).any (fun n => !d.domainOn n && d.bitOf Reg.DOMAIN_FAULT n) then
    (d, { status := .wrongState })
  else
    let d := (d.switchOff off).switchOn on
    if (bitsOf 25 on).all d.domainReady then (d, { result := d.get Reg.DOMAIN_ON + d.get Reg.DOMAIN_READY * 2 ^ 32 })
    else ({ d with power := { d.power with waits := d.power.waits ++ [(on, ⟨e.sq, e.tag.toNat, 0x0E02, false⟩)] } }, { held := true })

end Sys2Proof.Machine
end

