-- ==== Sys2Proof/Machine/ValveFrame.lean ====
section
/-!
DEFINITION. Valve frames on their engines (R307, R316 to R319) and shorted pins (R331).
-/

namespace Sys2Proof.Machine

/-- R318: VALVE_STALL of an engine. (DEDUCED, log 62) -/
def Dev.valveStall (d : Dev) (e : Nat) : Dev :=
  (d.orBits Reg.STALL_ENG (1 <<< e)).stopOn { source := 326, inst := e, data := [(1, e)], limited := true } 2

/-- R318: a valve engine is late: it has not pulled every word of the frame before. -/
def Eng.late (x : Eng) : Bool := x.sent != 0 && (!x.running || !x.pull.isEmpty || !x.frame.isEmpty)

/-- R317: the word returned in the frame that ends at boundary `k` against the signature sent LINK_LAG frames earlier. Answers whether
LINK_MISS frames in a row have gone without a match. -/
def Dev.linkCheck (d : Dev) (k e : Nat) : Dev × Bool :=
  let x := d.eng e
  let lag := d.get Reg.LINK_LAG
  if !d.conf.flag Reg.SIG_EN e || x.sent ≤ lag then (d, false)
  else
    let want := if (k - 1 - lag) % 2 = 0 then 0x5A else 0xA5
    let good := match x.push with | w :: _ => w.toNat % 256 == want | [] => false
    let n := if good then 0 else d.eject.misses[e % 16]'(Nat.mod_lt _ (by decide)) + 1
    let d := d.setEng e { x with push := x.push.drop 1 }
    let d := d.setEject (fun j => { j with misses := j.misses.set (e % 16) n (Nat.mod_lt _ (by decide)) })
    (d, decide (d.get Reg.LINK_MISS ≤ n))

/-- R317: the returned words of some engines compared; answers those that fail. -/
def Dev.linkChecks (d : Dev) (k : Nat) : List Nat → Dev × List Nat
  | [] => (d, [])
  | e :: es =>
    let (d, bad) := d.linkCheck k e
    let (d, rest) := d.linkChecks k es
    (d, if bad then e :: rest else rest)

/-- R317: VALVE_LINK of an engine. -/
def Dev.valveLink (d : Dev) (e : Nat) : Dev :=
  (d.orBits Reg.LINK_FAIL (1 <<< e)).stopOn { source := 325, inst := e, data := [(1, e)], limited := true } 1

/-- R316: the words of frame `k` go to a valve engine. Words that the engine had no room for in the frame before are gone. -/
def Dev.placeFrame (d : Dev) (k e : Nat) : Dev :=
  let x := d.eng e
  d.setEng e ({ x with frame := d.frameWords e k (d.st == UState.fault), sent := x.sent + 1 }).refill

/-- R293: frame `k` has latched: a later one is composed, or the valve engines have pulled its words. Without power no frame
latches, and its boundary counts. (DEDUCED, log 134) -/
def Dev.latched (d : Dev) (k : Nat) : Bool :=
  if !d.ejectOn then decide (k ≤ d.frameNow)
  else match d.eject.frame with
    | none => false
    | some j => decide (k < j) || (j == k && ((List.range 16).filter d.valveEngine).all (fun e => (d.eng e).pull.isEmpty &&
        (d.eng e).frame.isEmpty))

/-- R293, RETRACTION_RECORD: the oldest retraction whose frame has latched is placed. -/
def Dev.placeRetraction (d : Dev) : Dev :=
  match d.cls.retractions.find? (fun r => d.latched r.frame) with
  | none => d
  | some r => (d.setCls (fun c => { c with retractions := c.retractions.erase r })).objRecord r.bytes

/-- VALVE_FRAME (R299, R307): the boundary of the frame in progress, if it has not been composed. -/
def Dev.valveFrame (d : Dev) : Dev :=
  let k := d.frameNow
  if !d.ejectOn || d.eject.frame == some k then d
  else
    let d := d.compose k
    let vs := (List.range 16).filter d.valveEngine
    let d := ((List.range 16).filter (fun e => !vs.contains e)).foldl (fun d e => d.setEng e { d.eng e with sent := 0 }) d
    let was := d.st
    let (d, bad) := d.linkChecks k vs
    let late := vs.filter (fun e => (d.eng e).late)
    let d := late.foldl Dev.valveStall (bad.foldl Dev.valveLink d)
    let d := if was ≠ .fault && d.st = .fault then d else vs.foldl (fun d e => d.placeFrame k e) d
    (d.pulse 2).syncOn 1

/-- PIN_SHORT (R331): a driven pin that differs from its level is released. -/
def Dev.pinShort (d : Dev) (p : Nat) : Dev :=
  if 64 ≤ p || (d.pinLevel p).isNone then d
  else match d.driver p with
  | none => d
  | some e =>
    let d := { d with engine := { d.engine with released := d.engine.released ||| BitVec.ofNat 64 (1 <<< p) } }
    let d := (d.setShort p true).raise { source := 368 + e, inst := e, data := [(1, p)] }
    if d.valveEngine e then d.valveStall e else d

end Sys2Proof.Machine
end

