-- ==== Sys2Proof/Machine/HostLink.lean ====
section
/-!
DEFINITION. The host link (R34 to R47): host-link resets and the return, the outbound budget, and fetches that fail (R35, R55).
-/

namespace Sys2Proof.Machine

/-! Queues and the link gone. -/

/-- R45, R56: the completions that wait for their queues: those of managed commands go to the log, the others nowhere. -/
def Dev.logWaiting (d : Dev) : Dev :=
  (d.chan.cqs.toList.flatMap (·.waiting)).foldl (fun d x =>
    if x.op = 0 then d else d.log 1 x.op (x.status.code + 256 * x.detail) x.tag) d

/-- R45: the queues are gone, and with them the commands that wait on FENCE: not yet dispatched, they finish without a
completion. -/
def Dev.dropQueues (d : Dev) : Dev :=
  d.logWaiting.setChan (fun c => { c with
    sqs := Vector.replicate 64 Sq.zero, cqs := Vector.replicate 64 Cq.zero, moved := [], turn := 0, turnLeft := 0 })

/-- Configuration space at its defaults (R45), as the PCI Express Base Specification gives them. (PRESUMED, log 6) -/
def Dev.configDefaults (d : Dev) : Dev :=
  { d with host := { d.host with
      memSpace := false, bars := Vector.replicate 3 0, d3hot := false, aerCorrectable := 0, aerUncorrectable := 0, maxPayload := 128,
          maxReadRequest := 512, relaxedOrdering := true, noSnoop := true, tags10 := false
      tagsExt := false, cplTimeoutUs := 50000, msixTable := [], msixEnable := false, functionMask := false, pba := 0
      vecCond := 0, hostReady := false, funcReady := false } }

/-- R494: VEC_EN and RING_EN cleared in every ROUTE register; the ring disabled (R497). -/
def Dev.clearRoutes (d : Dev) : Dev :=
  let keep := fun (w : Word) => w &&& 0x7FFFFFFE
  { d with ev := { d.ev with
      route := d.ev.route.foldl (fun st r => Store.put routeDefault st r.1 (keep r.2)) []
      ringEnable := false, ringReady := false } }

/-- R403: a window detached; its pointers are void. -/
def Win.detach (w : Win) : Win :=
  { w with attached := false, placed := [], live := [], wp := 0, rp := 0, tail := 0, ret := 0, poisonNext := false }

/-- ATTACHED (R424). -/
def Dev.noteAttached (d : Dev) : Dev :=
  let m := maskOf ((List.range 64).filter (fun w => (d.win w).attached))
  (d.put Reg.ATTACHED_LO m).put Reg.ATTACHED_HI (m / 2 ^ 32)

/-- R45, R46: every attached window is detached; the records not yet published and those that wait for tokens
are lost, and counted. -/
def Dev.detachAll (d : Dev) : Dev :=
  let on := (List.range 64).filter (fun w => (d.win w).attached)
  let lost := ((on.flatMap (fun w => (d.win w).placed)).filter (fun p => !p.pad)).length
  let d := on.foldl (fun d w => d.setWin w (d.win w).detach) d
  let lost := lost + d.arch.queue.length + d.arch.forecasts.length + d.arch.views.length + d.arch.taps.length
  let d := { d with arch := { d.arch with queue := [], forecasts := [], views := [], taps := [] } }
  ({ d with host := { d.host with
      downWindows := d.host.downWindows ||| BitVec.ofNat 64 (maskOf on),
          dropLinkdown := sat32 (d.host.dropLinkdown + lost) } }).noteAttached

/-- R221, R45: taps and the view stream are disarmed, without TAP_DONE. -/
def Dev.disarm (d : Dev) : Dev :=
  let d := (List.range 4).foldl (fun d ch => d.putFlag Reg.TAP_ARMED false ch) { d with pipe := { d.pipe with taps := [] } }
  d.putFlag Reg.VIEW_EN false

/-- R45: the commands in flight whose queues are gone. Those that run go to the log when they end. -/
def Dev.orphan (d : Dev) : Dev :=
  d.setChan (fun c => { c with outst := c.outst.map (fun o => if o.sq < 64 then { o with sq := lostSq } else o) })

/-- HOST_LINK_RESET (R45): 0 PERST#, 1 hot reset, 2 link down, 3 FLR, 4 D3hot. (DEDUCED, log 66) -/
def Dev.hostReset (d : Dev) (kind : Nat) : Dev :=
  if !d.domainOn 17 || d.outranked 5 then d
  else
    let d := { d with host := { d.host with
      linkResets := min 0xFFFF (d.host.linkResets + 1), inReset := true, resetKind := kind } }
    let d := (((d.configDefaults.orphan).dropQueues).clearRoutes.detachAll).disarm
    let d := { d with host := { d.host with d3hot := decide (kind = 4) } }
    if !d.host.autonomous && (d.st == .armed || d.st == .sorting) then d.moveTo .hold 1 else d

/-- FUNCTION_READY (R47): the function answers configuration requests; after a host-link reset, LINK_RESET is raised. It stays
unready in D3hot (R34). -/
def Dev.functionReady (d : Dev) : Dev :=
  if !d.domainReady 17 || d.host.d3hot || (d.host.funcReady && !d.host.inReset) then d
  else
    let was := d.host.inReset
    let d := { d with host := { d.host with funcReady := true, inReset := false } }
    if was then (d.orBits Reg.LINK_RESET 1).raise { source := 1, data := [(1, d.host.resetKind), (1, d.st.code)] } else d

/-! The outbound budget (R43, R44). -/

/-- R43: B in whole MB/s, which are bytes per microsecond. The width as lanes, the speed in the encoding of R37. -/
def budget (width speed : Nat) : Nat :=
  1500 * width * (match speed with | 4 => 1000 | 3 => 500 | 2 => 254 | _ => 127) / 1000

def Dev.budgetNow (d : Dev) : Nat := budget d.host.width d.host.speed

/-- R44: a refill: each class in turn takes up to its cap of what is left, and no more than its bucket has room for.
(DESIGN CHOICE, log 67) -/
def refillBuckets : List Int → List Nat → Nat → List Int
  | t :: ts, cap :: caps, left =>
    let g := min (min cap left) (65536 - t).toNat
    (t + g) :: refillBuckets ts caps (left - g)
  | ts, _, _ => ts

/-- R44: records held for tokens leave while the class has them. -/
def Dev.drainQueue (d : Dev) : Nat → Dev
  | 0 => d
  | n + 1 =>
    match d.arch.queue with
    | [] => d
    | (w, r) :: rest =>
      let pop := { d with arch := { d.arch with queue := rest } }
      if !d.winOpen w then (pop.lostRecord w).drainQueue n
      else if d.affords r.cls r.bytes.length then
        (((pop.charge r.cls r.bytes.length).placeRecord (raiseDeep 8) w r.bytes).1).drainQueue n
      else d

/-- R44, R217, R222: records of a stream that wait leave while their class has tokens. -/
def Dev.drainStream (c : ArchClass) (d : Dev) : Nat → Dev
  | 0 => d
  | n + 1 =>
    match d.waiting c with
    | [] => d
    | r :: rest =>
      if !d.winOpen r.win then (((d.setWaiting c rest).lostRecord r.win).streamLost c r.key).drainStream c n
      else if d.affords c r.bytes.length then ((d.setWaiting c rest).leave c r).drainStream c n
      else d

/-- The records of a stream that wait. -/
def Dev.drainAll (c : ArchClass) (d : Dev) : Dev := d.drainStream c (d.waiting c).length

/-- TOKEN_BUCKET_REFILL (R44): one microsecond's share of the budget. -/
def Dev.refillTokens (d : Dev) : Dev :=
  let b := d.budgetNow
  let ts := refillBuckets d.host.tokens.toList [1000, 250, 500, b, b] b
  let d := { d with host := { d.host with tokens := Vector.ofFn (fun i : Fin 5 => (ts[i.val]?).getD 0) } }
  (((d.drainQueue d.arch.queue.length).drainAll .forecast).drainAll .view).drainAll .tap

/-- LINK_RETRAIN (R43, R505): the negotiated width (lanes) or speed changes. -/
def Dev.linkRetrain (d : Dev) (width speed : Nat) : Dev :=
  if !d.domainOn 17 || !([1, 4, 8, 16].contains width) || speed = 0 || 4 < speed then d
  else
    let d := { d with host := { d.host with width := width, speed := speed } }
    (d.orBits Reg.LINK_RETRAIN 1).raise { source := 2, data := [(1, width), (1, speed), (2, d.budgetNow)] }

/-- LINK_WIDTH's encoding (R37). -/
def widthCode (w : Nat) : Nat := match w with | 1 => 1 | 4 => 4 | 8 => 8 | _ => 0xF

/-! Fetches (R35, R52, R55). -/

/-- R34, R35, R47: an error goes into the status words of the AER capability and is reported. The bits are those of the PCI Express
Base Specification. (PRESUMED, log 113) -/
def Dev.reportAer (d : Dev) (correctable : Bool) (cor uncor : Nat) : Dev :=
  ({ d with host := { d.host with
      aerCorrectable := d.host.aerCorrectable ||| BitVec.ofNat 32 cor
      aerUncorrectable := d.host.aerUncorrectable ||| BitVec.ofNat 32 uncor } }).send (.aer correctable)

/-- R35: a read that timed out is counted and reported, as a correctable error of the function and as CPL_TIMEOUT's event. -/
def Dev.noteTimeout (d : Dev) (sq tag : Nat) : Dev :=
  let d := ((d.reportAer true 0x2000 0x4000).count Reg.CPL_TIMEOUTS).orBits Reg.CPL_TIMEOUT 1
  d.raise { source := 3, data := [(1, sq), (2, tag)], limited := true }

/-- R35: the read of the next entry of a queue times out. -/
def Dev.fetchTimeout (d : Dev) (q : Nat) : Dev :=
  if d.nextSq ≠ some q then d
  else (d.setSq q { d.sq q with ready := false, err := true }).noteTimeout q 0xFFFF

/-- R35, R58: a command whose buffer could not be read completes with TIMEOUT and has no effect. -/
def Dev.timedOut (d : Dev) (op : Nat) (e : Entry) : Dev :=
  (d.noteTimeout e.sq e.tag.toNat).answer e.sq e.tag.toNat e.bufAddr.toNat op { status := .timeout }

/-- R35, R58: the read of a command's buffer times out, once the command has passed step 7 of R55; one that waits on FENCE times
out when it is dispatched. -/
def Dev.bufferTimeout (d : Dev) (f : Form) (extra : Entry → Dev → Option Nat) (e : Entry) : Dev :=
  if !f.buf || e.bufLen = 0 then d
  else if ((d.sq e.sq).fenced.map (fun x => (x.code, x.entry))) = some (f.code, e) then
    d.setSq e.sq { d.sq e.sq with fenced := some ⟨f.code, e, true⟩ }
  else if d.nextSq ≠ some e.sq.val then d
  else
    let d := d.fetched e.sq
    match d.refuses f extra e with
    | some r => d.refused f.op e r
    | none =>
      if e.fence && d.busySq e.sq then d.setSq e.sq { d.sq e.sq with fenced := some ⟨f.code, e, true⟩ }
      else (d.readBuffer f e).timedOut f.op e

/-- ENTRY_CHECK (R55 step 1): the next entry fails its ENTRY_CRC. -/
def Dev.entryCheck (d : Dev) (opcode : Nat) (e : Entry) : Dev :=
  if e.crcGood opcode then d
  else d.hostCommand { code := opcode, managed := false, states := stAll } noCheck (fun _ d => (d, {})) e

/-- BAD_OPCODE (R55 step 3): the next entry names an opcode that R66 does not list. -/
def Dev.badOpcode (d : Dev) (opcode : Nat) (e : Entry) : Dev :=
  if opcodes.contains opcode || d.nextSq ≠ some e.sq.val then d
  else
    let d := d.fetched e.sq
    let r : Reply := if !e.crcGood opcode then { status := .checkFail, detail := 1 }
      else if d.tagsOut.contains e.tag.toNat then badParam 2 else { status := .badOpcode }
    d.refused 0 e r

end Sys2Proof.Machine
end

