-- ==== Sys2Proof/Machine/Thermal.lean ====
section
/-!
DEFINITION. Thermal behaviour (R455 to R471): the diode, WARN and HOT and their actions, the trip, the flash write window, and
the Barometer's deferred commits (R450, R466).
-/

namespace Sys2Proof.Machine

def Dev.setTherm (d : Dev) (g : ThermalS → ThermalS) : Dev := { d with therm := g d.therm }
def Dev.setBaro (d : Dev) (g : Barometer → Barometer) : Dev := { d with baro := g d.baro }

/-- The filtered temperature, in 1/16 degree (R456). -/
def Dev.tempFilt (d : Dev) : Int := signed 16 (d.get Reg.TEMP_FILT)

/-- A log entry of KIND 7. The spec gives codes to the trip (3) and its commit (4) alone. (DESIGN CHOICE, log 18) -/
def Dev.thermalLog (d : Dev) (source : Nat) : Dev :=
  let (d, n) := d.takeFree
  d.logOpen 7 source (Config.freeValue n % 65536)

/-- An event of the thermal group, with its log entry. -/
def Dev.thermalEvent (d : Dev) (source : Nat) : Dev := (d.thermalLog source).raise { source := source }

/-! Power gone (R462, R473). -/

/-- R60: the tags of long operations that a reset or a loss of power cuts short are held, up to 16 of them. -/
def Dev.holdTags (d : Dev) : Dev :=
  let cut := d.chan.outst.filter (fun o => o.long && decide (o.sq < 64))
  d.setChan (fun c => { c with aborted := (c.aborted ++ cut).take 16, outst := [], intake := [], writes := [] })

/-- Every domain but AON is switched off: the run and all that is in flight are lost, and the host link drops. -/
def Dev.powerDown (d : Dev) : Dev :=
  let d := d.holdTags
  let d := { d with pipe := { d.pipe with taps := [], calib := none }, track := { d.track with flushes := [] } }
  let d := { d with power := { d.power with waits := [] }, clk := { d.clk with ask := none } }
  let d := (d.forgetRun.stopLines.losePath).switchOff 0x1FFFFFE
  ((d.configDefaults.dropQueues).clearRoutes.detachAll).putFlag Reg.SYSPLL_SETTLED false

/-! The trip (R459, R462). -/

/-- R462: TRIP asserts. -/
def Dev.trip (d : Dev) : Dev :=
  let data := d.get Reg.TEMP_RAW + d.get Reg.TEMP_FILT * 2 ^ 16 + d.st.code * 2 ^ 32
  let seq := d.get Reg.LOG_NEXT
  let rec' : LogEntry := ⟨seq, d.get Reg.BOOT_COUNT % 2 ^ 16, 7, 0, d.tb, 580, 3, data, d.clk.bus⟩
  let d := (d.put Reg.LOG_NEXT (seq + 1)).putFlag Reg.TRIP_PENDING true
  let d := d.setTherm (fun t => { t with tripLatch := true, tripRec := some rec', tripSeen := some data })
  ((d.enter .tripped 580).powerDown).emptyStore

/-! WARN and HOT (R457, R460, R461). -/

/-- HOT deasserts: the suspensions end. -/
def Dev.hotOff (d : Dev) : Dev :=
  let d := (d.putFlag Reg.HOT false).putFlag Reg.THROTTLED false
  (d.setTherm (fun t => { t with noChips := false, noTaps := false })).thermalEvent 579

/-- WARN deasserts: the scrub resumes. -/
def Dev.warnOff (d : Dev) : Dev :=
  ((d.putFlag Reg.WARN false).setTherm (fun t => { t with scrubPaused := false })).thermalEvent 577

/-- The runs of R457 after a sample: toward assertion, toward deassertion. -/
def thermalRun (filt t h : Int) (run : Nat × Nat) : Nat × Nat :=
  if t ≤ filt then (min 32 (run.1 + 1), 0) else if filt ≤ t - h then (0, min 32 (run.2 + 1)) else (0, 0)

/-- R457: WARN and HOT on a filtered sample. -/
def Dev.judge (d : Dev) : Dev :=
  let f := d.tempFilt
  let h : Int := (d.get Reg.HYST : Nat)
  let w := thermalRun f (signed 16 (d.get Reg.WARN_T)) h (d.therm.warnUp, d.therm.warnDown)
  let k := thermalRun f (signed 16 (d.get Reg.HOT_T)) h (d.therm.hotUp, d.therm.hotDown)
  let d := d.setTherm (fun t => { t with warnUp := w.1, warnDown := w.2, hotUp := k.1, hotDown := k.2 })
  let d := if !d.flag Reg.WARN && w.1 == 32 then
      ((d.putFlag Reg.WARN true).count Reg.WARN_COUNT).setTherm (fun t => { t with warnDue := true })
    else if d.flag Reg.WARN && w.2 == 32 then d.warnOff else d
  if !d.flag Reg.HOT && k.1 == 32 then
    ((d.putFlag Reg.HOT true).count Reg.HOT_COUNT).setTherm (fun t => { t with hotDue := true })
  else if d.flag Reg.HOT && k.2 == 32 then d.hotOff else d

/-- LEAVE_GUST (R460): in gust mode the run ends, the mode becomes SPECTRAL under LSYN at a lower rate, and a new run waits. -/
def Dev.leaveGust (d : Dev) : Dev :=
  if d.get Reg.LINE_MODE ≠ 2 then d
  else
    let was := d.arr.pendingRun.isSome || (d.arr.running && !d.arr.stopping)
    let byStart := (d.arr.pendingRun.map (·.1)).getD (d.arr.byStart && !d.arr.trackNext)
    let next := match d.arr.pendingRun with
      | some p => p.2.getD (d.get Reg.LINE_FIRST)
      | none => if d.arr.begun then lineAdd d.newestLine 1 else d.lineFirst
    let d := d.endRun
    let d := (d.put Reg.LINE_MODE 0).put Reg.TRIG_SRC 0
    let cap := if d.bitOf Reg.HOT_ACT 1 then d.get Reg.CAP_KHZ * 1000000 else 100000000
    let rate := min (min (rateMhz d.nf d.postdiv) 100000000) cap
    let (p, nf) := lsynAuto rate
    let d := d.lsynWrite ⟨true, d.flag Reg.DITHER_EN, true, rate, nf, p, 0⟩ nf p
    if was then { d with arr := { d.arr with rerun := some (next, byStart) } } else d

/-- CAP_RATE (R460): the unit's own ramp of INC -2^20 per line, to CAP_KHZ or to N.F 60, in place of any running one; a ramp that
has nothing to do ends where it begins. (DEDUCED, log 69) -/
def Dev.capRate (d : Dev) : Dev :=
  let goal := d.get Reg.CAP_KHZ * 1000 * d.postdiv * 2 ^ 36 / 50000000
  let n := min (ceilDiv (d.nf - goal) (2 ^ 20)) ((d.nf - 60 * 2 ^ 24) / 2 ^ 20)
  if d.trigSrc ≠ 0 || !(d.flag Reg.LSYN_EN && d.flag Reg.LSYN_SETTLED) then d
  else if d.nf ≤ goal && d.clk.ramp.isNone && d.clk.ask.isNone then d
  else
    let d := d.dropAsk
    { d with clk := { d.clk with ask := some ⟨some (if n = 0 then [] else [(-1048576, n)]), none, some goal, d.cycle⟩ } }

/-- HOT_ON (R460): the Barometer carries out what WARN and HOT ask for, unless a debugger holds it. (DEDUCED, log 68) -/
def Dev.hotOn (d : Dev) : Dev :=
  if d.baro.halted || !d.baro.booted then d
  else
    let d := if !d.therm.warnDue then d
      else
        let d := d.setTherm (fun t => { t with warnDue := false, scrubPaused := d.flag Reg.SCRUB_PAUSE && d.flag Reg.WARN })
        (d.orBits Reg.WARN_SEEN 1).thermalEvent 576
    if !d.therm.hotDue then d
    else
      let d := d.setTherm (fun t => { t with hotDue := false })
      let d := (d.orBits Reg.HOT_SEEN 1).thermalEvent 578
      if !d.flag Reg.HOT then d
      else
        let d := d.putFlag Reg.THROTTLED true
        let d := if d.bitOf Reg.HOT_ACT 0 then d.leaveGust else d
        let d := if d.bitOf Reg.HOT_ACT 1 then d.capRate else d
        d.setTherm (fun t => { t with noChips := d.bitOf Reg.HOT_ACT 2, noTaps := d.bitOf Reg.HOT_ACT 3 })

/-! The diode and the window (R455, R456, R465, R467). -/

/-- R465: the window judged again. -/
def Dev.judgeWindow (d : Dev) (quiet : Bool) : Dev :=
  let f := d.tempFilt
  let isOpen := decide (-320 ≤ f) && decide (f < 1600) && !d.flag Reg.DIODE_FAULT
  if isOpen == d.windowOpen then d
  else
    let d := (d.putFlag Reg.WINDOW_OPEN isOpen).setTherm (fun t => { t with closedAt := d.clk.bus })
    if quiet then d else d.thermalEvent (if isOpen then 583 else 582)

/-- R456: a raw sample into the filter, and the extremes since the last read. -/
def Dev.filterTemp (d : Dev) (raw : Int) : Dev :=
  let f := if d.therm.sampled then d.tempFilt + (raw - d.tempFilt) / (2 ^ d.get Reg.THERM_ALPHA : Nat) else raw
  let first := !d.therm.sampled
  let hi := if first then f else max f (signed 16 (d.get Reg.TEMP_MAX))
  let lo := if first then f else min f (signed 16 (d.get Reg.TEMP_MIN))
  ((((d.put Reg.TEMP_RAW (unsigned 16 raw)).put Reg.TEMP_FILT (unsigned 16 f)).put Reg.TEMP_MAX (unsigned 16 hi)).put Reg.TEMP_MIN
    (unsigned 16 lo)).setTherm (fun t => { t with sampled := true })

/-- R467: the range test: 8 samples out of range, or missing, in a row set DIODE_FAULT, and 32 in range clear it. -/
def Dev.diodeRange (d : Dev) (good : Bool) : Dev :=
  let bad := if good then 0 else min 8 (d.therm.badRun + 1)
  let ok := if good then min 32 (d.therm.goodRun + 1) else 0
  let d := d.setTherm (fun t => { t with badRun := bad, goodRun := ok })
  if !d.flag Reg.DIODE_FAULT && bad == 8 then
    (((d.putFlag Reg.DIODE_FAULT true).judgeWindow false).thermalLog 584).stopOn { source := 584 } 6
  else if d.flag Reg.DIODE_FAULT && ok == 32 then (d.putFlag Reg.DIODE_FAULT false).clearCause 6
  else d

/-- DIODE_SAMPLE (R455 to R467): a raw sample, or none where none arrives. -/
def Dev.diodeSample (d : Dev) (sample : Option Int) : Dev :=
  if !d.power.vstby then d
  else
    let first := !d.therm.sampled
    let good := match sample with | some r => decide (-880 ≤ r) && decide (r ≤ 2400) | none => false
    let d := match sample with | some r => d.filterTemp r | none => d
    let d := d.diodeRange good
    let d := d.judgeWindow first
    match sample with
    | none => d.setTherm (fun t => { t with tripRun := 0 })
    | some r =>
      let d := d.judge
      let run := if 1920 ≤ r && !d.flag Reg.DIODE_FAULT then min 8 (d.therm.tripRun + 1) else 0
      let d := d.setTherm (fun t => { t with tripRun := run })
      if run == 8 && !d.therm.tripLatch then d.trip else d

/-! Commits (R450, R466). -/

/-- R450: the flash keeps at least 129,024 entries; a full block of 2,048 is erased at a time. (DEDUCED, log 70) -/
def trimLog (es : List LogEntry) : List LogEntry := if 131072 ≤ es.length then es.take 129024 else es

/-- Committed entries stand newest first by LOG_SEQ; a trip record may be older than those committed before it. -/
def logInsert (e : LogEntry) : List LogEntry → List LogEntry
  | [] => [e]
  | x :: rest => if lineAfter x.seq e.seq then x :: logInsert e rest else e :: x :: rest

/-- The oldest entry kept, committed or held. -/
def Dev.noteLog (d : Dev) : Dev :=
  let oldest := match d.baro.flash.log.getLast?, d.baro.logHeld.getLast? with
    | some e, _ => e.seq
    | none, some e => e.seq
    | none, none => d.get Reg.LOG_NEXT
  (d.put Reg.LOG_OLDEST oldest).put Reg.LOG_PENDING d.baro.logHeld.length

/-- An entry has been held for more than 1 s. -/
def Dev.heldLong (d : Dev) (e : LogEntry) : Bool := decide (e.since + 200000000 < d.clk.bus)

/-- R450: the held entries committed, those held beyond 1 s marked DEFERRED. -/
def Dev.commitLog (d : Dev) : Dev :=
  let held := d.baro.logHeld.map (fun e => if d.heldLong e then { e with flags := e.flags ||| 2 } else e)
  (d.setBaro (fun b => { b with logHeld := [], flash := { b.flash with log := trimLog (held.foldr logInsert b.flash.log) } })).noteLog

/-- The Barometer may write flash now. -/
def Dev.canCommit (d : Dev) : Bool := d.windowOpen && !d.baro.halted && d.power.vstby

/-- LOG_COMMIT (R450): every 16 entries or every 1 s, within the write window, the trip record first. -/
def Dev.logCommit (d : Dev) : Dev :=
  let due := decide (16 ≤ d.baro.logHeld.length) || d.baro.logHeld.any (fun e => decide (e.since + 200000000 ≤ d.clk.bus))
  if !d.canCommit || !due || d.therm.tripRec.isSome then d else d.commitLog

/-- TRIP_COMMIT (R466): the trip record, then the held entries, then the reservation. -/
def Dev.tripCommit (d : Dev) : Dev :=
  if !d.canCommit then d
  else
    let d := match d.therm.tripRec with
      | none => d
      | some e =>
        let real := !e.flags.testBit 0
        let d := (d.setBaro (fun b => { b with flash := { b.flash with
          log := trimLog (logInsert e b.flash.log), trips := b.flash.trips + b2n real } })).setTherm (fun t => { t with tripRec := none })
        let d := (d.putFlag Reg.TRIP_PENDING false).logOpen 7 581 4
        if d.st == UState.tripped || d.st == UState.boot then d.setTherm (fun t => { t with commitSeen := true })
        else d.raise { source := 581, inj := !real }
    (d.commitLog).writeReservation

/-! THERMAL_STATUS (R469). -/

def formThermalStatus : Form := { code := 0x0E01, managed := false, states := stAll }

/-- THERMAL_STATUS's effect. -/
def effThermalStatus (_ : Entry) (d : Dev) : Dev × Reply :=
  let flags := [Reg.WARN, Reg.HOT, Reg.WINDOW_OPEN, Reg.THROTTLED, Reg.DIODE_FAULT, Reg.CAP_SHORT].map (fun f => d.get f)
  let v := d.get Reg.TEMP_FILT + d.get Reg.TEMP_RAW * 2 ^ 16 + 2 ^ 32 * flags.foldr (fun b n => b + 2 * n) 0
  (d, { result := v })

end Sys2Proof.Machine
end

