-- ==== Sys2Proof/Machine/Live.lean ====
section
/-!
DEFINITION. What a parameter word reads as (R7, R11, R68): the fields that reflect hardware state ("live"), the stored ones, and
what a read clears or latches.
-/

namespace Sys2Proof.Machine

/-! The flash, as the parameter pages show it (R428, R433, R444). -/

/-- R433: the selector record in effect: the valid copy whose SEQ is later. -/
def Flash.selected (f : Flash) : Option Selector :=
  let a := f.sel[0]
  let b := f.sel[1]
  if a.valid && b.valid then some (if lineAfter b.seq a.seq then b else a)
  else if a.valid then some a else if b.valid then some b else none

/-- R433: the slots named; slot A of each kind with no valid copy. -/
def Flash.named (f : Flash) : Nat × Nat := (f.selected.map (fun s => (s.bfw, s.sqm))).getD (0, 0)

/-- R444: bytes in use in the recipe store. -/
def Flash.recipeBytes (f : Flash) : Nat := f.recipes.foldl (fun n r => n + 4 * r.2.length) 0

/-- The size of the recipe store (R428). -/
def recipeStore : Nat := 31 * 1024 * 1024

/-- The image a slot holds (R444); no words in an empty slot. -/
def Flash.recipe (f : Flash) (slot : Nat) : List Word := ((f.recipes.find? (fun r => r.1 == slot)).map (·.2)).getD []

/-- Bit s: slot s holds an image. -/
def Flash.recipeMask (f : Flash) : Nat := maskOf (f.recipes.map (·.1))

/-- ACTIVATE_PENDING (R454): the record in effect names images that are not running. -/
def Dev.activatePending (d : Dev) : Bool :=
  d.baro.booted && d.baro.flash.named != (d.get Reg.BFW_SLOT, d.get Reg.SQM_SLOT)

/-! Live fields. -/

/-- LSYN_WAIT: the run waits for the synthesizer to settle (R101). -/
def Dev.lsynWait (d : Dev) : Bool := !d.flag Reg.LSYN_SETTLED && (d.arr.pendingRun.isSome || (d.arr.running && !d.arr.begun))

/-- A test pulse is pending or runs (R319). -/
def Dev.testActive (d : Dev) : Bool :=
  d.eject.wins.any (fun w => w.kind == .test) || d.eject.valves.any (fun v => v.pin.isOpen && v.pin.test)

/-- CAL_AGE: seconds since the last background calibration (R375). -/
def Dev.calAge (d : Dev) : Nat := min 0xFFFF ((d.clk.bus - d.aux.calAt) / 200000000)

/-- R465: how long the write window has been closed, in milliseconds. -/
def Dev.windowClosedMs (d : Dev) : Nat := if d.windowOpen then 0 else sat32 ((d.clk.bus - d.therm.closedAt) / 200000)

/-- The live fields of a word of a page: (field, instance, value). -/
def Dev.liveFields (d : Dev) (page w : Nat) : List (Fld × Nat × Nat) :=
  match page with
  | 0x0000 =>
    match w with
    | 2 => [(Reg.FAULT_PRESENT, 0, b2n (d.get Reg.FAULT_CAUSE != 0)), (Reg.STATE, 0, d.st.code)]
    | 3 => [(Reg.GEN_PENDING, 0, d.genPending), (Reg.GEN_IN_EFFECT, 0, d.conf.gen)]
    | 4 => [(Reg.TAGS_OUTSTANDING, 0, d.tagsOut.length)]
    | 7 =>
      match d.longOp with
      | some o => [(Reg.LONG_ACTIVE, 0, 1), (Reg.LONG_TAG, 0, o.tag), (Reg.LONG_OPCODE, 0, o.opcode)]
      | none => []
    | _ => []
  | 0x0100 =>
    match w with
    | 3 => [(Reg.PSTEP_BUSY, 0, b2n (d.pstepLeft != 0))]
    | 4 => [(Reg.LINE_RATE_MHZ, 0, rateMhz d.nf d.postdiv)]
    | 5 => [(Reg.LSYN_PERIOD_LO, 0, linePeriod16 d.nf d.postdiv)]
    | 6 => [(Reg.LSYN_PERIOD_HI, 0, linePeriod16 d.nf d.postdiv / 2 ^ 32)]
    | 8 => [(Reg.PSTEP_LEFT, 0, unsigned 23 d.pstepLeft)]
    | _ => []
  | 0x0200 =>
    if w = 0x20 then [(Reg.LSYN_WAIT, 0, b2n d.lsynWait), (Reg.TRIG_HELD, 0, b2n d.arr.held.isSome),
      (Reg.TRACKING, 0, b2n (match d.arr.pendingRun with | some p => !p.1 | none => d.arr.running && d.arr.tracking)),
      (Reg.RUNNING, 0, b2n d.runOn)]
    else if 0x28 ≤ w && w < 0x2C && d.get Reg.LINE_MODE != 1 then [(Reg.DUAL_RATIO, w - 0x28, 0)]
    else []
  | 0x0400 =>
    if 0x0C ≤ w && w < 0x10 && d.get Reg.LINE_MODE != 1 then [(Reg.DARK_REF, w - 8, 0)]
    else if w = 0x80 then
      match d.pipe.calib with
      | some c => [(Reg.CAL_ACTIVE, 0, 1), (Reg.CAL_HEADS, 0, maskOf (c.heads.map (·.head)))]
      | none => []
    else []
  | 0x0580 =>
    if w = 0x10 then
      [(Reg.PLACED_HEADS, 0, d.conf.placedHeads), (Reg.BLIND_HEADS, 0, d.get Reg.BLIND_HEADS &&& d.conf.placedHeads)]
    else []
  | 0x0600 =>
    if 0x30 ≤ w && w < 0x3C then [(Reg.OPEN_REAR, w - 0x30, d.zoneCount 1 (w - 0x30)), (Reg.OPEN_FRONT, w - 0x30, d.zoneCount 0 (w - 0x30))]
    else match w with
    | 0x20 => [(Reg.OPEN_NOW, 0, d.openNow)]
    | 0x22 => [(Reg.STORM_REAR, 0, d.stormZones 1), (Reg.STORM_FRONT, 0, d.stormZones 0)]
    | 0x23 => [(Reg.OVER_QUOTA_REAR, 0, d.overQuota d.conf 1), (Reg.OVER_QUOTA_FRONT, 0, d.overQuota d.conf 0)]
    | 0x2C => [(Reg.SEQ_NEXT_LO, 0, d.track.seqNext)]
    | 0x2D => [(Reg.SEQ_NEXT_HI, 0, d.track.seqNext / 2 ^ 32)]
    | _ => []
  | 0x0700 => if w = 0x10 then [(Reg.IN_FLIGHT, 0, d.cls.evals.length)] else []
  | 0x0800 =>
    match w with
    | 0x21 => [(Reg.FRAME_NOW_LO, 0, d.frameNow)]
    | 0x22 => [(Reg.FRAME_NOW_HI, 0, d.frameNow / 2 ^ 32)]
    | 0x23 => [(Reg.LIVE, 0, b2n d.valvesLive), (Reg.WINDOWS_PENDING, 0, d.eject.wins.length)]
    | 0x2E => [(Reg.TEST_ACTIVE, 0, b2n d.testActive)]
    | _ => []
  | 0x0900 =>
    if w < 0x80 then
      let e := w / 8
      let x := d.eng e
      match w % 8 with
      | 6 => [(Reg.IN_COUNT, e, x.inCount), (Reg.BIT_COUNT, e, x.bitCount), (Reg.ENG_FLAG, e, b2n x.flag),
          (Reg.PUSH_LEVEL, e, x.push.length), (Reg.PULL_LEVEL, e, x.pull.length), (Reg.PC, e, x.pc),
          (Reg.ENG_STATE, e, if x.running then max 1 x.stall else 0)]
      | 7 => [(Reg.SHIFT, e, x.reg.toNat)]
      | _ => []
    else if w = 0x82 then [(Reg.STALLED, 0, maskOf ((List.range 16).filter (fun e => (d.eng e).running && (d.eng e).stall != 0))),
      (Reg.ENG_RUNNING, 0, d.runningOf 0xFFFF)]
    else []
  | 0x0A00 =>
    if 0x40 ≤ w && w < 0x70 then
      let ch := (w - 0x40) % 24
      let r := d.aux.results[ch % 24]'(Nat.mod_lt _ (by decide))
      if w < 0x58 then [(Reg.RES_CODE, ch, r.code)] else [(Reg.RES_COUNT, ch, r.count), (Reg.RES_FLAGS, ch, r.flags)]
    else match w with
    | 3 => [(Reg.AUX_RUNNING, 0, b2n d.aux.running), (Reg.AUX_FG_CAL, 0, b2n d.aux.fgCal), (Reg.BG_CAL, 0, b2n d.auxCalibrates),
        (Reg.STEP_CUR, 0, if d.aux.running then d.aux.step else 0)]
    | 4 => [(Reg.TRIG_LATCH, 0, d.aux.latch.toNat)]
    | 0x0B => [(Reg.CAL_AGE, 0, d.calAge)]
    | _ => []
  | 0x0B00 => if w = 0x1B then [(Reg.ARCH_QUEUE, 0, d.arch.queue.length)] else []
  | 0x0C00 => if w = 2 then [(Reg.FAULT_TB_LO, 0, d.faultTb)] else if w = 4 then [(Reg.EVENT_SEQ, 0, d.ev.seq)] else []
  | 0x0D00 =>
    match w with
    | 4 => [(Reg.SEL_SEQ, 0, (d.baro.flash.selected.map (·.seq)).getD 0)]
    | 8 => [(Reg.ACTIVATE_PENDING, 0, b2n d.activatePending)]
    | 0x19 => [(Reg.RCP_FREE_KIB, 0, (recipeStore - d.baro.flash.recipeBytes) / 1024)]
    | 0x1A => [(Reg.RCP_USED_LO, 0, d.baro.flash.recipeMask)]
    | 0x1B => [(Reg.RCP_USED_HI, 0, d.baro.flash.recipeMask / 2 ^ 32)]
    | _ => []
  | 0x0E00 =>
    match w with
    | 9 => [(Reg.TRIPS, 0, sat32 d.baro.flash.trips)]
    | 0x0B => [(Reg.WINDOW_CLOSED_MS, 0, d.windowClosedMs)]
    | 0x23 => [(Reg.ST_ACTIVE, 0, b2n (d.longOp.any (fun o => o.opcode == 0x0C01)))]
    | _ => []
  | _ => []

/-! Reading. -/

/-- The fields of a word of a page. -/
def wordFields (page w : Nat) : List Fld := (pageFields page).filter (fun f => f.inWord w)

/-- R69: the word is staged. -/
def isStaged (page w : Nat) : Bool := (wordFields page w).any (fun f => f.acc == .st)

/-- The bits of the fields of some accesses in a word. -/
def bitsWhere (which : Fld → Bool) (page w : Nat) : Nat :=
  ((wordFields page w).filter which).foldl (fun m f => m ||| ((2 ^ f.width - 1) <<< f.lo)) 0

/-- What a word reads as: live fields over stored ones, staged words in effect, WO fields 0 (R7). -/
def Dev.readWord (d : Dev) (page w : Nat) : Word :=
  let key := paramKey page w
  if isStaged page w then Store.get paramReset d.conf.staged key
  else
    let v := (d.liveFields page w).foldl (fun (v : Word) x => x.1.inject v x.2.2) (d.word key)
    v &&& ~~~BitVec.ofNat 32 (bitsWhere (fun f => f.acc == .wo) page w)

/-- R71: the pending value of a staged word, or the value in effect where none is pending. (DESIGN CHOICE, log 115) -/
def Dev.readPending (d : Dev) (page w : Nat) : Word :=
  match Store.find? d.chan.pend (paramKey page w) with
  | some v => v
  | none => d.readWord page w

/-- What an RC field starts again from: 0, but for the extremes since the last read, which start at the present value.
(DEDUCED, log 72) -/
def Dev.rcStart (d : Dev) (page w : Nat) : Word :=
  match page, w with
  | 0x0600, 0x21 => Reg.OPEN_PEAK.inject 0 d.openNow
  | 0x0700, 0x11 => Reg.IN_FLIGHT_PEAK.inject 0 d.cls.evals.length
  | 0x0800, 0x24 => Reg.WINDOWS_PEAK.inject 0 d.eject.wins.length
  | 0x0E00, 0x01 => Reg.TEMP_MIN.inject (Reg.TEMP_MAX.inject 0 (d.get Reg.TEMP_FILT)) (d.get Reg.TEMP_FILT)
  | _, _ => 0

/-- R7: what reading a word does: RC fields start again, and FAULT_TB_LO latches FAULT_TB_HI (R507). -/
def Dev.afterRead (d : Dev) (page w : Nat) : Dev :=
  let m := BitVec.ofNat 32 (bitsWhere (fun f => f.acc == .rc) page w)
  let d := if m = 0 then d
    else d.setWord (paramKey page w) ((d.word (paramKey page w) &&& ~~~m) ||| (d.rcStart page w &&& m))
  if page = 0x0C00 && w = 2 then d.put Reg.FAULT_TB_HI (d.faultTb / 2 ^ 32) else d

end Sys2Proof.Machine
end

