-- ==== Sys2Proof/Machine/Params.lean ====
section
/-!
DEFINITION. Parameter words by command (R68 to R71): PARAM_READ, PARAM_WRITE, PARAM_STAGE, their checks (R9, R10, R70 and the
owning chapters), and what a written word sets going.
-/

namespace Sys2Proof

open Sys2Proof.Machine

/-! The ADDRESS of a parameter command (R71). -/

def Entry.page (e : Entry) : Nat := e.address.toNat / 65536
def Entry.word (e : Entry) : Nat := e.address.toNat / 256 % 256
def Entry.count (e : Entry) : Nat := if e.address.toNat % 256 = 0 then 256 else e.address.toNat % 256

/-- The words a command carries, in order: inline from byte 12, or its buffer. -/
def Entry.params (e : Entry) : List Nat :=
  if e.bufLen = 0 then (List.range e.count).map (fun i => e.inl (12 + 4 * i) 4) else (leWords e.data).map (·.toNat)

/-- The page and a word of it that a PARAM_WRITE names (rows of the table for one register). -/
def Entry.names (e : Entry) (page : Nat) (which : Nat → Bool) : Bool :=
  e.page == page && (List.range e.count).any (fun i => which (e.word + i))

end Sys2Proof

namespace Sys2Proof.Machine

/-- R68, R71: the address and the lengths; `limit` words fit without a buffer. -/
def addressBad (limit : Nat) (e : Entry) : Option Nat :=
  if !pageListed e.page then some 0x0A
  else if 256 < e.word + e.count then some 0x08
  else if e.bufLen.toNat = 4 * e.count then none
  else if e.bufLen = 0 && decide (e.count ≤ limit) then none
  else some 0x38

/-! Checks of written words. -/

/-- The new value of a word, if the command writes it. -/
def newWord (first : Nat) (ws : List Nat) (w : Nat) : Option Nat := if w < first then none else ws[w - first]?

/-- The detail that names a byte of a written word (R65): its place in the entry, or FFh in a buffer. -/
def wordDetail (inBuf : Bool) (first w byte : Nat) : Nat := if inBuf then 0xFF else 12 + 4 * (w - first) + byte

/-- R160: GHEADS holds no nibble of 12 to 15. -/
def gheadsBad (v : Nat) : Bool := (List.range 4).any (fun i => 12 ≤ v / 16 ^ i % 16)

/-- R202: XBIN holds no code 11b. -/
def xbinBad (v : Nat) : Bool := (List.range 12).any (fun h => v / 4 ^ h % 4 == 3)

/-- R9, R70: the first byte of a word that a reserved bit or a value outside its range spoils. -/
def valueBad (page w v : Nat) : Option Nat :=
  let all := bitsWhere (fun _ => true) page w
  let rsv := v - (v &&& all)
  if rsv ≠ 0 then some (lowByte rsv)
  else
    match (wordFields page w).find? (fun f =>
        (f.acc == .rw || f.acc == .st || f.acc == .wo) && !f.allows (v >>> f.lo % 2 ^ f.width)) with
    | some f => some (f.lo / 8)
    | none =>
      if page = 0x0300 && w < 0x60 && w % 16 = 1 && gheadsBad v then some 0
      else if page = 0x0300 && 0x61 ≤ w && w ≤ 0x6B && (v.testBit 7 || v.testBit 9) then some (if v.testBit 7 then 0 else 1)
      else if page = 0x0480 && w = 4 && xbinBad v then some 0
      else none

/-- R88, R94, R91: the pairs of a word of page 0200h: START below STOP, and END_GRP not below START_GRP. (DEDUCED, log 74) -/
def pairBad (w v : Nat) : Bool :=
  if 4 ≤ w && w < 12 then v / 65536 % 8192 ≤ v % 8192
  else if 16 ≤ w && w < 24 then v / 65536 % 512 < v % 512 else false

/-- R91: a row's windows break the rules of DUAL. -/
def dualBad (short long : Nat) : Bool :=
  let stop := short / 65536 % 8192
  decide (long % 8192 < stop) || decide (long / 65536 % 8192 < stop + 2048)

/-- R87, R91, R98, R131, R205, R458: checks of written words against others. Answers the detail. -/
def Dev.crossBad (d : Dev) (page first : Nat) (ws : List Nat) (inBuf : Bool) : Option Nat :=
  let new := newWord first ws
  let at' := fun (w byte : Nat) => some (wordDetail inBuf first w byte)
  let wrote := fun (w : Nat) => (new w).isSome
  let pend := fun (w : Nat) => (new w).getD (d.readPending page w).toNat
  let now := fun (w : Nat) => (new w).getD (d.readWord page w).toNat
  match page with
  | 0x0200 =>
    let mode := now 0 % 4
    let rows : List Nat := [0, 1, 2, 3]
    match (List.range 20).map (· + 4) |>.find? (fun w => match new w with | some v => pairBad w v | none => false) with
    | some w => at' w 0
    | none =>
      match rows.find? (fun r => mode == 1 && (wrote (4 + r) || wrote (8 + r) || wrote 0) && dualBad (pend (4 + r)) (pend (8 + r))) with
      | some r => if wrote (4 + r) then at' (4 + r) 0 else if wrote (8 + r) then at' (8 + r) 0 else at' 0 0
      | none =>
        if mode == 1 && wrote 0 && rows.any (fun r => dualBad (d.readWord page (4 + r)).toNat (d.readWord page (8 + r)).toNat) then at' 0 0
        else if wrote 0 && now 0 / 256 % 4 == 0 && rateAbove d.nfTop d.postdiv (maxRate mode (d.flag Reg.DRIZZLE)) then some 0x0C
        else if wrote 0x19 && (decide (now 0x19 < minPeriod mode (d.flag Reg.DRIZZLE)) || decide (200000 < now 0x19)) then at' 0x19 0
        else none
  | 0x0280 =>
    let mode := d.get Reg.LINE_MODE
    if wrote 0 && now 0 % 2 == 1 &&
        ((d.trigSrc == 0 && rateAbove d.nfTop d.postdiv (maxRate mode true)) ||
         (d.trigSrc == 2 && decide (d.get Reg.SYNC_PERIOD < minPeriod mode true))) then some 0x0C
    else none
  | 0x0480 =>
    if wrote 0x10 && decide (24 < (pend 0x10 % 4 + 1) * (pend 0x10 / 256 % 16)) then at' 0x10 1 else none
  | 0x0E00 =>
    if wrote 2 && decide (signed 16 (now 2) ≤ signed 16 (now 2 / 65536)) then at' 2 2 else none
  | _ => none

/-- R9, R10, R70: what spoils the words of a PARAM_WRITE or PARAM_STAGE, as a detail. -/
def Dev.wordsBad (d : Dev) (stage : Bool) (e : Entry) : Option Nat :=
  let ws := e.params
  let inBuf := e.bufLen != 0
  let places := List.range ws.length
  let writable := fun (i : Nat) => (wordFields e.page (e.word + i)).any (fun f => f.acc == .rw || f.acc == .st || f.acc == .w1c ||
      f.acc == .wo)
  if places.any (fun i => !writable i || (stage && !isStaged e.page (e.word + i))) then some 0x08
  else
    match places.findSome? (fun i =>
        (valueBad e.page (e.word + i) ((ws[i]?).getD 0)).map (fun b => wordDetail inBuf e.word (e.word + i) b)) with
    | some o => some o
    | none => d.crossBad e.page e.word ws inBuf

/-- What the owning chapter refuses in the present state: run-locked words (R86, R131, R209), VALVE_FRAME (R299), FORCE_STORM
(R268), engines that run (R339), an AUX sequence that runs (R369), and the flash behind AUTOSTART's word (R448). -/
def Dev.lockedWord (d : Dev) (page w : Nat) : Option Reply :=
  if d.runOn && (wordFields page w).any (·.runLock) then some { status := .wrongState }
  else
    match page with
    | 0x0600 => if w = 6 && d.st != .armed && d.st != .hold then some { status := .wrongState } else none
    | 0x0800 => if w = 0 && d.st.imaging then some { status := .wrongState } else none
    | 0x0900 => if w < 0x80 && 1 ≤ w % 8 && w % 8 ≤ 3 && (d.eng (w / 8)).running then some { status := .notStopped } else none
    | 0x0A00 => if d.aux.running && (w == 0 || (0x10 ≤ w && w < 0x30)) then some { status := .wrongState } else none
    | 0x0D00 => if w = 0x10 && !d.windowOpen then some { status := .thermalWindow } else none
    | _ => none

/-! Effects. -/

/-- R7: a word stored: RW fields set, W1C bits cleared, ST fields pending; RO, RC and WO fields as they were. -/
def Dev.storeWord (d : Dev) (page w v : Nat) : Dev :=
  let key := paramKey page w
  if isStaged page w then
    d.setChan (fun c => { c with pend := Store.insert c.pend key (BitVec.ofNat 32 (v &&& bitsWhere (fun f => f.acc == .st) page w)) })
  else
    let rw := BitVec.ofNat 32 (bitsWhere (fun f => f.acc == .rw) page w)
    let w1c := BitVec.ofNat 32 (bitsWhere (fun f => f.acc == .w1c) page w)
    let v := BitVec.ofNat 32 v
    d.touch.setWord key (((d.word key &&& ~~~rw) ||| (v &&& rw)) &&& ~~~(w1c &&& v))

/-- A flag whose last bit is cleared takes its stopping cause with it (R501). -/
def Dev.clearedFlag (d : Dev) (f : Fld) (bit : Nat) : Dev := if d.get f = 0 then d.clearCause bit else d

/-- What a written word sets going. `old` is the unit before the command, `v` the word written. -/
def Dev.wordActs (old : Dev) (page : Nat) (d : Dev) (p : Nat × Nat) : Dev :=
  let (w, v) := p
  match page with
  | 0x0100 =>
    if w ≠ 0x10 then d
    else
      let d := if old.get Reg.TB_ROLE != d.get Reg.TB_ROLE then (d.putFlag Reg.TB_LOCKED false).put Reg.TB_RATE_PPB 0 |>.reacquire
        else d
      if old.get Reg.TB_ROLE != d.get Reg.TB_ROLE || (d.get Reg.TB_ROLE == 0 && !old.flag Reg.SYNCOUT_EN) then
        { d with clk := { d.clk with syncLog := d.get Reg.SYNC_LOG } }
      else d
  | 0x0200 => if w = 3 && v.testBit 0 && d.get Reg.FRAME_SRC == 2 then d.markFrame else d
  | 0x0280 =>
    if w = 0 && old.get Reg.DRIZZLE != d.get Reg.DRIZZLE then
      d.calibrateGroups ((if d.domainOn 4 then 0x10 else 0) + (if d.domainOn 5 then 0x20 else 0))
    else d
  | 0x0300 => if w < 0x60 && w % 16 = 0x0A && v.testBit 2 then d.armFlip (w / 16) (v % 4) else d
  | 0x0600 =>
    if w ≠ 6 then d
    else
      let zs := (bitsOf 12 v).map (fun z => (0, z)) ++ (bitsOf 12 (v / 65536)).map (fun z => (1, z))
      { d with track := { d.track with forced := d.track.forced ++ zs.filter (fun z => !d.track.forced.contains z) } }
  | 0x0800 => if w = 0x2C then (d.clearedFlag Reg.STALL_ENG 2).clearedFlag Reg.LINK_FAIL 1 else d
  | 0x0900 =>
    if w = 0x80 || w = 0x81 then
      { d with engine := { d.engine with
          released := d.engine.released &&& BitVec.ofNat 64 (d.get Reg.SHORT_LO + 2 ^ 32 * d.get Reg.SHORT_HI) } }
    else d
  | 0x0980 => if w < 64 then d.freeze (w / 2) else d
  | 0x0B00 => if w = 0x10 then d.clearedFlag Reg.CARRIAGE_UE 4 else d
  | 0x0D00 =>
    if w = 0x10 then
      d.setBaro (fun b => { b with flash := { b.flash with autostart := d.word (paramKey page w) } })
    else d
  | 0x0E00 =>
    match w with
    | 2 =>
      let d := if old.get Reg.WARN_T != d.get Reg.WARN_T then d.setTherm (fun t => { t with warnUp := 0, warnDown := 0 }) else d
      if old.get Reg.HOT_T != d.get Reg.HOT_T then d.setTherm (fun t => { t with hotUp := 0, hotDown := 0 }) else d
    | 3 =>
      if old.get Reg.HYST != d.get Reg.HYST then
        d.setTherm (fun t => { t with warnUp := 0, warnDown := 0, hotUp := 0, hotDown := 0 })
      else d
    | 0x22 => d.clearedFlag Reg.DOMAIN_FAULT 7
    | 0x27 => d.clearedFlag Reg.SELFCHECK_FAIL 8
    | _ => d
  | _ => d

/-- R70: the words of one command, stored together, and then what they set going. -/
def Dev.storeWords (d : Dev) (page first : Nat) (ws : List Nat) : Dev :=
  let ps := (List.range ws.length).map (fun i => (first + i, (ws[i]?).getD 0))
  ps.foldl (Dev.wordActs d page) (ps.foldl (fun d p => d.storeWord page p.1 p.2) d)

/-! PARAM_READ (R71). -/

def formParamRead : Form := { code := 0x0201, managed := false, states := stIASHF, sel := 1, addr := true, buf := true }

def checkParamRead (e : Entry) (_ : Dev) : Option Nat := addressBad 2 e

/-- PARAM_READ's effect. The command itself is outstanding while it reads (R56). (DEDUCED, log 73) -/
def effParamRead (e : Entry) (d : Dev) : Dev × Reply :=
  let one := fun (d : Dev) (w : Nat) =>
    let v := if e.sel 0 0 = 1 then d.readPending e.page w else d.readWord e.page w
    if e.page = 0 && w = 4 then Reg.TAGS_OUTSTANDING.inject v (d.tagsOut.length + 1) else v
  let ws := (List.range e.count).map (fun i => e.word + i)
  let (d, vs) := ws.foldl (fun (acc : Dev × List Word) w => (acc.1.afterRead e.page w, one acc.1 w :: acc.2)) (d, [])
  let vs := vs.reverse
  if e.bufLen = 0 then (d, { result := ((vs[0]?).getD 0).toNat + 2 ^ 32 * ((vs[1]?).getD 0).toNat })
  else (d, { out := wordBytes vs })

/-! PARAM_WRITE and PARAM_STAGE (R69 to R71). -/

/-- R68: the pages whose PARAM_WRITE runs on the fast path. -/
def fastPage (page : Nat) : Bool :=
  [0x0200, 0x0280, 0x0400, 0x0480, 0x0500, 0x0580, 0x0600, 0x0700, 0x0800].contains page

/-- The inline bytes that carry words. -/
def paramInl (e : Entry) : List (Nat × Nat) := if e.bufLen = 0 then inlBytes 12 (11 + 4 * min 9 e.count) else []

def formParamWrite (e : Entry) : Form :=
  { code := 0x0202, managed := !fastPage e.page, states := stIASHF, addr := true, inl := paramInl e, buf := true }

def formParamStage (e : Entry) : Form :=
  { code := 0x0203, managed := false, states := stIASHF, addr := true, inl := paramInl e, buf := true }

/-- The checks that need no buffer (R58). -/
def checkWords (stage : Bool) (e : Entry) (d : Dev) : Option Nat :=
  match addressBad 9 e with
  | some o => some o
  | none => if e.bufLen = 0 then d.wordsBad stage e else none

def checkParamWrite (e : Entry) (d : Dev) : Option Nat := checkWords false e d
def checkParamStage (e : Entry) (d : Dev) : Option Nat := checkWords true e d

/-- PARAM_WRITE's effect. -/
def effParamWrite (e : Entry) (d : Dev) : Dev × Reply :=
  match d.wordsBad false e with
  | some o => (d, badParam o)
  | none =>
    match (List.range e.count).findSome? (fun i => d.lockedWord e.page (e.word + i)) with
    | some r => (if r.status = .thermalWindow then d.refuseWindow else d, r)
    | none => (d.storeWords e.page e.word e.params, {})

/-- PARAM_STAGE's effect: RESULT is the generation the values will join (R73). -/
def effParamStage (e : Entry) (d : Dev) : Dev × Reply :=
  match d.wordsBad true e with
  | some o => (d, badParam o)
  | none => (d.storeWords e.page e.word e.params, { result := (d.genNewest + 1) % 2 ^ 16 })

/-- A host's PARAM_WRITE as the next command. -/
def Dev.paramWrite (d : Dev) (e : Entry) : Dev := d.hostCommand (formParamWrite e) checkParamWrite effParamWrite e

end Sys2Proof.Machine
end

