-- ==== Sys2Proof/Machine/TableOps.lean ====
section
/-!
DEFINITION. COMMIT (R72 to R76, R540) and tables by command (R77 to R79, R196, R296, R338, R444): TABLE_WRITE, its last step,
and TABLE_READ.
-/

namespace Sys2Proof.Machine

/-! COMMIT. -/

/-- What the next generation holds (R74): the pending words over the newest staged ones, and the shadow tables. -/
def Dev.nextConf (d : Dev) : Conf :=
  let newest := (d.chan.confs.head?).getD Conf.zero
  { gen := (newest.gen + 1) % 2 ^ 16, waiting := false, atFrame := false, fromLine := none
    staged := d.chan.pend.foldl (fun st p => Store.put paramReset st p.1 p.2) newest.staged
    tables := d.chan.shadow, named := none }

/-- R232, R324: the maps of a generation to be, checked. (DEDUCED, log 75) -/
def Dev.mapsBad (d : Dev) (c : Conf) : (Option (Nat × Nat)) × (Option (Nat × Nat)) :=
  (stitchCheck c.faceWidth d.placedWidth ((List.range 12).map (fun h => (h, c.place h))),
   valveCheck c.valves (fun e => c.get Reg.FRAME_BITS e))

/-- R108, R149: the heads hear of a generation, after its companding table where that is new. -/
def Dev.announce (d : Dev) (old new : Conf) (first : Option Nat) : Dev :=
  let d := if old.newCompand new then d.tellHeads 0x03 new.compandWords else d
  d.tellHeads 0x01 (genNotice new.gen first)

/-- The newest waiting generation's boundary, as predicted (R75, R540): none before that of a generation waiting ahead of it. -/
def Dev.lastBoundary (d : Dev) : Option Nat :=
  (d.chan.confs.filter (·.waiting)).foldr (fun c before =>
    match c.fromLine.map (fun l => if c.atFrame then d.frameFrom l else l), before with
    | some l, some b => some (lineMax l b)
    | some l, none => some l
    | none, b => b) none

/-- R72: a checked COMMIT: 0 IMMEDIATE, 1 NEXT_LINE, 2 NEXT_FRAME. Answers its RESULT. (DEDUCED, log 9) -/
def Dev.commit (d : Dev) (boundary : Nat) : Dev × Nat :=
  let old := (d.chan.confs.head?).getD Conf.zero
  let new := d.nextConf
  let d := d.setChan (fun c => { c with pend := [] })
  let push := fun (x : Conf) => d.setChan (fun c => { c with confs := x :: c.confs })
  if !(d.arr.running && d.arr.begun) then
    let after := d.arr.lines.head?.map (fun l => lineAdd l.num 1)
    (((push { new with fromLine := after }).cicBoundary old new).announce old new none, 0xFFFFFFFF + new.gen * 2 ^ 32)
  else
    let c := d.newestLine
    let own := if boundary = 2 then d.frameFrom (lineAdd c 2) else lineAdd c 1
    let line := match d.lastBoundary with | some l => lineMax own l | none => own
    let (first, _, num) := d.frameOf line
    let result := num + new.gen * 2 ^ 32 + (lineDiff line first).toNat % 2 ^ 16 * 2 ^ 48
    let d := if boundary = 0 && d.genPending = 0 then ((push new).cicBoundary old new).markMixed
      else
        let least := lineAdd c (if boundary = 2 then 2 else 1)
        push { new with waiting := true, atFrame := boundary == 2, fromLine := some least, named := some line }
    (d.announce old new (some line), result)

/-- R79: a TABLE_WRITE to a shadow table is still at work. -/
def Dev.shadowBusy (d : Dev) : Bool :=
  d.chan.writes.any (fun w => !([0x04, 0x05, 0x0D, 0x10, 0x11].contains w.table))

/-- A COMMIT with its checks (R75, R232, R324). -/
def Dev.tryCommit (d : Dev) (boundary : Nat) : Dev × Reply :=
  if 4 ≤ d.genPending then (d, { status := .busy, detail := 4 })
  else
    match d.mapsBad d.nextConf with
    | (some (h, k), _) => ((d.put Reg.CHECK_HEAD h).put Reg.CHECK_CODE_0580 k, badParam 0xFF)
    | (none, some (v, k)) => ((d.put Reg.VMAP_VALVE v).put Reg.VMAP_CODE k, badParam 0xFF)
    | (none, none) =>
      let busy := d.shadowBusy
      let (d, result) := d.commit boundary
      (d, { detail := b2n busy, result := result })

def formCommit : Form := { code := 0x0204, managed := false, states := stIASHF, inl := [(12, 3)] }

def checkCommit (e : Entry) (_ : Dev) : Option Nat := if e.inl 12 1 % 4 = 3 then some 0x0C else none

/-- COMMIT's effect. -/
def effCommit (e : Entry) (d : Dev) : Dev × Reply := d.tryCommit (e.inl 12 1 % 4)

/-! Tables (R77, R78). -/

/-- The words of one instance of a table; none for an ID that R77 does not list. -/
def tableLen (id : Nat) : Option Nat :=
  match id with
  | 0x01 => some 4097 | 0x02 => some 65536 | 0x03 => some 65536 | 0x04 => some 264 | 0x05 => some 264 | 0x06 => some 12288
  | 0x07 => some 65536 | 0x08 => some 65536 | 0x09 => some 524416 | 0x0A => some 16 | 0x0B => some 4096 | 0x0C => some 48
  | 0x0D => some 51 | 0x0E => some 65 | 0x0F => some 1024 | 0x10 => some 32 | 0x11 => some 2097152 | _ => none

/-- How many instances a table has (R77). -/
def tableInsts (id : Nat) : Nat :=
  if 1 ≤ id && id ≤ 5 then 12 else if id = 7 || id = 8 then 2 else if id = 0x10 then 16 else if id = 0x11 then 64 else 1

/-- The tables that are not shadow tables. -/
def tableShadow (id : Nat) : Bool := !([0x04, 0x05, 0x0D, 0x10, 0x11].contains id)

/-- A word of a table, in effect or in its shadow. -/
def Dev.tableWord (d : Dev) (shadow : Bool) (id inst off : Nat) : Word :=
  let key := tableKey id inst off
  if id = 4 || id = 5 then Store.get tableDefault d.pipe.banks key
  else if id = 0x0D then BitVec.ofNat 32 (d.blt off)
  else if id = 0x10 then Store.get tableDefault d.engine.prog key
  else if id = 0x11 then ((d.baro.flash.recipe inst)[off]?).getD 0
  else
    let at' := fun o => Store.get tableDefault (if shadow then d.chan.shadow else d.conf.tables) (tableKey id inst o)
    if id = 9 then at' off &&& leafBits off (at' (off + (off + 1) % 2)) else at' off

end Sys2Proof.Machine

namespace Sys2Proof

/-- The table, instance and offset of a table command (R78). -/
def Entry.table (e : Entry) : Nat := e.address.toNat / 2 ^ 24
def Entry.offset (e : Entry) : Nat := e.address.toNat % 2 ^ 24
def Entry.inst (e : Entry) : Nat := e.sel 11 0

end Sys2Proof

namespace Sys2Proof.Machine

/-- R78: the checks of the address, the instance and the length. -/
def checkTable (e : Entry) (_ : Dev) : Option Nat :=
  match tableLen e.table with
  | none => some 0x0B
  | some n =>
    if tableInsts e.table ≤ e.inst then some 0x04
    else if e.bufLen.toNat = 0 || e.bufLen.toNat % 4 ≠ 0 then some 0x38
    else if n < e.offset + e.bufLen.toNat / 4 then some 0x08
    else none

/-- R443: the LENGTH and IMAGE_CHECK of a recipe image. -/
def imageLength (ws : List Word) : Nat := ((ws[2]?).getD 0).toNat
def imageGood (ws : List Word) : Bool :=
  let n := ws.length
  ((ws[0]?).getD 0).toNat == 0x31504352 && decide (17 ≤ n) && imageLength ws == 4 * n &&
    crc32c (wordBytes (ws.take (n - 1))) == ((ws[n - 1]?).getD 0).toNat

/-- R183: CALIBRATE measures this head. -/
def Dev.calibrates (d : Dev) (h : Nat) : Bool :=
  match d.pipe.calib with
  | some c => c.heads.any (fun x => x.head == h)
  | none => false

def formTableWrite (e : Entry) : Form :=
  { code := 0x0205, managed := true, states := stIASHF, sel := 0x0FFF, addr := true, inl := inlBytes 12 15, buf := true
    long := e.table == 0x0D || e.table == 0x11 }

/-- TABLE_WRITE's effect: its checks, and the write begins (R79, R196). (DEDUCED, log 76) -/
def effTableWrite (e : Entry) (d : Dev) : Dev × Reply :=
  let ws := leWords e.data
  let id := e.table
  if crc32c e.data ≠ e.inl 12 4 then (d, { status := .checkFail, detail := 2 })
  else if 1 ≤ id && id ≤ 3 && d.calibrates e.inst then (d, { status := .busy, detail := 2 })
  else if id = 0x0A && ws.any (fun w => 4 < w.toNat % 8) then (d, badParam 0xFF)
  else if id = 0x0D && d.st ≠ .idle then (d, { status := .wrongState })
  else if id = 0x11 && !(e.offset == 0 && (ws == [0] || imageLength ws == e.bufLen.toNat)) then (d, badParam 0x08)
  else if id = 0x11 && ws ≠ [0] && !imageGood ws then (d, { status := .checkFail, detail := 3 })
  else (d.setChan (fun c => { c with writes := c.writes ++ [⟨e.sq, e.tag.toNat, id, e.inst, e.offset, ws⟩] }), { held := true })

/-- R444: a slot's new image, or none, where the free space takes it. -/
def Dev.writeRecipe (d : Dev) (slot : Nat) (ws : List Word) : Option Dev :=
  let f := d.baro.flash
  let others := f.recipes.filter (fun r => r.1 != slot)
  if ws.isEmpty then some (d.setBaro (fun b => { b with flash := { f with recipes := others } }))
  else if recipeStore < f.recipeBytes + 4 * ws.length then none
  else
    let new := others.filter (fun r => r.1 < slot) ++ [(slot, ws)] ++ others.filter (fun r => slot < r.1)
    some (d.setBaro (fun b => { b with flash := { f with recipes := new } }))

/-- The last step of a TABLE_WRITE, with its lock checks; of a bank's, the fade's comes first (R77, R196, R338, R444). -/
def Dev.applyWrite (d : Dev) (w : TableWrite) : Dev × Reply :=
  let done : Reply := { result := w.words.length }
  let key := tableKey w.table w.inst w.offset
  let ws := tableWords w.table w.offset w.words
  if w.table = 4 || w.table = 5 then
    let active := d.bitOf Reg.ACTIVE_BANK w.inst
    if (match d.pipe.fade with | some f => f.heads.testBit w.inst | none => false) then (d, { status := .bankBusy, detail := 2 })
    else if active == (w.table == 5) then (d, { status := .bankBusy, detail := 1 })
    else ({ d with pipe := { d.pipe with banks := Store.putAll tableDefault d.pipe.banks key ws } }, done)
  else if w.table = 0x0D then
    if !d.windowOpen then (d.refuseWindow, { status := .thermalWindow })
    else (d.setBaro (fun b => { b with flash := { b.flash with laneTable := Store.putAll (fun _ => 0) b.flash.laneTable w.offset w.words } }),
      done)
  else if w.table = 0x10 then
    let (d, r) := d.progWrite w.inst w.offset w.words
    (d, if r.status = .ok then done else r)
  else if w.table = 0x11 then
    if !d.windowOpen then (d.refuseWindow, { status := .thermalWindow })
    else match d.writeRecipe w.inst (if w.words = [0] then [] else w.words) with
      | some d => (d, done)
      | none => (d, { status := .noResource, detail := 2 })
  else (d.setChan (fun c => { c with shadow := Store.putAll tableDefault c.shadow key ws }), done)

/-- TABLE_WRITE_APPLY: the oldest TABLE_WRITE at work reaches its last step (R196). -/
def Dev.tableApply (d : Dev) : Dev :=
  if d.baro.halted then d
  else
    match d.chan.writes with
    | [] => d
    | w :: rest =>
      let d := d.setChan (fun c => { c with writes := rest })
      let (d, r) := d.applyWrite w
      d.finish ⟨w.sq, w.tag, 0x0205, false⟩ r

def formTableRead : Form :=
  { code := 0x0206, managed := true, states := stIASHF, sel := 0x8FFF, addr := true, buf := true }

/-- TABLE_READ's effect (R78). -/
def effTableRead (e : Entry) (d : Dev) : Dev × Reply :=
  let n := e.bufLen.toNat / 4
  let shadow := e.sel 15 15 == 1
  let bs := wordBytes ((List.range n).map (fun i => d.tableWord shadow e.table e.inst (e.offset + i)))
  (d, { out := bs, result := n + crc32c bs * 2 ^ 32 })

end Sys2Proof.Machine
end

