-- ==== Sys2Proof/Machine/Calibrate.lean ====
section
/-!
DEFINITION. CALIBRATE (R183 to R186): its start, and its final step.
-/

namespace Sys2Proof.Machine

/-! The start (R183). -/

def formCalibrate : Form :=
  { code := 0x0C02, managed := true, states := stIASH, sel := 0x0FFF, inl := [(12, 0x73), (13, 0xFF), (14, 0xFF), (15, 0x3F), (16, 0xFF)]
    long := true }

/-- KIND, BLOCKS, and the fields that only FLAT, or only FIND_DEFECTS, takes. -/
def checkCalibrate (e : Entry) (_ : Dev) : Option Nat :=
  let o := e.inl 12 1
  let flat := o % 4 == 1
  let find := o.testBit 4
  let lim := e.inl 16 1
  if 2 ≤ o % 4 || (find && !flat) then some 12
  else if 64 < e.inl 13 1 then some 13
  else if !flat && e.inl 14 2 ≠ 0 then some (if e.inl 14 1 ≠ 0 then 14 else 15)
  else if find then (if lim = 0 || 100 < lim then some 16 else none)
  else if lim ≠ 0 then some 16 else none

/-- CALIBRATE's effect: the heads begin to be measured. -/
def effCalibrate (e : Entry) (d : Dev) : Dev × Reply :=
  let heads := bitsOf 12 (e.sel 11 0)
  if d.st = .armed || d.st = .sorting then (d, { status := .intrusiveRefused })
  else if !heads.all d.expects then (d, { status := .noResource, detail := 1 })
  else
    let o := e.inl 12 1
    let own := d.st == .idle && !d.runOn
    let blocks := if e.inl 13 1 = 0 then 64 else e.inl 13 1
    let c : Calib := ⟨o % 4 == 1, o.testBit 4, o.testBit 5, o.testBit 6, blocks, e.inl 14 2, e.inl 16 1,
      heads.map (fun h => ⟨h, 0, 0, 0, []⟩), own, d.clk.bus⟩
    let d := if own then d.newRun true else d
    (({ d with pipe := { d.pipe with calib := some c } }).put Reg.CAL_BLOCKS 0, { held := true })

/-! What the measurements give (R184, R185). -/

/-- The median of some levels: with an even number, the mean of the middle two. -/
def median (vs : List Int) : Option Int :=
  let s := vs.mergeSort (fun a b => decide (a ≤ b))
  let n := s.length
  if n = 0 then none
  else if n % 2 = 1 then s[n / 2]?
  else some (roundInt ((s[n / 2 - 1]?).getD 0 + (s[n / 2]?).getD 0) 2)

/-- The staging of one head while it is worked out: the offset or gain of a column and slot, and its new defects. -/
structure CalOut where
  values : List (Nat × Nat × Nat)
  defects : List (Nat × Nat)
  deriving DecidableEq, Repr

/-- The measured columns and slots of a head. -/
def CalHead.cells (x : CalHead) : List (Nat × Nat × CalAcc) :=
  let slots := bitsOf 7 x.mask
  (x.acc.zipIdx).flatMap (fun (p : List CalAcc × Nat) => (p.1.zip slots).map (fun q => (p.2, q.2, q.1)))

/-- R184: the offset of a column and slot, s12.4; a free value where no sample was gathered. (DESIGN CHOICE, log 19) -/
def Dev.calOffset (d : Dev) (a : CalAcc) : Dev × Nat :=
  if a.n = 0 then let (d, n) := d.takeFree; (d, Config.freeValue n % 65536)
  else
    let v := roundInt a.sum a.n
    (d, unsigned 16 (if v < -32768 then -32768 else if 32767 < v then 32767 else v))

/-- R184: a head-and-slot mean exceeds 200 LSB. -/
def CalHead.bright (x : CalHead) : Bool :=
  (bitsOf 7 x.mask).any (fun s =>
    let as := (x.cells.filter (fun c => c.2.1 == s)).map (·.2.2)
    let sum : Int := (as.map (·.sum)).foldl (· + ·) 0
    let n := (as.map (·.n)).foldl (· + ·) 0
    decide ((3200 * n : Nat) < sum))

/-- R184: the offsets of a head. -/
def Dev.darkOut (d : Dev) (x : CalHead) : Dev × CalOut :=
  x.cells.foldl (fun (acc : Dev × CalOut) c =>
    let (d, v) := acc.1.calOffset c.2.2
    (d, { acc.2 with values := (c.1, c.2.1, v) :: acc.2.values })) (d, ⟨[], []⟩)

/-- R185: the gain of a level: none where no quotient fits (no level, or one not above 0), else the value and whether it
saturates. `num` over `den` is TARGET. -/
def gainOf (num den : Int) (level : Option Int) : Option (Nat × Bool) :=
  match level with
  | none => none
  | some l =>
    if l ≤ 0 then none
    else
      let g := roundInt (num * 65536 * calScale) (den * l)
      some (if 65535 < g then (65535, true) else (g.toNat, false))

/-- A column and slot of a FLAT calibration: its level, how many blocks were accepted, and its gain. -/
structure FlatCell where
  col : Nat
  slot : Nat
  level : Option Int
  accepted : Nat
  gain : Option (Nat × Bool)
  deriving DecidableEq, Repr

/-- R185: the cells of a head. A TARGET of 0 means the mean of 4 x level over the head and the plane. -/
def CalHead.flatCells (x : CalHead) (target : Nat) : List FlatCell :=
  let cells := x.cells.map (fun c => (c.1, c.2.1, median c.2.2.levels, c.2.2.levels.length))
  let mean := fun (plane : Nat) =>
    let ls := cells.filterMap (fun c => if planeOf c.2.1 c.1 = plane then c.2.2.1 else none)
    (4 * ls.foldl (· + ·) 0, (16 * calScale) * (max 1 ls.length : Nat))
  cells.map (fun c =>
    let (num, den) := if target = 0 then mean (planeOf c.2.1 c.1) else ((target : Int), 1)
    ⟨c.1, c.2.1, c.2.2.1, c.2.2.2, gainOf num den c.2.2.1⟩)

/-- R185: a cell that FIND_DEFECTS adds to table 01h. -/
def flatDefect (cells : List FlatCell) (limit : Nat) (c : FlatCell) : Bool :=
  let mid := median (cells.filterMap (fun x => if x.slot = c.slot && x.col / 256 = c.col / 256 then x.level else none))
  let far := match c.level, mid with
    | some l, some m => decide (limit * m < (l - m).natAbs * 100)
    | _, _ => false
  far || decide (c.accepted < 8) || (match c.gain with | some (_, beyond) => beyond | none => true)

/-- R179, R185: the gain of a defective cell, the mean of its replacement neighbours' gains. -/
def neighbourGain (cells : List FlatCell) (bad : Array Nat) (c : FlatCell) : Option Nat :=
  let side := fun (dir : Int) => [1, 2, 3, 4].findSome? (fun (k : Nat) =>
    let col : Int := c.col + dir * (k * planeStep c.slot c.col : Nat)
    if col < 0 || ((bad[col.toNat]?).getD 0).testBit c.slot then none
    else (cells.find? (fun x => x.col == col.toNat && x.slot == c.slot)).bind (fun x => x.gain.map (·.1)))
  match side (-1), side 1 with
  | some a, some b => some ((a + b + 1) / 2)
  | some a, none => some a
  | none, some b => some b
  | none, none => none

/-- R185: the gains and the new defects of a head. A gain that the rule leaves open is a free value. -/
def Dev.flatOut (d : Dev) (k : Calib) (x : CalHead) : Dev × CalOut :=
  let cells := x.flatCells k.target
  let width := x.acc.length
  let shadow : Conf := { Conf.zero with tables := d.chan.shadow }
  let listed := shadow.defects x.head width
  let new := if k.find then cells.filter (flatDefect cells k.limit) else []
  let bad := new.foldl (fun a c => a.modify c.col (· ||| 1 <<< c.slot)) listed
  let fresh := new.filter (fun c => !((listed[c.col]?).getD 0).testBit c.slot)
  let cols := (fresh.map (·.col)).eraseDups
  let entries := cols.map (fun col => (col, maskOf ((fresh.filter (fun c => c.col == col)).map (·.slot))))
  let gain := fun (d : Dev) (c : FlatCell) =>
    match if ((bad[c.col]?).getD 0).testBit c.slot then neighbourGain cells bad c else c.gain.map (·.1) with
    | some g => (d, g)
    | none => let (d, n) := d.takeFree; (d, Config.freeValue n % 65536)
  let (d, values) := cells.foldl (fun (acc : Dev × List (Nat × Nat × Nat)) c =>
    let (d, g) := gain acc.1 c
    (d, (c.col, c.slot, g) :: acc.2)) (d, [])
  (d, ⟨values, entries⟩)

/-! The final step (R186). -/

/-- A half of a word of table 02h or 03h replaced. -/
def putHalf (id h : Nat) (st : Store) (v : Nat × Nat × Nat) : Store :=
  let (col, slot, x) := v
  let key := tableKey id h (4 * col + slot / 2)
  let w := (Store.get tableDefault st key).toNat
  let keep := if slot % 2 = 0 then w / 65536 * 65536 + x % 65536 else w % 65536 + 65536 * (x % 65536)
  Store.put tableDefault st key (BitVec.ofNat 32 keep)

/-- The results of a head written into some tables 01h to 03h: its values, and the entries after COUNT of the list `defs`.
(DEDUCED, log 78) -/
def CalOut.write (o : CalOut) (id h : Nat) (st : Store) : Store :=
  let st := o.values.foldl (putHalf id h) st
  if o.defects.isEmpty then st
  else
    let count := defectCount (Store.get tableDefault st (tableKey 1 h 0)).toNat
    let st := Store.putAll tableDefault st (tableKey 1 h (1 + count)) (o.defects.map (fun e => BitVec.ofNat 32 (e.1 + 2 ^ 16 * e.2)))
    Store.put tableDefault st (tableKey 1 h 0) (BitVec.ofNat 32 (count + o.defects.length))

/-- R428: the calibration copy in effect, 0 or 1; none where neither header is valid. -/
def Flash.calCopy (f : Flash) : Option (Fin 2) :=
  match f.cal[0].seq, f.cal[1].seq with
  | some a, some b => if a < b then some 1 else some 0
  | some _, none => some 0
  | none, some _ => some 1
  | none, none => none

/-- R186, R428: calibration tables written to the copy not in effect, and then its header. -/
def Flash.saveCal (f : Flash) (g : Store → Store) : Flash :=
  let old := (f.calCopy.map (fun i => f.cal[i])).getD ⟨none, []⟩
  let dest : Fin 2 := match f.calCopy with | some 0 => 1 | _ => 0
  { f with cal := f.cal.set dest.val ⟨some ((old.seq.getD 0) + 1), g old.tables⟩ dest.isLt }

/-- A calibration ends: its completion, and the run it began (R183). -/
def Dev.endCalibrate (d : Dev) (k : Calib) (r : Reply) : Dev :=
  let d := ({ d with pipe := { d.pipe with calib := none } }).finishLong 0x0C02 r
  if k.ownRun && d.st == .idle then d.endRun else d

/-- R428: the calibration tables in effect; none before the first save of a flash with no valid header. -/
def Flash.calTables (f : Flash) : Store := (f.calCopy.map (fun i => f.cal[i].tables)).getD []

/-- R185: a head's defects do not fit its table, in the shadow, or with SAVE in flash. -/
def Dev.defectsOver (d : Dev) (k : Calib) (o : Nat × CalOut) : Bool :=
  let past := fun (st : Store) =>
    decide (4096 < defectCount (Store.get tableDefault st (tableKey 1 o.1 0)).toNat + o.2.defects.length)
  past d.chan.shadow || (k.save && past d.baro.flash.calTables)

/-- R186: SAVE, then ACTIVATE. -/
def Dev.keepCalibration (d : Dev) (k : Calib) (outs : List (Nat × CalOut)) : Dev × Reply :=
  let id := if k.flat then 3 else 2
  let write := fun (st : Store) => outs.foldl (fun st o => o.2.write id o.1 st) st
  let added := (outs.map (fun o => o.2.defects.length)).foldl (· + ·) 0 * 2 ^ 16
  if k.save && !d.windowOpen then (d.refuseWindow, { status := .thermalWindow })
  else
    let d := if k.save then d.setBaro (fun b => { b with flash := b.flash.saveCal write }) else d
    if !k.activate then (d, { result := added })
    else
      let (d, r) := (d.setChan (fun c => { c with shadow := write c.shadow })).tryCommit 2
      if r.status ≠ .ok then (d, r)
      else (d, { result := r.result / 2 ^ 32 % 2 ^ 16 + added + r.result % 2 ^ 32 * 2 ^ 32 })

/-- CALIBRATE_FINAL_STEP (R184 to R186): once every head has its blocks, or a head's lines have stopped for 100 ms. -/
def Dev.calibrateFinal (d : Dev) : Dev :=
  match d.pipe.calib with
  | none => d
  | some k =>
    let short := k.heads.filter (fun x => x.blocks < k.blocks)
    if short.any (fun x => decide (max k.since (d.headS x.head).lastTb + 20000000 < d.clk.bus)) then
      d.endCalibrate k { status := .timeout }
    else if !short.isEmpty then d
    else if !k.flat && k.heads.any CalHead.bright then d.endCalibrate k { status := .checkFail, detail := 2 }
    else
      let (d, outs) := k.heads.foldl (fun (acc : Dev × List (Nat × CalOut)) x =>
        let (d, o) := if k.flat then acc.1.flatOut k x else acc.1.darkOut x
        (d, acc.2 ++ [(x.head, o)])) (d, [])
      if outs.any (d.defectsOver k) then d.endCalibrate k { status := .noResource, detail := 2 }
      else
        let (d, r) := d.keepCalibration k outs
        d.endCalibrate k r

end Sys2Proof.Machine
end

