-- ==== Sys2Proof/Machine/Archive.lean ====
section
/-!
DEFINITION. Archive windows by command and by register (R402 to R409, R423), publishing, snapshots (R413), and the line store's
scrub (R420).
-/

namespace Sys2Proof.Machine

/-! RING_ATTACH and RING_RELEASE (R402, R403). -/

def formRingAttach : Form :=
  { code := 0x0A01, managed := true, states := stIASHF, sel := 0x3F, inl := inlBytes 12 27 ++ [(28, 7)] }

/-- R402: BASE and SIZE by themselves. -/
def checkRingAttach (e : Entry) (_ : Dev) : Option Nat :=
  if e.inl 12 8 % 4096 ≠ 0 then some 0x0C
  else if e.inl 20 8 % 4096 ≠ 0 || e.inl 20 8 < 65536 then some 0x14 else none

/-- The attached windows. -/
def Dev.attachedWins (d : Dev) : List Win := d.arch.wins.toList.filter (·.attached)

/-- RING_ATTACH's effect. (DEDUCED, log 79) -/
def effRingAttach (e : Entry) (d : Dev) : Dev × Reply :=
  let w := e.sel 5 0
  let base := e.inl 12 8
  let size := e.inl 20 8
  let o := e.inl 28 1
  let total := (d.attachedWins.map (·.size)).foldl (· + ·) size
  if (d.win w).attached then (d, { status := .noResource, detail := 2 })
  else if d.attachedWins.any (fun x => decide (x.base < base + size) && decide (base < x.base + x.size)) then (d, badParam 0x0C)
  else if 2 ^ 42 < total then (d, { status := .noResource, detail := 3 })
  else
    let x := { d.win w with
      attached := true, base := base, size := size, overwrite := o.testBit 0, noSnoop := o.testBit 1, peer := o.testBit 2
      wp := 0, rp := 0, ret := 0, tail := 0, rpHeld := 0, retHeld := 0, placed := [], live := [], retainEn := true }
    let d := d.setWin w x
    ({ d with host := { d.host with downWindows := d.host.downWindows &&& ~~~BitVec.ofNat 64 (1 <<< w) } }.noteAttached, {})

def formRingRelease : Form := { code := 0x0A02, managed := false, states := stIASHF, sel := 0x3F }

/-- RING_RELEASE's effect: the records not yet published are discarded, and the taps that write to the window end. -/
def effRingRelease (e : Entry) (d : Dev) : Dev × Reply :=
  let w := e.sel 5 0
  let x := d.win w
  if !x.attached then (d, {})
  else
    let here := fun (rs : List StreamRec) => (rs.filter (fun r => r.win == w)).length
    let lost := (x.placed.filter (fun p => !p.pad)).length + (d.arch.queue.filter (fun r => r.1 == w)).length +
      here d.arch.forecasts + here d.arch.views + here d.arch.taps
    let keep := fun (rs : List StreamRec) => rs.filter (fun r => r.win != w)
    let d := { d with arch := { d.arch with
      queue := d.arch.queue.filter (fun r => r.1 != w), forecasts := keep d.arch.forecasts, views := keep d.arch.views
      taps := keep d.arch.taps } }
    let y := { x.detach with drops := sat32 (x.drops + lost), dropped := x.dropped || lost != 0 }
    let d := (d.setWin w y).noteAttached
    let d := if lost = 0 then d else d.orBits Reg.RING_EVENT 1
    (d.endTaps (fun t => t.window == w) 3, { result := x.wp })

/-! Publishing (R407). -/

/-- The next record of a list of placements, with the pads before it, and what is left. -/
def nextPlaced : List Placed → Option (List Placed × List Placed)
  | [] => none
  | p :: rest =>
    if p.pad then (nextPlaced rest).map (fun q => (p :: q.1, q.2)) else some ([p], rest)

/-- R39, R40: the writes of a record, or of a pad, to its window. Event copies and the other records alike carry Relaxed Ordering
where Device Control enables it, and No Snoop where the window has it too and is no peer's (R403). -/
def Dev.writeRecord (d : Dev) (w : Nat) (p : Placed) : Dev :=
  let x := d.win w
  (writePieces d.host.maxPayload p.bytes.length (x.base + p.start % x.size) p.bytes).foldl (fun d t =>
    d.send (.write w t.1 t.2 d.host.relaxedOrdering (d.host.noSnoop && x.noSnoop && !x.peer))) d

/-- RECORD_PUBLISH (R407): the oldest record placed in a window is written, and WP moves past it in one write. -/
def Dev.publish (d : Dev) (w : Nat) : Dev :=
  let x := d.win w
  if !d.winOpen w then d
  else
    match nextPlaced x.placed with
    | none => d
    | some (now, rest) =>
      let wp := x.wp + (now.map (·.len)).foldl (· + ·) 0
      let d := now.foldl (fun d p => d.writeRecord w p) d
      let y := { x with
        wp := wp, placed := rest, live := x.live ++ now.map (fun p => (p.start, p.len)), records := sat32 (x.records + 1) }
      (d.setWin w y).send (.wp w wp)

/-! Pointers (R408). -/

/-- R408: a write of RP. -/
def Dev.writeRp (d : Dev) (w v : Nat) : Dev :=
  let x := d.win w
  if !x.attached then d
  else if x.rp ≤ v && v ≤ x.wp then
    d.setWin w { x with rp := v, live := x.live.filter (fun r => decide (v < r.1 + r.2)) }
  else
    ((d.setWin w { x with ptrErr := true }).orBits Reg.RING_EVENT 1).raise
      { source := 514, inst := w, key := w, data := [(1, w), (8, v)], limited := true }

/-- RP_LO: the low half joins the half held for it. -/
def Dev.rpLo (d : Dev) (w lo : Nat) : Dev := d.writeRp w (lo % 2 ^ 32 + (d.win w).rpHeld * 2 ^ 32)

/-- A read of a window register by offset (R423). -/
def Dev.readWin (d : Dev) (w off : Nat) : Dev × Nat :=
  let x := d.win w
  match off with
  | 0x00 => (d.setWin w { x with wpHi := x.wp / 2 ^ 32 }, x.wp % 2 ^ 32)
  | 0x04 => (d, x.wpHi)
  | 0x08 => (d.setWin w { x with rpHi := x.rp / 2 ^ 32 }, x.rp % 2 ^ 32)
  | 0x0C => (d, x.rpHi)
  | 0x10 => (d.setWin w { x with retHi := x.ret / 2 ^ 32 }, x.ret % 2 ^ 32)
  | 0x14 => (d, x.retHi)
  | 0x18 => (d.setWin w { x with tailHi := x.tail / 2 ^ 32 }, x.tail % 2 ^ 32)
  | 0x1C => (d, x.tailHi)
  | 0x20 => (d, 2 ^ 31 * b2n x.attached + 2 ^ 30 * b2n x.overwrite + 2 ^ 29 * b2n x.peer + 2 ^ 28 * b2n x.noSnoop +
      2 ^ 27 * b2n x.retainEn + 4 * b2n x.ptrErr + 2 * b2n x.overwritten + b2n x.dropped)
  | 0x24 => (d.setWin w { x with drops := 0 }, x.drops)
  | 0x28 => (d.setWin w { x with records := 0 }, x.records)
  | 0x30 => (d.setWin w { x with overwrites := 0 }, x.overwrites)
  | 0x34 => (d, if x.attached then x.size / 4096 else 0)
  | _ => (d, 0)

/-- A write of a window register by offset (R423). -/
def Dev.writeWin (d : Dev) (w off v : Nat) : Dev :=
  let x := d.win w
  match off with
  | 0x08 => d.rpLo w v
  | 0x0C => d.setWin w { x with rpHeld := v % 2 ^ 32 }
  | 0x10 => if x.attached then d.setWin w { x with ret := v % 2 ^ 32 + x.retHeld * 2 ^ 32 } else d
  | 0x14 => d.setWin w { x with retHeld := v % 2 ^ 32 }
  | 0x20 => d.setWin w { x with
      retainEn := v.testBit 27, ptrErr := x.ptrErr && !v.testBit 2, overwritten := x.overwritten && !v.testBit 1
      dropped := x.dropped && !v.testBit 0 }
  | _ => d

/-! Snapshots (R413). -/

/-- R413: the words of a snapshot, none where EN is clear. -/
def Dev.snapWords (d : Dev) : List (Option Word) :=
  (List.range 8).map (fun i =>
    if d.flag Reg.SNAP_ADDR_EN i then some (d.readWord (d.get Reg.SNAP_PAGE i) (d.get Reg.SNAP_WORD i)) else none)

/-- R413: a snapshot record. -/
def Dev.snapRecord (d : Dev) (r : SnapReq) : List Byte :=
  let ws := d.snapWords
  let valid := maskOf ((List.range 8).filter (fun i => ((ws[i]?).getD none).isSome))
  sealAt 0x1C (pack [(1, 0x4E), (1, r.timer), (1, r.cause), (1, valid), (4, r.line), (8, r.tb),
    (4, sat32 (d.clk.bus - r.edge)), (2, d.conf.gen), (6, 0), (4, 0)] ++ wordBytes (ws.map (fun w => w.getD 0)))

/-- SNAPSHOT (R413): the oldest request is served. -/
def Dev.snapshot (d : Dev) : Dev :=
  match d.arch.snaps with
  | [] => d
  | r :: rest =>
    let d := { d with arch := { d.arch with snaps := rest } }
    let w := d.get Reg.SNAP_WINDOW
    if !d.flag Reg.SNAP_EN then d
    else d.archive .snap w (d.snapRecord r)

/-! Carriage checks and the line store (R419, R420). -/

/-- The line store answers (R475). -/
def Dev.storeOn (d : Dev) : Bool := d.domainReady 15 && d.domainReady 16

/-- An error of the line store at an address in 64 B units, corrected or not. -/
def Dev.storeError (d : Dev) (corrected : Bool) (addr : Nat) : Dev :=
  if corrected then ((d.count Reg.LS_CES).orBits Reg.LS_CE 1).raise { source := 519, data := [(4, addr)], limited := true }
  else
    (((d.count Reg.LS_UES).orBits Reg.LS_UE 1).put Reg.LS_UE_ADDR addr).raise
      { source := 520, data := [(4, addr)], limited := true }

/-- R419: an error that a carriage check finds at a stage: corrected, or not and then, on the sorting path, a stopping fault.
(DESIGN CHOICE, log 139) -/
def Dev.carriage (d : Dev) (path : Bool) (stage : Nat) (corrected : Bool) : Dev :=
  if corrected then
    ((d.count Reg.CARRIAGE_CES).orBits Reg.CARRIAGE_CE 1).raise { source := 517, data := [(1, stage)], limited := true }
  else if path then (d.orBits Reg.CARRIAGE_UE 1).stopOn { source := 518, data := [(1, stage)], limited := true } 4
  else d

/-- R419: the errors found in the data of a line on the sorting path. -/
def Dev.pathErrors (d : Dev) (errs : List CarriageErr) : Dev := errs.foldl (fun d e => d.carriage true e.stage e.corrected) d

/-- R419, R420: an error found in the data of a record. -/
def Dev.recordError (d : Dev) (e : RecordErr) : Dev :=
  match e with
  | .carriage x => d.carriage false x.stage x.corrected
  | .store addr corrected => d.storeError corrected addr.toNat

/-- R419, R420: an error that the record is poisoned for. -/
def RecordErr.poisons : RecordErr → Bool
  | .carriage x => !x.corrected
  | .store _ corrected => !corrected

/-- R421: the oldest record placed in a window is poisoned, and counted. -/
def Dev.poisonOldest (d : Dev) (w : Nat) : Dev :=
  let x := d.win w
  let i := x.placed.findIdx (fun p => !p.pad)
  match x.placed[i]? with
  | none => d
  | some p =>
    let type := leAt p.bytes 0 1
    let d := d.setWin w { x with placed := x.placed.set i { p with bytes := poisonAt (recCrcOffset type) p.bytes } }
    ((d.count Reg.POISONED).orBits Reg.POISON 1).raise { source := 521, inst := w, key := w, data := [(1, w), (1, type)], limited := true }

/-- R419 to R421: the errors found in the data of the record that a window publishes next. -/
def Dev.recordErrors (d : Dev) (w : Nat) (errs : List RecordErr) : Dev :=
  if !d.winOpen w || (nextPlaced (d.win w).placed).isNone then d
  else
    let d := errs.foldl Dev.recordError d
    if errs.any RecordErr.poisons then d.poisonOldest w else d

/-- BACKGROUND_SCRUB (R420, R460): the scrub has come to a percentage of its pass, with the error that it found, if any.
(DEDUCED, log 80) -/
def Dev.scrub (d : Dev) (percent : Nat) (err : Option (Bool × Nat)) : Dev :=
  if !d.storeOn || d.therm.scrubPaused then d
  else
    let d := d.put Reg.SCRUB_PASS (min percent 99)
    match err with
    | none => d
    | some (corrected, addr) => d.storeError corrected addr

end Sys2Proof.Machine
end

