-- ==== Sys2Proof/Machine/Firmware.lean ====
section
/-!
DEFINITION. Firmware (R430 to R442): images, secure boot's checks, pairing, FW_STAGE, FW_VERIFY, FW_ACTIVATE, UNLOCK_UNTESTED; and
IDENTIFY (R451) and LOG_READ (R450).
-/

namespace Sys2Proof.Machine

/-! Images (R430 to R432). -/

/-- The size of a slot of a kind, 0 BFW or 1 SQM (R428). -/
def slotSize (kind : Nat) : Nat := if kind = 0 then 6 * 1048576 else 1048576

/-- The slot of a kind, in `Flash.slots`. -/
def slotIndex (kind slot : Nat) : Fin 4 := ⟨(2 * kind + slot) % 4, Nat.mod_lt _ (by decide)⟩

def Flash.slotBytes (f : Flash) (kind slot : Nat) : List Byte := f.slots[slotIndex kind slot]

/-- Bytes of a slot; erased flash reads FFh. -/
def slotRead (bs : List Byte) (off n : Nat) : List Byte :=
  ((bs.drop off).take n) ++ List.replicate (n - ((bs.drop off).take n).length) 0xFF

/-- A number of a slot. -/
def slotNat (bs : List Byte) (off n : Nat) : Nat := leNat (slotRead bs off n)

/-- R430: the header of an image. -/
structure Image where
  magic : Nat
  kind : Nat
  key : Nat
  iface : Nat
  version : Nat
  bodyLen : Nat
  /-- The pairs that count: SQM VERSION and STEPPING. -/
  pairs : List (Nat × Nat)
  deriving DecidableEq, Repr

def imageOf (bs : List Byte) : Image :=
  ⟨slotNat bs 0 4, slotNat bs 4 1, slotNat bs 5 1, slotNat bs 6 2, slotNat bs 8 4, slotNat bs 12 4,
    (List.range (min 32 (slotNat bs 16 1))).map (fun i => (slotNat bs (32 + 8 * i) 4, slotNat bs (36 + 8 * i) 1))⟩

def Flash.image (f : Flash) (kind slot : Nat) : Image := imageOf (f.slotBytes kind slot)

/-- R434: MAGIC, KIND and fit. "BFW1" and "SQM1", little-endian. -/
def Image.fits (x : Image) (kind : Nat) : Bool :=
  x.magic == (if kind = 0 then 0x31574642 else 0x314D5153) && x.kind == kind && decide (384 + x.bodyLen ≤ slotSize kind)

/-- R430, R431: the key is one of the three, is not revoked, and made the signature. (DESIGN CHOICE, log 13) -/
def Dev.signed (d : Dev) (kind slot : Nat) : Bool :=
  let f := d.baro.flash
  let bs := f.slotBytes kind slot
  let x := imageOf bs
  decide (x.key < 3) && !d.baro.revoked.getLsbD x.key &&
    (f.factory[slotIndex kind slot] ||
      Config.signatureGood x.key (slotRead bs 0 0x120 ++ slotRead bs 0x180 x.bodyLen) (slotRead bs 0x120 0x60))

/-- R434: an image verifies. -/
def Dev.verifies (d : Dev) (kind slot : Nat) : Bool := (d.baro.flash.image kind slot).fits kind && d.signed kind slot

/-- R432: the pairing outcome, 0 TESTED, 1 UNTESTED, 2 MISMATCH. -/
def pairing (bfw sqm : Image) (stepping : Nat) : Nat :=
  if bfw.iface ≠ sqm.iface then 2 else if bfw.pairs.contains (sqm.version, stepping) then 0 else 1

/-- R434: the slot of a kind that boots, the one named first. -/
def Dev.bootSlot (d : Dev) (kind named : Nat) : Option Nat :=
  if d.verifies kind named then some named else if d.verifies kind (1 - named) then some (1 - named) else none

/-- The slots that the record in effect names, and those that run (R433, R434). -/
def Dev.namedSlot (d : Dev) (kind : Nat) : Nat := if kind = 0 then d.baro.flash.named.1 else d.baro.flash.named.2
def Dev.runningSlot (d : Dev) (kind : Nat) : Nat := if kind = 0 then d.get Reg.BFW_SLOT else d.get Reg.SQM_SLOT

/-- R438: the slot that FW_STAGE writes. -/
def Dev.stageSlot (d : Dev) (kind : Nat) : Nat := if d.baro.booted then 1 - d.runningSlot kind else d.namedSlot kind

/-- The registers of a kind. -/
def stagedReg (kind : Nat) : Fld := if kind = 0 then Reg.STAGED_BFW else Reg.STAGED_SQM
def verifiedReg (kind : Nat) : Fld := if kind = 0 then Reg.BFW_VERIFIED else Reg.SQM_VERIFIED

/-! FW_STAGE (R438). -/

def formFwStage : Form :=
  { code := 0x0D01, managed := true, states := stAll, sel := 1, inl := inlBytes 12 15 ++ [(16, 1)] ++ inlBytes 20 23, buf := true }

/-- R442: BUF_LEN. -/
def checkFwStage (e : Entry) (_ : Dev) : Option Nat :=
  let n := e.bufLen.toNat
  if n < 4 || 65536 < n || n % 4 ≠ 0 then some 0x38 else none

/-- R438: a chunk in place; the blocks that it enters are erased. -/
def stageChunk (old : List Byte) (off : Nat) (data : List Byte) : List Byte :=
  let stop := off + data.length
  let wiped := (stop + 65535) / 65536 * 65536
  slotRead old 0 off ++ data ++ (if wiped < old.length then List.replicate (wiped - stop) 0xFF ++ old.drop wiped else [])

/-- FW_STAGE's effect. (DEDUCED, log 77) -/
def effFwStage (e : Entry) (d : Dev) : Dev × Reply :=
  let kind := e.sel 0 0
  let off := e.inl 12 4
  let first := (e.inl 16 1).testBit 0
  let done := if first then 0 else d.get (stagedReg kind)
  let busy := match d.longOp with | some o => o.opcode == 0x0D02 || o.opcode == 0x0D03 | none => false
  if busy then (d, { status := .busy, detail := 2 })
  else if off ≠ done then (d, badParam 0x0C)
  else if slotSize kind < off + e.bufLen.toNat then (d, badParam 0x14)
  else if crc32c e.data ≠ e.inl 20 4 then (d, { status := .checkFail, detail := 2 })
  else if !d.windowOpen then (d.refuseWindow, { status := .thermalWindow })
  else
    let i := slotIndex kind (d.stageSlot kind)
    let d := d.setBaro (fun b => { b with flash := { b.flash with
      slots := b.flash.slots.set i.val (stageChunk b.flash.slots[i] off e.data) i.isLt
      factory := b.flash.factory.set i.val false i.isLt } })
    let staged := off + e.bufLen.toNat
    ((d.put (stagedReg kind) staged).putFlag (verifiedReg kind) false, { result := staged })

/-! FW_VERIFY (R439). -/

def formFwVerify : Form := { code := 0x0D02, managed := true, states := stAll, sel := 1, long := true }

/-- FW_VERIFY's effect: the checks run on until FW_VERIFY_DONE. -/
def effFwVerify (e : Entry) (d : Dev) : Dev × Reply :=
  (d.setChan (fun c => { c with longArgs := [e.sel 0 0] }), { held := true })

/-- R439: the other kind's image: the one verified, or the one running. -/
def Dev.otherImage (d : Dev) (kind : Nat) : Option Image :=
  if d.flag (verifiedReg kind) then some (d.baro.flash.image kind (d.stageSlot kind))
  else if d.baro.booted then some (d.baro.flash.image kind (d.runningSlot kind))
  else none

/-- R432, R439: the outcome that an image of a kind would have; a free value where there is no other image. -/
def Dev.outcomeWith (d : Dev) (kind : Nat) (x : Image) : Dev × Nat :=
  match d.otherImage (1 - kind) with
  | some y => (d, if kind = 0 then pairing x y (d.get Reg.STEPPING) else pairing y x (d.get Reg.STEPPING))
  | none => let (d, n) := d.takeFree; (d, Config.freeValue n % 3)

/-- A long operation of an opcode runs. -/
def Dev.longIs (d : Dev) (opcode : Nat) : Bool := match d.longOp with | some o => o.opcode == opcode | none => false

/-- FW_VERIFY_DONE (R439). -/
def Dev.fwVerifyDone (d : Dev) : Dev :=
  if !d.longIs 0x0D02 || d.baro.halted then d
  else
    let kind := (d.chan.longArgs.head?).getD 0 % 2
    let slot := d.stageSlot kind
    let x := d.baro.flash.image kind slot
    if !x.fits kind then d.finishLong 0x0D02 { status := .checkFail, detail := 3 }
    else if !d.signed kind slot then d.finishLong 0x0D02 { status := .authFail }
    else
      let (d, outcome) := (d.putFlag (verifiedReg kind) true).outcomeWith kind x
      d.finishLong 0x0D02 { result := x.version + x.iface * 2 ^ 32 + outcome * 2 ^ 48 }

/-! FW_ACTIVATE (R440). -/

def formFwActivate : Form := { code := 0x0D03, managed := true, states := stAll, inl := [(12, 0xF)], long := true }

def checkFwActivate (e : Entry) (_ : Dev) : Option Nat := if e.inl 12 1 % 4 = 0 then some 0x0C else none

/-- R440: the slots that FW_ACTIVATE with a mask would name. -/
def Dev.newSlots (d : Dev) (mask : Nat) : Nat × Nat :=
  (if mask.testBit 0 then d.stageSlot 0 else d.namedSlot 0, if mask.testBit 1 then d.stageSlot 1 else d.namedSlot 1)

/-- R440: the outcome of the pair that would boot; none where an image that no one names does not verify. -/
def Dev.wouldBoot (d : Dev) (mask : Nat) : Option Nat :=
  let s := d.newSlots mask
  match (if mask.testBit 0 then some s.1 else d.bootSlot 0 s.1), (if mask.testBit 1 then some s.2 else d.bootSlot 1 s.2) with
  | some b, some q => some (pairing (d.baro.flash.image 0 b) (d.baro.flash.image 1 q) (d.get Reg.STEPPING))
  | _, _ => none

/-- R440: the selector copy that is not in effect. -/
def Flash.otherCopy (f : Flash) : Fin 2 :=
  match f.selected with
  | none => 0
  | some s => if f.sel[0].valid && f.sel[0] == s then 1 else 0

/-- FW_ACTIVATE's effect: its checks, and the erase of the copy. -/
def effFwActivate (e : Entry) (d : Dev) : Dev × Reply :=
  let o := e.inl 12 1
  let bad := (o.testBit 0 && !d.flag Reg.BFW_VERIFIED) || (o.testBit 1 && !d.flag Reg.SQM_VERIFIED)
  let outcome := d.wouldBoot o
  if bad then (d, { status := .checkFail, detail := 3 })
  else if outcome = some 2 then (d, { status := .versionMismatch, detail := 1 })
  else if outcome = some 1 && !o.testBit 2 then (d, { status := .versionMismatch, detail := 2 })
  else if !d.windowOpen then (d.refuseWindow, { status := .thermalWindow })
  else
    let i := d.baro.flash.otherCopy
    let d := d.setBaro (fun b => { b with flash := { b.flash with
      sel := b.flash.sel.set i.val { b.flash.sel[i] with valid := false } i.isLt } })
    (d.setChan (fun c => { c with longArgs := [o] }), { held := true })

/-- FW_ACTIVATE_DONE (R440, R441): the copy is programmed and read back. RESET_NOW asks for RESET_UNIT after the completion. -/
def Dev.fwActivateDone (d : Dev) : Dev :=
  match d.longOp with
  | none => d
  | some c =>
    if c.opcode ≠ 0x0D03 || d.baro.halted then d
    else if !d.windowOpen then d.refuseWindow.finishLong 0x0D03 { status := .thermalWindow }
    else
      let o := (d.chan.longArgs.head?).getD 0
      let f := d.baro.flash
      let i := f.otherCopy
      let seq := match f.selected with | some s => (s.seq + 1) % 2 ^ 32 | none => 1
      let s := d.newSlots o
      let new : Selector := ⟨true, seq, s.1, s.2, (f.image 0 s.1).version, (f.image 1 s.2).version⟩
      let d := d.setBaro (fun b => { b with flash := { f with sel := f.sel.set i.val new i.isLt } })
      let d := d.finishLong 0x0D03 { result := seq }
      if o.testBit 3 then { d with power := { d.power with resetAsk := some (.resetNow, c.sq, c.tag) } } else d

/-! UNLOCK_UNTESTED (R436, R437). -/

def formUnlockUntested : Form :=
  { code := 0x0D04, managed := true, states := [.restricted, .idle], inl := [(12, 3)] ++ inlBytes 16 24 }

/-- LIVE needs UNLOCKED, set before or in the same command. (DEDUCED, log 81) -/
def checkUnlockUntested (e : Entry) (d : Dev) : Option Nat :=
  if (e.inl 12 1).testBit 1 && !(e.inl 12 1).testBit 0 && !d.flag Reg.UNLOCKED then some 0x0C else none

/-- UNLOCK_UNTESTED's effect. -/
def effUnlockUntested (e : Entry) (d : Dev) : Dev × Reply :=
  let o := e.inl 12 1
  if d.get Reg.PAIRING ≠ 1 then (d, { status := .wrongState })
  else if e.inl 16 4 ≠ d.get Reg.BFW_VERSION || e.inl 20 4 ≠ d.get Reg.SQM_VERSION || e.inl 24 1 ≠ d.get Reg.STEPPING then
    (d, { status := .authFail })
  else
    let d := if o.testBit 0 then d.putFlag Reg.UNLOCKED true else d
    let d := if o.testBit 1 then d.putFlag Reg.LIVE_OK true else d
    let d := (((d.logOpen 8 0x0D04 0).orBits Reg.UNLOCK 1).raise { source := 550 })
    let d := if d.st == UState.restricted && d.flag Reg.UNLOCKED then d.enter .idle 0x0D04 else d
    (d, { result := d.get Reg.UNLOCKED + 2 * d.get Reg.LIVE_OK + 16 * d.st.code })

/-! IDENTIFY (R451). -/

def formIdentify : Form := { code := 0x0101, managed := true, states := stAll, buf := true }

def checkIdentify (e : Entry) (_ : Dev) : Option Nat := if e.bufLen = 0 || e.bufLen = 64 then none else some 0x38

/-- The 64 B identity record. -/
def Dev.identity (d : Dev) : List Byte :=
  let serial := (d.baro.flash.serial ++ List.replicate 16 0).take 16
  sealAt 0x3C (pack [(2, d.get Reg.DEVICE), (1, d.get Reg.STEPPING), (1, d.get Reg.ROM_VERSION), (2, d.get Reg.UNIT_ID),
    (2, d.get Reg.BFW_IFACE), (2, d.get Reg.SQM_IFACE), (2, 0), (4, d.get Reg.BFW_VERSION), (4, d.get Reg.SQM_VERSION),
    (4, (d.readWord 0x0D00 4).toNat), (4, (d.readWord 0x0D00 3).toNat), (4, d.get Reg.BOOT_COUNT)] ++ serial ++ pack [(12, 0), (4, 0)])

/-- IDENTIFY's effect. -/
def effIdentify (e : Entry) (d : Dev) : Dev × Reply :=
  (d, { result := d.get Reg.BFW_VERSION + 2 ^ 32 * d.get Reg.SQM_VERSION, out := if e.bufLen = 0 then [] else d.identity })

/-! LOG_READ (R449, R450). -/

/-- R449: the 32 B of a log entry. -/
def LogEntry.bytes (x : LogEntry) : List Byte :=
  sealAt 0x1C (pack [(4, x.seq), (2, x.boot), (1, x.kind), (1, x.flags), (8, x.tb), (2, x.source), (2, x.code), (8, x.data), (4, 0)])

/-- Every entry kept, oldest first, those in retention included. -/
def Dev.logEntries (d : Dev) : List LogEntry :=
  let held := d.baro.logHeld.map (fun e => if d.heldLong e then { e with flags := e.flags ||| 2 } else e)
  let trip := match d.therm.tripRec with | some e => [e] | none => []
  ((trip ++ held).foldr logInsert d.baro.flash.log).reverse

def formLogRead : Form := { code := 0x0D05, managed := true, states := stAll, inl := inlBytes 12 15 ++ [(16, 1)], buf := true }

def checkLogRead (e : Entry) (_ : Dev) : Option Nat :=
  let n := e.bufLen.toNat
  if n < 32 || 65536 < n || n % 32 ≠ 0 then some 0x38 else none

/-- LOG_READ's effect. -/
def effLogRead (e : Entry) (d : Dev) : Dev × Reply :=
  let all := d.logEntries
  let first := e.inl 12 4
  let from' := if (e.inl 16 1).testBit 0 then all else all.filter (fun x => lineFrom x.seq first)
  let got := from'.take (e.bufLen.toNat / 32)
  let next := match got.getLast? with
    | some x => (x.seq + 1) % 2 ^ 32
    | none => if (e.inl 16 1).testBit 0 then d.get Reg.LOG_NEXT else first
  (d, { out := got.flatMap LogEntry.bytes, result := got.length + next * 2 ^ 32 })

end Sys2Proof.Machine
end

