-- ==== Sys2Proof/Machine/Recipe.lean ====
section
/-!
DEFINITION. Recipes (R443 to R446): the image and its sections, RECIPE_LOAD's check and apply phases, RECIPE_SAVE.
-/

namespace Sys2Proof.Machine

/-! Images (R443). -/

/-- A section of a recipe image. -/
structure Section where
  kind : Nat
  id : Nat
  inst : Nat
  first : Nat
  words : List Word
  deriving DecidableEq, Repr

/-- The sections of an image after its header; `n` are left, and the check word follows. None where they do not fill the
image exactly. -/
def sectionsOf : Nat → List Word → Option (List Section)
  | 0, ws => if ws.length = 1 then some [] else none
  | n + 1, a :: b :: c :: k :: rest =>
    if rest.length < k.toNat then none
    else (sectionsOf n (rest.drop k.toNat)).map (fun ss =>
      ⟨a.toNat % 256, a.toNat / 65536, b.toNat % 65536, c.toNat, rest.take k.toNat⟩ :: ss)
  | _ + 1, _ => none

/-- The words of a section with its header. (DESIGN CHOICE, log 82) -/
def Section.image (s : Section) : List Word :=
  [BitVec.ofNat 32 (s.kind + 2 ^ 16 * s.id), BitVec.ofNat 32 s.inst, BitVec.ofNat 32 s.first, BitVec.ofNat 32 s.words.length] ++ s.words

/-- A word of an image. -/
def rcp (ws : List Word) (i : Nat) : Nat := ((ws[i]?).getD 0).toNat

/-- The pages that a recipe may hold. -/
def recipePages : List Nat :=
  [0x0100, 0x0200, 0x0280, 0x0300, 0x0400, 0x0480, 0x0500, 0x0580, 0x0600, 0x0700, 0x0800, 0x0900, 0x0980, 0x0A00, 0x0B00, 0x0C00]

/-- The tables that a recipe may hold. -/
def recipeTables : List Nat := [0x04, 0x05, 0x06, 0x07, 0x08, 0x09, 0x0A, 0x0B, 0x0C, 0x0E, 0x0F, 0x10]

/-- The bits of a word that a recipe carries: RW and ST fields. -/
def recipeBits (page w : Nat) : Nat := bitsWhere (fun f => f.acc == .rw || f.acc == .st) page w

/-- The section is one that R443 lists, within its page or table. -/
def Section.known (s : Section) : Bool :=
  let stop := s.first + s.words.length
  match s.kind with
  | 0 => s.inst == 0 && ((recipePages.contains s.id && decide (stop ≤ 256)) || (s.id == 0x0E00 && decide (2 ≤ s.first) &&
      decide (stop ≤ 5)))
  | 1 => recipeTables.contains s.id && decide (s.inst < tableInsts s.id) && decide (stop ≤ (tableLen s.id).getD 0)
  | 2 => s.first == 0 && s.words.length == 5
  | 3 => s.first == 0 && s.words.length == 1
  | _ => false

/-! Applying sections (R445). -/

/-- The words of a page section, each with its place. -/
def Section.places (s : Section) : List (Nat × Nat) :=
  (List.range s.words.length).map (fun i => (s.first + i, rcp s.words i &&& recipeBits s.id (s.first + i)))

/-- A page section stored: its words, without what they set going. -/
def Dev.putPage (d : Dev) (s : Section) : Dev := s.places.foldl (fun d p => d.storeWord s.id p.1 p.2) d

/-- The words of a table section: those after COUNT load as 0. -/
def Section.whole (s : Section) : List Word :=
  tableWords s.id s.first s.words ++ List.replicate ((tableLen s.id).getD 0 - s.first - s.words.length) 0

/-- A table section stored in the copy that a TABLE_WRITE reaches (R77). -/
def Dev.putTable (d : Dev) (s : Section) : Dev :=
  let key := tableKey s.id s.inst s.first
  if s.id = 4 || s.id = 5 then { d with pipe := { d.pipe with banks := Store.putAll tableDefault d.pipe.banks key s.whole } }
  else if s.id = 0x10 then
    let d := { d with engine := { d.engine with prog := Store.putAll tableDefault d.engine.prog key s.whole } }
    d.setEng s.inst { d.eng s.inst with loaded := true }
  else d.setChan (fun c => { c with shadow := Store.putAll tableDefault c.shadow key s.whole })

/-- A section in place, but for LSYN's. -/
def Dev.putSection (d : Dev) (s : Section) : Dev :=
  match s.kind with
  | 0 => d.putPage s
  | 1 => d.putTable s
  | 3 => { d with host := { d.host with autonomous := (rcp s.words 0).testBit 1 } }
  | _ => d

/-- The LSYN section's settings: N_INT, N_FRAC, POSTDIV, DITHER and DITHER_SEED, a word each. -/
def Dev.recipeLsyn (d : Dev) (s : Section) : LsynWant :=
  ⟨d.flag Reg.LSYN_EN, (rcp s.words 3).testBit 0, false, 0, rcp s.words 0 * 2 ^ 24 + rcp s.words 1 % 2 ^ 24, rcp s.words 2, rcp s.words 4⟩

/-- The dividers of an LSYN section in place, for checks against them. -/
def Dev.lsynSeen (d : Dev) (s : Section) : Dev :=
  if s.kind ≠ 2 then d
  else
    let w := d.recipeLsyn s
    { (d.putNf w.nf).put Reg.POSTDIV w.postdiv with clk := { d.clk with ramp := none } }

/-! The check (R445). -/

/-- A value of a section that its field or table refuses. -/
def Section.valueBad (s : Section) : Bool :=
  match s.kind with
  | 0 => s.places.any (fun p => (Sys2Proof.Machine.valueBad s.id p.1 p.2).isSome)
  | 1 => s.id == 0x0A && s.words.any (fun w => decide (4 < w.toNat % 8))
  | _ => false

/-- The values of a page section against the others. -/
def Dev.sectionCross (d : Dev) (s : Section) : Bool :=
  s.kind == 0 && (d.crossBad s.id s.first (s.places.map (·.2)) true).isSome

/-- An illegal instruction in a program section (R338). -/
def Section.programBad (s : Section) : Bool :=
  s.kind == 1 && s.id == 0x10 &&
    (s.whole.flatMap (fun w => [w.toNat % 65536, w.toNat / 65536])).any instrIllegal

/-- The place of the first section that fits, or of the first of another kind that could be the cause, or 0. -/
def blame (ss : List Section) (which other : Section → Bool) : Nat :=
  match ss.findIdx? which with
  | some i => i
  | none => (ss.findIdx? other).getD 0

/-- R445: the first check that an image fails: its section and code. `new` is the unit with every section in place.
(DEDUCED, log 83) -/
def Dev.recipeFails (new : Dev) (engines : Nat) (ss : List Section) : Option (Nat × Nat) :=
  let one := fun (p : Section → Bool) (code : Nat) => (ss.findIdx? p).map (fun i => (i, code))
  let maps := new.mapsBad new.nextConf
  let at' := fun (id page code : Nat) => some (blame ss (fun s => s.kind == 1 && s.id == id) (fun s => s.kind == 0 && s.id == page), code)
  let lsyn := fun (s : Section) => s.kind == 2 && (match new.lsynCheck (new.recipeLsyn s) with | .error _ => true | .ok _ => false)
  match one (fun s => !s.known) 6 with
  | some r => some r
  | none => match one Section.valueBad 1 with
    | some r => some r
    | none => match one (ss.foldl Dev.lsynSeen new).sectionCross 1 with
      | some r => some r
      | none =>
        if maps.1.isSome then at' 0x0C 0x0580 2
        else if maps.2.isSome then at' 0x0B 0x0800 3
        else match one Section.programBad 4 with
          | some r => some r
          | none => match new.startEngines engines true true with
            | .inr _ => at' 0x10 0x0900 4
            | .inl _ => one lsyn 5

/-! RECIPE_LOAD (R445). -/

def formRecipeLoad : Form := { code := 0x0106, managed := true, states := [.idle], sel := 0x3F, long := true }

/-- The unit with its engines stopped and every section in place. -/
def Dev.withSections (d : Dev) (ss : List Section) : Dev := ss.foldl Dev.putSection (d.stopEngines 0xFFFF false)

/-- What page sections set going, once they are in place (R130, R355, R397, R457). -/
def Dev.sectionActs (old d : Dev) (s : Section) : Dev :=
  if s.kind = 0 then s.places.foldl (Dev.wordActs old s.id) d else d

/-- R445: the check phase, and the apply phase up to its commit. -/
def Dev.loadRecipe (d : Dev) (slot : Nat) : Dev × Reply :=
  let ws := d.baro.flash.recipe slot
  if d.runOn then (d, { status := .wrongState })
  else if ws.isEmpty then (d, { status := .noResource, detail := 4 })
  else if !imageGood ws then (d, { status := .checkFail, detail := 3 })
  else if rcp ws 1 % 65536 ≠ d.get Reg.BFW_IFACE then (d, { status := .versionMismatch })
  else
    let note := fun (d : Dev) (s c : Nat) => (d.put Reg.CHECK_SECTION s).put Reg.CHECK_CODE_0D00 c
    match sectionsOf (rcp ws 1 / 65536) (ws.drop 16) with
    | none => (note d 0 6, badParam 0xFF)
    | some ss =>
      let new := d.withSections ss
      match new.recipeFails (rcp ws 3 / 65536) ss with
      | some (s, c) => (note d s c, badParam 0xFF)
      | none =>
        let d := note (ss.foldl (Dev.sectionActs d) new) 0 0
        (d.setChan (fun c => { c with longArgs := [slot, rcp ws 3 / 65536] }), { held := true })

/-- RECIPE_LOAD's effect. -/
def effRecipeLoad (e : Entry) (d : Dev) : Dev × Reply := d.abortAuto.loadRecipe (e.sel 5 0)

/-- The LSYN section of an image, applied as LSYN_CONFIG does. -/
def Dev.applyLsyn (d : Dev) (s : Section) : Dev :=
  if s.kind ≠ 2 then d
  else match d.lsynCheck (d.recipeLsyn s) with
    | .ok (nf, p) => d.lsynWrite (d.recipeLsyn s) nf p
    | .error _ => d

/-- RECIPE_LOAD_DONE (R445): LSYN, the COMMIT, and the engines of ENGINE_RUN. -/
def Dev.recipeLoadDone (d : Dev) : Dev :=
  if !d.longIs 0x0106 || d.baro.halted then d
  else
    let slot := (d.chan.longArgs.head?).getD 0
    let mask := (d.chan.longArgs[1]?).getD 0
    let ws := d.baro.flash.recipe slot
    let ss := (sectionsOf (rcp ws 1 / 65536) (ws.drop 16)).getD []
    let d := ss.foldl Dev.applyLsyn d
    let (d, r) := d.tryCommit 0
    let d := match d.startEngines mask true true with | .inl d => d | .inr _ => d
    let reply : Reply := if r.status = .ok then { result := r.result / 2 ^ 32 % 2 ^ 16 } else r
    (d.logOpen 5 0x0106 reply.status.code).finishLong 0x0106 reply

/-! RECIPE_SAVE (R446). -/

def formRecipeSave : Form :=
  { code := 0x0107, managed := true, states := stIASHF, sel := 0x3F, inl := inlBytes 16 31, long := true }

/-- A page as it is saved: every word up to the last one that a recipe carries. -/
def Dev.savePage (d : Dev) (page : Nat) : Section :=
  let ws := (List.range 256).filter (fun w => recipeBits page w != 0 && (page != 0x0E00 || (2 ≤ w && w ≤ 4)))
  let first := if page = 0x0E00 then 2 else 0
  let n := (ws.getLast?.map (fun w => w + 1 - first)).getD 0
  ⟨0, page, 0, first, (List.range n).map (fun i =>
    d.readWord page (first + i) &&& BitVec.ofNat 32 (recipeBits page (first + i)))⟩

/-- A table instance as it is saved: from word 0 to its last nonzero word. -/
def Dev.saveTable (d : Dev) (id inst : Nat) : Section :=
  let all := (List.range ((tableLen id).getD 0)).map (d.tableWord false id inst)
  ⟨1, id, inst, 0, (all.reverse.dropWhile (· == 0)).reverse⟩

/-- The sections of a capture, in the order of R443. -/
def Dev.captureSections (d : Dev) : List Section :=
  (recipePages ++ [0x0E00]).map d.savePage
    ++ recipeTables.flatMap (fun id => (List.range (tableInsts id)).map (d.saveTable id))
    ++ [⟨2, 0, 0, 0, [BitVec.ofNat 32 (d.get Reg.N_INT), BitVec.ofNat 32 (d.get Reg.N_FRAC), BitVec.ofNat 32 d.postdiv,
        BitVec.ofNat 32 (d.get Reg.DITHER_EN), BitVec.ofNat 32 (d.get Reg.DITHER_SEED)]⟩,
      ⟨3, 0, 0, 0, [BitVec.ofNat 32 (2 * b2n d.host.autonomous)]⟩]

/-- R443: the image of the values in effect, without its check. SAVED_TB is `tb`. -/
def Dev.captureBody (d : Dev) (name : List Byte) (tb : Nat) : List Word :=
  let ss := d.captureSections
  let body := ss.flatMap Section.image
  leWords (pack [(4, 0x31504352), (2, d.get Reg.BFW_IFACE), (2, ss.length), (4, 4 * (body.length + 17)), (2, d.conf.gen),
    (2, d.runningOf 0xFFFF)] ++ (name ++ List.replicate 16 0).take 16 ++ pack [(8, tb), (2, d.get Reg.UNIT_ID), (22, 0)]) ++ body

/-- An image with its check. -/
def withCheck (ws : List Word) : List Word := ws ++ [BitVec.ofNat 32 (crc32c (wordBytes ws))]

/-- R446: a capture for a slot begins, after so many restarts: the image, and the generation in effect. -/
def Dev.captureFor (d : Dev) (slot tries : Nat) (name : List Byte) : Dev :=
  d.setChan (fun c => { c with
    longArgs := [slot, tries, d.conf.gen], longBytes := wordBytes (d.captureBody name d.tb), touched := false })

/-- RECIPE_SAVE's effect: the capture begins. -/
def effRecipeSave (e : Entry) (d : Dev) : Dev × Reply :=
  (d.captureFor (e.sel 5 0) 0 ((List.range 16).map (fun i => BitVec.ofNat 8 (e.inl (16 + i) 1))), { held := true })

/-- RECIPE_SAVE_DONE (R444, R446): the image captured is written. Where a COMMIT, the end of a fade, an immediate write or an engine
load took effect meanwhile, the capture starts again, three times at most. -/
def Dev.recipeSaveDone (d : Dev) : Dev :=
  if !d.longIs 0x0107 || d.baro.halted then d
  else
    let arg := fun (i : Nat) => (d.chan.longArgs[i]?).getD 0
    if d.chan.touched || d.conf.gen != arg 2 then
      if 3 ≤ arg 1 then d.finishLong 0x0107 { status := .timeout }
      else d.captureFor (arg 0) (arg 1 + 1) ((d.chan.longBytes.drop 16).take 16)
    else if !d.windowOpen then d.refuseWindow.finishLong 0x0107 { status := .thermalWindow }
    else
      let ws := withCheck (leWords d.chan.longBytes)
      match d.writeRecipe (arg 0) ws with
      | none => d.finishLong 0x0107 { status := .noResource, detail := 2 }
      | some d => d.finishLong 0x0107 { result := 4 * ws.length + arg 2 * 2 ^ 32 }

end Sys2Proof.Machine
end

