-- ==== Sys2Proof/Machine/Autostart.lean ====
section
/-!
DEFINITION. AUTOSTART (R447): its steps, each a command of the unit's own.
-/

namespace Sys2Proof.Machine

/-- An own command's status in the log (R447). (DEDUCED, log 84) -/
def Dev.autoLog (d : Dev) (opcode : Nat) (r : Reply) : Dev := d.logOpen 6 opcode (r.status.code + 256 * r.detail)

/-- A failing step: the log, AUTOSTART_FAIL, and no more steps. `status` is a completion's code and detail. -/
def Dev.autoFail (d : Dev) (status : Nat) : Dev :=
  let step := d.get Reg.AS_STEP
  ((d.log 6 547 step status).put Reg.AS_RESULT 3 |>.orBits Reg.AUTOSTART_FAIL 1).raise
    { source := 547, data := [(1, step), (2, status)] }

/-- The next step begins now. -/
def Dev.autoNext (d : Dev) (step : Nat) : Dev :=
  (d.setBaro (fun b => { b with autoSince := d.clk.bus, autoReply := none })).put Reg.AS_STEP step

/-- A long operation of the unit's own begins, or answers at once. -/
def Dev.autoLong (d : Dev) (opcode : Nat) (go : Dev → Dev × Reply) : Dev :=
  if d.longOp.isSome then d
  else
    let (d, r) := go d
    if r.held then d.setChan (fun c => { c with outst := c.outst ++ [⟨ownSq, 0, opcode, true⟩] })
    else (d.autoLog opcode r).setBaro (fun b => { b with autoReply := some (r.status.code + 256 * r.detail) })

/-- LINK_TRAIN of a group by AUTOSTART. -/
def Dev.autoTrain (d : Dev) (g : Nat) : Dev × Reply :=
  match d.trainRefuses g with
  | some r => (if r.status = .noResource then d.groupDown g else d, r)
  | none => (d.trainGroup g ⟨ownSq, 0, 0x0401, true⟩, { held := true })

/-- R447 step 2: the groups to train. -/
def Dev.autoList (d : Dev) : List Nat :=
  (List.range 6).filter (fun g => d.get Reg.GHEADS g != 0 || d.flag Reg.LANE_ROLE g)

/-- A STATE_SET of the unit's own, with its log entry; answers whether it took place. -/
def Dev.autoState (d : Dev) (new : UState) : Dev × Option Nat :=
  let (d, r) := d.setState new 0x0102
  let d := d.autoLog 0x0102 r
  (d, if r.status = .ok then none else some (r.status.code + 256 * r.detail))

/-- A command of AUTOSTART's own is at work. -/
def Dev.autoBusy (d : Dev) : Bool := d.chan.outst.any (fun o => o.sq == ownSq)

/-- AUTOSTART (R447): the Barometer looks at the step in progress and goes on with it. -/
def Dev.autostart (d : Dev) : Dev :=
  if d.get Reg.AS_RESULT ≠ 1 || d.baro.halted || d.autoBusy then d
  else
    match d.get Reg.AS_STEP with
    | 1 =>
      match d.baro.autoReply with
      | none => d.autoLong 0x0106 (fun d => d.loadRecipe (d.get Reg.AUTOSTART_SLOT))
      | some 0 => (d.setBaro (fun b => { b with autoGroups := d.autoList })).autoNext 2
      | some s => d.autoFail s
    | 2 =>
      match d.baro.autoReply, d.baro.autoGroups with
      | some 0, gs => (d.setBaro (fun b => { b with autoGroups := gs.drop 1, autoReply := none }))
      | some s, _ => d.autoFail s
      | none, g :: _ => d.autoLong 0x0401 (fun d => d.autoTrain g)
      | none, [] => d.autoNext 3
    | 3 =>
      if d.flag Reg.LSYN_SETTLED then d.autoNext 4
      else if d.clk.bus < d.baro.autoSince + 2000000 then d
      else let (d, n) := d.takeFree; d.autoFail (Config.freeValue n % 65536)
    | 4 =>
      match d.autoState .hold with
      | (d, none) => d.autoNext 5
      | (d, some s) => d.autoFail s
    | _ => d

/-- AUTOSTART_HOLD_END (R447): AUTOSTART_HOLD_MS is over; step 6 where AUTOSTART_LIVE is set. -/
def Dev.autoHoldEnd (d : Dev) : Dev :=
  if d.get Reg.AS_RESULT ≠ 1 || d.baro.halted || d.get Reg.AS_STEP ≠ 5 ||
      decide (d.clk.bus < d.baro.autoSince + 200000 * d.get Reg.AUTOSTART_HOLD_MS) then d
  else if !d.flag Reg.AUTOSTART_LIVE then d.put Reg.AS_RESULT 2
  else
    match (d.autoNext 6).autoState .sorting with
    | (d, none) => d.put Reg.AS_RESULT 2
    | (d, some s) => d.autoFail s

end Sys2Proof.Machine
end

