-- ==== Sys2Proof/Machine/Power.lean ====
section
/-!
DEFINITION. Power, resets and start-up (R472 to R485): what each reset keeps, boot selection (R434, R435), the end of start-up,
the managed intake (R427), and self-tests (R486, R487).
-/

namespace Sys2Proof.Machine

def Dev.setPower (d : Dev) (g : Power → Power) : Dev := { d with power := g d.power }

/-! The managed intake (R427, R434). -/

/-- The form and the effect of a managed opcode. -/
def managedOp (e : Entry) (selftest resetUnit : Form × (Entry → Dev → Dev × Reply)) (code : Nat) :
    Form × (Entry → Dev → Dev × Reply) :=
  match code with
  | 0x0101 => (formIdentify, effIdentify)
  | 0x0102 => (formStateSet, effStateSet)
  | 0x0104 => resetUnit
  | 0x0105 => (formResetPipeline, effResetPipeline)
  | 0x0106 => (formRecipeLoad, effRecipeLoad)
  | 0x0107 => (formRecipeSave, effRecipeSave)
  | 0x0202 => (formParamWrite e, effParamWrite)
  | 0x0205 => (formTableWrite e, effTableWrite)
  | 0x0206 => (formTableRead, effTableRead)
  | 0x0303 => (formStatsRead, effStatsRead)
  | 0x0401 => (formLinkTrain, effLinkTrain)
  | 0x0403 => (formLanePrbs, effLanePrbs)
  | 0x0404 => (formHeadControl, effHeadControl)
  | 0x0701 => (formValveTest, effValveTest)
  | 0x0801 => (formEngineLoad, effEngineLoad)
  | 0x0805 => (formTimerConfig, effTimerConfig)
  | 0x0901 => (formAuxSequence, effAuxSequence)
  | 0x0A01 => (formRingAttach, effRingAttach)
  | 0x0A03 => (formTapArm, effTapArm)
  | 0x0B01 => (formLsynConfig, effLsynConfig)
  | 0x0B02 => (formLsynRamp, effLsynRamp)
  | 0x0B04 => (formTimebaseAlign, effTimebaseAlign)
  | 0x0C01 => selftest
  | 0x0C02 => (formCalibrate, effCalibrate)
  | 0x0D01 => (formFwStage, effFwStage)
  | 0x0D02 => (formFwVerify, effFwVerify)
  | 0x0D03 => (formFwActivate, effFwActivate)
  | 0x0D04 => (formUnlockUntested, effUnlockUntested)
  | 0x0D05 => (formLogRead, effLogRead)
  | 0x0E02 => (formDomainSet, effDomainSet)
  | _ => ({ code := 0x0100, managed := false, states := stAll }, fun _ d => (d, {}))

/-! SELFTEST (R486, R487). -/

def formSelftest : Form :=
  { code := 0x0C01, managed := true, states := stRIASHF, sel := 0x0FFF, inl := [(12, 1)], long := true }

/-- How many instances a test has; none for an ID that no test has. -/
def testInstances (id : Nat) : Option Nat :=
  match id with
  | 0x01 | 0x02 | 0x03 | 0x20 => some 1
  | 0x10 => some 6
  | 0x11 => some 16
  | _ => none

def checkSelftest (e : Entry) (_ : Dev) : Option Nat :=
  match testInstances (e.sel 7 0) with
  | none => some 4
  | some n => if n ≤ e.sel 11 8 then some 5 else none

/-- R486, R487: why a test may not run now. -/
def Dev.testRefuses (d : Dev) (id inst : Nat) (guarded : Bool) : Option Status :=
  if d.st = .restricted && !([0x01, 0x20].contains id) then some .restrictedMode
  else if id = 0x20 && !([UState.idle, .hold, .restricted].contains d.st) then some .intrusiveRefused
  else if [0x10, 0x11].contains id && d.st.imaging && !guarded then some .intrusiveRefused
  else if id = 0x11 && d.st.imaging && d.valveEngine inst then some .intrusiveRefused
  else none

/-- What a test does as it starts. -/
def Dev.testStarts (d : Dev) (id inst : Nat) : Dev :=
  match id with
  | 0x02 => d.put Reg.SCRUB_PASS 0
  | 0x03 => d.setAux (fun a => { a with calNow := true })
  | 0x10 =>
    d.closeGroup inst
  | 0x11 => d.stopEngines (1 <<< inst) true
  | 0x20 =>
    let d := d.setPower (fun p => { p with bistHold := d.st == .hold })
    if d.st = .hold then ((d.endTest).endRun).emptyStore else if d.runOn then d.endRun else d
  | _ => d

/-- SELFTEST's effect. SCRUB_NOW completes at once; every other test runs until SELFTEST_DONE. (DEDUCED, log 97) -/
def effSelftest (e : Entry) (d : Dev) : Dev × Reply :=
  let id := e.sel 7 0
  let inst := e.sel 11 8
  match d.testRefuses id inst ((e.inl 12 1).testBit 0) with
  | some s => (d, { status := s })
  | none =>
    let d := (d.put Reg.ST_ID id).testStarts id inst
    if id = 0x02 then ((d.putFlag Reg.ST_PASS true).put Reg.ST_CODE 0, { result := 1 })
    else (d.setChan (fun c => { c with longArgs := [id, inst] }), { held := true })

/-- BIST is over: the line store, ring and staging are empty, and HOLD's run starts anew. -/
def Dev.bistOver (d : Dev) : Dev :=
  let d := d.storeDown
  let again := d.power.bistHold && d.st.imaging && !d.runOn
  let d := d.setPower (fun p => { p with bistHold := false })
  if again then d.newRun false else d

/-- SELFTEST_DONE (R487): the running test ends. AUX_OFFSET ends no sooner than its calibration, BIST no sooner than
the run that it ended. (DESIGN CHOICE, log 98) -/
def Dev.selftestDone (d : Dev) (pass : Bool) (code us : Nat) : Dev :=
  let id := (d.chan.longArgs.head?).getD 0
  let busy := (id == 0x03 && d.aux.calNow) || (id == 0x20 && (d.arr.stopping || d.arr.draining))
  if !d.longIs 0x0C01 || d.baro.halted || busy then d
  else
    let inst := (d.chan.longArgs[1]?).getD 0
    let code := if pass then 0 else code % 256
    let d := (d.putFlag Reg.ST_PASS pass).put Reg.ST_CODE code
    let d := if id = 0x11 then d.stopEngines (1 <<< inst) true else if id = 0x20 then d.bistOver else d
    let d := if pass then d
      else ((d.count Reg.SELFTEST_FAILS).putFlag Reg.SELFTEST_FAIL true).raise { source := 611, data := [(1, id), (1, code)] }
    d.finishLong 0x0C01 { result := b2n pass + 256 * code + 2 ^ 32 * (us % 2 ^ 32) }

/-! What a reset keeps (R480, R481). -/

/-- A field carried over. -/
def Dev.keep (old new : Dev) (f : Fld) : Dev := new.put f (old.get f)

/-- R481: the code of a reset kind; 2 where VIN's return clears a trip latch. -/
def ResetKind.code (k : ResetKind) (latched : Bool) : Nat :=
  match k with
  | .coldStart => 0
  | .vinPowerOn => if latched then 2 else 1
  | .resetN => 3
  | .resetUnit => 4
  | .resetNow => 5
  | .watchdog => 6

/-- R482: the rank of a LAST_RESET code, the highest first. -/
def resetRank (code : Nat) : Nat :=
  match code with | 0 => 0 | 1 => 1 | 2 => 1 | 3 => 2 | 6 => 3 | _ => 4

/-- R481, R482: LAST_RESET after a reset: while start-up was still in progress, the higher of the two. -/
def Dev.lastReset (d : Dev) (new : Nat) : Nat :=
  if d.power.starting && decide (resetRank (d.get Reg.LAST_RESET) < resetRank new) then d.get Reg.LAST_RESET else new

/-- What every reset keeps: flash, fuses, the levels of the pins, the negotiated link, and what the unit has sent. -/
def Dev.keepAlways (old n : Dev) : Dev :=
  { n with
    out := old.out, free := old.free
    power := { n.power with vin := old.power.vin, resetLow := old.power.resetLow, bootAt := old.clk.bus }
    host := { n.host with width := old.host.width, speed := old.host.speed }
    clk := { n.clk with bus := old.clk.bus }
    arr := { n.arr with encA := old.arr.encA, encB := old.arr.encB, frameIn := old.arr.frameIn }
    baro := { n.baro with revoked := old.baro.revoked } }

/-- What the AON domain keeps (R480): retention, the diode filter and the latch, and the counters that AON holds.
(DEDUCED, log 93) -/
def Dev.keepAon (old n : Dev) : Dev :=
  let n := { n with
    chan := { n.chan with aborted := old.chan.aborted }
    baro := { n.baro with
      logHeld := old.baro.logHeld, logSecond := old.baro.logSecond, logInSecond := old.baro.logInSecond
      dogBoots := old.baro.dogBoots, dogPending := old.baro.dogPending, jtag := old.baro.jtag
      dbg := { n.baro.dbg with refusedUntil := old.baro.dbg.refusedUntil } }
    therm := { n.therm with
      sampled := old.therm.sampled, tripRun := old.therm.tripRun, badRun := old.therm.badRun, goodRun := old.therm.goodRun
      tripLatch := old.therm.tripLatch, tripRec := old.therm.tripRec, tripSeen := old.therm.tripSeen
      commitSeen := old.therm.commitSeen, closedAt := old.therm.closedAt }
    power := { n.power with failAt := old.power.failAt } }
  let n := [Reg.WDT_RESETS, Reg.POWER_FAILS, Reg.RESETS, Reg.LOG_NEXT, Reg.TEMP_RAW, Reg.TEMP_FILT, Reg.TEMP_MAX, Reg.TEMP_MIN,
    Reg.DIODE_FAULT, Reg.TRIP_PENDING, Reg.WINDOW_OPEN].foldl (old.keep ·) n
  n.put Reg.BOOT_COUNT ((old.get Reg.BOOT_COUNT + 1) % 2 ^ 32)

/-- What a reset that leaves the system PLL running keeps besides (R479, R480): the timebase and the sequence counter. -/
def Dev.keepRunning (old n : Dev) : Dev :=
  let n := { n with
    tb := old.tb, half := old.half
    clk := { n.clk with
      frac := old.clk.frac, slew := old.clk.slew, sinceSlew := old.clk.sinceSlew, rateAcc := old.clk.rateAcc, lostAt := old.clk.lostAt
      lastE := old.clk.lastE, lastOut := old.clk.lastOut }
    track := { n.track with seqNext := old.track.seqNext }
    baro := { n.baro with seqHeld := old.baro.seqHeld } }
  let n := [Reg.SYSPLL_SETTLED, Reg.REF_PRESENT, Reg.HOLDOVER].foldl (old.keep ·) n
  if n.flag Reg.SYSPLL_SETTLED then (n.put Reg.DOMAIN_ON 3).put Reg.DOMAIN_READY 3 else n

/-- Stopping causes whose condition a reset leaves in place (R382, R467). -/
def Dev.keepCauses (old n : Dev) : Dev :=
  let bits := (if n.flag Reg.HOLDOVER then [3] else []) ++ (if n.flag Reg.DIODE_FAULT then [6] else [])
  let n := n.put Reg.FAULT_CAUSE (maskOf bits)
  let first := old.get Reg.FAULT_FIRST
  match bits with
  | [] => n
  | b :: _ =>
    n.put Reg.FAULT_FIRST (if (first = 480 && bits.contains 3) || (first = 584 && bits.contains 6) then first
      else if b = 3 then 480 else 584)

/-- R482: a reset of a rank acts in this CTLCLK cycle. -/
def Dev.markReset (d : Dev) (rank : Nat) : Dev := d.setPower (fun p => { p with resetMark := some (d.cycle, rank) })

/-- R479 to R481: entry to BOOT by a reset. -/
def Dev.bootInto (d : Dev) (kind : ResetKind) : Dev :=
  let d := d.holdTags
  let n := d.keepAlways (Dev.cold d.baro.flash)
  let code := d.lastReset (kind.code d.therm.tripLatch)
  let n := match kind with
    | .coldStart => n.put Reg.LOG_NEXT ((n.baro.flash.log.head?.map (fun x => (x.seq + 1) % 2 ^ 32)).getD 0)
    | .vinPowerOn => (d.keepAon n).setTherm (fun t => { t with tripLatch := false })
    | _ => d.keepRunning (d.keepAon n)
  (((d.keepCauses n).put Reg.LAST_RESET code).noteLog).markReset (resetRank (kind.code false))

/-- R479: the unit is held in reset: RESET_N is low, or the pulse of a reset has not ended. -/
def Dev.inPulse (d : Dev) : Bool := d.power.resetLow || d.power.pulse.isSome

/-- R485: the domains that start first once the system PLL is settled, PCIE, LSCTL and LSPHY, unless the unit is held in reset. -/
def Dev.firstDomains (d : Dev) : Dev :=
  if d.inPulse || !d.flag Reg.SYSPLL_SETTLED then d else d.switchOn 0x38000

/-- R479, R482: a reset of RESET_N's reach, for 1 us at least. TRIPPED is left by none of them (R29), and without VIN nothing but AON
runs. One that ranks higher than another of its CTLCLK cycle takes its place in RESETS. -/
def Dev.warmReset (d : Dev) (kind : ResetKind) : Dev :=
  if d.st = .tripped || !d.power.vin || !d.power.vstby || d.outranked (resetRank (kind.code false)) then
    d.setPower (fun p => { p with resetAsk := none })
  else
    let n := d.bootInto kind
    (if d.power.resetMark.any (fun m => m.1 == d.cycle) then n else n.count Reg.RESETS).setPower
      (fun p => { p with pulse := some (d.clk.bus + 200) })

/-- R479, R485: the pulse of a reset is over, and start-up goes on once RESET_N is high too. -/
def Dev.pulseEnd (d : Dev) : Dev :=
  match d.power.pulse with
  | none => d
  | some t =>
    if d.clk.bus < t then d
    else
      let d := d.setPower (fun p => { p with pulse := none })
      if d.power.resetLow then d else (d.setPower (fun p => { p with bootAt := d.clk.bus })).firstDomains

/-! RESET_UNIT and RESET_NOW. -/

def formResetUnit : Form := { code := 0x0104, managed := true, states := stRIASHF }

/-- RESET_UNIT's effect: the reset waits for this completion to be written (R60). -/
def effResetUnit (e : Entry) (d : Dev) : Dev × Reply :=
  (d.setPower (fun p => { p with resetAsk := some (.resetUnit, e.sq.val, e.tag.toNat) }), {})

/-- R60, R479: a reset that waits for its completion acts once that completion has been written. -/
def Dev.resetCheck (d : Dev) : Dev :=
  match d.power.resetAsk with
  | none => d
  | some (k, q, tag) =>
    if d.chan.cqs.toList.any (fun c => c.waiting.any (fun x => x.sq == q && x.tag == tag)) then d else d.warmReset k

/-- The command that waits in the intake under this tag and opcode, taken from the outstanding ones. -/
def Dev.takeOutst (d : Dev) (tag code : Nat) : Dev × Option Outst :=
  match d.chan.outst.find? (fun x => x.tag == tag && x.opcode == code) with
  | none => (d, none)
  | some x => (d.setChan (fun c => { c with outst := c.outst.erase x }), some x)

/-- A command of the intake begins on the Barometer (R55 step 8, R61). One whose queue a host-link reset deleted is answered in
the log (R45). -/
def Dev.runIntake (d : Dev) (p : Nat × Entry) : Dev :=
  match d.takeOutst p.2.tag.toNat p.1 with
  | (d, none) => d
  | (d, some x) =>
    let op := managedOp p.2 (formSelftest, effSelftest) (formResetUnit, effResetUnit) p.1
    let reply := fun (d : Dev) (r : Reply) =>
      if x.sq = lostSq then d.log 1 p.1 (r.status.code + 256 * r.detail) x.tag
      else d.answer x.sq x.tag p.2.bufAddr.toNat p.1 r
    match d.longRefuses op.1 with
    | some r => reply d r
    | none =>
      let (d, r) := op.2 p.2 (d.readBuffer op.1 p.2)
      if r.held then d.setChan (fun c => { c with outst := c.outst ++ [{ x with long := op.1.long }] }) else reply d r

/-- The intake is worked off, oldest first, as far as the Barometer may (R427, R434). -/
def Dev.resumeIntake (d : Dev) : Nat → Dev
  | 0 => d
  | n + 1 =>
    match d.chan.intake with
    | [] => d
    | p :: rest =>
      let op := managedOp p.2 (formSelftest, effSelftest) (formResetUnit, effResetUnit) p.1
      if d.intakeWaits op.1 then d
      else ((d.setChan (fun c => { c with intake := rest })).runIntake p).resumeIntake n

/-- The whole intake. -/
def Dev.resume (d : Dev) : Dev := (d.resumeIntake d.chan.intake.length).resetCheck

/-- DEBUGGER_HALT (R427): a debugger, once debug access is open (R452), halts the Barometer or lets it go on. -/
def Dev.debuggerHalt (d : Dev) (halt : Bool) : Dev :=
  if d.baro.halted = halt || (halt && !d.flag Reg.DEBUG_OPEN) then d
  else
    let d := (d.setBaro (fun b => { b with halted := halt })).freezeAll
    if halt then d else (d.chan.late.foldl (fun d p => d.finish p.1 p.2) (d.setChan (fun c => { c with late := [] }))).resume

/-- R60: held tags complete with ABORTED_BY_RESET on CQ0 once the Barometer is up, CQ0 is enabled and HOST_READY is set.
(DEDUCED, log 96) -/
def Dev.deliverAborted (d : Dev) : Dev :=
  if !(d.cq 0).ready || !d.host.hostReady || (d.power.starting && !d.baro.inRom) then d
  else
    let held := d.chan.aborted
    held.foldl (fun d o => d.complete ⟨o.sq, o.tag, .abortedByReset, 0, 0, o.opcode⟩ 0) (d.setChan (fun c => { c with aborted := [] }))

/-! Supplies (R472 to R474, R479). -/

/-- COLD_START: VSTBY is applied. -/
def Dev.coldStart (d : Dev) : Dev := if d.power.vstby then d else d.bootInto .coldStart

/-- VIN_POWER_ON (R473): VIN is back for 10 ms. Without VSTBY nothing starts. -/
def Dev.vinPowerOn (d : Dev) : Dev :=
  if d.power.vin then d
  else
    let d := d.setPower (fun p => { p with vin := true })
    if d.power.vstby then d.bootInto .vinPowerOn else d

/-- POWER_FAIL (R473): VIN is gone. (DEDUCED, log 92) -/
def Dev.powerFail (d : Dev) : Dev :=
  if !d.power.vin then d
  else
    let gone := d.setPower (fun p => { p with vin := false, resetAsk := none, bistHold := false })
    if !d.power.vstby then gone
    else
      let d := (({ gone.powerDown with st := UState.boot }).count Reg.POWER_FAILS).setPower (fun p => { p with failAt := some d.tb })
      let (d, n) := (d.markReset 1).takeFree
      d.logOpen 3 608 (Config.freeValue n % 65536)

/-- VSTBY_LOSS (R474): everything that AON holds is lost, and nothing runs. -/
def Dev.vstbyLoss (d : Dev) : Dev :=
  if !d.power.vstby then d
  else
    let n := d.keepAlways (Dev.cold d.baro.flash)
    ((n.put Reg.DOMAIN_ON 0).put Reg.DOMAIN_READY 0).setPower (fun p => { p with vstby := false })

/-- RESET_N (R479): a low pulse of so many nanoseconds, or the pin held low beyond 1 us. Whether a pulse between 100 ns and 1 us
passes the filter is a free value. (DESIGN CHOICE, log 11) -/
def Dev.resetN (d : Dev) (ns : Nat) : Dev :=
  if d.power.resetLow || ns < 100 then d
  else
    let (d, pass) := if 1000 ≤ ns then (d, true) else ({ d with free := d.free + 1 }, Config.resetFilterPasses d.free)
    if pass then (d.setPower (fun p => { p with resetLow := true })).warmReset .resetN else d

/-- RESET_N_RELEASE: the pin is high again, and start-up goes on. -/
def Dev.resetNRelease (d : Dev) : Dev :=
  if !d.power.resetLow then d
  else (d.setPower (fun p => { p with resetLow := false, bootAt := if p.starting then d.clk.bus else p.bootAt })).firstDomains

/-- WATCHDOG (R426, R435): the watchdog reset. It pauses while the Barometer is halted. -/
def Dev.watchdog (d : Dev) : Dev :=
  if d.baro.halted || !d.power.vstby || d.outranked 3 then d
  else
    let d := (d.count Reg.WDT_RESETS).setBaro (fun b => { b with
      dogPending := true, dogBoots := if d.power.starting then b.dogBoots + 1 else b.dogBoots })
    d.warmReset .watchdog

/-- SYSPLL_SETTLED (R381, R392, R485): the timebase starts, and the first domains. -/
def Dev.pllUp (d : Dev) : Dev :=
  let n := d.pllSettled
  if n.flag Reg.SYSPLL_SETTLED && !d.flag Reg.SYSPLL_SETTLED then n.firstDomains else n

/-! Boot selection (R434, R435). -/

/-- R435: the BFW slot that is tried first: the other one on the third boot that the watchdog ended, if it verifies. -/
def Dev.bootBfw (d : Dev) : Option (Nat × Bool) :=
  let named := d.namedSlot 0
  if 3 ≤ d.baro.dogBoots && d.verifies 0 (1 - named) then some (1 - named, true)
  else (d.bootSlot 0 named).map (fun s => (s, s != named))

/-- FW_FALLBACK of a kind (R453). -/
def Dev.fallback (d : Dev) (kind slot : Nat) : Dev :=
  ((d.putFlag Reg.FALLBACK true).orBits Reg.FW_FALLBACK 1).raise { source := 544, data := [(1, kind), (1, slot)] }

/-- R379: the limits of a rail in millivolts, loaded at boot: its nominal value, and 5 % to either side. (DEDUCED, log 89) -/
def railLimits : List (Nat × Nat) :=
  [(13200, 10800), (3465, 3135), (788, 713), (945, 855), (1103, 998), (1890, 1710), (3465, 3135), (2625, 2375)]

/-- R34, R164: the Subsystem IDs, from a board lane table whose check passes. -/
def Dev.readSubsystem (d : Dev) : Dev :=
  let ids := if d.flag Reg.BLT_VALID then d.blt 1 else 0
  { d with host := { d.host with subsysVendor := BitVec.ofNat 16 (ids / 2 ^ 16), subsysId := BitVec.ofNat 16 ids } }

/-- R428, R434: the values that come from the identity block and from the calibration copy in effect. -/
def Dev.loadCal (d : Dev) : Dev :=
  let f := d.baro.flash
  let tables := f.calTables
  let d := (d.put Reg.UNIT_ID f.unitId).setWord 0x0D0010 f.autostart
  let d := d.setChan (fun c => { c with confs := [⟨0, false, false, none, [], tables, none⟩], shadow := tables })
  let d := ((List.range 8).foldl (fun d i =>
    (d.put Reg.HI_MV ((railLimits[i]?).getD (0, 0)).1 i).put Reg.LO_MV ((railLimits[i]?).getD (0, 0)).2 i) d).checkBlt.readSubsystem
  (List.range 6).foldl Dev.applyBoard d

/-- A watchdog expiry is logged and raised at the next boot (R426). (DEDUCED, log 86) -/
def Dev.bootDog (d : Dev) : Dev :=
  if !d.baro.dogPending then d
  else ((d.setBaro (fun b => { b with dogPending := false })).logOpen 3 545 6 |>.orBits Reg.WATCHDOG 1).raise { source := 545 }

/-- The pair runs (R432, R434). -/
def Dev.bootPair (d : Dev) (b : Nat × Bool) (q : Nat) : Dev :=
  let bfw := d.baro.flash.image 0 b.1
  let sqm := d.baro.flash.image 1 q
  let outcome := pairing bfw sqm (d.get Reg.STEPPING)
  let d := d.setBaro (fun x => { x with booted := true })
  let d := ((((d.put Reg.BFW_VERSION bfw.version).put Reg.SQM_VERSION sqm.version).put Reg.BFW_IFACE bfw.iface).put Reg.SQM_IFACE
    sqm.iface).put Reg.KEY_ID bfw.key
  let d := ((d.put Reg.BFW_SLOT b.1).put Reg.SQM_SLOT q).put Reg.PAIRING outcome
  let d := d.loadCal.writeReservation
  let d := if b.2 then d.fallback 0 b.1 else d
  let d := if q ≠ d.namedSlot 1 then d.fallback 1 q else d
  let d := if outcome = 2 then d.stopOn { source := 546, data := [(2, bfw.iface), (2, sqm.iface)] } 5 else d
  d.switchOn 0x1FFFFFF

/-- BOOT_SELECTION (R434): the boot ROM has verified the images. Without a pair that verifies it stays in charge.
(DEDUCED, log 95) -/
def Dev.bootSelection (d : Dev) : Dev :=
  if !d.power.starting || d.inPulse || !d.flag Reg.SYSPLL_SETTLED || d.baro.booted || d.baro.inRom then d
  else
    let d := d.bootDog
    match d.bootBfw, d.bootSlot 1 (d.namedSlot 1) with
    | some b, some q => d.bootPair b q
    | _, _ => (d.setBaro (fun b => { b with inRom := true })).resume.deliverAborted

/-! The end of start-up (R485). -/

/-- What the first completed start-up after a failure or a trip reports (R463, R466, R488). (PRESUMED, log 88) -/
def Dev.reportPast (d : Dev) : Dev :=
  let d := match d.power.failAt with
    | none => d
    | some t => ((d.setPower (fun p => { p with failAt := none })).orBits Reg.POWER_FAIL 1).raise { source := 608, data := [(8, t)] }
  let d := match d.therm.tripSeen with
    | none => d
    | some v => ((d.setTherm (fun t => { t with tripSeen := none })).orBits Reg.TRIP_SEEN 1).raise { source := 580, data := [(8, v)] }
  if d.therm.commitSeen then (d.setTherm (fun t => { t with commitSeen := false })).raise { source := 581 } else d

/-- R447: AUTOSTART begins, when start-up completes in IDLE under a tested pairing. -/
def Dev.autoBegin (d : Dev) : Dev :=
  if d.st = .idle && d.flag Reg.AUTOSTART_EN && d.get Reg.PAIRING = 0 then (d.put Reg.AS_RESULT 1).autoNext 1 else d

/-- STARTUP_DONE (R485): the self-check has ended with this code, 0 where it passed. A trip record still uncommitted holds
start-up in BOOT (R463). -/
def Dev.startupDone (d : Dev) (code : Nat) : Dev :=
  let held := match d.therm.tripRec with | some e => !e.flags.testBit 0 | none => false
  if !d.power.starting || !d.baro.booted || d.get Reg.DOMAIN_READY ≠ d.get Reg.DOMAIN_ON || held then d
  else
    let d := if code % 256 = 0 then d
      else (((d.put Reg.ST_CODE code).put Reg.ST_ID 0).orBits Reg.SELFCHECK_FAIL 1).stopOn { source := 610 } 8
    let d := if d.st ≠ .boot then d
      else d.enter (if d.get Reg.FAULT_CAUSE ≠ 0 then UState.fault else if d.get Reg.PAIRING = 1 then .restricted else .idle) 612
    let d := (d.put Reg.STARTUP_MS (sat32 ((d.clk.bus - d.power.bootAt) / 200000))).setPower (fun p => { p with starting := false })
    let d := (d.setBaro (fun b => { b with dogBoots := 0 })).raise { source := 612, data := [(1, d.get Reg.LAST_RESET), (1, d.st.code)] }
    d.reportPast.autoBegin.resume.deliverAborted

end Sys2Proof.Machine
end

