-- ==== Sys2Proof/Machine/Inject.lean ====
section
/-!
DEFINITION. INJECT (R503, R504): every source with what its owning chapter says of an injection. DATA items that an injection
does not fix are free values.
-/

namespace Sys2Proof.Machine

/-- What the event record of an injection carries: its INSTANCE, its DATA items (none: the spec gives no value), and what its
rate limit is kept by. -/
structure Injected where
  inst : Nat := 0xFF
  data : List (Nat × Option Nat) := []
  key : Nat := 0
  deriving DecidableEq, Repr

/-- The sources that some chapter names (R490). (DEDUCED, log 105) -/
def isSource (s : Nat) : Bool :=
  [(0, 6), (32, 34), (64, 74), (96, 126), (128, 145), (160, 169), (192, 193), (200, 202), (224, 227), (256, 261), (288, 291),
    (320, 327), (352, 454), (480, 486), (512, 521), (544, 550), (576, 584), (608, 612)].any (fun r => r.1 ≤ s && s ≤ r.2)

/-- The sources whose records are limited (R491), as their chapters say. -/
def isLimited (s : Nat) : Bool :=
  [(0, 0), (3, 4), (64, 74), (128, 133), (160, 169), (192, 192), (200, 202), (224, 227), (258, 260), (288, 291), (320, 327),
    (352, 367), (384, 454), (485, 485), (512, 521)].any (fun r => r.1 ≤ s && s ≤ r.2)

/-- R504: SELECTOR names an instance that the source has, in the bits of its chapter; 0 where the chapter names none. -/
def instanceOk (s sel : Nat) : Bool :=
  if s = 66 then decide (sel < 8)
  else if s = 68 || s = 69 then decide (sel < 12)
  else if s = 70 || s = 74 then decide (sel < 516)
  else if s = 168 then decide (sel < 4)
  else if 160 ≤ s && s ≤ 193 then decide (sel < 12)
  else if s = 200 || s = 202 then decide (sel < 4)
  else if s = 226 then decide (sel < 2)
  else if 201 ≤ s && s ≤ 227 then decide (sel < 12)
  else if 256 ≤ s && s ≤ 261 then decide (sel % 16 < 12) && decide (sel < 32)
  else if s = 325 || s = 326 then decide (sel < 16)
  else if 368 ≤ s && s ≤ 383 then decide (sel < 64)
  else if s = 448 || s = 453 || s = 454 then decide (sel < 24)
  else if 449 ≤ s && s ≤ 451 then decide (sel < 16)
  else if s = 452 then decide (16 ≤ sel) && decide (sel < 24)
  else if s = 512 || s = 513 || s = 514 || s = 521 then decide (sel < 64)
  else if s = 609 then decide (sel < 25)
  else sel == 0

/-- A head's statistics marked for an injected GEN_LAG or GEN_LEAD (R113). -/
def Dev.injectGen (d : Dev) (f : Fld) (h : Nat) : Dev :=
  (d.orBits f (1 <<< h)).setStats h (fun s => { s with mixed := true, injected := true })

/-- A counter of window registers (R422). -/
def Dev.modWin (d : Dev) (w : Nat) (g : Win → Win) : Dev := d.setWin w (g (d.win w))

/-- Groups 0 to 2: the host link, faults, array and converters (R113, R132, R505). -/
def Dev.injectLow (d : Dev) (s sel : Nat) : Dev × Injected :=
  match s with
  | 0 => ((d.orBits Reg.BAR_ACCESS 1).count Reg.BAR_ACCESSES, { data := [(1, none), (4, none)] })
  | 1 => ({ (d.orBits Reg.LINK_RESET 1) with host := { d.host with linkResets := min 0xFFFF (d.host.linkResets + 1) } },
      { data := [(1, none), (1, some d.st.code)] })
  | 2 => (d.orBits Reg.LINK_RETRAIN 1, { data := [(1, some d.host.width), (1, some d.host.speed), (2, some d.budgetNow)] })
  | 3 => ((d.orBits Reg.CPL_TIMEOUT 1).count Reg.CPL_TIMEOUTS, { data := [(1, none), (2, none)] })
  | 4 => (d.count Reg.ENTRY_CHECK_FAILS, { data := [(1, none), (2, none)] })
  | 5 => (d.orBits Reg.CQ_STALL 1, { data := [(1, none)] })
  | 6 => (d, { data := [(1, none), (1, none), (2, none)] })
  | 32 => (d.count Reg.FAULT_ENTRIES, { data := [(2, some (d.get Reg.FAULT_CAUSE)), (2, some (d.get Reg.FAULT_FIRST))] })
  | 33 => (d, { data := [(8, some d.faultTb)] })
  | 34 => ({ (d.orBits Reg.EVR_OVERFLOW 1) with ev := { d.ev with ringLost := sat32 (d.ev.ringLost + 1) } }, { data := [(2, none)] })
  | 64 => (d.count Reg.TRIG_OVERRUNS, {})
  | 65 => (d.orBits Reg.TRIG_STALL 1, {})
  | 66 => (d.orBits (if sel < 4 then Reg.EXP_FLOOR else Reg.EXP_FLOOR_LONG) (1 <<< (sel % 4)), {})
  | 67 => (d.count Reg.FRAME_DEFERS, {})
  | 68 => (d.injectGen Reg.GEN_LAG sel, { inst := sel })
  | 69 => (d.injectGen Reg.GEN_LEAD sel, { inst := sel })
  | 70 => (((d.orBits Reg.CAL_FAIL 1).put Reg.FAIL_GROUP sel).put Reg.FAIL_SLICE 0x7F, { inst := if sel < 256 then sel else 0xFF })
  | 71 => (d.orBits Reg.CAL_DRIFT 1, {})
  | 72 => ((d.orBits Reg.GLINT 1).count Reg.GLINTS, {})
  | 73 => ((d.orBits Reg.CONV_SHIFT 1).count Reg.CONV_SHIFTS, {})
  | _ => ((d.put Reg.FAIL_GROUP sel).put Reg.FAIL_SLICE 0x7F, { inst := if sel < 256 then sel else 0xFF })

/-- The lane sources (R161): the flags of the row, GFLAGS, PKT_ERRS, PRBS_ERRS and BLT_VALID. A lane that the spec does not name is a
free value. (DESIGN CHOICE, log 127) -/
def Dev.injectLanes (d : Dev) (s : Nat) : Dev × Injected :=
  if s = 126 then (d.putFlag Reg.BLT_VALID false, {})
  else if s < 126 then
    let g := (s - 96) / 5
    let (d, n) := d.takeFree
    let lane := Config.freeValue n % 4
    let d := match (s - 96) % 5 with
      | 0 => d.putBit Reg.LOS lane true g
      | 1 => d.putBit Reg.LOL lane true g
      | 2 => d
      | 3 => (((d.putBit Reg.POL_FIXED lane true g).putFlag Reg.ORDER_FIXED true g).putFlag Reg.GID_BAD true g).putFlag Reg.SKEW_BAD true g
      | _ => d.putFlag Reg.DEGRADED true g
    (d.gflag g ((s - 96) % 5), { inst := g })
  else
    let g := (s - 128) % 6
    if s < 134 then ((d.gflag g 5).count Reg.PKT_ERRS 1 g, { inst := g, key := g })
    else if s < 140 then
      let (d, n) := d.takeFree
      ((d.gflag g 6).count (prbsErrs (Config.freeValue n % 4)) 1 g, { inst := g })
    else (d, { inst := g, data := [(1, none)] })

/-- Ingest to faces (R187, R207, R223, R243). (DEDUCED, log 31) -/
def Dev.injectPath (d : Dev) (s sel : Nat) : Dev × Injected :=
  let head : Injected := { inst := sel, key := sel }
  let both := fun (flag counter : Fld) => ((d.orBits flag (1 <<< sel)).count counter 1 sel, head)
  match s with
  | 160 => both Reg.SEG_CRC Reg.SEG_CRC_FAILS
  | 161 => both Reg.MISSING_LINE Reg.MISSING_LINES
  | 162 => both Reg.DUP_LINE Reg.DUP_LINES
  | 163 => both Reg.OUT_OF_WINDOW Reg.WINDOW_DROPS
  | 164 => both Reg.SHORT_LINE Reg.SHORT_LINES
  | 165 => both Reg.LONG_LINE Reg.LONG_LINES
  | 166 => both Reg.FRAME_SLIP Reg.FRAME_SLIPS
  | 167 => both Reg.PLANE_MISMATCH Reg.PLANE_MISMATCHES
  | 168 => (d.orBits Reg.DARK_HOLD (1 <<< sel), { inst := 0 })
  | 169 => (d.orBits Reg.DEF_UNREPLACED (1 <<< sel), head)
  | 192 => ((d.orBits Reg.ALIGN_CLIP (1 <<< sel)).count Reg.CLIPS, head)
  | 193 => (d.count Reg.SWAPS, { inst := sel, data := [(4, none), (4, none), (1, none), (4, none)] })
  | 200 =>
    ({ ((d.orBits Reg.TAP_DROP (1 <<< sel)).count Reg.TAP_DROPS 1 sel) with
        pipe := { d.pipe with tapInj := d.pipe.tapInj ||| BitVec.ofNat 4 (1 <<< sel) } },
      { head with data := [(1, some sel)] })
  | 201 =>
    (((d.orBits Reg.VIEW_DROP 1).count Reg.VIEW_DROPS).setHeadS sel { d.headS sel with viewInj := true },
      { head with data := [(1, some sel)] })
  | 202 =>
    ({ d with pipe := { d.pipe with tapInj := d.pipe.tapInj ||| BitVec.ofNat 4 (1 <<< sel) } },
      { head with data := [(1, some sel), (4, none), (1, none)] })
  | 224 => (d.putBit Reg.BLIND_HEADS sel true, { head with data := [(1, some sel), (1, none), (4, none)] })
  | 225 => (d.putBit Reg.BLIND_HEADS sel false, { head with data := [(1, some sel), (4, none)] })
  | 226 =>
    ((d.count Reg.FACE_LATES).orBits (if sel = 0 then Reg.FACE_LATE_FRONT else Reg.FACE_LATE_REAR) 1,
      { head with data := [(1, some sel), (4, none)] })
  | _ => ((d.orBits Reg.FUSE_AMBIG 1).count Reg.FUSE_AMBIGS, { data := [(8, none), (8, none)] })

/-- Segmentation to ejection (R267, R294, R322). The counters of R289 and of page 0800h stay. -/
def Dev.injectObjects (d : Dev) (s sel : Nat) : Dev × Injected :=
  let zone : Injected := { inst := sel, key := sel, data := [(1, some (sel / 16)), (1, some (sel % 16))] }
  let f := fun (x : Fld) (data : List (Nat × Option Nat)) => (d.orBits x 1, ({ data := data } : Injected))
  match s with
  | 256 => ((d.orBits Reg.STORM 1).count Reg.STORMS, { zone with data := zone.data ++ [(8, none)] })
  | 257 => (d, { zone with data := zone.data ++ [(1, none), (4, none)] })
  | 258 => (d.orBits Reg.TABLE_FULL 1, zone)
  | 259 => (d.orBits Reg.QUOTA_OVER 1, zone)
  | 260 => ((d.orBits Reg.TALL 1).count Reg.TALLS, { zone with data := [(8, none)] })
  | 261 => f Reg.OPEN_HIGH [(2, some d.openNow)]
  | 288 => f Reg.DEPTH_ERR [(8, none)]
  | 289 => f Reg.CLASS_OVERLOAD [(4, none)]
  | 290 => f Reg.UNCONFIRMED_SHOT [(8, none)]
  | 291 => f Reg.MISSED_SHOT [(8, none)]
  | 320 => f Reg.LATE_SHOT [(8, none), (4, none)]
  | 321 => f Reg.PULSE_CUT [(2, none)]
  | 322 => f Reg.REFRACT_DELAY [(2, none)]
  | 323 => f Reg.WINDOW_FULL [(8, none)]
  | 324 => f Reg.HELD_SHOT [(8, none)]
  | 325 => (d.orBits Reg.LINK_FAIL (1 <<< sel), { inst := sel, data := [(1, some sel)] })
  | 326 => (d.orBits Reg.STALL_ENG (1 <<< sel), { inst := sel, data := [(1, some sel)] })
  | _ => f Reg.BLIND_EJECT [(1, none), (2, none)]

/-- Engines, timers and the auxiliary converter (R342, R359, R378). -/
def Dev.injectIo (d : Dev) (s sel : Nat) : Dev × Injected :=
  let ch : Injected := { inst := sel, key := sel, data := [(1, some sel)] }
  let aux := fun (flag : Fld) (chans : Fld) (bit n : Nat) =>
    (((d.orBits flag 1).orBits chans (1 <<< n)).setAux (fun a => { a with inject := a.inject ++ [(sel, bit)] }), ch)
  if s < 368 then (d.count Reg.ENG_EVENTS, { inst := s - 352 })
  else if s < 384 then (d.setShort sel true, { inst := s - 368, data := [(1, some sel)] })
  else if s < 416 then
    (d.setTmr (s - 384) { d.tmr (s - 384) with done := true }, { inst := s - 384, key := s - 384, data := [(1, some (s - 384))] })
  else if s < 448 then
    (d.setTmr (s - 416) { d.tmr (s - 416) with capOvr := true }, { inst := s - 416, key := s - 416, data := [(1, some (s - 416))] })
  else match s with
  | 448 => aux Reg.AUX_OVR Reg.OVR_CH 1 sel
  | 449 => aux Reg.AUX_OPEN Reg.OPEN_CH 2 sel
  | 450 => aux Reg.AUX_SHORT Reg.SHORT_CH 3 sel
  | 451 => aux Reg.AUX_REVERSED Reg.REV_CH 4 sel
  | 452 =>
    let (d, i) := aux Reg.AUX_RAIL Reg.RAIL_CH 5 (sel - 16)
    (d, { i with data := [(1, some sel), (4, none)] })
  | 453 => ((d.orBits Reg.TRIG_DROP 1).count Reg.TRIG_DROPS, { inst := sel, key := sel, data := [(1, none)] })
  | _ => (d.orBits Reg.AUX_CAL_FAIL 1, { inst := sel, key := sel, data := [(1, none)] })

/-- Clocks and the archive (R399, R422). -/
def Dev.injectMid (d : Dev) (s sel : Nat) : Dev × Injected :=
  let win : Injected := { inst := sel, key := sel, data := [(1, some sel)] }
  match s with
  | 480 => ((d.orBits Reg.REF_LOSS 1).count Reg.REF_LOSSES, {})
  | 481 => (d.orBits Reg.REF_RETURN 1, { data := [(8, none)] })
  | 482 => (d.orBits Reg.RAMP_DONE 1, { data := [(1, none), (4, some d.nf)] })
  | 483 => (d, { data := [(4, some (d.get Reg.TB_ERROR))] })
  | 484 => (d.orBits Reg.TB_UNLOCK 1, { data := [(4, some (d.get Reg.TB_ERROR))] })
  | 485 => ((d.orBits Reg.SYNC_MISS 1).count Reg.SYNC_MISSES, {})
  | 486 => ((d.orBits Reg.TB_JUMP 1).count Reg.TB_JUMPS, { data := [(8, none), (8, none)] })
  | 512 => ((d.modWin sel (fun w => { w with drops := sat32 (w.drops + 1), dropped := true })).orBits Reg.RING_EVENT 1, win)
  | 513 =>
    ((d.modWin sel (fun w => { w with overwrites := sat32 (w.overwrites + 1), overwritten := true })).orBits Reg.RING_EVENT 1,
      { win with data := win.data ++ [(8, some (d.win sel).tail)] })
  | 514 => ((d.modWin sel (fun w => { w with ptrErr := true })).orBits Reg.RING_EVENT 1, { win with data := win.data ++ [(8, none)] })
  | 515 => ((d.orBits Reg.CHIP_UNAVAIL 1).count Reg.CHIPS_UNAVAILABLE, { data := [(8, none), (1, none)] })
  | 516 => ((d.orBits Reg.SNAP_DROP 1).count Reg.SNAP_DROPS, { data := [(1, none)] })
  | 517 => ((d.orBits Reg.CARRIAGE_CE 1).count Reg.CARRIAGE_CES, { data := [(1, none)] })
  | 518 => (d.orBits Reg.CARRIAGE_UE 1, { data := [(1, none)] })
  | 519 => ((d.orBits Reg.LS_CE 1).count Reg.LS_CES, { data := [(4, none)] })
  | 520 => ((d.orBits Reg.LS_UE 1).count Reg.LS_UES, { data := [(4, none)] })
  | _ => (d.modWin sel (fun w => { w with poisonNext := true }), { win with data := win.data ++ [(1, none)] })

/-- R470: the dry run of the trip record, from its DATA. -/
def Dev.dryTrip (d : Dev) : Dev × Nat :=
  let data := d.get Reg.TEMP_RAW + d.get Reg.TEMP_FILT * 2 ^ 16 + d.st.code * 2 ^ 32
  let seq := d.get Reg.LOG_NEXT
  let rec' : LogEntry := ⟨seq, d.get Reg.BOOT_COUNT % 2 ^ 16, 7, 1, d.tb, 580, 3, data, d.clk.bus⟩
  (((d.put Reg.LOG_NEXT (seq + 1)).putFlag Reg.TRIP_PENDING true).setTherm (fun t => { t with tripRec := some rec' }), data)

/-- The Barometer, thermal and power sources (R453, R470, R488). -/
def Dev.injectHigh (d : Dev) (s sel : Nat) : Dev × Injected :=
  match s with
  | 544 => (d.orBits Reg.FW_FALLBACK 1, { data := [(1, none), (1, none)] })
  | 545 => (d.orBits Reg.WATCHDOG 1, {})
  | 546 => (d, { data := [(2, some (d.get Reg.BFW_IFACE)), (2, some (d.get Reg.SQM_IFACE))] })
  | 547 => (d.orBits Reg.AUTOSTART_FAIL 1, { data := [(1, some (d.get Reg.AS_STEP)), (2, none)] })
  | 548 => (d.orBits Reg.LOG_LOSS 1, {})
  | 549 => (d.orBits Reg.DEBUG_UNLOCK 1, {})
  | 550 => (d.orBits Reg.UNLOCK 1, {})
  | 576 => (d.orBits Reg.WARN_SEEN 1, {})
  | 578 => (d.orBits Reg.HOT_SEEN 1, {})
  | 580 =>
    let (d, v) := d.dryTrip
    (d.orBits Reg.TRIP_SEEN 1, { data := [(8, some v)] })
  | 608 => (d.orBits Reg.POWER_FAIL 1, { data := [(8, none)] })
  | 609 => (d.orBits Reg.DOMAIN_FAULT (1 <<< sel), { inst := sel, data := [(1, some sel)] })
  | 610 => (d.orBits Reg.SELFCHECK_FAIL 1, {})
  | 611 => (d.orBits Reg.SELFTEST_FAIL 1, { data := [(1, none), (1, none)] })
  | 612 => (d, { data := [(1, some (d.get Reg.LAST_RESET)), (1, some d.st.code)] })
  | _ => (d, {})

/-- The flags and counters of an injection, and its record. -/
def Dev.injectFlags (d : Dev) (s sel : Nat) : Dev × Injected :=
  if s < 96 then d.injectLow s sel
  else if s < 160 then d.injectLanes s
  else if s < 256 then d.injectPath s sel
  else if s < 352 then d.injectObjects s sel
  else if s < 480 then d.injectIo s sel
  else if s < 544 then d.injectMid s sel
  else d.injectHigh s sel

/-- DATA items with a free value where the spec gives none. -/
def Dev.openData (d : Dev) (items : List (Nat × Option Nat)) : Dev × List (Nat × Nat) :=
  items.foldl (fun (acc : Dev × List (Nat × Nat)) it =>
    match it.2 with
    | some v => (acc.1, acc.2 ++ [(it.1, v)])
    | none => let (d, n) := acc.1.takeFree; (d, acc.2 ++ [(it.1, Config.freeValue n % 2 ^ (8 * it.1))])) (d, [])

/-- R503: the stopping cause that an injection sets, and whether it clears at once. -/
def injectCause (s sel : Nat) : Option (Nat × Bool) :=
  match s with
  | 325 => some (1, false)
  | 326 => some (2, false)
  | 480 => some (3, true)
  | 518 => some (4, false)
  | 584 => some (6, true)
  | 609 => if runDomains.contains sel then some (7, false) else none
  | _ => none

/-- A cause that an injection set and that clears at once (R399, R470). A real cause of the same kind stays. -/
def Dev.injectClears (d : Dev) (bit : Nat) : Dev :=
  if (bit = 3 && d.flag Reg.HOLDOVER) || (bit = 6 && d.flag Reg.DIODE_FAULT) then d else d.clearCause bit

/-- R503: one injected occurrence. Answers the SEQ of its record, none where the rate limit merged it. -/
def Dev.inject (d : Dev) (s sel : Nat) : Dev × Option Nat :=
  let (d, x) := d.injectFlags s sel
  let (d, data) := d.openData x.data
  let o : Occ := { source := s, inst := x.inst, key := x.key, data := data, limited := isLimited s, inj := true }
  let seq := if (d.occur o).2.isSome then some d.ev.seq else none
  match injectCause s sel with
  | none => (d.raise o, seq)
  | some (bit, once) =>
    let d := d.stopOn o bit
    (if once then d.injectClears bit else d, seq)

def formInject : Form := { code := 0x0C03, managed := false, states := stIASHF, sel := 0xFFFF, inl := [(12, 0xFF), (13, 3)] }

/-- DEDUCED, log 99. -/
def checkInject (e : Entry) (_ : Dev) : Option Nat :=
  if !isSource (e.inl 12 2) then some 0x0C
  else if !instanceOk (e.inl 12 2) e.selector.toNat then some 4
  else none

/-- INJECT's effect. -/
def effInject (e : Entry) (d : Dev) : Dev × Reply :=
  let was := d.st
  let (d, seq) := (d.count Reg.INJECTS).inject (e.inl 12 2) e.selector.toNat
  (d, { result := seq.getD 0xFFFFFFFF + 2 ^ 32 * b2n (d.st == .fault && was != .fault) })

end Sys2Proof.Machine
end

