-- ==== Sys2Proof/Machine/Bar.lean ====
section
/-!
DEFINITION. The host's registers (R36 to R38, R49 to R53, R340, R356, R394, R423, R495 to R498, R506): every register of BAR0,
BAR2 and BAR4 by offset, the doorbells and enables among them, narrow and misaligned accesses, and configuration space.
-/

namespace Sys2Proof.Machine

/-! Vectors (R38). -/

/-- R38: a message that its mask has held back goes out once the mask is gone. -/
def Dev.sendPending (d : Dev) : Dev :=
  ((List.range 64).filter (fun v => d.host.pba.getLsbD v && !d.vecMasked v)).foldl (fun d v =>
    ({ d with host := { d.host with pba := d.host.pba &&& ~~~BitVec.ofNat 64 (1 <<< v) } }).sendMsix v) d

/-- A word of the MSI-X table. Of a Vector Control word only the mask bit is kept. -/
def Dev.writeMsix (d : Dev) (k v : Nat) : Dev :=
  let w := BitVec.ofNat 32 (if k % 4 = 3 then v % 2 else v)
  ({ d with host := { d.host with msixTable := Store.put msixDefault d.host.msixTable k w } }).sendPending

/-- The vectors that sources from `lo` up to but not including `hi` are routed to. -/
def Dev.vectorsOf (d : Dev) (lo hi : Nat) : List Nat :=
  ((d.ev.route.filter (fun r => lo ≤ r.1 && r.1 < hi && r.2.getLsbD 31)).map (fun r => (r.2.toNat >>> 24) % 64)).eraseDups

/-! Submission queues (R49 to R52). -/

/-- SQ_TAIL (R51). -/
def Dev.writeSqTail (d : Dev) (n v : Nat) : Dev :=
  let s := d.sq n
  let v := v % 4096
  if !s.enable then d
  else if s.size < v then d.setSq n { s with dbErr := true }
  else d.setSq n { s with tail := v }

/-- R50: SQ_CQID changes: the commands in flight keep the completion queue that they were fetched under. -/
def Dev.keepCq (d : Dev) (n : Nat) : Dev :=
  let flying := (d.chan.outst.filter (fun o => o.sq == n)).map (·.tag) ++
    (d.sq n).fenced.toList.map (fun x => x.entry.tag.toNat)
  let new := flying.filter (fun t => !(d.chan.moved.any (fun m => m.1 == t)))
  let cq := d.cqOf n
  d.setChan (fun c => { c with moved := c.moved ++ new.map (fun t => (t, cq)) })

/-- SQ_ENABLE, SQ_CQID and SQ_SIZE (R50). (DEDUCED, log 85) -/
def Dev.writeSqCtl (d : Dev) (n v : Nat) : Dev :=
  let s := d.sq n
  let en := v.testBit 31
  if s.enable then (if en then d else d.setSq n { s with enable := false, ready := false })
  else
    let cqid := if n % 64 = 0 then 0 else v / 2 ^ 16 % 64
    let d := if cqid = d.cqOf n then d else d.keepCq n
    let s := { s with size := v % 4096, cqid := cqid }
    if !en then d.setSq n s
    else if s.size = 0 then d.setSq n { s with err := true }
    else if !(d.cq cqid).ready then d.setSq n { s with err := true, head := 0, tail := 0 }
    else d.setSq n { s with enable := true, ready := true, err := false, head := 0, tail := 0 }

/-! Completion queues (R49 to R53, R537). -/

/-- R53: completions that wait for the queue are written while it has room. -/
def Dev.drainCq (d : Dev) (n : Nat) : Nat → Dev
  | 0 => d
  | k + 1 =>
    let c := d.cq n
    match c.waiting with
    | [] => d
    | x :: rest => if c.full then d else ((d.setCq n { c with waiting := rest }).writeCpl n x).drainCq n k

/-- CQ_HEAD (R51, R53, R537). -/
def Dev.writeCqHead (d : Dev) (n v : Nat) : Dev :=
  let c := d.cq n
  let v := v % 4096
  if !c.enable then d
  else if c.size < v then d.setCq n { c with dbErr := true }
  else ((d.setCq n { c with head := v }).drainCq n c.waiting.length).evalVectors (if c.irqEn then [c.vector] else [])

/-- R50: an enabled SQ names the queue, or a command that will complete into it is outstanding. -/
def Dev.cqInUse (d : Dev) (n : Nat) : Bool :=
  let home := fun (sq tag : Nat) => ((d.chan.moved.find? (fun m => m.1 == tag)).map (·.2)).getD (d.cqOf sq)
  (List.range 64).any (fun q => ((d.sq q).enable && d.cqOf q == n) ||
      (d.sq q).fenced.toList.any (fun x => home q x.entry.tag.toNat == n)) || !(d.cq n).waiting.isEmpty ||
    d.chan.outst.any (fun o => decide (o.sq < 64) && home o.sq o.tag == n)

/-- CQ_ENABLE, CQ_IRQ_EN, CQ_VECTOR and CQ_SIZE (R50). -/
def Dev.writeCqCtl (d : Dev) (n v : Nat) : Dev :=
  let c := { d.cq n with irqEn := v.testBit 30, vector := v / 2 ^ 24 % 64 }
  let en := v.testBit 31
  let c :=
    if c.enable then (if en || d.cqInUse n then c else { c with enable := false, ready := false })
    else
      let c := { c with size := v % 4096 }
      if !en then c
      else if c.size = 0 then { c with err := true }
      else { c with enable := true, ready := true, err := false, head := 0, tail := 0, phase := true, waiting := [] }
  ((d.setCq n c).evalVectors []).deliverAborted

/-! The queue configuration block (R49). -/

def Dev.readQueue (d : Dev) (n off : Nat) : Nat :=
  let s := d.sq n
  let c := d.cq n
  match off with
  | 0x00 => s.baseLo
  | 0x04 => s.baseHi
  | 0x08 => 2 ^ 31 * b2n s.enable + 2 ^ 16 * d.cqOf n + s.size
  | 0x0C => 2 ^ 18 * b2n s.dbErr + 2 ^ 17 * b2n s.err + 2 ^ 16 * b2n s.ready + s.head
  | 0x10 => c.baseLo
  | 0x14 => c.baseHi
  | 0x18 => 2 ^ 31 * b2n c.enable + 2 ^ 30 * b2n c.irqEn + 2 ^ 24 * c.vector + c.size
  | 0x1C => 2 ^ 19 * b2n (!c.waiting.isEmpty) + 2 ^ 18 * b2n c.dbErr + 2 ^ 17 * b2n c.err + 2 ^ 16 * b2n c.ready +
      2 ^ 12 * b2n c.phase + c.tail
  | _ => 0

def Dev.writeQueue (d : Dev) (n off v : Nat) : Dev :=
  let s := d.sq n
  let c := d.cq n
  match off with
  | 0x00 => if s.enable then d else d.setSq n { s with baseLo := v - v % 4096 }
  | 0x04 => if s.enable then d else d.setSq n { s with baseHi := v }
  | 0x08 => d.writeSqCtl n v
  | 0x0C => if v.testBit 18 then d.setSq n { s with dbErr := false } else d
  | 0x10 => if c.enable then d else d.setCq n { c with baseLo := v - v % 4096 }
  | 0x14 => if c.enable then d else d.setCq n { c with baseHi := v }
  | 0x18 => d.writeCqCtl n v
  | 0x1C => if v.testBit 18 then d.setCq n { c with dbErr := false } else d
  | _ => d

/-! Event registers (R495 to R498, R506). -/

/-- The bits of a group whose sources are not reserved. -/
def groupSources (g : Nat) : Nat := maskOf ((List.range 32).filter (fun b => isSource (32 * g + b)))

/-- CAUSE of a group: W1C, and INJ_CAUSE clears with it. (DEDUCED, log 36) -/
def Dev.writeCause (d : Dev) (g v : Nat) : Dev :=
  let keep : BitVec 1024 := ~~~BitVec.ofNat 1024 ((v % 2 ^ 32) <<< (32 * g))
  ({ d with ev := { d.ev with cause := d.ev.cause &&& keep, injCause := d.ev.injCause &&& keep } }).evalVectors
    (d.vectorsOf (32 * g) (32 * g + 32))

/-- MASK of a group. -/
def Dev.writeMask (d : Dev) (g v : Nat) : Dev :=
  let keep : BitVec 1024 := ~~~BitVec.ofNat 1024 (0xFFFFFFFF <<< (32 * g))
  let new := BitVec.ofNat 1024 ((v &&& groupSources g) <<< (32 * g))
  ({ d with ev := { d.ev with mask := d.ev.mask &&& keep ||| new } }).evalVectors (d.vectorsOf (32 * g) (32 * g + 32))

/-- R496: one record of a source, again, to the ring. (DEDUCED, log 100) -/
def Dev.replay (d : Dev) (s : Nat) : Dev :=
  match d.ev.unrung.find? (fun u => u.source == s) with
  | none => d
  | some u =>
    let seq := d.ev.seq
    let d := { d with ev := { d.ev with seq := (seq + 1) % 2 ^ 32 } }
    d.toRing (raiseDeep 8) { u.latest with replay := true, count := u.count, seq := seq }

/-- ROUTE of a source (R494 to R496). -/
def Dev.writeRoute (d : Dev) (s v : Nat) : Dev :=
  if !isSource s then d
  else
    let old := d.route s
    let new := BitVec.ofNat 32 (v &&& 0xBF000007)
    let was := d.vectorsOf s (s + 1)
    let d := { d with ev := { d.ev with route := Store.put routeDefault d.ev.route s new } }
    let d := if !old.getLsbD 0 && new.getLsbD 0 && d.ev.cause.getLsbD s then d.replay s else d
    d.evalVectors (was ++ d.vectorsOf s (s + 1))

/-- EVR_ENABLE and EVR_SIZE (R497). -/
def Dev.writeEvrCtl (d : Dev) (v : Nat) : Dev :=
  let e := d.ev
  let en := v.testBit 31
  let e :=
    if e.ringEnable then (if en then e else { e with ringEnable := false, ringReady := false })
    else
      let e := { e with ringSize := v % 4096 }
      if !en then e
      else if e.ringSize = 0 then { e with ringErr := true }
      else { e with ringEnable := true, ringReady := true, ringErr := false, ringTail := 0, ringHead := 0, ringPhase := true }
  { d with ev := e }

/-- EVR_HEAD (R497). -/
def Dev.writeEvrHead (d : Dev) (v : Nat) : Dev :=
  let v := v % 4096
  if !d.ev.ringEnable || d.ev.ringSize < v then d else { d with ev := { d.ev with ringHead := v } }

/-- A group's word of a 1,024-bit register. -/
def groupWord (b : BitVec 1024) (g : Nat) : Nat := (b.toNat >>> (32 * g)) % 2 ^ 32

/-- The groups of a register with a bit set. -/
def groupsSet (b : BitVec 1024) : Nat := maskOf ((List.range 32).filter (fun g => groupWord b g != 0))

def Dev.readEvents (d : Dev) (off : Nat) : Dev × Nat :=
  let e := d.ev
  if off < 0x4400 then
    let g := (off - 0x4000) / 32
    (d, match (off - 0x4000) % 32 with
      | 0x00 => groupWord e.cause g
      | 0x04 => groupWord e.mask g
      | 0x08 => groupWord d.evPending g
      | 0x0C => groupWord e.injCause g
      | _ => 0)
  else if 0x5000 ≤ off && off < 0x6000 then
    (d, if isSource ((off - 0x5000) / 4) then (d.route ((off - 0x5000) / 4)).toNat else 0)
  else
    match off with
    | 0x4400 => (d, e.ringLo)
    | 0x4404 => (d, e.ringHi)
    | 0x4408 => (d, 2 ^ 31 * b2n e.ringEnable + e.ringSize)
    | 0x440C => (d, 2 ^ 14 * b2n e.ringErr + 2 ^ 13 * b2n e.ringReady + 2 ^ 12 * b2n e.ringPhase + e.ringTail)
    | 0x4410 => (d, e.ringHead)
    | 0x4414 => ({ d with ev := { e with ringLost := 0 } }, e.ringLost)
    | 0x4418 => (d, groupsSet d.evPending)
    | 0x441C => (d, groupsSet e.cause)
    | _ => (d, 0)

def Dev.writeEvents (d : Dev) (off v : Nat) : Dev :=
  if off < 0x4400 then
    let g := (off - 0x4000) / 32
    match (off - 0x4000) % 32 with
    | 0x00 => d.writeCause g v
    | 0x04 => d.writeMask g v
    | _ => d
  else if 0x5000 ≤ off && off < 0x6000 then d.writeRoute ((off - 0x5000) / 4) v
  else
    match off with
    | 0x4400 => if d.ev.ringEnable then d else { d with ev := { d.ev with ringLo := v - v % 4096 } }
    | 0x4404 => if d.ev.ringEnable then d else { d with ev := { d.ev with ringHi := v } }
    | 0x4408 => d.writeEvrCtl v
    | 0x4410 => d.writeEvrHead v
    | _ => d

/-! BAR0 (R36, R37). -/

/-- HOST_READY and AUTONOMOUS (R37, R60). -/
def Dev.writeHostControl (d : Dev) (v : Nat) : Dev :=
  ({ d with host := { d.host with hostReady := v.testBit 0, autonomous := v.testBit 1 } }).deliverAborted

def Dev.readUnit (d : Dev) (off : Nat) : Dev × Nat :=
  let h := d.host
  match off with
  | 0x00 => (d, d.get Reg.UNIT_ID * 2 ^ 16)
  | 0x04 => (d, 16 * b2n (d.get Reg.FAULT_CAUSE != 0) + d.st.code)
  | 0x08 => (d, 2 * b2n h.autonomous + b2n h.hostReady)
  | 0x0C => (d, h.linkResets * 2 ^ 16 + widthCode h.width * 16 + h.speed)
  | 0x10 => (d, d.budgetNow)
  | 0x14 => ({ d with host := { h with dropBudget := 0 } }, h.dropBudget)
  | 0x18 => ({ d with host := { h with dropLinkdown := 0 } }, h.dropLinkdown)
  | _ => (d, 0)

/-- A 32-bit read in BAR0. -/
def Dev.readBar0 (d : Dev) (off : Nat) : Dev × Nat :=
  if off < 0x100 then d.readUnit off
  else if 0x1000 ≤ off && off < 0x1400 then
    let n := (off - 0x1000) / 16
    (d, match off % 16 with | 0 => (d.sq n).tail | 8 => (d.cq n).head | _ => 0)
  else if 0x2000 ≤ off && off < 0x3000 then (d, d.readQueue ((off - 0x2000) / 64) (off % 64))
  else if 0x4000 ≤ off && off < 0x8000 then d.readEvents off
  else if 0x8000 ≤ off && off < 0x9000 then d.readWin ((off - 0x8000) / 64) (off % 64)
  else (d, 0)

/-- A 32-bit write in BAR0. -/
def Dev.writeBar0 (d : Dev) (off v : Nat) : Dev :=
  if off = 0x08 then d.writeHostControl v
  else if 0x1000 ≤ off && off < 0x1400 then
    let n := (off - 0x1000) / 16
    match off % 16 with | 0 => d.writeSqTail n v | 8 => d.writeCqHead n v | _ => d
  else if 0x2000 ≤ off && off < 0x3000 then d.writeQueue ((off - 0x2000) / 64) (off % 64) v
  else if 0x4000 ≤ off && off < 0x8000 then d.writeEvents off v
  else if 0x8000 ≤ off && off < 0x9000 then d.writeWin ((off - 0x8000) / 64) (off % 64) v
  else d

/-! BAR2 (R36, R340, R394). -/

/-- R394: the timebase; SCAP in counts and sixteenths. -/
def Dev.readTb (d : Dev) (off : Nat) : Dev × Nat :=
  let k := d.clk
  match off with
  | 0x00 => ({ d with clk := { k with tbHi := d.tb / 2 ^ 32 % 2 ^ 32 } }, d.tb % 2 ^ 32)
  | 0x04 => (d, k.tbHi)
  | 0x08 => ({ d with clk := { k with scapHi := k.scap / 16 / 2 ^ 32 % 2 ^ 32, scapFrac := k.scap % 16 } }, k.scap / 16 % 2 ^ 32)
  | 0x0C => (d, k.scapHi)
  | 0x10 => (d, k.scapFrac)
  | _ => (d, 0)

/-- R340: the window of an engine. -/
def Dev.readFifo (d : Dev) (e off : Nat) : Dev × Nat :=
  let x := d.eng e
  match off with
  | 0x04 => d.pushData e
  | 0x08 => (d, x.push.length * 2 ^ 8 + x.pull.length)
  | 0x0C => (d, 2 * b2n x.pushUnder + b2n x.pullOvf)
  | _ => (d, 0)

def Dev.writeFifo (d : Dev) (e off v : Nat) : Dev :=
  let x := d.eng e
  match off with
  | 0x00 => d.pullData e (BitVec.ofNat 32 v)
  | 0x0C => d.setEng e { x with pushUnder := x.pushUnder && !v.testBit 1, pullOvf := x.pullOvf && !v.testBit 0 }
  | _ => d

/-- A 32-bit read in BAR2. -/
def Dev.readBar2 (d : Dev) (off : Nat) : Dev × Nat :=
  if off < 0x800 then d.readTimer (off / 64) (off % 64)
  else if off < 0x840 then d.readTb (off - 0x800)
  else if 0x1000 ≤ off && off < 0x2000 then d.readFifo ((off - 0x1000) / 256) (off % 256)
  else (d, 0)

/-- A 32-bit write in BAR2. -/
def Dev.writeBar2 (d : Dev) (off v : Nat) : Dev :=
  if off < 0x800 then d.writeTimer (off / 64) (off % 64) v
  else if 0x1000 ≤ off && off < 0x2000 then d.writeFifo ((off - 0x1000) / 256) (off % 256) v
  else d

/-! BAR4 (R36, R38). -/

/-- A 32-bit read in BAR4. -/
def Dev.readBar4 (d : Dev) (off : Nat) : Nat :=
  if off < 0x400 then (Store.get msixDefault d.host.msixTable (off / 4)).toNat
  else if off = 0x1000 then d.host.pba.toNat % 2 ^ 32
  else if off = 0x1004 then d.host.pba.toNat / 2 ^ 32
  else 0

/-- A 32-bit write in BAR4. -/
def Dev.writeBar4 (d : Dev) (off v : Nat) : Dev := if off < 0x400 then d.writeMsix (off / 4) v else d

/-! Accesses (R36, R47). -/

/-- R47: the function answers memory requests. -/
def Dev.memoryOn (d : Dev) : Bool := d.host.funcReady && d.host.memSpace && !d.host.d3hot && d.domainReady 17

/-- R47: a memory request that the function does not take: an Unsupported Request of a link that is up, reported through AER. -/
def Dev.memoryOff (d : Dev) (read : Bool) : Dev :=
  if !d.domainReady 17 then d
  else
    let d := d.reportAer false 0 0x100000
    if read then d.send .unsupported else d

/-- A read of the 32-bit word at an offset that is a multiple of 4. -/
def Dev.readReg (d : Dev) (bar off : Nat) : Dev × Nat :=
  match bar with
  | 0 => d.readBar0 off
  | 2 => d.readBar2 off
  | 4 => (d, d.readBar4 off)
  | _ => (d, 0)

/-- A write of the 32-bit word at an offset that is a multiple of 4. A reset that waits for its completion may now go on (R60). -/
def Dev.writeReg (d : Dev) (bar off v : Nat) : Dev :=
  (match bar with
  | 0 => d.writeBar0 off v
  | 2 => d.writeBar2 off v
  | 4 => d.writeBar4 off v
  | _ => d).resetCheck

/-- The size of a BAR. -/
def barSize (bar : Nat) : Nat := match bar with | 0 => 2 ^ 20 | 2 => 2 ^ 16 | 4 => 2 ^ 13 | _ => 0

/-- BAR_ACCESS (R36, R505). -/
def Dev.noteBarAccess (d : Dev) (bar off : Nat) : Dev :=
  ((d.count Reg.BAR_ACCESSES).orBits Reg.BAR_ACCESS 1).raise { source := 0, data := [(1, bar), (4, off)], limited := true }

/-- A host's write of `size` bytes at an offset of a BAR (R36, R47). (DEDUCED, log 101) -/
def Dev.hostWrite (d : Dev) (bar off size v : Nat) : Dev :=
  if size = 0 || barSize bar < off + size then d
  else if !d.memoryOn then d.memoryOff false
  else if size = 4 && off % 4 = 0 then d.writeReg bar off (v % 2 ^ 32)
  else if size = 8 && off % 8 = 0 then (d.writeReg bar (off + 4) (v / 2 ^ 32 % 2 ^ 32)).writeReg bar off (v % 2 ^ 32)
  else d.noteBarAccess bar off

/-- A host's read of `size` bytes at an offset of a BAR (R36, R47), with what it returns. -/
def Dev.hostRead (d : Dev) (bar off size : Nat) : Dev :=
  if size = 0 || barSize bar < off + size then d
  else if !d.memoryOn then d.memoryOff true
  else if size = 8 && off % 8 = 0 then
    let (d, lo) := d.readReg bar off
    let (d, hi) := d.readReg bar (off + 4)
    d.send (.read (lo + hi * 2 ^ 32))
  else if off % 4 + size ≤ 4 then
    let (d, w) := d.readReg bar (off - off % 4)
    d.send (.read (w >>> (8 * (off % 4)) % 2 ^ (8 * size)))
  else (d.noteBarAccess bar off).send (.read 0)

/-! The rows of one register. -/

/-- SQ_TAIL of a queue. -/
def Dev.sqTail (d : Dev) (n v : Nat) : Dev := d.hostWrite 0 (0x1000 + 16 * n) 4 v

/-- CQ_HEAD of a queue. -/
def Dev.cqHead (d : Dev) (n v : Nat) : Dev := d.hostWrite 0 (0x1008 + 16 * n) 4 v

/-- A write of the control word of a submission queue that sets SQ_ENABLE. -/
def Dev.sqEnable (d : Dev) (n cqid size : Nat) : Dev :=
  d.hostWrite 0 (0x2008 + 64 * n) 4 (2 ^ 31 + 2 ^ 16 * (cqid % 64) + size % 4096)

/-- A write of the control word of a submission queue that clears SQ_ENABLE and keeps the rest. -/
def Dev.sqDisable (d : Dev) (n : Nat) : Dev :=
  d.hostWrite 0 (0x2008 + 64 * n) 4 (2 ^ 16 * d.cqOf n + (d.sq n).size)

/-- A write of the control word of a completion queue that sets CQ_ENABLE. -/
def Dev.cqEnable (d : Dev) (n : Nat) (irqEn : Bool) (vector size : Nat) : Dev :=
  d.hostWrite 0 (0x2018 + 64 * n) 4 (2 ^ 31 + 2 ^ 30 * b2n irqEn + 2 ^ 24 * (vector % 64) + size % 4096)

/-- A write of the control word of a completion queue that clears CQ_ENABLE and keeps the rest. -/
def Dev.cqDisable (d : Dev) (n : Nat) : Dev :=
  let c := d.cq n
  d.hostWrite 0 (0x2018 + 64 * n) 4 (2 ^ 30 * b2n c.irqEn + 2 ^ 24 * c.vector + c.size)

/-- CAUSE of a group. -/
def Dev.hostCause (d : Dev) (g v : Nat) : Dev := d.hostWrite 0 (0x4000 + 32 * g) 4 v

/-- MASK of a group. -/
def Dev.hostMask (d : Dev) (g v : Nat) : Dev := d.hostWrite 0 (0x4004 + 32 * g) 4 v

/-- ROUTE of a source. -/
def Dev.hostRoute (d : Dev) (s v : Nat) : Dev := d.hostWrite 0 (0x5000 + 4 * s) 4 v

/-- EVR_ENABLE with EVR_SIZE. -/
def Dev.evrEnable (d : Dev) (en : Bool) (size : Nat) : Dev := d.hostWrite 0 0x4408 4 (2 ^ 31 * b2n en + size % 4096)

/-- EVR_HEAD. -/
def Dev.evrHead (d : Dev) (v : Nat) : Dev := d.hostWrite 0 0x4410 4 v

/-- RP of a window: both halves in one write (R408), or RP_LO alone. -/
def Dev.hostRp (d : Dev) (w : Nat) (both : Bool) (v : Nat) : Dev := d.hostWrite 0 (0x8008 + 64 * w) (if both then 8 else 4) v

/-- ARM of a timer. -/
def Dev.hostArm (d : Dev) (t : Nat) : Dev := d.hostWrite 2 (64 * t + 0x28) 4 1

/-- STOP of a timer. -/
def Dev.hostStop (d : Dev) (t : Nat) : Dev := d.hostWrite 2 (64 * t + 0x28) 4 2

/-- CAP_LO of a timer, or the naturally aligned 64-bit read of the pair (R353). -/
def Dev.hostCap (d : Dev) (t : Nat) (both : Bool) : Dev := d.hostRead 2 (64 * t + 0x08) (if both then 8 else 4)

/-- PULL_DATA of an engine. -/
def Dev.hostPull (d : Dev) (e v : Nat) : Dev := d.hostWrite 2 (0x1000 + 256 * e) 4 v

/-- PUSH_DATA of an engine. -/
def Dev.hostPush (d : Dev) (e : Nat) : Dev := d.hostRead 2 (0x1004 + 256 * e) 4

/-! Configuration space (R34, R35, R38, R47). -/

/-- MSI-X Enable and Function Mask of the MSI-X capability (R38). -/
def Dev.msixControl (d : Dev) (enable mask : Bool) : Dev :=
  ({ d with host := { d.host with msixEnable := enable, functionMask := mask } }).sendPending

/-- MSIX_UNMASK (R38): of a vector, by its Vector Control word, or of the function. -/
def Dev.msixUnmask (d : Dev) (vector : Option Nat) : Dev :=
  match vector with
  | some v => d.hostWrite 4 (16 * v + 12) 4 0
  | none => if d.host.funcReady then d.msixControl d.host.msixEnable false else d

/-- R34: Device ID, class code and Revision ID, the silicon stepping. -/
def Dev.pciIdentity (d : Dev) : Nat × Nat × Nat := (0x9416, 0x118000, d.get Reg.STEPPING)

/-- CONFIGURATION_WRITE (R34 to R36, R38, R47): a field of configuration space. Until the function is ready the request is answered
with Configuration Request Retry Status; in D3hot only the way back to D0 is taken. A value that R34 or R35 does not offer
changes nothing. -/
def Dev.configWrite (d : Dev) (f : ConfigField) : Dev :=
  let h := d.host
  if !d.domainReady 17 then d
  else
    match f with
    | .d0 => { d with host := { h with d3hot := false } }
    | f => if !h.funcReady then d.send .retry else
    match f with
    | .d0 => d
    | .bar n base => { d with host := { h with bars := h.bars.set n (base.toNat - base.toNat % barSize (2 * n)) } }
    | .aerCorrectable v => { d with host := { h with aerCorrectable := h.aerCorrectable &&& ~~~v } }
    | .aerUncorrectable v => { d with host := { h with aerUncorrectable := h.aerUncorrectable &&& ~~~v } }
    | .memorySpace en => { d with host := { h with memSpace := en } }
    | .maxPayload n => if [128, 256, 512].contains n then { d with host := { h with maxPayload := n } } else d
    | .maxReadRequest n =>
      if [128, 256, 512, 1024, 2048, 4096].contains n then { d with host := { h with maxReadRequest := n } } else d
    | .relaxedOrdering en => { d with host := { h with relaxedOrdering := en } }
    | .noSnoop en => { d with host := { h with noSnoop := en } }
    | .extendedTags en => { d with host := { h with tagsExt := en } }
    | .tags10 en => { d with host := { h with tags10 := en } }
    | .completionTimeout us => if 50 ≤ us && us ≤ 64000000 then { d with host := { h with cplTimeoutUs := us } } else d
    | .msix enable mask => d.msixControl enable mask

end Sys2Proof.Machine
end

