-- ==== Sys2Proof/Machine/Jtag.lean ====
section
/-!
DEFINITION. The test access port (R452, R530): boundary scan, and the debug unlock.
-/

namespace Sys2Proof.Machine

def Dev.setJtag (d : Dev) (g : Jtag → Jtag) : Dev := d.setBaro (fun b => { b with jtag := g b.jtag })

/-- R530: an instruction that drives pins acts as BYPASS while a run is in progress. (DEDUCED, log 87) -/
def drivesPins (code : Nat) : Bool := [0x00, 0x04, 0x05, 0x08, 0x09].contains code

/-- R530: the instruction that acts now: BYPASS in place of a drive instruction once a run has begun. -/
def Dev.jtagActs (d : Dev) : Nat :=
  if drivesPins d.baro.jtag.instruction && d.runOn then 0xFF else d.baro.jtag.instruction

/-- An instruction shifted into the port, which runs from VSTBY. -/
def Dev.jtagLoad (d : Dev) (code : Nat) : Dev :=
  if !d.power.vstby then d
  else d.setJtag (fun j => { j with instruction := if drivesPins code && d.runOn then 0xFF else code })

/-- The levels that so many cells capture: free values. (DESIGN CHOICE, log 16) -/
def Dev.captureCells (d : Dev) (n : Nat) : Dev × List Bool :=
  ({ d with free := d.free + n }, (List.range n).map (fun i => Config.pinLevel (d.free + i)))

/-- The cells shifted into the boundary-scan register while the captured levels come out. -/
def Dev.scanCells (d : Dev) (cells : List Bool) : Dev :=
  let (d, levels) := d.captureCells cells.length
  (d.setJtag (fun j => { j with boundary := cells })).send (.tdo (maskOf ((List.range levels.length).filter (fun i => (levels[i]?).getD false))))

/-- EXTEST, EXTEST_PULSE and EXTEST_TRAIN. -/
def Dev.jtagDrive (d : Dev) (code : Nat) (cells : List Bool) : Dev :=
  let n := d.jtagLoad code
  if n.baro.jtag.instruction = code && d.power.vstby then n.scanCells cells else n

/-- CLAMP and HIGHZ. -/
def Dev.jtagHold (d : Dev) (code : Nat) : Dev := d.jtagLoad code

/-- BYPASS. -/
def Dev.jtagBypass (d : Dev) : Dev := d.jtagLoad 0xFF

/-- SAMPLE/PRELOAD. -/
def Dev.jtagSample (d : Dev) (cells : List Bool) : Dev :=
  if d.power.vstby then (d.jtagLoad 0x02).scanCells cells else d

/-- R530: the IDCODE. -/
def Dev.idcodeWord (d : Dev) : Nat := d.get Reg.STEPPING % 16 * 2 ^ 28 + 0x9416 * 2 ^ 12 + 0x0D3 * 2 + 1

/-- IDCODE. -/
def Dev.jtagIdcode (d : Dev) : Dev :=
  if d.power.vstby then (d.jtagLoad 0x01).send (.tdo d.idcodeWord) else d

/-! The debug unlock (R452). -/

/-- The 64 B challenge with a value of the random source. Where its parts lie is not given. (DESIGN CHOICE, log 14) -/
def Dev.challengeBytes (d : Dev) (random : Nat) : List Byte :=
  (Config.challenge (d.get Reg.UNIT_ID) (d.get Reg.STEPPING) (d.get Reg.BOOT_COUNT) random ++ List.replicate 64 0).take 64

def Dev.setDebug (d : Dev) (x : Debug) : Dev := d.setBaro (fun b => { b with dbg := x })

/-- DBG_CHALLENGE (R452 step 1): a new challenge, unless a refusal less than 1 s ago forbids it. -/
def Dev.dbgChallenge (d : Dev) : Dev :=
  if !d.power.vstby then d
  else
    let d := d.jtagLoad 0x30
    if d.clk.bus < d.baro.dbg.refusedUntil then d
    else
      let r := Config.randomValue d.free
      let d := { d with free := d.free + 1 }
      (d.setDebug { d.baro.dbg with challenge := some (r, d.clk.bus) }).send (.tdo (leNat (d.challengeBytes r)))

/-- R452 step 2: the signature is the debug key's over the challenge read last, at most 60 s ago. -/
def Dev.responseGood (d : Dev) (signature : List Byte) : Bool :=
  match d.baro.dbg.challenge with
  | none => false
  | some (r, at') => decide (d.clk.bus ≤ at' + 12000000000) && decide (signature.length = 96) &&
      Config.signatureGood 3 (d.challengeBytes r) signature

/-- DBG_RESPONSE (R452 steps 2 to 4). (DEDUCED, log 90) -/
def Dev.dbgResponse (d : Dev) (signature : List Byte) : Dev :=
  if !d.power.vstby then d
  else
    let d := d.jtagLoad 0x31
    if d.responseGood signature then
      ((((d.setDebug { d.baro.dbg with challenge := none }).putFlag Reg.DEBUG_OPEN true).logOpen 8 549 0).orBits
        Reg.DEBUG_UNLOCK 1).raise { source := 549 }
    else d.setDebug ⟨none, d.clk.bus + 200000000⟩

/-- DBG_ACCESS (R530): 0 until the unlock; what the register holds then is not given. (DESIGN CHOICE, log 15) -/
def Dev.dbgAccess (d : Dev) : Dev :=
  if !d.power.vstby then d
  else
    let d := d.jtagLoad 0x32
    if d.flag Reg.DEBUG_OPEN then
      let (d, n) := d.takeFree
      d.send (.tdo (Config.freeValue n))
    else d.send (.tdo 0)

end Sys2Proof.Machine
end

