-- ==== Sys2Proof/Machine/Rows.lean ====
section
/-!
DEFINITION. Rows of the table that join several of the operations before: NOP, timeouts of reads (R35), accesses to a BAR (R36),
PARAM_WRITEs of one register that have rows of their own, inputs that reach the timers and engines as well (R334, R352), and
packets that go on to the pipeline (R166), and commands that waited on FENCE (R62).
-/

namespace Sys2Proof.Machine

/-- NOP (R66). -/
def formNop : Form := { code := 0x0100, managed := false, states := stAll }

def effNop (_ : Entry) (d : Dev) : Dev × Reply := (d, {})

/-! CPL_TIMEOUT (R35). -/

/-- The opcodes whose buffers the unit reads, with their forms and checks. -/
def bufferForm (code : Nat) (e : Entry) : Option (Form × (Entry → Dev → Option Nat)) :=
  match code with
  | 0x0202 => some (formParamWrite e, checkParamWrite)
  | 0x0203 => some (formParamStage e, checkParamStage)
  | 0x0205 => some (formTableWrite e, checkTable)
  | 0x0404 => if e.inl 12 1 = 0 then some (formHeadControl, checkHeadControl) else none
  | 0x0801 => some (formEngineLoad, checkEngineLoad)
  | 0x0901 => some (formAuxSequence, checkAuxSequence)
  | 0x0D01 => some (formFwStage, checkFwStage)
  | _ => none

/-- CPL_TIMEOUT: of the next entry of a queue, or of the buffer of the command in it. -/
def Dev.cplTimeout (d : Dev) (q : Nat) (command : Option (Nat × Entry)) : Dev :=
  match command with
  | none => d.fetchTimeout q
  | some (code, e) =>
    if e.sq.val ≠ q then d
    else match bufferForm code e with
      | none => d
      | some (f, check) => d.bufferTimeout f check e

/-- BAR_ACCESS (R36). -/
def Dev.barAccess (d : Dev) (bar off size : Nat) (write : Bool) (v : Nat) : Dev :=
  if write then d.hostWrite bar off size v else d.hostRead bar off size

/-! PARAM_WRITEs of one register. -/

/-- FRAME_MARK (R105): word 03h of page 0200h. -/
def Dev.frameMarkRow (d : Dev) (e : Entry) : Dev := if e.names 0x0200 (· == 0x03) then d.paramWrite e else d

/-- FLIP (R162): RX_FLIP of a group, page 0300h. -/
def Dev.flipRow (d : Dev) (e : Entry) : Dev :=
  if e.names 0x0300 (fun w => decide (w < 0x60) && w % 16 == 0x0A) then d.paramWrite e else d

/-- FORCE_STORM (R268): word 06h of page 0600h. -/
def Dev.forceStormRow (d : Dev) (e : Entry) : Dev := if e.names 0x0600 (· == 0x06) then d.paramWrite e else d

/-- AUTOSTART_SETTINGS_WRITE (R448): word 10h of page 0D00h. -/
def Dev.autostartRow (d : Dev) (e : Entry) : Dev := if e.names 0x0D00 (· == 0x10) then d.paramWrite e else d

/-- SHORT (R331): words 80h and 81h of page 0900h. -/
def Dev.shortRow (d : Dev) (e : Entry) : Dev := if e.names 0x0900 (fun w => w == 0x80 || w == 0x81) then d.paramWrite e else d

/-! Inputs. -/

/-- ENC_EDGE (R96, R352): each edge of ENC_A or ENC_B is an event to the timers too. -/
def Dev.encoderEdge (d : Dev) (a b : Bool) : Dev :=
  if a == d.arr.encA && b == d.arr.encB then d else (d.encEdge a b).timerEvent 4 0

/-- ENC_Z (R96, R352). -/
def Dev.encoderZ (d : Dev) : Dev := d.encZ.timerEvent 5 0

/-- FRAME_IN (R105, R334, R352): an edge of the selected polarity goes to WAIT and to the timers too. -/
def Dev.frameInEdge (d : Dev) (level : Bool) : Dev :=
  let n := d.frameInLevel level
  if d.arr.frameIn != level && level != d.flag Reg.FRAME_IN_EDGE then (n.pulse 3).timerEvent 6 0 else n

/-- R145, R166: what a scan found on a group: a bad word is counted, a CONTROL packet is handled, and a LINE_SEGMENT that the lanes
take goes on to ingest, and its head's lines to what follows. `altered` are the words that an RX_FLIP altered (R162). -/
def Dev.foundIn (d : Dev) (g : Nat) (ws altered : List Nat) : Found → Dev
  | .bad at' =>
    let inj := altered.any (fun k => decide (at' ≤ k) && decide (k < at' + 3))
    let head := if hfield (ws.drop at') 0 63 56 = 0x5C then hfield (ws.drop at') 0 55 52 else 0
    (d.packetLost g inj).noteLost head inj
  | .packet at' len =>
    let p : Packet := ⟨(ws.drop at').take len, altered.any (fun k => decide (at' ≤ k) && decide (k < at' + len))⟩
    if hfield p.words 0 63 56 = 0xC3 then d.controlIn g p
    else match d.segmentIn g p with
      | (d, some p) => (d.ingestSegment p).headMoved (segHead p.words).head
      | (d, none) => d

/-- LINE_SEGMENT and CONTROL (R135 to R148, R166): what a group receives in some intervals, from group word `pos` of the first on. -/
def Dev.linkIn (d : Dev) (g pos : Nat) (intervals : List (List (List Bool))) : Dev :=
  if !d.receives g then d
  else
    let (d, ws, altered) := d.receiveWords g pos intervals
    let (found, hunting) := scan (ws.length + 1) 0 (d.laneGroup g).hunting ws
    found.foldl (fun d f => d.foundIn g ws altered f) (d.setLaneGroup g { d.laneGroup g with hunting := hunting })

/-! FENCE (R62). -/

/-- The form and the effect of every opcode of R66. -/
def anyOp (e : Entry) (code : Nat) : Form × (Entry → Dev → Dev × Reply) :=
  match code with
  | 0x0100 => (formNop, effNop)
  | 0x0103 => (formStateGet, effStateGet)
  | 0x0201 => (formParamRead, effParamRead)
  | 0x0202 => (formParamWrite e, effParamWrite)
  | 0x0203 => (formParamStage e, effParamStage)
  | 0x0204 => (formCommit, effCommit)
  | 0x0207 => (formBankSwap, effBankSwap)
  | 0x0301 => (formLineStart, effLineStart)
  | 0x0302 => (formLineStop, effLineStop)
  | 0x0402 => (formLinkStatus, effLinkStatus)
  | 0x0501 => (formTrackerStatus, effTrackerStatus)
  | 0x0502 => (formStormClear, effStormClear)
  | 0x0601 => (formCountersRead, effCountersRead)
  | 0x0602 => (formCountersClear, effCountersClear)
  | 0x0702 => (formEjectLive, effEjectLive)
  | 0x0703 => (formEjectDry, effEjectDry)
  | 0x0802 => (formEngineStart, effEngineStart)
  | 0x0803 => (formEngineStop, effEngineStop)
  | 0x0804 => (formEngineStatus, effEngineStatus)
  | 0x0902 => (formAuxRead, effAuxRead)
  | 0x0A02 => (formRingRelease, effRingRelease)
  | 0x0B03 => (formLsynPhaseStep, effLsynPhaseStep)
  | 0x0C03 => (formInject, effInject)
  | 0x0E01 => (formThermalStatus, effThermalStatus)
  | code => managedOp e (formSelftest, effSelftest) (formResetUnit, effResetUnit) code

/-- A command that waited on FENCE is dispatched. The unit may have changed its state meanwhile, so steps 5 to 7 of R55 are taken
again (R30). -/
def Dev.unfence (d : Dev) (x : Fenced) : Dev :=
  let e := x.entry
  let op := anyOp e x.code
  let d := d.setSq e.sq { d.sq e.sq with fenced := none }
  match d.refusesNow op.1 with
  | some r => d.answer e.sq e.tag.toNat e.bufAddr.toNat op.1.op r
  | none => if x.timesOut then (d.readBuffer op.1 e).timedOut op.1.op e else d.dispatch op.1 op.2 e

/-- R62: a command that waits on FENCE and whose queue has no earlier command outstanding any more. -/
def Dev.fenceOver (d : Dev) : Option Fenced :=
  ((List.range 64).findSome? (fun q => if d.busySq q then none else (d.sq q).fenced))

/-- R62: the commands whose earlier ones have all completed are dispatched, the lowest queue first. -/
def Dev.unfenceAll (d : Dev) : Nat → Dev
  | 0 => d
  | n + 1 => match d.fenceOver with
    | none => d
    | some x => (d.unfence x).unfenceAll n

/-- The commands whose FENCE is over are dispatched; a RESET_UNIT among them acts once its completion is written (R60). -/
def Dev.releaseFences (d : Dev) : Dev := if d.fenceOver.isSome then (d.unfenceAll 64).resetCheck else d

/-! Time. -/

/-- R392, R534: a CTLCLK cycle passes. A BUSCLK period ends with its second one, and the timebase counts once the system PLL has
settled; the transmit lanes send (R157), the synthesizer counts (R384), and a reset pulse may end (R479). Storms that STORM_CLEAR names
end (R259), runs end and begin (R103), and commands whose FENCE is over are dispatched (R62). Nothing runs without VSTBY.
(DESIGN CHOICE, log 3) -/
def Dev.tick (d : Dev) : Dev :=
  if !d.power.vstby then d
  else if !d.half then ({ d with half := true } : Dev).stormCheck.runCheck.releaseFences
  else
    let d := ({ d with half := false, clk := { d.clk with bus := d.clk.bus + 1 } } : Dev).transmit.modulate
    (if d.flag Reg.SYSPLL_SETTLED then d.countTb else d).pulseEnd.stormCheck.runCheck.releaseFences

/-- SYNC_RELEASE (R336) of a group. -/
def Dev.releaseGroup (d : Dev) (group : Nat) : Dev := if d.ejectOn then d.syncGroup group else d

end Sys2Proof.Machine
end

