-- ==== Sys2Proof/Machine/ExecArray.lean ====
section
/-!
DEFINITION. Meanings of commands, one for each: line edges and triggers, frames, converters, lanes and head lines. Each changes the unit
alone, never the queue.
-/

namespace Sys2Proof.Machine

/-- LSYN_SETTLED (R385). The line synthesizer has settled. -/
def execLsynSettled (s : State) : Host.Outcome State Fault Refusal :=
  .next { s with dev := s.dev.lsynSettled }

/-- LINE_EDGE (R387, R538). A line edge of the synthesizer. -/
def execLineEdge (s : State) : Host.Outcome State Fault Refusal :=
  .next { s with dev := s.dev.lineEdge }

/-- ENC_EDGE (R96, R352). New levels of ENC_A and ENC_B. -/
def execEncEdge (a : Bool) (b : Bool) (s : State) : Host.Outcome State Fault Refusal :=
  .next { s with dev := s.dev.encoderEdge a b }

/-- ENC_Z (R96, R352). A rising edge of ENC_Z. -/
def execEncZ (s : State) : Host.Outcome State Fault Refusal :=
  .next { s with dev := s.dev.encoderZ }

/-- LINE_TRIGGER (R97). A trigger of the selected source; with what the seat slices whose steps end on the line measured (R126, R128). -/
def execLineTrigger (cals : List SliceCal) (s : State) : Host.Outcome State Fault Refusal :=
  .next { s with dev := s.dev.onEdge (fun d => (d.lineTrigger cals).afterTrigger d) }

/-- HELD_TRIGGER_ACCEPT (R97). The held trigger can be accepted; with what seat slices measured. -/
def execHeldTriggerAccept (cals : List SliceCal) (s : State) : Host.Outcome State Fault Refusal :=
  .next { s with dev := s.dev.onEdge (fun d => (d.acceptHeld cals).afterTrigger d) }

/-- FRAME_IN (R105, R352). A level of FRAME_IN. -/
def execFrameIn (level : Bool) (s : State) : Host.Outcome State Fault Refusal :=
  .next { s with dev := s.dev.frameInEdge level }

/-- TRIG_STALL (R100). LINE_TIMEOUT has passed without a trigger. -/
def execTrigStall (s : State) : Host.Outcome State Fault Refusal :=
  .next { s with dev := s.dev.trigStall }

/-- FG_CAL (R130). Foreground calibration ends; with what its slices measured. -/
def execFgCal (cals : List SliceCal) (s : State) : Host.Outcome State Fault Refusal :=
  .next { s with dev := s.dev.fgCal cals }

/-- HEAD0_LINE_DELIVERY (R119). The oldest converted line of head 0: electrons by exposure (rows of the array), and the comparators that
trip between 130 % and 150 % of full scale (exposure, column). -/
def execHead0LineDelivery (charges : List (List Int)) (trips : List (Nat × Nat)) (s : State) :
    Host.Outcome State Fault Refusal :=
  .next { s with dev := (s.dev.head0Line charges trips).headMoved 0 }

/-- MARKER (R140, R141). What a lane received where its marker should be, and where in the interval, in bit times. -/
def execMarker (lane : Fin 24) (word : Option (BitVec 64)) (arrived : Nat) (s : State) : Host.Outcome State Fault Refusal :=
  .next { s with dev := s.dev.marker lane (word.map (·.toNat)) arrived }

/-- LOS (R143, R161). The amplitude of a lane has been gone for 1 us, or in a dip for less. -/
def execLos (x : LaneLoss) (s : State) : Host.Outcome State Fault Refusal :=
  .next { s with dev := s.dev.los x.lane x.dip }

/-- WANDER (R154). The frequency of a lane has differed by at least so many ppm for 1 ms. -/
def execWander (x : LaneDrift) (s : State) : Host.Outcome State Fault Refusal :=
  .next { s with dev := s.dev.wander x.lane x.ppm }

/-- LINE_SEGMENT (R146, R166). A LINE_SEGMENT comes on a group: the line bits of its lanes, by interval. -/
def execLineSegment (g : Fin 6) (pos : Nat) (first : Vector (List Bool) 4) (rest : List (Vector (List Bool) 4)) (s : State) :
    Host.Outcome State Fault Refusal :=
  .next { s with dev := s.dev.linkIn g pos ((first :: rest).map Vector.toList) }

/-- CONTROL (R148). A CONTROL packet comes on a group, as LINE_SEGMENT. -/
def execControl (g : Fin 6) (pos : Nat) (first : Vector (List Bool) 4) (rest : List (Vector (List Bool) 4)) (s : State) :
    Host.Outcome State Fault Refusal :=
  .next { s with dev := s.dev.linkIn g pos ((first :: rest).map Vector.toList) }

/-- MISSING_LINE (R170). The deadline of the next line of a head has passed. -/
def execMissingLine (head : Fin 12) (s : State) : Host.Outcome State Fault Refusal :=
  .next { s with dev := (s.dev.missingLine head).headMoved head }

end Sys2Proof.Machine
end

