-- ==== Sys2Proof/Machine/ExecChannel.lean ====
section
/-!
DEFINITION. Meanings of commands, one for each: the opcodes of R66, their later steps beside them, and what becomes of entries that fail
(R35, R55). Each changes the unit alone, never the queue.
-/

namespace Sys2Proof.Machine

/-- NOP (R66). No effect; RESULT 0. -/
def execNop (e : Entry) (s : State) : Host.Outcome State Fault Refusal :=
  .next { s with dev := s.dev.hostCommand formNop noCheck effNop e }

/-- IDENTIFY (R451). The identity record. -/
def execIdentify (e : Entry) (s : State) : Host.Outcome State Fault Refusal :=
  .next { s with dev := s.dev.hostCommand formIdentify checkIdentify effIdentify e }

/-- STATE_SET (R29, R535). A transition of the unit state. -/
def execStateSet (e : Entry) (s : State) : Host.Outcome State Fault Refusal :=
  .next { s with dev := s.dev.hostCommand formStateSet checkStateSet effStateSet e }

/-- STATE_GET (R66). The unit state and FAULT_PRESENT. -/
def execStateGet (e : Entry) (s : State) : Host.Outcome State Fault Refusal :=
  .next { s with dev := s.dev.hostCommand formStateGet noCheck effStateGet e }

/-- RESET_UNIT (R60, R479). Its completion first, then the warm reset. -/
def execResetUnit (e : Entry) (s : State) : Host.Outcome State Fault Refusal :=
  .next { s with dev := (s.dev.hostCommand formResetUnit noCheck effResetUnit e).resetCheck }

/-- RESET_PIPELINE (R483). The flush behind the line in progress. -/
def execResetPipeline (e : Entry) (s : State) : Host.Outcome State Fault Refusal :=
  .next { s with dev := s.dev.hostCommand formResetPipeline noCheck effResetPipeline e }

/-- RECIPE_LOAD (R445). A recipe is checked whole and its load begins. -/
def execRecipeLoad (e : Entry) (s : State) : Host.Outcome State Fault Refusal :=
  .next { s with dev := s.dev.hostCommand formRecipeLoad noCheck effRecipeLoad e }

/-- RECIPE_SAVE (R446). The configuration is captured. -/
def execRecipeSave (e : Entry) (s : State) : Host.Outcome State Fault Refusal :=
  .next { s with dev := s.dev.hostCommand formRecipeSave noCheck effRecipeSave e }

/-- PARAM_READ (R71). Parameter words or pending values. -/
def execParamRead (e : Entry) (s : State) : Host.Outcome State Fault Refusal :=
  .next { s with dev := s.dev.hostCommand formParamRead checkParamRead effParamRead e }

/-- PARAM_WRITE (R69, R70). Parameter words written together. -/
def execParamWrite (e : Entry) (s : State) : Host.Outcome State Fault Refusal :=
  .next { s with dev := s.dev.hostCommand (formParamWrite e) checkParamWrite effParamWrite e }

/-- PARAM_STAGE (R69). Pending values of staged words. -/
def execParamStage (e : Entry) (s : State) : Host.Outcome State Fault Refusal :=
  .next { s with dev := s.dev.hostCommand (formParamStage e) checkParamStage effParamStage e }

/-- COMMIT (R72 to R76). A new generation at the chosen boundary. -/
def execCommit (e : Entry) (s : State) : Host.Outcome State Fault Refusal :=
  .next { s with dev := s.dev.hostCommand formCommit checkCommit effCommit e }

/-- TABLE_WRITE (R77 to R79). Table words, after DATA_CRC and locks; at work until TABLE_WRITE_APPLY where flash or banks are written. -/
def execTableWrite (e : Entry) (s : State) : Host.Outcome State Fault Refusal :=
  .next { s with dev := s.dev.hostCommand (formTableWrite e) checkTable effTableWrite e }

/-- TABLE_READ (R78). Table words with their CRC-32C. -/
def execTableRead (e : Entry) (s : State) : Host.Outcome State Fault Refusal :=
  .next { s with dev := s.dev.hostCommand formTableRead checkTable effTableRead e }

/-- BANK_SWAP (R197). A cross-fade to the other alignment bank. -/
def execBankSwap (e : Entry) (s : State) : Host.Outcome State Fault Refusal :=
  .next { s with dev := s.dev.hostCommand formBankSwap checkBankSwap effBankSwap e }

/-- LINE_START (R103). A run without tracking. -/
def execLineStart (e : Entry) (s : State) : Host.Outcome State Fault Refusal :=
  .next { s with dev := s.dev.hostCommand formLineStart noCheck effLineStart e }

/-- LINE_STOP (R103). The run of LINE_START ends. -/
def execLineStop (e : Entry) (s : State) : Host.Outcome State Fault Refusal :=
  .next { s with dev := s.dev.hostCommand formLineStop noCheck effLineStop e }

/-- STATS_READ (R112). A held statistics block. -/
def execStatsRead (e : Entry) (s : State) : Host.Outcome State Fault Refusal :=
  .next { s with dev := s.dev.hostCommand formStatsRead checkStatsRead effStatsRead e }

/-- LINK_TRAIN (R151). A group goes down and trains. -/
def execLinkTrain (e : Entry) (s : State) : Host.Outcome State Fault Refusal :=
  .next { s with dev := s.dev.hostCommand formLinkTrain checkGroup effLinkTrain e }

/-- LINK_TRAIN_COMPLETE (R151). Training of a group has ended. -/
def execLinkTrainComplete (g : Fin 6) (s : State) : Host.Outcome State Fault Refusal :=
  .next { s with dev := s.dev.trainDone g }

/-- LINK_STATUS (R160). Group status, lane map, heads in link and skew. -/
def execLinkStatus (e : Entry) (s : State) : Host.Outcome State Fault Refusal :=
  .next { s with dev := s.dev.hostCommand formLinkStatus checkGroup effLinkStatus e }

/-- LANE_PRBS (R159). A pattern on lanes, its check, or its end. -/
def execLanePrbs (e : Entry) (s : State) : Host.Outcome State Fault Refusal :=
  .next { s with dev := s.dev.hostCommand formLanePrbs checkGroup effLanePrbs e }

/-- HEAD_CONTROL (R157, R160). A user message to a head or peer, or the oldest one of a mailbox. -/
def execHeadControl (e : Entry) (s : State) : Host.Outcome State Fault Refusal :=
  .next { s with dev := s.dev.hostCommand formHeadControl checkHeadControl effHeadControl e }

/-- TRACKER_STATUS (R266). Open-object counts, storms, free slots. -/
def execTrackerStatus (e : Entry) (s : State) : Host.Outcome State Fault Refusal :=
  .next { s with dev := s.dev.hostCommand formTrackerStatus checkTrackerStatus effTrackerStatus e }

/-- STORM_CLEAR (R266). Storms end with the line in progress. -/
def execStormClear (e : Entry) (s : State) : Host.Outcome State Fault Refusal :=
  .next { s with dev := s.dev.hostCommand formStormClear noCheck effStormClear e }

/-- COUNTERS_READ (R290). Verdict and shot counters. -/
def execCountersRead (e : Entry) (s : State) : Host.Outcome State Fault Refusal :=
  .next { s with dev := s.dev.hostCommand formCountersRead checkCountersRead effCountersRead e }

/-- COUNTERS_CLEAR (R290). Counters cleared by class. -/
def execCountersClear (e : Entry) (s : State) : Host.Outcome State Fault Refusal :=
  .next { s with dev := s.dev.hostCommand formCountersClear noCheck effCountersClear e }

/-- VALVE_TEST (R321). Test pulses in HOLD. -/
def execValveTest (e : Entry) (s : State) : Host.Outcome State Fault Refusal :=
  .next { s with dev := s.dev.hostCommand formValveTest noCheck effValveTest e }

/-- EJECT_LIVE (R321). To SORTING. -/
def execEjectLive (e : Entry) (s : State) : Host.Outcome State Fault Refusal :=
  .next { s with dev := s.dev.hostCommand formEjectLive noCheck effEjectLive e }

/-- EJECT_DRY (R321). To ARMED. -/
def execEjectDry (e : Entry) (s : State) : Host.Outcome State Fault Refusal :=
  .next { s with dev := s.dev.hostCommand formEjectDry noCheck effEjectDry e }

/-- ENGINE_LOAD (R338). A program into a stopped engine. -/
def execEngineLoad (e : Entry) (s : State) : Host.Outcome State Fault Refusal :=
  .next { s with dev := s.dev.hostCommand formEngineLoad checkEngineLoad effEngineLoad e }

/-- ENGINE_START (R339). Stopped engines start on one edge. -/
def execEngineStart (e : Entry) (s : State) : Host.Outcome State Fault Refusal :=
  .next { s with dev := s.dev.hostCommand formEngineStart noCheck effEngineStart e }

/-- ENGINE_STOP (R337). Engines stop on one edge. -/
def execEngineStop (e : Entry) (s : State) : Host.Outcome State Fault Refusal :=
  .next { s with dev := s.dev.hostCommand formEngineStop noCheck effEngineStop e }

/-- ENGINE_STATUS (R341). Status word and shift register of an engine. -/
def execEngineStatus (e : Entry) (s : State) : Host.Outcome State Fault Refusal :=
  .next { s with dev := s.dev.hostCommand formEngineStatus noCheck effEngineStatus e }

/-- TIMER_CONFIG (R358). Both configuration words of timers. -/
def execTimerConfig (e : Entry) (s : State) : Host.Outcome State Fault Refusal :=
  .next { s with dev := s.dev.hostCommand formTimerConfig checkTimerConfig effTimerConfig e }

/-- AUX_SEQUENCE (R377). The auxiliary sequence is checked, started or stopped. -/
def execAuxSequence (e : Entry) (s : State) : Host.Outcome State Fault Refusal :=
  .next { s with dev := s.dev.hostCommand formAuxSequence checkAuxSequence effAuxSequence e }

/-- AUX_READ (R377). Latest auxiliary results. -/
def execAuxRead (e : Entry) (s : State) : Host.Outcome State Fault Refusal :=
  .next { s with dev := s.dev.hostCommand formAuxRead checkAuxRead effAuxRead e }

/-- RING_ATTACH (R402, R403). An archive window is attached. -/
def execRingAttach (e : Entry) (s : State) : Host.Outcome State Fault Refusal :=
  .next { s with dev := s.dev.hostCommand formRingAttach checkRingAttach effRingAttach e }

/-- RING_RELEASE (R403). An archive window is detached. -/
def execRingRelease (e : Entry) (s : State) : Host.Outcome State Fault Refusal :=
  .next { s with dev := s.dev.hostCommand formRingRelease noCheck effRingRelease e }

/-- TAP_ARM (R220). A tap channel is armed or disarmed. -/
def execTapArm (e : Entry) (s : State) : Host.Outcome State Fault Refusal :=
  .next { s with dev := s.dev.hostCommand formTapArm checkTapArm effTapArm e }

/-- LSYN_CONFIG (R386). The line synthesizer set up. -/
def execLsynConfig (e : Entry) (s : State) : Host.Outcome State Fault Refusal :=
  .next { s with dev := s.dev.hostCommand formLsynConfig checkLsynConfig effLsynConfig e }

/-- LSYN_RAMP (R389). A ramp starts, is replaced or stops. -/
def execLsynRamp (e : Entry) (s : State) : Host.Outcome State Fault Refusal :=
  .next { s with dev := s.dev.hostCommand formLsynRamp checkLsynRamp effLsynRamp e }

/-- LSYN_PHASE_STEP (R391). A phase step. -/
def execLsynPhaseStep (e : Entry) (s : State) : Host.Outcome State Fault Refusal :=
  .next { s with dev := s.dev.hostCommand formLsynPhaseStep noCheck effLsynPhaseStep e }

/-- TIMEBASE_ALIGN (R398). The timebase read, set, moved or resynchronised. -/
def execTimebaseAlign (e : Entry) (s : State) : Host.Outcome State Fault Refusal :=
  .next { s with dev := s.dev.hostCommand formTimebaseAlign noCheck effTimebaseAlign e }

/-- SELFTEST (R486, R487). A test begins. -/
def execSelftest (e : Entry) (s : State) : Host.Outcome State Fault Refusal :=
  .next { s with dev := s.dev.hostCommand formSelftest checkSelftest effSelftest e }

/-- SELFTEST_DONE (R487). The running test ends: whether it passed, its failure code, and how long it took. -/
def execSelftestDone (pass : Bool) (code : BitVec 32) (us : Nat) (s : State) : Host.Outcome State Fault Refusal :=
  .next { s with dev := s.dev.selftestDone pass code.toNat us }

/-- CALIBRATE (R183). A calibration begins to gather. -/
def execCalibrate (e : Entry) (s : State) : Host.Outcome State Fault Refusal :=
  .next { s with dev := s.dev.hostCommand formCalibrate checkCalibrate effCalibrate e }

/-- CALIBRATE_FINAL_STEP (R186). Gathering has ended. -/
def execCalibrateFinalStep (s : State) : Host.Outcome State Fault Refusal :=
  .next { s with dev := s.dev.calibrateFinal }

/-- INJECT (R503). An injected occurrence of a source. -/
def execInject (e : Entry) (s : State) : Host.Outcome State Fault Refusal :=
  .next { s with dev := s.dev.hostCommand formInject checkInject effInject e }

/-- FW_STAGE (R438). A chunk of a firmware image. -/
def execFwStage (e : Entry) (s : State) : Host.Outcome State Fault Refusal :=
  .next { s with dev := s.dev.hostCommand formFwStage checkFwStage effFwStage e }

/-- FW_VERIFY (R439). Verification of a staged image begins. -/
def execFwVerify (e : Entry) (s : State) : Host.Outcome State Fault Refusal :=
  .next { s with dev := s.dev.hostCommand formFwVerify noCheck effFwVerify e }

/-- FW_ACTIVATE (R440). The selector write begins. -/
def execFwActivate (e : Entry) (s : State) : Host.Outcome State Fault Refusal :=
  .next { s with dev := s.dev.hostCommand formFwActivate checkFwActivate effFwActivate e }

/-- UNLOCK_UNTESTED (R437). An untested pairing is accepted. -/
def execUnlockUntested (e : Entry) (s : State) : Host.Outcome State Fault Refusal :=
  .next { s with dev := s.dev.hostCommand formUnlockUntested checkUnlockUntested effUnlockUntested e }

/-- LOG_READ (R450). Log entries from a sequence number on. -/
def execLogRead (e : Entry) (s : State) : Host.Outcome State Fault Refusal :=
  .next { s with dev := s.dev.hostCommand formLogRead checkLogRead effLogRead e }

/-- THERMAL_STATUS (R469). Temperatures and thermal flags. -/
def execThermalStatus (e : Entry) (s : State) : Host.Outcome State Fault Refusal :=
  .next { s with dev := s.dev.hostCommand formThermalStatus noCheck effThermalStatus e }

/-- DOMAIN_SET (R477). Domains off, then on. -/
def execDomainSet (e : Entry) (s : State) : Host.Outcome State Fault Refusal :=
  .next { s with dev := s.dev.hostCommand formDomainSet checkDomainSet effDomainSet e }

/-- ENTRY_CHECK (R55). The next entry fails its ENTRY_CRC. -/
def execEntryCheck (opcode : BitVec 16) (e : Entry) (s : State) : Host.Outcome State Fault Refusal :=
  .next { s with dev := s.dev.entryCheck opcode.toNat e }

/-- BAD_OPCODE (R55). The next entry names an opcode that R66 does not list. -/
def execBadOpcode (opcode : BitVec 16) (e : Entry) (s : State) : Host.Outcome State Fault Refusal :=
  .next { s with dev := s.dev.badOpcode opcode.toNat e }

/-- CPL_TIMEOUT (R35). A read times out: of the next entry of a queue, or of the buffer of the command in it. -/
def execCplTimeout (sq : Fin 64) (command : Option (BitVec 16 × Entry)) (s : State) : Host.Outcome State Fault Refusal :=
  .next { s with dev := s.dev.cplTimeout sq (command.map (fun c => (c.1.toNat, c.2))) }

end Sys2Proof.Machine
end

