-- ==== Sys2Proof/Machine/ExecClock.lean ====
section
/-!
DEFINITION. Meanings of commands, one for each: the timebase's link, the die diode, flash commits and the debugger. Each changes the unit
alone, never the queue.
-/

namespace Sys2Proof.Machine

/-- SYNCIN_EDGE (R394 to R397). A SYNCIN edge, so many sixteenths after the count. -/
def execSyncinEdge (sixteenths : Fin 16) (s : State) : Host.Outcome State Fault Refusal :=
  .next { s with dev := s.dev.syncinEdge sixteenths }

/-- SYNC_MISS (R396). A window has passed without an edge. -/
def execSyncMiss (s : State) : Host.Outcome State Fault Refusal :=
  .next { s with dev := s.dev.syncMiss }

/-- SYNCOUT (R395). A pulse is due. -/
def execSyncout (s : State) : Host.Outcome State Fault Refusal :=
  .next { s with dev := s.dev.syncout }

/-- DIODE_SAMPLE (R455). A sample of the diode in the unit of TEMP_RAW, or none. -/
def execDiodeSample (sample : Option Int) (s : State) : Host.Outcome State Fault Refusal :=
  .next { s with dev := s.dev.diodeSample sample }

/-- HOT_ON (R460). The Barometer carries out the WARN and HOT actions. -/
def execHotOn (s : State) : Host.Outcome State Fault Refusal :=
  .next { s with dev := s.dev.hotOn }

/-- TRIP_COMMIT (R466). Held flash writes are committed. -/
def execTripCommit (s : State) : Host.Outcome State Fault Refusal :=
  .next { s with dev := s.dev.tripCommit }

/-- LOG_COMMIT (R450). Log entries are committed. -/
def execLogCommit (s : State) : Host.Outcome State Fault Refusal :=
  .next { s with dev := s.dev.logCommit }

/-- DEBUGGER_HALT (R427). A debugger halts the Barometer, or lets it go on. -/
def execDebuggerHalt (halt : Bool) (s : State) : Host.Outcome State Fault Refusal :=
  .next { s with dev := (s.dev.debuggerHalt halt).resetCheck }

end Sys2Proof.Machine
end

