-- ==== Sys2Proof/Machine/ExecEngines.lean ====
section
/-!
DEFINITION. Meanings of commands, one for each: engine instructions, pins, timers and auxiliary conversions. Each changes the unit alone,
never the queue.
-/

namespace Sys2Proof.Machine

/-- OUT (R333). OUT at the end of a tick; the bits that DATA_IN captured. -/
def execEngOut (n : Fin 16) (captured : Nat) (s : State) : Host.Outcome State Fault Refusal :=
  .next { s with dev := s.dev.opOut n captured }

/-- IN (R333). IN at the end of a tick; the bits that DATA_IN captured. -/
def execEngIn (n : Fin 16) (captured : Nat) (s : State) : Host.Outcome State Fault Refusal :=
  .next { s with dev := s.dev.opIn n captured }

/-- PULL (R333). PULL, or its stall. -/
def execEngPull (n : Fin 16) (s : State) : Host.Outcome State Fault Refusal :=
  .next { s with dev := s.dev.opPull n }

/-- PUSH (R333). PUSH, or its stall. -/
def execEngPush (n : Fin 16) (s : State) : Host.Outcome State Fault Refusal :=
  .next { s with dev := s.dev.opPush n }

/-- SET (R333). SET. -/
def execEngSet (n : Fin 16) (s : State) : Host.Outcome State Fault Refusal :=
  .next { s with dev := s.dev.opSet n }

/-- WAIT (R333). The first look of WAIT; the synchronised level of its pin. -/
def execEngWait (n : Fin 16) (level : Bool) (s : State) : Host.Outcome State Fault Refusal :=
  .next { s with dev := s.dev.opWait n level }

/-- WAIT_RELEASE (R333). A later look of WAIT. -/
def execEngWaitRelease (n : Fin 16) (level : Bool) (s : State) : Host.Outcome State Fault Refusal :=
  .next { s with dev := s.dev.waitRelease n level }

/-- CMP (R333). CMP. -/
def execEngCmp (n : Fin 16) (s : State) : Host.Outcome State Fault Refusal :=
  .next { s with dev := Dev.engineRaised (s.dev.opCmp n) n }

/-- JMP (R333). JMP; the synchronised level of TEST. -/
def execEngJmp (n : Fin 16) (level : Bool) (s : State) : Host.Outcome State Fault Refusal :=
  .next { s with dev := s.dev.opJmp n level }

/-- DELAY (R333). Ticks of DELAY. -/
def execEngDelay (n : Fin 16) (s : State) : Host.Outcome State Fault Refusal :=
  .next { s with dev := s.dev.opDelay n }

/-- EVENT (R333). EVENT. -/
def execEngEvent (n : Fin 16) (s : State) : Host.Outcome State Fault Refusal :=
  .next { s with dev := Dev.engineRaised (s.dev.opEvent n) n }

/-- SYNC (R333, R336). An engine at SYNC on GROUP. -/
def execEngSync (n : Fin 16) (s : State) : Host.Outcome State Fault Refusal :=
  .next { s with dev := s.dev.opSync n }

/-- SYNC_RELEASE (R336). A sync group whose running engines all stand at SYNC. -/
def execSyncRelease (group : Fin 4) (s : State) : Host.Outcome State Fault Refusal :=
  .next { s with dev := s.dev.onEdge (·.releaseGroup group) }

/-- PIN_SHORT (R331). A driven pin has differed from its level for 1 us. -/
def execPinShort (pin : Fin 64) (s : State) : Host.Outcome State Fault Refusal :=
  .next { s with dev := s.dev.pinShort pin }

/-- TIMER_MATCH (R350). A timer reaches CMPA or CMPB. -/
def execTimerMatch (t : Fin 32) (b : Bool) (s : State) : Host.Outcome State Fault Refusal :=
  .next { s with dev := s.dev.timerMatch t b }

/-- TIMER_DONE (R346). A timer reaches PERIOD. -/
def execTimerDone (t : Fin 32) (s : State) : Host.Outcome State Fault Refusal :=
  .next { s with dev := s.dev.timerDone t }

/-- AUX_STEP_START (R367). The trigger of the auxiliary step is met. -/
def execAuxStepStart (s : State) : Host.Outcome State Fault Refusal :=
  .next { s with dev := s.dev.auxStart }

/-- AUX_RESULT (R368). A conversion ends: its exact code, and whether its window overlaps an overload. -/
def execAuxResult (raw : Int) (overload : Bool) (s : State) : Host.Outcome State Fault Refusal :=
  .next { s with dev := s.dev.auxResult raw overload }

/-- AUX_CHECK_CONVERSION (R371). A check conversion ends with a code. -/
def execAuxCheckConversion (raw : Int) (s : State) : Host.Outcome State Fault Refusal :=
  .next { s with dev := s.dev.auxCheck raw }

/-- AUX_FOREGROUND_CAL (R374). It ends; the offsets in codes and the gain errors in ppm that it measured in the two ranges. -/
def execAuxForegroundCal (x : AuxMeasured) (s : State) : Host.Outcome State Fault Refusal :=
  .next { s with dev := s.dev.auxForeground [(x.offset1, x.gain1), (x.offset4, x.gain4)] }

/-- AUX_BACKGROUND_CAL (R375). It ends with the offsets measured in the two ranges. -/
def execAuxBackgroundCal (m1 : Int) (m4 : Int) (s : State) : Host.Outcome State Fault Refusal :=
  .next { s with dev := s.dev.auxBackground m1 m4 }

end Sys2Proof.Machine
end

