-- ==== Sys2Proof/Machine/ExecJtag.lean ====
section
/-!
DEFINITION. Meanings of commands, one for each: the test access port. Each changes the unit alone, never the queue.
-/

namespace Sys2Proof.Machine

/-- EXTEST (R530). The cells shifted in. -/
def execExtest (cells : List Bool) (s : State) : Host.Outcome State Fault Refusal :=
  .next { s with dev := s.dev.jtagDrive 0x00 cells }

/-- IDCODE (R530). IDCODE. -/
def execIdcode (s : State) : Host.Outcome State Fault Refusal :=
  .next { s with dev := s.dev.jtagIdcode }

/-- SAMPLE_PRELOAD (R530). The cells shifted in; the levels come out. -/
def execSamplePreload (cells : List Bool) (s : State) : Host.Outcome State Fault Refusal :=
  .next { s with dev := s.dev.jtagSample cells }

/-- CLAMP (R530). CLAMP. -/
def execClamp (s : State) : Host.Outcome State Fault Refusal :=
  .next { s with dev := s.dev.jtagHold 0x04 }

/-- HIGHZ (R530). HIGHZ. -/
def execHighz (s : State) : Host.Outcome State Fault Refusal :=
  .next { s with dev := s.dev.jtagHold 0x05 }

/-- EXTEST_PULSE (R530). The cells shifted in. -/
def execExtestPulse (cells : List Bool) (s : State) : Host.Outcome State Fault Refusal :=
  .next { s with dev := s.dev.jtagDrive 0x08 cells }

/-- EXTEST_TRAIN (R530). The cells shifted in. -/
def execExtestTrain (cells : List Bool) (s : State) : Host.Outcome State Fault Refusal :=
  .next { s with dev := s.dev.jtagDrive 0x09 cells }

/-- DBG_CHALLENGE (R452). A challenge is read. -/
def execDbgChallenge (s : State) : Host.Outcome State Fault Refusal :=
  .next { s with dev := s.dev.dbgChallenge }

/-- DBG_RESPONSE (R452). The signature shifted in. -/
def execDbgResponse (signature : List Byte) (s : State) : Host.Outcome State Fault Refusal :=
  .next { s with dev := s.dev.dbgResponse signature }

/-- DBG_ACCESS (R452, R530). The debug access register. -/
def execDbgAccess (s : State) : Host.Outcome State Fault Refusal :=
  .next { s with dev := s.dev.dbgAccess }

/-- BYPASS (R530). BYPASS, or a code that no instruction has. -/
def execBypass (s : State) : Host.Outcome State Fault Refusal :=
  .next { s with dev := s.dev.jtagBypass }

end Sys2Proof.Machine
end

