-- ==== Sys2Proof/Machine/ExecLater.lean ====
section
/-!
DEFINITION. Meanings of commands, one for each: the remaining happenings of the lanes and the Barometer. Each changes the unit alone,
never the queue.
-/

namespace Sys2Proof.Machine

/-- CLOCK_RECOVERY_LOCK (R151). The clock recovery of a lane has locked. -/
def execClockRecoveryLock (lane : Fin 24) (s : State) : Host.Outcome State Fault Refusal :=
  .next { s with dev := s.dev.laneLock lane }

/-- PHASE_DETECTOR_RANGE (R143). The phase detector of a lane is out of range. -/
def execPhaseDetectorRange (lane : Fin 24) (s : State) : Host.Outcome State Fault Refusal :=
  .next { s with dev := s.dev.phaseOut lane }

/-- PRBS_BIT_ERROR (R159). Bits come on a lane under test: its checker finds the errors. -/
def execPrbsBitError (x : TestBits) (s : State) : Host.Outcome State Fault Refusal :=
  .next { s with dev := s.dev.prbsIn x.lane x.bits }

/-- TABLE_WRITE_APPLY (R79). The oldest table write at work is applied. -/
def execTableWriteApply (s : State) : Host.Outcome State Fault Refusal :=
  .next { s with dev := s.dev.tableApply }

/-- FW_VERIFY_DONE (R439). Verification ends. -/
def execFwVerifyDone (s : State) : Host.Outcome State Fault Refusal :=
  .next { s with dev := s.dev.fwVerifyDone }

/-- FW_ACTIVATE_DONE (R440). The selector is written and read back. -/
def execFwActivateDone (s : State) : Host.Outcome State Fault Refusal :=
  .next { s with dev := s.dev.fwActivateDone.resetCheck }

/-- RECIPE_LOAD_DONE (R445). The sections are in place. -/
def execRecipeLoadDone (s : State) : Host.Outcome State Fault Refusal :=
  .next { s with dev := s.dev.recipeLoadDone }

/-- RECIPE_SAVE_DONE (R446). The capture is stored. -/
def execRecipeSaveDone (s : State) : Host.Outcome State Fault Refusal :=
  .next { s with dev := s.dev.recipeSaveDone }

/-- AUTOSTART_HOLD_END (R447). AUTOSTART_HOLD_MS is over. -/
def execAutostartHoldEnd (s : State) : Host.Outcome State Fault Refusal :=
  .next { s with dev := s.dev.autoHoldEnd }

/-- BACKGROUND_SCRUB (R420). The scrub at a percentage of its pass, and the error found: corrected or not, and where. -/
def execBackgroundScrub (percent : Nat) (err : Option (Bool × BitVec 32)) (s : State) : Host.Outcome State Fault Refusal :=
  .next { s with dev := s.dev.scrub percent (err.map (fun x => (x.1, x.2.toNat))) }

/-- RESET_N_RELEASE (R479). RESET_N is high again. -/
def execResetNRelease (s : State) : Host.Outcome State Fault Refusal :=
  .next { s with dev := s.dev.resetNRelease }

/-- CONFIGURATION_WRITE (R34, R35, R38, R47). A field of configuration space is written. -/
def execConfigurationWrite (field : ConfigField) (s : State) : Host.Outcome State Fault Refusal :=
  .next { s with dev := s.dev.configWrite field }

end Sys2Proof.Machine
end

