-- ==== Sys2Proof/Machine/ExecObjects.lean ====
section
/-!
DEFINITION. Meanings of commands, one for each: faces, verdicts, valve frames and records. Each changes the unit alone, never the queue.
-/

namespace Sys2Proof.Machine

/-- FACE_ASSEMBLY (R237, R419). The errors of the sorting path, and the next face line of a face. -/
def execFaceAssembly (x : FacePass) (s : State) : Host.Outcome State Fault Refusal :=
  .next { s with dev := (s.dev.pathErrors x.errs).faceAssembly x.face }

/-- EVALUATION_START (R274). The classifier starts a waiting evaluation. -/
def execEvaluationStart (s : State) : Host.Outcome State Fault Refusal :=
  .next { s with dev := s.dev.startEval }

/-- CLASS_OVERLOAD (R274). A verdict evaluation has waited 10 us. -/
def execClassOverload (s : State) : Host.Outcome State Fault Refusal :=
  .next { s with dev := s.dev.classOverload }

/-- VERDICT (R281). The oldest verdict evaluation that runs ends. -/
def execVerdict (s : State) : Host.Outcome State Fault Refusal :=
  .next { s with dev := s.dev.verdictDone }

/-- PROVISIONAL_RESULT (R277). The oldest provisional evaluation that runs ends. -/
def execProvisionalResult (s : State) : Host.Outcome State Fault Refusal :=
  .next { s with dev := s.dev.provisionalResult }

/-- VALVE_FRAME (R299, R307). The boundary of the valve frame in progress. -/
def execValveFrame (s : State) : Host.Outcome State Fault Refusal :=
  .next { s with dev := s.dev.onEdge (·.valveFrame) }

/-- RETRACTION_RECORD (R293). A retraction whose frame has latched. -/
def execRetractionRecord (s : State) : Host.Outcome State Fault Refusal :=
  .next { s with dev := s.dev.placeRetraction }

/-- CHIP_STAGING (R415). A chip whose last line is in the ring. -/
def execChipStaging (s : State) : Host.Outcome State Fault Refusal :=
  .next { s with dev := s.dev.stageChip }

/-- RECORD_PUBLISH (R407, R419 to R421). The oldest record placed in a window is written, poisoned where its data asks for it. -/
def execRecordPublish (x : Publication) (s : State) : Host.Outcome State Fault Refusal :=
  .next { s with dev := (s.dev.recordErrors x.win x.errs).publish x.win }

/-- TOKEN_BUCKET_REFILL (R44). One microsecond of budget. -/
def execTokenBucketRefill (s : State) : Host.Outcome State Fault Refusal :=
  .next { s with dev := s.dev.refillTokens }

/-- SNAPSHOT (R413). The oldest snapshot request is served. -/
def execSnapshot (s : State) : Host.Outcome State Fault Refusal :=
  .next { s with dev := s.dev.snapshot }

end Sys2Proof.Machine
end

