-- ==== Sys2Proof/Machine/ExecPower.lean ====
section
/-!
DEFINITION. Meanings of commands, one for each: supplies, resets, the host link and start-up. Each changes the unit alone, never the queue.
-/

namespace Sys2Proof.Machine

/-- COLD_START (R479). VSTBY is applied. -/
def execColdStart (s : State) : Host.Outcome State Fault Refusal :=
  .next { s with dev := s.dev.coldStart }

/-- VIN_POWER_ON (R473). VIN is back. -/
def execVinPowerOn (s : State) : Host.Outcome State Fault Refusal :=
  .next { s with dev := s.dev.vinPowerOn }

/-- POWER_FAIL (R473, R488). VIN fails. -/
def execPowerFail (s : State) : Host.Outcome State Fault Refusal :=
  .next { s with dev := s.dev.powerFail }

/-- VSTBY_LOSS (R474). VSTBY fails. -/
def execVstbyLoss (s : State) : Host.Outcome State Fault Refusal :=
  .next { s with dev := s.dev.vstbyLoss }

/-- RESET_N (R479). RESET_N is low for so many nanoseconds, or longer than 1 us. -/
def execResetN (ns : Nat) (s : State) : Host.Outcome State Fault Refusal :=
  .next { s with dev := s.dev.resetN ns }

/-- WATCHDOG (R426, R435). The watchdog expires. -/
def execWatchdog (s : State) : Host.Outcome State Fault Refusal :=
  .next { s with dev := s.dev.watchdog }

/-- HOST_LINK_RESET (R45). 0 PERST#, 1 hot reset, 2 link down, 3 FLR, 4 D3hot. -/
def execHostLinkReset (kind : Fin 5) (s : State) : Host.Outcome State Fault Refusal :=
  .next { s with dev := (s.dev.hostReset kind).resetCheck }

/-- FUNCTION_READY (R47). The function becomes ready. -/
def execFunctionReady (s : State) : Host.Outcome State Fault Refusal :=
  .next { s with dev := s.dev.functionReady }

/-- LINK_RETRAIN (R43). The link has trained to a width in lanes and a speed in the encoding of R37. -/
def execLinkRetrain (width : Nat) (speed : Fin 5) (s : State) : Host.Outcome State Fault Refusal :=
  .next { s with dev := s.dev.linkRetrain width speed }

/-- BOOT_SELECTION (R434). The boot ROM has verified the images. -/
def execBootSelection (s : State) : Host.Outcome State Fault Refusal :=
  .next { s with dev := s.dev.bootSelection }

/-- STARTUP_DONE (R485). The self-check has ended with a code, 0 where it passed. -/
def execStartupDone (code : Nat) (s : State) : Host.Outcome State Fault Refusal :=
  .next { s with dev := (s.dev.startupDone code).resetCheck }

/-- AUTOSTART (R447). The Barometer goes on with AUTOSTART. -/
def execAutostart (s : State) : Host.Outcome State Fault Refusal :=
  .next { s with dev := s.dev.autostart }

/-- DOMAIN_READY (R475). The ready time of a domain is over. -/
def execDomainReady (n : Fin 25) (s : State) : Host.Outcome State Fault Refusal :=
  .next { s with dev := s.dev.readyNow n }

/-- DOMAIN_FAULT (R478). The regulator of a domain fails. -/
def execDomainFault (n : Fin 25) (s : State) : Host.Outcome State Fault Refusal :=
  .next { s with dev := s.dev.domainFails n }

/-- REF_LOSS (R382). REFIN is lost. -/
def execRefLoss (s : State) : Host.Outcome State Fault Refusal :=
  .next { s with dev := s.dev.refLoss }

/-- REF_RETURN (R382). REFIN is back. -/
def execRefReturn (s : State) : Host.Outcome State Fault Refusal :=
  .next { s with dev := s.dev.refReturn }

/-- SYSPLL_SETTLED (R381). The system PLL has settled. -/
def execSysPllSettled (s : State) : Host.Outcome State Fault Refusal :=
  .next { s with dev := s.dev.pllUp }

end Sys2Proof.Machine
end

