-- ==== Sys2Proof/Machine/ExecRegisters.lean ====
section
/-!
DEFINITION. Meanings of commands, one for each: the host's writes and reads of registers. Each changes the unit alone, never the queue.
-/

namespace Sys2Proof.Machine

/-- SQ_TAIL (R51). A tail doorbell. -/
def execSqTail (n : Fin 64) (v : Word) (s : State) : Host.Outcome State Fault Refusal :=
  .next { s with dev := s.dev.sqTail n v.toNat }

/-- CQ_HEAD (R51, R53, R537). A head doorbell. -/
def execCqHead (n : Fin 64) (v : Word) (s : State) : Host.Outcome State Fault Refusal :=
  .next { s with dev := s.dev.cqHead n v.toNat }

/-- SQ_ENABLE (R50). SQ_ENABLE set, with SQ_CQID and SQ_SIZE. -/
def execSqEnable (n : Fin 64) (cqid : Fin 64) (size : BitVec 12) (s : State) : Host.Outcome State Fault Refusal :=
  .next { s with dev := s.dev.sqEnable n cqid size.toNat }

/-- SQ_DISABLE (R50). SQ_ENABLE cleared. -/
def execSqDisable (n : Fin 64) (s : State) : Host.Outcome State Fault Refusal :=
  .next { s with dev := s.dev.sqDisable n }

/-- CQ_ENABLE (R50). CQ_ENABLE set, with CQ_IRQ_EN, CQ_VECTOR and CQ_SIZE. -/
def execCqEnable (n : Fin 64) (irqEn : Bool) (vector : Fin 64) (size : BitVec 12) (s : State) :
    Host.Outcome State Fault Refusal :=
  .next { s with dev := s.dev.cqEnable n irqEn vector size.toNat }

/-- CQ_DISABLE (R50). CQ_ENABLE cleared. -/
def execCqDisable (n : Fin 64) (s : State) : Host.Outcome State Fault Refusal :=
  .next { s with dev := s.dev.cqDisable n }

/-- CAUSE (R495, R506). CAUSE of a group written (W1C). -/
def execCauseWrite (g : Fin 32) (v : Word) (s : State) : Host.Outcome State Fault Refusal :=
  .next { s with dev := s.dev.hostCause g v.toNat }

/-- MASK (R495, R506). MASK of a group written. -/
def execMaskWrite (g : Fin 32) (v : Word) (s : State) : Host.Outcome State Fault Refusal :=
  .next { s with dev := s.dev.hostMask g v.toNat }

/-- ROUTE (R494 to R496). ROUTE of a source written. -/
def execRouteWrite (source : Fin 1024) (v : Word) (s : State) : Host.Outcome State Fault Refusal :=
  .next { s with dev := s.dev.hostRoute source v.toNat }

/-- EVR_ENABLE (R497). EVR_ENABLE written, with EVR_SIZE. -/
def execEvrEnable (en : Bool) (size : BitVec 12) (s : State) : Host.Outcome State Fault Refusal :=
  .next { s with dev := s.dev.evrEnable en size.toNat }

/-- EVR_HEAD (R497). EVR_HEAD written. -/
def execEvrHead (v : Word) (s : State) : Host.Outcome State Fault Refusal :=
  .next { s with dev := s.dev.evrHead v.toNat }

/-- RP_LO (R408). RP_LO written, alone or with RP_HI in one 64-bit write. -/
def execRpLo (w : Fin 64) (both : Bool) (v : BitVec 64) (s : State) : Host.Outcome State Fault Refusal :=
  .next { s with dev := s.dev.hostRp w both v.toNat }

/-- ARM (R348). ARM of a timer. -/
def execTimerArm (t : Fin 32) (s : State) : Host.Outcome State Fault Refusal :=
  .next { s with dev := s.dev.hostArm t }

/-- STOP (R349). STOP of a timer. -/
def execTimerStop (t : Fin 32) (s : State) : Host.Outcome State Fault Refusal :=
  .next { s with dev := s.dev.hostStop t }

/-- CAP_LO (R353). CAP_LO of a timer read, alone or with CAP_HI in one 64-bit read. -/
def execCapLo (t : Fin 32) (both : Bool) (s : State) : Host.Outcome State Fault Refusal :=
  .next { s with dev := s.dev.hostCap t both }

/-- PULL_DATA (R340). PULL_DATA of an engine written. -/
def execPullData (n : Fin 16) (v : Word) (s : State) : Host.Outcome State Fault Refusal :=
  .next { s with dev := s.dev.hostPull n v.toNat }

/-- PUSH_DATA (R340). PUSH_DATA of an engine read. -/
def execPushData (n : Fin 16) (s : State) : Host.Outcome State Fault Refusal :=
  .next { s with dev := s.dev.hostPush n }

/-- FRAME_MARK (R105). A PARAM_WRITE of the word of FRAME_MARK. -/
def execFrameMark (e : Entry) (s : State) : Host.Outcome State Fault Refusal :=
  .next { s with dev := s.dev.frameMarkRow e }

/-- FLIP (R162). A PARAM_WRITE of a word of RX_FLIP. -/
def execFlip (e : Entry) (s : State) : Host.Outcome State Fault Refusal :=
  .next { s with dev := s.dev.flipRow e }

/-- FORCE_STORM (R268). A PARAM_WRITE of a word of FORCE_STORM. -/
def execForceStorm (e : Entry) (s : State) : Host.Outcome State Fault Refusal :=
  .next { s with dev := s.dev.forceStormRow e }

/-- AUTOSTART_SETTINGS_WRITE (R448). A PARAM_WRITE of word 10h of page 0D00h. -/
def execAutostartSettingsWrite (e : Entry) (s : State) : Host.Outcome State Fault Refusal :=
  .next { s with dev := s.dev.autostartRow e }

/-- SHORT (R331). A PARAM_WRITE of a word of SHORT. -/
def execShortClear (e : Entry) (s : State) : Host.Outcome State Fault Refusal :=
  .next { s with dev := s.dev.shortRow e }

/-- MSIX_UNMASK (R38). A vector, or the function, is unmasked. -/
def execMsixUnmask (vector : Option (Fin 64)) (s : State) : Host.Outcome State Fault Refusal :=
  .next { s with dev := s.dev.msixUnmask (vector.map (·.val)) }

/-- BAR_ACCESS (R36). A read or a write of any size at an offset of a BAR; narrow and misaligned ones raise BAR_ACCESS. -/
def execBarAccess (bar : Fin 8) (off : BitVec 20) (size : Fin 17) (write : Bool) (v : BitVec 64) (s : State) :
    Host.Outcome State Fault Refusal :=
  .next { s with dev := s.dev.barAccess bar off.toNat size write v.toNat }

/-- REGISTER_WRITE (R7 to R9, R36). A 32-bit or 64-bit write at an offset of a BAR. -/
def execRegisterWrite (bar : Fin 8) (off : BitVec 20) (both : Bool) (v : BitVec 64) (s : State) :
    Host.Outcome State Fault Refusal :=
  .next { s with dev := s.dev.hostWrite bar off.toNat (if both then 8 else 4) v.toNat }

end Sys2Proof.Machine
end

