-- ==== Sys2Proof/Machine/Dispatch.lean ====
section
/-!
DEFINITION. One arm for each command.
-/

namespace Sys2Proof.Machine

open Sys2Proof

def exec (i : Instr) (s : State) : Host.Outcome State Fault Refusal :=
  match i with
  | .nop e => Sys2Proof.Machine.execNop e s
  | .identify e => Sys2Proof.Machine.execIdentify e s
  | .stateSet e => Sys2Proof.Machine.execStateSet e s
  | .stateGet e => Sys2Proof.Machine.execStateGet e s
  | .resetUnit e => Sys2Proof.Machine.execResetUnit e s
  | .resetPipeline e => Sys2Proof.Machine.execResetPipeline e s
  | .recipeLoad e => Sys2Proof.Machine.execRecipeLoad e s
  | .recipeSave e => Sys2Proof.Machine.execRecipeSave e s
  | .paramRead e => Sys2Proof.Machine.execParamRead e s
  | .paramWrite e => Sys2Proof.Machine.execParamWrite e s
  | .paramStage e => Sys2Proof.Machine.execParamStage e s
  | .commit e => Sys2Proof.Machine.execCommit e s
  | .tableWrite e => Sys2Proof.Machine.execTableWrite e s
  | .tableRead e => Sys2Proof.Machine.execTableRead e s
  | .bankSwap e => Sys2Proof.Machine.execBankSwap e s
  | .lineStart e => Sys2Proof.Machine.execLineStart e s
  | .lineStop e => Sys2Proof.Machine.execLineStop e s
  | .statsRead e => Sys2Proof.Machine.execStatsRead e s
  | .linkTrain e => Sys2Proof.Machine.execLinkTrain e s
  | .linkTrainComplete g => Sys2Proof.Machine.execLinkTrainComplete g s
  | .linkStatus e => Sys2Proof.Machine.execLinkStatus e s
  | .lanePrbs e => Sys2Proof.Machine.execLanePrbs e s
  | .headControl e => Sys2Proof.Machine.execHeadControl e s
  | .trackerStatus e => Sys2Proof.Machine.execTrackerStatus e s
  | .stormClear e => Sys2Proof.Machine.execStormClear e s
  | .countersRead e => Sys2Proof.Machine.execCountersRead e s
  | .countersClear e => Sys2Proof.Machine.execCountersClear e s
  | .valveTest e => Sys2Proof.Machine.execValveTest e s
  | .ejectLive e => Sys2Proof.Machine.execEjectLive e s
  | .ejectDry e => Sys2Proof.Machine.execEjectDry e s
  | .engineLoad e => Sys2Proof.Machine.execEngineLoad e s
  | .engineStart e => Sys2Proof.Machine.execEngineStart e s
  | .engineStop e => Sys2Proof.Machine.execEngineStop e s
  | .engineStatus e => Sys2Proof.Machine.execEngineStatus e s
  | .timerConfig e => Sys2Proof.Machine.execTimerConfig e s
  | .auxSequence e => Sys2Proof.Machine.execAuxSequence e s
  | .auxRead e => Sys2Proof.Machine.execAuxRead e s
  | .ringAttach e => Sys2Proof.Machine.execRingAttach e s
  | .ringRelease e => Sys2Proof.Machine.execRingRelease e s
  | .tapArm e => Sys2Proof.Machine.execTapArm e s
  | .lsynConfig e => Sys2Proof.Machine.execLsynConfig e s
  | .lsynRamp e => Sys2Proof.Machine.execLsynRamp e s
  | .lsynPhaseStep e => Sys2Proof.Machine.execLsynPhaseStep e s
  | .timebaseAlign e => Sys2Proof.Machine.execTimebaseAlign e s
  | .selftest e => Sys2Proof.Machine.execSelftest e s
  | .selftestDone pass code us => Sys2Proof.Machine.execSelftestDone pass code us s
  | .calibrate e => Sys2Proof.Machine.execCalibrate e s
  | .calibrateFinalStep => Sys2Proof.Machine.execCalibrateFinalStep s
  | .inject e => Sys2Proof.Machine.execInject e s
  | .fwStage e => Sys2Proof.Machine.execFwStage e s
  | .fwVerify e => Sys2Proof.Machine.execFwVerify e s
  | .fwActivate e => Sys2Proof.Machine.execFwActivate e s
  | .unlockUntested e => Sys2Proof.Machine.execUnlockUntested e s
  | .logRead e => Sys2Proof.Machine.execLogRead e s
  | .thermalStatus e => Sys2Proof.Machine.execThermalStatus e s
  | .domainSet e => Sys2Proof.Machine.execDomainSet e s
  | .entryCheck opcode e => Sys2Proof.Machine.execEntryCheck opcode e s
  | .badOpcode opcode e => Sys2Proof.Machine.execBadOpcode opcode e s
  | .cplTimeout sq command => Sys2Proof.Machine.execCplTimeout sq command s
  | .sqTail n v => Sys2Proof.Machine.execSqTail n v s
  | .cqHead n v => Sys2Proof.Machine.execCqHead n v s
  | .sqEnable n cqid size => Sys2Proof.Machine.execSqEnable n cqid size s
  | .sqDisable n => Sys2Proof.Machine.execSqDisable n s
  | .cqEnable n irqEn vector size => Sys2Proof.Machine.execCqEnable n irqEn vector size s
  | .cqDisable n => Sys2Proof.Machine.execCqDisable n s
  | .causeWrite g v => Sys2Proof.Machine.execCauseWrite g v s
  | .maskWrite g v => Sys2Proof.Machine.execMaskWrite g v s
  | .routeWrite source v => Sys2Proof.Machine.execRouteWrite source v s
  | .evrEnable en size => Sys2Proof.Machine.execEvrEnable en size s
  | .evrHead v => Sys2Proof.Machine.execEvrHead v s
  | .rpLo w both v => Sys2Proof.Machine.execRpLo w both v s
  | .timerArm t => Sys2Proof.Machine.execTimerArm t s
  | .timerStop t => Sys2Proof.Machine.execTimerStop t s
  | .capLo t both => Sys2Proof.Machine.execCapLo t both s
  | .pullData n v => Sys2Proof.Machine.execPullData n v s
  | .pushData n => Sys2Proof.Machine.execPushData n s
  | .frameMark e => Sys2Proof.Machine.execFrameMark e s
  | .flip e => Sys2Proof.Machine.execFlip e s
  | .forceStorm e => Sys2Proof.Machine.execForceStorm e s
  | .autostartSettingsWrite e => Sys2Proof.Machine.execAutostartSettingsWrite e s
  | .shortClear e => Sys2Proof.Machine.execShortClear e s
  | .msixUnmask vector => Sys2Proof.Machine.execMsixUnmask vector s
  | .barAccess bar off size write v => Sys2Proof.Machine.execBarAccess bar off size write v s
  | .registerWrite bar off both v => Sys2Proof.Machine.execRegisterWrite bar off both v s
  | .coldStart => Sys2Proof.Machine.execColdStart s
  | .vinPowerOn => Sys2Proof.Machine.execVinPowerOn s
  | .powerFail => Sys2Proof.Machine.execPowerFail s
  | .vstbyLoss => Sys2Proof.Machine.execVstbyLoss s
  | .resetN ns => Sys2Proof.Machine.execResetN ns s
  | .watchdog => Sys2Proof.Machine.execWatchdog s
  | .hostLinkReset kind => Sys2Proof.Machine.execHostLinkReset kind s
  | .functionReady => Sys2Proof.Machine.execFunctionReady s
  | .linkRetrain width speed => Sys2Proof.Machine.execLinkRetrain width speed s
  | .bootSelection => Sys2Proof.Machine.execBootSelection s
  | .startupDone code => Sys2Proof.Machine.execStartupDone code s
  | .autostart => Sys2Proof.Machine.execAutostart s
  | .domainReady n => Sys2Proof.Machine.execDomainReady n s
  | .domainFault n => Sys2Proof.Machine.execDomainFault n s
  | .refLoss => Sys2Proof.Machine.execRefLoss s
  | .refReturn => Sys2Proof.Machine.execRefReturn s
  | .sysPllSettled => Sys2Proof.Machine.execSysPllSettled s
  | .lsynSettled => Sys2Proof.Machine.execLsynSettled s
  | .lineEdge => Sys2Proof.Machine.execLineEdge s
  | .encEdge a b => Sys2Proof.Machine.execEncEdge a b s
  | .encZ => Sys2Proof.Machine.execEncZ s
  | .lineTrigger cals => Sys2Proof.Machine.execLineTrigger cals s
  | .heldTriggerAccept cals => Sys2Proof.Machine.execHeldTriggerAccept cals s
  | .frameIn level => Sys2Proof.Machine.execFrameIn level s
  | .trigStall => Sys2Proof.Machine.execTrigStall s
  | .fgCal cals => Sys2Proof.Machine.execFgCal cals s
  | .head0LineDelivery charges trips => Sys2Proof.Machine.execHead0LineDelivery charges trips s
  | .marker lane word arrived => Sys2Proof.Machine.execMarker lane word arrived s
  | .los x => Sys2Proof.Machine.execLos x s
  | .wander x => Sys2Proof.Machine.execWander x s
  | .lineSegment g pos first rest => Sys2Proof.Machine.execLineSegment g pos first rest s
  | .control g pos first rest => Sys2Proof.Machine.execControl g pos first rest s
  | .missingLine head => Sys2Proof.Machine.execMissingLine head s
  | .faceAssembly x => Sys2Proof.Machine.execFaceAssembly x s
  | .evaluationStart => Sys2Proof.Machine.execEvaluationStart s
  | .classOverload => Sys2Proof.Machine.execClassOverload s
  | .verdict => Sys2Proof.Machine.execVerdict s
  | .provisionalResult => Sys2Proof.Machine.execProvisionalResult s
  | .valveFrame => Sys2Proof.Machine.execValveFrame s
  | .retractionRecord => Sys2Proof.Machine.execRetractionRecord s
  | .chipStaging => Sys2Proof.Machine.execChipStaging s
  | .recordPublish x => Sys2Proof.Machine.execRecordPublish x s
  | .tokenBucketRefill => Sys2Proof.Machine.execTokenBucketRefill s
  | .snapshot => Sys2Proof.Machine.execSnapshot s
  | .engOut n captured => Sys2Proof.Machine.execEngOut n captured s
  | .engIn n captured => Sys2Proof.Machine.execEngIn n captured s
  | .engPull n => Sys2Proof.Machine.execEngPull n s
  | .engPush n => Sys2Proof.Machine.execEngPush n s
  | .engSet n => Sys2Proof.Machine.execEngSet n s
  | .engWait n level => Sys2Proof.Machine.execEngWait n level s
  | .engWaitRelease n level => Sys2Proof.Machine.execEngWaitRelease n level s
  | .engCmp n => Sys2Proof.Machine.execEngCmp n s
  | .engJmp n level => Sys2Proof.Machine.execEngJmp n level s
  | .engDelay n => Sys2Proof.Machine.execEngDelay n s
  | .engEvent n => Sys2Proof.Machine.execEngEvent n s
  | .engSync n => Sys2Proof.Machine.execEngSync n s
  | .syncRelease group => Sys2Proof.Machine.execSyncRelease group s
  | .pinShort pin => Sys2Proof.Machine.execPinShort pin s
  | .timerMatch t b => Sys2Proof.Machine.execTimerMatch t b s
  | .timerDone t => Sys2Proof.Machine.execTimerDone t s
  | .auxStepStart => Sys2Proof.Machine.execAuxStepStart s
  | .auxResult raw overload => Sys2Proof.Machine.execAuxResult raw overload s
  | .auxCheckConversion raw => Sys2Proof.Machine.execAuxCheckConversion raw s
  | .auxForegroundCal x => Sys2Proof.Machine.execAuxForegroundCal x s
  | .auxBackgroundCal m1 m4 => Sys2Proof.Machine.execAuxBackgroundCal m1 m4 s
  | .syncinEdge sixteenths => Sys2Proof.Machine.execSyncinEdge sixteenths s
  | .syncMiss => Sys2Proof.Machine.execSyncMiss s
  | .syncout => Sys2Proof.Machine.execSyncout s
  | .diodeSample sample => Sys2Proof.Machine.execDiodeSample sample s
  | .hotOn => Sys2Proof.Machine.execHotOn s
  | .tripCommit => Sys2Proof.Machine.execTripCommit s
  | .logCommit => Sys2Proof.Machine.execLogCommit s
  | .debuggerHalt halt => Sys2Proof.Machine.execDebuggerHalt halt s
  | .extest cells => Sys2Proof.Machine.execExtest cells s
  | .idcode => Sys2Proof.Machine.execIdcode s
  | .samplePreload cells => Sys2Proof.Machine.execSamplePreload cells s
  | .clamp => Sys2Proof.Machine.execClamp s
  | .highz => Sys2Proof.Machine.execHighz s
  | .extestPulse cells => Sys2Proof.Machine.execExtestPulse cells s
  | .extestTrain cells => Sys2Proof.Machine.execExtestTrain cells s
  | .dbgChallenge => Sys2Proof.Machine.execDbgChallenge s
  | .dbgResponse signature => Sys2Proof.Machine.execDbgResponse signature s
  | .dbgAccess => Sys2Proof.Machine.execDbgAccess s
  | .bypass => Sys2Proof.Machine.execBypass s
  | .clockRecoveryLock lane => Sys2Proof.Machine.execClockRecoveryLock lane s
  | .phaseDetectorRange lane => Sys2Proof.Machine.execPhaseDetectorRange lane s
  | .prbsBitError x => Sys2Proof.Machine.execPrbsBitError x s
  | .tableWriteApply => Sys2Proof.Machine.execTableWriteApply s
  | .fwVerifyDone => Sys2Proof.Machine.execFwVerifyDone s
  | .fwActivateDone => Sys2Proof.Machine.execFwActivateDone s
  | .recipeLoadDone => Sys2Proof.Machine.execRecipeLoadDone s
  | .recipeSaveDone => Sys2Proof.Machine.execRecipeSaveDone s
  | .autostartHoldEnd => Sys2Proof.Machine.execAutostartHoldEnd s
  | .backgroundScrub percent err => Sys2Proof.Machine.execBackgroundScrub percent err s
  | .resetNRelease => Sys2Proof.Machine.execResetNRelease s
  | .configurationWrite field => Sys2Proof.Machine.execConfigurationWrite field s

end Sys2Proof.Machine
end

