-- ==== Sys2Proof/Machine/Step.lean ====
section
/-!
DEFINITION. One step: the command at the front of the queue, or, with none waiting, a CTLCLK cycle that passes (R534).
-/

namespace Sys2Proof.Machine

/-- The command at the front acts on the unit, with the rest of the queue; an empty queue lets a CTLCLK cycle pass.
(DESIGN CHOICE, log 106) (DESIGN CHOICE, log 119) -/
def step (s : State) : Host.Outcome State Fault Refusal :=
  match s.pending with
  | [] => .next { s with dev := s.dev.tick }
  | c :: rest => exec c { s with pending := rest }

/-- The table gives its rows no bits, so no word spells a command and there is none to put in front. -/
def State.withFetchWord (s : State) (nbits w : Nat) : State :=
  match decodeTableWord nbits w with
  | some c => { s with pending := c :: s.pending }
  | none => s

end Sys2Proof.Machine
end

