-- ==== Sys2Proof/WellFormed.lean ====
section
/-!
DEFINITION. Which commands are well formed: what the outside could give the block. Dispatch does not look at it; an ill-formed
command has a meaning too.
-/

namespace Sys2Proof

/-- The buffer is what host memory holds at BUF_ADDR, at most BUF_LEN bytes of it (R54, R58). -/
def Entry.wf (e : Entry) : Bool := decide (e.buf.length ≤ e.bufLen.toNat)

/-- A link trains to a width and a speed of R34. -/
def linkWf (width : Nat) (speed : Fin 5) : Bool := [1, 4, 8, 16].contains width && speed != 0

/-- What a group receives: intervals, none longer than 17,035 bits, from one of its 1,024 group words on (R139, R142). -/
def intervalsWf (pos : Nat) (intervals : List (Vector (List Bool) 4)) : Bool :=
  decide (pos < 1024) && intervals.all (fun v => v.toList.all (fun bs => decide (bs.length ≤ 17035)))

/-- Measured slices: a group of the 516, and one of its 65 slices (R116, R128). -/
def calsWf (cals : List SliceCal) : Bool := cals.all (fun x => decide (x.group < 516) && decide (x.slice < 65))

/-- At most eight exposures, and trips of columns that exist (R117, R119). -/
def exposuresWf (charges : List (List Int)) (trips : List (Nat × Nat)) : Bool :=
  decide (charges.length ≤ 8) && trips.all (fun p => decide (p.1 < 8) && decide (p.2 < 16512))

/-- The signature of R452 is 96 bytes. -/
def signatureWf (signature : List Byte) : Bool := decide (signature.length = 96)

/-- A pass of the scrub is at a percentage (R420). -/
def scrubWf (percent : Nat) : Bool := decide (percent ≤ 100)

/-- The stages of the sorting path are 1 to 12 (R17, R419). -/
def pathErrsWf (errs : List CarriageErr) : Bool := errs.all (fun e => decide (1 ≤ e.stage) && decide (e.stage ≤ 12))

/-- The stages beside the path are none of its own; an event record has one byte for a stage (R419, R422). -/
def recordErrsWf (errs : List RecordErr) : Bool :=
  errs.all (fun e => match e with | .carriage x => decide (12 < x.stage) && decide (x.stage < 256) | .store _ _ => true)

/-- A command that the outside could give. -/
def Instr.wf : Instr → Bool
  | .nop e => e.wf
  | .identify e => e.wf
  | .stateSet e => e.wf
  | .stateGet e => e.wf
  | .resetUnit e => e.wf
  | .resetPipeline e => e.wf
  | .recipeLoad e => e.wf
  | .recipeSave e => e.wf
  | .paramRead e => e.wf
  | .paramWrite e => e.wf
  | .paramStage e => e.wf
  | .commit e => e.wf
  | .tableWrite e => e.wf
  | .tableRead e => e.wf
  | .bankSwap e => e.wf
  | .lineStart e => e.wf
  | .lineStop e => e.wf
  | .statsRead e => e.wf
  | .linkTrain e => e.wf
  | .linkTrainComplete _ => true
  | .linkStatus e => e.wf
  | .lanePrbs e => e.wf
  | .headControl e => e.wf
  | .trackerStatus e => e.wf
  | .stormClear e => e.wf
  | .countersRead e => e.wf
  | .countersClear e => e.wf
  | .valveTest e => e.wf
  | .ejectLive e => e.wf
  | .ejectDry e => e.wf
  | .engineLoad e => e.wf
  | .engineStart e => e.wf
  | .engineStop e => e.wf
  | .engineStatus e => e.wf
  | .timerConfig e => e.wf
  | .auxSequence e => e.wf
  | .auxRead e => e.wf
  | .ringAttach e => e.wf
  | .ringRelease e => e.wf
  | .tapArm e => e.wf
  | .lsynConfig e => e.wf
  | .lsynRamp e => e.wf
  | .lsynPhaseStep e => e.wf
  | .timebaseAlign e => e.wf
  | .selftest e => e.wf
  | .selftestDone _ _ _ => true
  | .calibrate e => e.wf
  | .calibrateFinalStep => true
  | .inject e => e.wf
  | .fwStage e => e.wf
  | .fwVerify e => e.wf
  | .fwActivate e => e.wf
  | .unlockUntested e => e.wf
  | .logRead e => e.wf
  | .thermalStatus e => e.wf
  | .domainSet e => e.wf
  | .entryCheck _ e => e.wf
  | .badOpcode _ e => e.wf
  | .cplTimeout _ command => (command.map (fun c => c.2.wf)).getD true
  | .sqTail _ _ => true
  | .cqHead _ _ => true
  | .sqEnable _ _ _ => true
  | .sqDisable _ => true
  | .cqEnable _ _ _ _ => true
  | .cqDisable _ => true
  | .causeWrite _ _ => true
  | .maskWrite _ _ => true
  | .routeWrite _ _ => true
  | .evrEnable _ _ => true
  | .evrHead _ => true
  | .rpLo _ _ _ => true
  | .timerArm _ => true
  | .timerStop _ => true
  | .capLo _ _ => true
  | .pullData _ _ => true
  | .pushData _ => true
  | .frameMark e => e.wf
  | .flip e => e.wf
  | .forceStorm e => e.wf
  | .autostartSettingsWrite e => e.wf
  | .shortClear e => e.wf
  | .msixUnmask _ => true
  | .barAccess _ _ _ _ _ => true
  | .registerWrite _ _ _ _ => true
  | .coldStart => true
  | .vinPowerOn => true
  | .powerFail => true
  | .vstbyLoss => true
  | .resetN _ => true
  | .watchdog => true
  | .hostLinkReset _ => true
  | .functionReady => true
  | .linkRetrain width speed => linkWf width speed
  | .bootSelection => true
  | .startupDone _ => true
  | .autostart => true
  | .domainReady _ => true
  | .domainFault _ => true
  | .refLoss => true
  | .refReturn => true
  | .sysPllSettled => true
  | .lsynSettled => true
  | .lineEdge => true
  | .encEdge _ _ => true
  | .encZ => true
  | .lineTrigger cals => calsWf cals
  | .heldTriggerAccept cals => calsWf cals
  | .frameIn _ => true
  | .trigStall => true
  | .fgCal cals => calsWf cals
  | .head0LineDelivery charges trips => exposuresWf charges trips
  | .marker _ _ _ => true
  | .los _ => true
  | .wander _ => true
  | .lineSegment _ pos first rest => intervalsWf pos (first :: rest)
  | .control _ pos first rest => intervalsWf pos (first :: rest)
  | .missingLine _ => true
  | .faceAssembly x => pathErrsWf x.errs
  | .evaluationStart => true
  | .classOverload => true
  | .verdict => true
  | .provisionalResult => true
  | .valveFrame => true
  | .retractionRecord => true
  | .chipStaging => true
  | .recordPublish x => recordErrsWf x.errs
  | .tokenBucketRefill => true
  | .snapshot => true
  | .engOut _ _ => true
  | .engIn _ _ => true
  | .engPull _ => true
  | .engPush _ => true
  | .engSet _ => true
  | .engWait _ _ => true
  | .engWaitRelease _ _ => true
  | .engCmp _ => true
  | .engJmp _ _ => true
  | .engDelay _ => true
  | .engEvent _ => true
  | .engSync _ => true
  | .syncRelease _ => true
  | .pinShort _ => true
  | .timerMatch _ _ => true
  | .timerDone _ => true
  | .auxStepStart => true
  | .auxResult _ _ => true
  | .auxCheckConversion _ => true
  | .auxForegroundCal _ => true
  | .auxBackgroundCal _ _ => true
  | .syncinEdge _ => true
  | .syncMiss => true
  | .syncout => true
  | .diodeSample _ => true
  | .hotOn => true
  | .tripCommit => true
  | .logCommit => true
  | .debuggerHalt _ => true
  | .extest _ => true
  | .idcode => true
  | .samplePreload _ => true
  | .clamp => true
  | .highz => true
  | .extestPulse _ => true
  | .extestTrain _ => true
  | .dbgChallenge => true
  | .dbgResponse signature => signatureWf signature
  | .dbgAccess => true
  | .bypass => true
  | .clockRecoveryLock _ => true
  | .phaseDetectorRange _ => true
  | .prbsBitError _ => true
  | .tableWriteApply => true
  | .fwVerifyDone => true
  | .fwActivateDone => true
  | .recipeLoadDone => true
  | .recipeSaveDone => true
  | .autostartHoldEnd => true
  | .backgroundScrub percent _ => scrubWf percent
  | .resetNRelease => true
  | .configurationWrite _ => true

end Sys2Proof
end

