-- ==== Sys2Proof/Safety.lean ====
section
/-!
DEFINITION. What the statements call well formed and accepted: the canonical form of the parameter words, a queue of well-formed
commands, and the conditions of R55 and R59 under which a host command reaches its execution.
-/

namespace Sys2Proof.Machine

/-- The machine with another unit, its queue of commands as it was. -/
def State.to (s : State) (d : Dev) : State := { s with dev := d }

/-- R68: each parameter word has one home, listed only where it differs from its reset value. -/
def Dev.paramsWf (d : Dev) : Prop := Store.wf paramReset d.params

def State.paramsWf (s : State) : Prop := s.dev.paramsWf

/-- Where a number of steps leads, each from where the one before it led. -/
def stepsFrom : Nat → State → Host.Outcome State Fault Refusal
  | 0, s => .next s
  | n + 1, s => match step s with
    | .next t => stepsFrom n t
    | o => o

/-- The unit after one command, whatever waits in the queue. -/
def Dev.after (d : Dev) (c : Instr) : Dev :=
  match exec c ⟨[], d⟩ with
  | .next t => t.dev
  | _ => d

/-- What reports leave of the host link: all but its counters of lost records, its buckets and its conditions and pending bits. -/
def HostLink.still (h : HostLink) : HostLink :=
  { h with dropBudget := 0, dropLinkdown := 0, tokens := Vector.replicate 5 0, pba := 0, vecCond := 0 }

/-- What raising an event, writing its records and completing a command leave alone: everything but the parameter words, what the
host link counts, the command channel, the events, the archive's windows, the Barometer's log and what is sent. -/
def Dev.still (d : Dev) :=
  ((d.st, d.tb, d.half, d.free, d.host.still, d.therm, d.power, d.faultInj, d.faultTb),
    (d.arr, d.conv, d.clk, d.lane, d.pipe, d.track, d.cls, d.eject, d.engine, d.timers, d.aux))

/-- The fields in which events, records and completions are counted and flagged. -/
def reportFields : List Fld :=
  [Reg.RING_EVENT, Reg.SNAPS, Reg.POISONED, Reg.POISON, Reg.LOG_SUPPRESSED, Reg.LOG_LOST, Reg.LOG_LOSS, Reg.LOG_NEXT,
    Reg.LOG_PENDING, Reg.EVR_OVERFLOW, Reg.REJECTS, Reg.ENTRY_CHECK_FAILS, Reg.CQ_STALL]

/-- The unit after reports of what happened: only what `Dev.still` leaves out has changed, and of the parameter words only those of
`reportFields`. -/
structure Dev.Reported (d t : Dev) : Prop where
  still : t.still = d.still
  words : ∀ k, (∀ f ∈ reportFields, f.key 0 ≠ k) → t.word k = d.word k

/-- Every command that waits is one that the outside could give. -/
def State.queueWf (s : State) : Prop := s.pending.all Instr.wf = true

/-- R52, R55, R59, R62: the entry is the next one fetched, and each of the steps 1 to 7 lets it pass. -/
structure Dev.Accepts (d : Dev) (f : Form) (check : Entry → Dev → Option Nat) (e : Entry) : Prop where
  /-- R52: the entry is the next one the unit fetches. -/
  next : d.nextSq = some e.sq.val
  /-- R62: FENCE does not hold it back. -/
  fence : e.fence = true → d.busySq e.sq = false
  /-- R55 step 1: ENTRY_CRC matches. -/
  crc : e.crcGood f.code = true
  /-- R55 step 2, R56: the tag is not outstanding. -/
  tag : e.tag.toNat ∉ (d.fetched e.sq).tagsOut
  /-- R55: UNIT names this unit. -/
  unit : e.unit.toNat = d.get Reg.UNIT_ID
  /-- R9, R55 step 4: reserved fields are 0. -/
  reserved : f.reserved e = none
  /-- R55 step 4: the fields of the opcode hold values of its chapter. -/
  fields : check e (d.fetched e.sq) = none
  /-- R55 steps 5 and 6: the state is legal for the opcode. -/
  state : d.st ∈ f.states
  /-- R55 step 7, R59: the intake has room. -/
  intake : f.managed = true → d.chan.intake.length + d.chan.writes.length < 256
  /-- R427, R434: the Barometer serves it now. -/
  served : d.intakeWaits f = false
  /-- R61: no managed command of its queue waits before it. -/
  first : f.managed = true → d.chan.intake.any (fun p => p.2.sq == e.sq) = false
  /-- R59: no long operation turns it away. -/
  long : d.longRefuses f = none

/-- The unit once the entry is fetched and its buffer read, where its opcode reads one (R52, R58). -/
def Dev.begun (d : Dev) (f : Form) (e : Entry) : Dev := (d.fetched e.sq).readBuffer f e

/-- The unit once the command of a form is answered with a reply (R53, R57, R58). -/
def Dev.reply (d : Dev) (f : Form) (e : Entry) (r : Reply) : Dev := d.answer e.sq e.tag.toNat e.bufAddr.toNat f.op r

/-- The unit with the entry's command outstanding, its completion still to come (R56, R59). -/
def Dev.hold (d : Dev) (e : Entry) (f : Form) : Dev :=
  d.setChan (fun c => { c with outst := c.outst ++ [⟨e.sq, e.tag.toNat, f.code, f.long⟩] })

end Sys2Proof.Machine
end

