-- ==== Sys2Proof/Certificates/Slice0/Obligations.lean ====
section
/-!
DEFINITION. The statements for the provers. Each names the rules of the spec it rests on; the machine's words stand in
Sys2Proof/Machine.
-/

open Sys2Proof Sys2Proof.Machine

/-- R66, R160, R341, R451, R469: commands that only answer, once accepted, answer what their chapters say and change nothing else:
NOP, STATE_GET, IDENTIFY, LINK_STATUS, ENGINE_STATUS, THERMAL_STATUS. -/
def Obligations.QueriesAnswer : Prop :=
  ∀ (s : State) (e : Entry),
    (s.dev.Accepts formNop noCheck e →
      let d := s.dev.begun formNop e
      exec (.nop e) s = .next (s.to (d.reply formNop e {}))) ∧
    (s.dev.Accepts formStateGet noCheck e →
      let d := s.dev.begun formStateGet e
      exec (.stateGet e) s =
        .next (s.to (d.reply formStateGet e { result := d.st.code + (if d.get Reg.FAULT_CAUSE = 0 then 0 else 16) }))) ∧
    (s.dev.Accepts formIdentify checkIdentify e →
      let d := s.dev.begun formIdentify e
      exec (.identify e) s =
        .next (s.to (d.reply formIdentify e
          { result := d.get Reg.BFW_VERSION + 2 ^ 32 * d.get Reg.SQM_VERSION
            out := if e.bufLen = 0 then [] else d.identity }))) ∧
    (s.dev.Accepts formLinkStatus checkGroup e →
      let d := s.dev.begun formLinkStatus e
      let g := e.sel 2 0
      exec (.linkStatus e) s =
        .next (s.to (d.reply formLinkStatus e
          { result := (d.word (Reg.GROUP_UP.key g)).toNat + 2 ^ 32 * d.get Reg.LANE_MAP g
              + 2 ^ 40 * d.get Reg.HEADS_IN_LINK g + 2 ^ 52 * d.get Reg.SKEW g }))) ∧
    (s.dev.Accepts formEngineStatus noCheck e →
      let d := s.dev.begun formEngineStatus e
      exec (.engineStatus e) s =
        .next (s.to (d.reply formEngineStatus e
          { result := (d.eng (e.sel 3 0)).status + 2 ^ 32 * (d.eng (e.sel 3 0)).reg.toNat }))) ∧
    (s.dev.Accepts formThermalStatus noCheck e →
      let d := s.dev.begun formThermalStatus e
      let flags := d.get Reg.WARN + 2 * d.get Reg.HOT + 4 * d.get Reg.WINDOW_OPEN + 8 * d.get Reg.THROTTLED
        + 16 * d.get Reg.DIODE_FAULT + 32 * d.get Reg.CAP_SHORT
      exec (.thermalStatus e) s =
        .next (s.to (d.reply formThermalStatus e { result := d.get Reg.TEMP_FILT + 2 ^ 16 * d.get Reg.TEMP_RAW + 2 ^ 32 * flags })))

/-- R71, R78, R112, R266, R290, R377, R449, R450: commands that read answer the values: PARAM_READ (of one word into RESULT),
TABLE_READ, LOG_READ, AUX_READ, STATS_READ, TRACKER_STATUS, COUNTERS_READ. -/
def Obligations.ReadsAnswer : Prop :=
  ∀ (s : State) (e : Entry),
    (s.dev.Accepts formParamRead checkParamRead e →
      let d := s.dev.begun formParamRead e
      e.count = 1 → e.bufLen = 0 → ¬ (e.page = 0 ∧ e.word = 4) →
      exec (.paramRead e) s =
        .next (s.to ((d.afterRead e.page e.word).reply formParamRead e
          { result := (if e.sel 0 0 = 1 then d.readPending e.page e.word else d.readWord e.page e.word).toNat }))) ∧
    (s.dev.Accepts formTableRead checkTable e →
      let d := s.dev.begun formTableRead e
      let n := e.bufLen.toNat / 4
      let ws := (List.range n).map (fun i => d.tableWord (e.selector.getLsbD 15) e.table e.inst (e.offset + i))
      exec (.tableRead e) s =
        .next (s.to (d.reply formTableRead e { result := n + crc32c (wordBytes ws) * 2 ^ 32, out := wordBytes ws }))) ∧
    (s.dev.Accepts formLogRead checkLogRead e →
      let d := s.dev.begun formLogRead e
      (e.inl 16 1).testBit 0 = false →
      let got := (d.logEntries.filter (fun x => lineFrom x.seq (e.inl 12 4))).take (e.bufLen.toNat / 32)
      exec (.logRead e) s =
        .next (s.to (d.reply formLogRead e
          { result := got.length + (match got.getLast? with | some x => (x.seq + 1) % 2 ^ 32 | none => e.inl 12 4) * 2 ^ 32
            out := got.flatMap LogEntry.bytes }))) ∧
    (s.dev.Accepts formAuxRead checkAuxRead e →
      let d := s.dev.begun formAuxRead e
      s.dev.auxOn = true → e.bufLen = 0 →
      let r := d.aux.results[e.sel 4 0 % 24]'(Nat.mod_lt _ (by decide))
      exec (.auxRead e) s = .next (s.to (d.reply formAuxRead e { result := r.code + 2 ^ 32 * r.flags + 2 ^ 48 * r.count }))) ∧
    (s.dev.Accepts formAuxRead checkAuxRead e →
      let d := s.dev.begun formAuxRead e
      s.dev.auxOn = true → e.bufLen ≠ 0 →
      exec (.auxRead e) s =
        .next (s.to (d.reply formAuxRead e { out := d.aux.results.toList.flatMap (fun r =>
          pack [(4, r.code), (2, r.flags), (2, r.count), (8, r.tb)]) }))) ∧
    (∀ b, s.dev.Accepts formStatsRead checkStatsRead e →
      let d := s.dev.begun formStatsRead e
      (if (e.inl 16 1).testBit 0 then (d.arr.closed.filter (fun x => x.head == e.sel 3 0)).head?
        else (d.arr.closed.filter (fun x => x.head == e.sel 3 0)).find? (fun x => x.frame == e.inl 12 4)) = some b →
      exec (.statsRead e) s =
        .next (s.to (d.reply formStatsRead e { result := b.frame + 2 ^ 32 * b.gen + (if b.mixed then 2 ^ 48 else 0), out := b.bytes }))) ∧
    (s.dev.Accepts formTrackerStatus checkTrackerStatus e →
      let d := s.dev.begun formTrackerStatus e
      e.bufLen = 0 → (e.inl 12 1).testBit 0 = false →
      exec (.trackerStatus e) s =
        .next (s.to (d.reply formTrackerStatus e
          { result := d.openNow + 2 ^ 12 * d.track.peak + 2 ^ 24 * d.stormZones 0 + 2 ^ 36 * d.stormZones 1
              + 2 ^ 48 * d.freeSlots }))) ∧
    (s.dev.Accepts formTrackerStatus checkTrackerStatus e →
      let d := s.dev.begun formTrackerStatus e
      e.bufLen = 0 → (e.inl 12 1).testBit 0 = true →
      exec (.trackerStatus e) s =
        .next (s.to (({ d with track := { d.track with peak := d.openNow } }).reply formTrackerStatus e
          { result := d.openNow + 2 ^ 12 * d.track.peak + 2 ^ 24 * d.stormZones 0 + 2 ^ 36 * d.stormZones 1
              + 2 ^ 48 * d.freeSlots }))) ∧
    (s.dev.Accepts formCountersRead checkCountersRead e →
      let d := s.dev.begun formCountersRead e
      e.bufLen = 0 → (e.inl 12 1).testBit 0 = false →
      exec (.countersRead e) s =
        .next (s.to (d.reply formCountersRead e { result := d.cls.yields[0] % 2 ^ 32 + 2 ^ 32 * (d.cls.yields[1] % 2 ^ 32) })))

/-- R29, R103, R321, R477, R535: accepted requests for a state make a transition of R29 and answer the state it left the unit in;
one for the present state changes nothing; LINE_START and LINE_STOP begin and end a run; DOMAIN_SET switches domains. -/
def Obligations.StateRequestsAct : Prop :=
  ∀ (s : State) (e : Entry),
    let begun := fun (f : Form) => (s.dev.begun f e).abortAuto
    let moved := fun (f : Form) (new : UState) (why : Nat) =>
      let t := (begun f).moveTo new why
      Host.Outcome.next (φ := Fault) (ρ := Refusal)
        (s.to (t.reply f e { result := t.st.code + t.liveFrame s.dev.st % 2 ^ 32 * 2 ^ 32 }))
    (∀ new, new = stateOf (e.inl 12 1) → s.dev.Accepts formStateSet checkStateSet e → s.dev.st.reaches new = true →
      (new = .sorting → (begun formStateSet).liveAllowed = true) → exec (.stateSet e) s = moved formStateSet new 0x0102) ∧
    (s.dev.Accepts formStateSet checkStateSet e → s.dev.st = stateOf (e.inl 12 1) →
      exec (.stateSet e) s = .next (s.to ((begun formStateSet).reply formStateSet e { result := s.dev.st.code }))) ∧
    (s.dev.Accepts formEjectLive noCheck e → s.dev.st ≠ .sorting → (begun formEjectLive).liveAllowed = true →
      exec (.ejectLive e) s = moved formEjectLive .sorting 0x0702) ∧
    (s.dev.Accepts formEjectDry noCheck e → s.dev.st ≠ .armed → exec (.ejectDry e) s = moved formEjectDry .armed 0x0703) ∧
    (s.dev.Accepts formLineStart noCheck e → s.dev.runOn = false →
      let t := (s.dev.begun formLineStart e).newRun true
      exec (.lineStart e) s = .next (s.to (t.reply formLineStart e { result := t.firstNumber }))) ∧
    (s.dev.Accepts formLineStart noCheck e → s.dev.runOn = true →
      let d := s.dev.begun formLineStart e
      exec (.lineStart e) s = .next (s.to (d.reply formLineStart e { result := d.firstNumber + 2 ^ 32 }))) ∧
    (s.dev.Accepts formLineStop noCheck e → s.dev.runOn = true → s.dev.arr.pendingRun = none → s.dev.arr.begun = true →
      let d := s.dev.begun formLineStop e
      exec (.lineStop e) s = .next (s.to (d.endRun.reply formLineStop e { result := d.newestLine }))) ∧
    (s.dev.Accepts formDomainSet checkDomainSet e →
      let d := s.dev.begun formDomainSet e
      (bitsOf 25 (e.inl 16 4)).all d.mayStop = true →
      (bitsOf 25 (e.inl 12 4)).any (fun n => !d.domainOn n && d.bitOf Reg.DOMAIN_FAULT n) = false →
      let t := (d.switchOff (e.inl 16 4)).switchOn (e.inl 12 4)
      ((bitsOf 25 (e.inl 12 4)).all t.domainReady = true →
        exec (.domainSet e) s =
          .next (s.to (t.reply formDomainSet e { result := t.get Reg.DOMAIN_ON + t.get Reg.DOMAIN_READY * 2 ^ 32 }))) ∧
      ((bitsOf 25 (e.inl 12 4)).all t.domainReady = false →
        exec (.domainSet e) s =
          .next (s.to (Dev.hold { t with power := { t.power with
            waits := t.power.waits ++ [(e.inl 12 4, ⟨e.sq, e.tag.toNat, 0x0E02, false⟩)] } } e formDomainSet))))

/-- R69, R71 to R75, R79, R197: accepted PARAM_WRITE and PARAM_STAGE store their words; COMMIT makes a generation and answers the
line it begins at; TABLE_WRITE begins, and its last step stores its words in the shadow; BANK_SWAP begins a cross-fade. -/
def Obligations.SettingsAreWritten : Prop :=
  ∀ (s : State) (e : Entry),
    (s.dev.Accepts (formParamWrite e) checkParamWrite e →
      let d := s.dev.begun (formParamWrite e) e
      d.wordsBad false e = none →
      (∀ i, i < e.count → d.lockedWord e.page (e.word + i) = none) →
      exec (.paramWrite e) s = .next (s.to ((d.storeWords e.page e.word e.params).reply (formParamWrite e) e {}))) ∧
    (s.dev.Accepts (formParamStage e) checkParamStage e →
      let d := s.dev.begun (formParamStage e) e
      d.wordsBad true e = none →
      exec (.paramStage e) s =
        .next (s.to ((d.storeWords e.page e.word e.params).reply (formParamStage e) e { result := (d.genNewest + 1) % 2 ^ 16 }))) ∧
    (s.dev.Accepts formCommit checkCommit e →
      let d := s.dev.begun formCommit e
      d.genPending < 4 → d.mapsBad d.nextConf = (none, none) →
      let t := d.commit (e.inl 12 1 % 4)
      exec (.commit e) s =
        .next (s.to (t.1.reply formCommit e { detail := if d.shadowBusy then 1 else 0, result := t.2 }))) ∧
    (s.dev.Accepts (formTableWrite e) checkTable e →
      let d := s.dev.begun (formTableWrite e) e
      crc32c e.data = e.inl 12 4 →
      (1 ≤ e.table → e.table ≤ 3 → d.calibrates e.inst = false) →
      (e.table = 0x0A → ∀ w ∈ leWords e.data, w.toNat % 8 ≤ 4) → (e.table = 0x0D → d.st = .idle) →
      (e.table = 0x11 → e.offset = 0 ∧
        (leWords e.data = [0] ∨ (imageLength (leWords e.data) = e.bufLen.toNat ∧ imageGood (leWords e.data) = true))) →
      exec (.tableWrite e) s =
        .next (s.to ((d.setChan (fun c => { c with
          writes := c.writes ++ [⟨e.sq, e.tag.toNat, e.table, e.inst, e.offset, leWords e.data⟩] })).hold e (formTableWrite e)))) ∧
    (s.dev.Accepts formBankSwap checkBankSwap e →
      let d := s.dev.begun formBankSwap e
      s.dev.pipe.fade = none → (s.dev.arr.running && s.dev.arr.begun) = true →
      let atFrame := (e.inl 14 1).testBit 0
      let start := if atFrame then d.frameFrom (lineAdd d.lineNow 2) else lineAdd d.lineNow 1
      let stop := lineAdd start (e.inl 12 2)
      let fade : Fade := ⟨e.sel 11 0, if atFrame then none else some start, lineAdd d.lineNow 2, e.inl 12 2,
        d.get Reg.ACTIVE_BANK, false⟩
      exec (.bankSwap e) s =
        .next (s.to (((((({ d with pipe := { d.pipe with fade := some fade } }).putFlag Reg.FADING true).put Reg.FADE_HEADS
          (e.sel 11 0)).put Reg.FADE_LEN (e.inl 12 2)).put Reg.FADE_FIRST start).put Reg.FADE_END stop |>.reply formBankSwap e
            { result := start + 2 ^ 32 * stop }))) ∧
    (s.dev.Accepts formBankSwap checkBankSwap e →
      let d := s.dev.begun formBankSwap e
      s.dev.pipe.fade = none → (s.dev.arr.running && s.dev.arr.begun) = false →
      let a := if d.arr.draining then
          { d with pipe := { d.pipe with
              cuts := (⟨e.sel 11 0, none, 0, 0, d.get Reg.ACTIVE_BANK, true⟩, lineAdd d.newestLine 1) :: d.pipe.cuts } }
        else d
      let t := (((a.put Reg.ACTIVE_BANK (a.get Reg.ACTIVE_BANK ^^^ e.sel 11 0)).put Reg.FADE_HEADS (e.sel 11 0)).put
        Reg.FADE_FIRST 0xFFFFFFFF).put Reg.FADE_END 0xFFFFFFFF |>.put Reg.FADE_LEN 0
      exec (.bankSwap e) s =
        .next (s.to (((t.count Reg.SWAPS).raise
          { source := 193, data := [(4, 0xFFFFFFFF), (4, 0xFFFFFFFF), (1, 0), (4, 0)] }).reply formBankSwap e
            { result := 0xFFFFFFFF + 2 ^ 32 * 0xFFFFFFFF })))

/-- R77, R79, R196, R338, R444: TABLE_WRITE_APPLY takes the oldest TABLE_WRITE at work, writes its words where its table lives and
completes it with their number. -/
def Obligations.TableWritesApply : Prop :=
  ∀ (s : State) (w : TableWrite) (rest : List TableWrite),
    s.dev.baro.halted = false → s.dev.chan.writes = w :: rest →
    let d := s.dev.setChan (fun c => { c with writes := rest })
    let key := tableKey w.table w.inst w.offset
    let done := fun (t : Dev) =>
      exec .tableWriteApply s =
        .next (s.to (t.finish ⟨w.sq, w.tag, 0x0205, false⟩ { result := w.words.length }))
    (w.table ∉ [0x04, 0x05, 0x0D, 0x10, 0x11] →
      done (d.setChan (fun c => { c with
        shadow := Store.putAll tableDefault c.shadow key (tableWords w.table w.offset w.words) }))) ∧
    (w.table = 4 ∨ w.table = 5 → d.bitOf Reg.ACTIVE_BANK w.inst = decide (w.table = 4) →
      (∀ f, s.dev.pipe.fade = some f → f.heads.testBit w.inst = false) →
      done { d with pipe := { d.pipe with banks := Store.putAll tableDefault d.pipe.banks key (tableWords w.table w.offset w.words) } }) ∧
    (w.table = 0x0D → s.dev.windowOpen = true →
      done (d.setBaro (fun b => { b with flash := { b.flash with
        laneTable := Store.putAll (fun _ => 0) b.flash.laneTable w.offset w.words } }))) ∧
    (w.table = 0x10 → (s.dev.eng w.inst).running = false →
      (∀ v ∈ w.words, instrIllegal (v.toNat % 65536) = false ∧ instrIllegal (v.toNat / 65536) = false) →
      let t := { d.touch with engine := { d.engine with prog := Store.putAll tableDefault d.engine.prog key w.words } }
      done (t.setEng w.inst { t.eng w.inst with loaded := true })) ∧
    (∀ t, w.table = 0x11 → s.dev.windowOpen = true → d.writeRecipe w.inst (if w.words = [0] then [] else w.words) = some t →
      done t)

/-- R105, R162, R268, R331, R448: the rows for a PARAM_WRITE of one register act as that PARAM_WRITE. -/
def Obligations.RegisterRowsWriteParams : Prop :=
  ∀ (s : State) (e : Entry),
    s.dev.Accepts (formParamWrite e) checkParamWrite e →
      let d := s.dev.begun (formParamWrite e) e
      d.wordsBad false e = none →
    (∀ i, i < e.count → d.lockedWord e.page (e.word + i) = none) →
    let done := Host.Outcome.next (φ := Fault) (ρ := Refusal) (s.to ((d.storeWords e.page e.word e.params).reply (formParamWrite e) e {}))
    (e.names 0x0200 (· == 0x03) = true → exec (.frameMark e) s = done) ∧
    (e.names 0x0300 (fun w => decide (w < 0x60) && w % 16 == 0x0A) = true → exec (.flip e) s = done) ∧
    (e.names 0x0600 (· == 0x06) = true → exec (.forceStorm e) s = done) ∧
    (e.names 0x0D00 (· == 0x10) = true → exec (.autostartSettingsWrite e) s = done) ∧
    (e.names 0x0900 (fun w => w == 0x80 || w == 0x81) = true → exec (.shortClear e) s = done)

/-- R183, R220, R266, R290, R321, R402, R403, R483: accepted commands of the sorting path and the archive act: RESET_PIPELINE,
STORM_CLEAR, COUNTERS_CLEAR, VALVE_TEST, TAP_ARM (arming a free channel), RING_ATTACH, RING_RELEASE, CALIBRATE. -/
def Obligations.PathCommandsAct : Prop :=
  ∀ (s : State) (e : Entry),
    (s.dev.Accepts formResetPipeline noCheck e →
      let d := s.dev.begun formResetPipeline e
      d.testing 0x20 = false → (s.dev.arr.running && s.dev.arr.begun) = true →
      let t := d.cutFade d.lineNow
      exec (.resetPipeline e) s =
        .next (s.to (Dev.hold { t with track := { t.track with
          flushes := t.track.flushes ++ [⟨t.lineNow, false, ⟨e.sq, e.tag.toNat, 0x0105, false⟩⟩] } } e formResetPipeline))) ∧
    (s.dev.Accepts formResetPipeline noCheck e →
      let d := s.dev.begun formResetPipeline e
      d.testing 0x20 = false → (s.dev.arr.running && s.dev.arr.begun) = false →
      exec (.resetPipeline e) s = .next (s.to (d.forgetIdle.reply formResetPipeline e { result := 0xFFFFFFFF }))) ∧
    (s.dev.Accepts formStormClear noCheck e →
      let d := s.dev.begun formStormClear e
      let named := fun (x : Storm) => (if x.face = 0 then e.inl 12 2 else e.inl 14 2).testBit x.zone
      exec (.stormClear e) s =
        .next (s.to (({ d with track := { d.track with
          storms := d.track.storms.map (fun x => if named x then { x with clear := some (x.clear.getD d.newestLine) } else x) } }).reply formStormClear
            e { result := (d.stormZones 0 &&& e.inl 12 2) + 2 ^ 16 * (d.stormZones 1 &&& e.inl 14 2) }))) ∧
    (s.dev.Accepts formCountersClear noCheck e →
      let d := s.dev.begun formCountersClear e
      e.inl 12 1 ≠ 0 →
      exec (.countersClear e) s =
        .next (s.to ((d.clearCounters ((e.inl 12 1).testBit 0) ((e.inl 12 1).testBit 1) ((e.inl 12 1).testBit 2)).reply formCountersClear e {}))) ∧
    (s.dev.Accepts formValveTest noCheck e →
      let d := s.dev.begun formValveTest e
      10 ≤ e.inl 16 2 → e.inl 12 2 ≤ e.inl 14 2 → s.dev.liveAllowed = true →
      let vs := (d.conf.valves.filter (fun v => e.inl 12 2 ≤ v.id && v.id ≤ e.inl 14 2)).map (·.id)
      let n := max 1 (e.inl 20 1)
      let pulse := d.inFrames (e.inl 16 2)
      let gap := d.inFrames (e.inl 18 2)
      let ws : List ValveWin := vs.flatMap (fun v => (List.range n).map (fun i =>
        ⟨v, .test, v, v, 0, d.frameNext + i * (pulse + gap), some (d.frameNext + i * (pulse + gap) + pulse), false, false, false⟩))
      let kept := fun (x : ValveWin) => !(x.kind == .test && decide (d.frameNext ≤ x.fOpen))
      vs ≠ [] → (d.eject.wins.filter kept).length + ws.length ≤ 16384 →
      exec (.valveTest e) s =
        .next (s.to (((d.dropWins (fun x => !kept x)).putWins ws).reply formValveTest e
          { result := d.frameNext % 2 ^ 32 + 2 ^ 32 * ((d.frameNext + (n - 1) * (pulse + gap) + pulse) % 2 ^ 32) }))) ∧
    (s.dev.Accepts formTapArm checkTapArm e →
      let d := s.dev.begun formTapArm e
      (e.inl 12 1).testBit 3 = false → (d.win (e.inl 14 1)).attached = true →
      s.dev.pipe.taps.find? (fun t => t.channel == e.sel 1 0 && t.stop.isNone) = none →
      let first : Option Nat :=
        if (e.inl 12 1).testBit 4 then (if d.arr.running && d.arr.begun then some (lineAdd d.lineNow 1) else none)
        else some (e.inl 24 4)
      let t : Tap := ⟨e.sel 1 0, e.inl 12 1 % 8, e.inl 13 1, e.inl 14 1 % 64, max 1 (e.inl 15 1), e.inl 16 2, e.inl 18 2,
        e.inl 20 2, first, !d.arr.running, (if e.inl 28 4 = 0 then none else some (e.inl 28 4)), 0, none⟩
      exec (.tapArm e) s =
        .next (s.to ((({ d with pipe := { d.pipe with taps := d.pipe.taps ++ [t] } }).noteTap t true).reply formTapArm e
          { result := first.getD 0xFFFFFFFF }))) ∧
    (s.dev.Accepts formRingAttach checkRingAttach e →
      let d := s.dev.begun formRingAttach e
      (d.win (e.sel 5 0)).attached = false →
      d.attachedWins.any (fun x => decide (x.base < e.inl 12 8 + e.inl 20 8) && decide (e.inl 12 8 < x.base + x.size)) = false →
      (d.attachedWins.map (·.size)).foldl (· + ·) (e.inl 20 8) ≤ 2 ^ 42 →
      let x := { d.win (e.sel 5 0) with
        attached := true, base := e.inl 12 8, size := e.inl 20 8, overwrite := (e.inl 28 1).testBit 0
        noSnoop := (e.inl 28 1).testBit 1, peer := (e.inl 28 1).testBit 2, wp := 0, rp := 0, ret := 0, tail := 0, rpHeld := 0
        retHeld := 0, placed := [], live := [], retainEn := true }
      let t := d.setWin (e.sel 5 0) x
      exec (.ringAttach e) s =
        .next (s.to (({ t with host := { t.host with
          downWindows := t.host.downWindows &&& ~~~BitVec.ofNat 64 (1 <<< e.sel 5 0) } }.noteAttached).reply formRingAttach e {}))) ∧
    (s.dev.Accepts formRingRelease noCheck e →
      let d := s.dev.begun formRingRelease e
      (d.win (e.sel 5 0)).attached = true →
      let x := d.win (e.sel 5 0)
      let here := fun (rs : List StreamRec) => (rs.filter (fun r => r.win == e.sel 5 0)).length
      let keep := fun (rs : List StreamRec) => rs.filter (fun r => r.win != e.sel 5 0)
      let lost := (x.placed.filter (fun p => !p.pad)).length + (d.arch.queue.filter (fun r => r.1 == e.sel 5 0)).length
        + here d.arch.forecasts + here d.arch.views + here d.arch.taps
      let a := { d with arch := { d.arch with
        queue := d.arch.queue.filter (fun r => r.1 != e.sel 5 0), forecasts := keep d.arch.forecasts, views := keep d.arch.views
        taps := keep d.arch.taps } }
      let t := (a.setWin (e.sel 5 0)
        { x.detach with drops := sat32 (x.drops + lost), dropped := x.dropped || lost != 0 }).noteAttached
      exec (.ringRelease e) s =
        .next (s.to ((((if lost = 0 then t else t.orBits Reg.RING_EVENT 1).endTaps (fun p => p.window == e.sel 5 0) 3).reply formRingRelease e
          { result := x.wp })))) ∧
    (s.dev.Accepts formCalibrate checkCalibrate e →
      let d := s.dev.begun formCalibrate e
      s.dev.st ≠ .armed → s.dev.st ≠ .sorting →
      (bitsOf 12 (e.sel 11 0)).all d.expects = true →
      let o := e.inl 12 1
      let own := d.st == .idle && !d.runOn
      let k : Calib := ⟨o % 4 == 1, o.testBit 4, o.testBit 5, o.testBit 6, (if e.inl 13 1 = 0 then 64 else e.inl 13 1), e.inl 14 2,
        e.inl 16 1, (bitsOf 12 (e.sel 11 0)).map (fun h => ⟨h, 0, 0, 0, []⟩), own, d.clk.bus⟩
      let t := if own then d.newRun true else d
      exec (.calibrate e) s =
        .next (s.to ((({ t with pipe := { t.pipe with calib := some k } }).put Reg.CAL_BLOCKS 0).hold e formCalibrate)))

/-- R338, R339, R337, R358, R377: accepted commands of engines, timers and the auxiliary sequencer act: ENGINE_LOAD, ENGINE_START,
ENGINE_STOP, TIMER_CONFIG, AUX_SEQUENCE. -/
def Obligations.EngineCommandsAct : Prop :=
  ∀ (s : State) (e : Entry),
    (s.dev.Accepts formEngineLoad checkEngineLoad e →
      let d := s.dev.begun formEngineLoad e
      crc32c e.data = e.inl 16 4 → (s.dev.eng (e.sel 3 0)).running = false →
      let n := e.inl 12 1
      let code := (List.range n).map (fun i => leAt e.data (2 * i) 2)
      (∀ i ∈ code, instrIllegal i = false) →
      let ws := packHalves (code ++ (List.range (64 - n)).map (fun i => 0x7000 + n + i))
      let t := { d.touch with engine := { d.engine with
        prog := Store.putAll tableDefault d.engine.prog (tableKey 0x10 (e.sel 3 0) 0) ws } }
      exec (.engineLoad e) s =
        .next (s.to (((t.setEng (e.sel 3 0) { t.eng (e.sel 3 0) with loaded := true }).put Reg.LEN n (e.sel 3 0)).reply formEngineLoad e
          { result := n }))) ∧
    (∀ t, s.dev.Accepts formEngineStart noCheck e →
      let d := s.dev.begun formEngineStart e
      e.inl 12 2 ≠ 0 → s.dev.ejectOn = true →
      d.startEngines (e.inl 12 2) ((e.inl 14 1).testBit 0) ((e.inl 14 1).testBit 1) = .inl t →
      exec (.engineStart e) s =
        .next (s.to (t.reply formEngineStart e { result := (e.inl 12 2 - d.runningOf (e.inl 12 2)) + 2 ^ 16 * d.runningOf (e.inl 12 2)
          + t.tb % 2 ^ 32 * 2 ^ 32 }))) ∧
    (s.dev.Accepts formEngineStop noCheck e →
      let d := s.dev.begun formEngineStop e
      exec (.engineStop e) s =
        .next (s.to ((d.stopEngines (e.inl 12 2) ((e.inl 14 1).testBit 0)).reply formEngineStop e
          { result := d.runningOf (e.inl 12 2) + d.tb % 2 ^ 32 * 2 ^ 32 }))) ∧
    (s.dev.Accepts formTimerConfig checkTimerConfig e →
      let d := s.dev.begun formTimerConfig e
      let ts := bitsOf 32 (e.inl 12 4)
      let put := ts.foldl (fun x t => ((x.setWord (Reg.PRESC.key t) (BitVec.ofNat 32 (e.inl 16 4))).setWord (Reg.ACT_A.key t)
        (BitVec.ofNat 32 (e.inl 20 4))).freeze t) d
      (e.inl 24 1 = 0 → exec (.timerConfig e) s = .next (s.to (put.reply formTimerConfig e { result := e.inl 12 4 }))) ∧
      (e.inl 24 1 = 1 →
        exec (.timerConfig e) s =
          .next (s.to ((ts.foldl Dev.arm put).reply formTimerConfig e { result := e.inl 12 4 + put.tb % 2 ^ 32 * 2 ^ 32 })))) ∧
    (s.dev.Accepts formAuxSequence checkAuxSequence e →
      let d := s.dev.begun formAuxSequence e
      s.dev.auxOn = true →
      let n := auxSteps e
      let words := if e.bufLen = 0 then (List.range n).map (fun i => d.word (Reg.CHAN.key 0 + i)) else leWords e.data
      ((e.inl 12 1).testBit 0 = true →
        (∀ i, i < n → auxStepCheck (d.flag Reg.AUX_LP) ((words[i]?).getD 0) = none) →
        let x := ((List.range n).zip words).foldl (fun y p => y.setWord (Reg.CHAN.key 0 + p.1) p.2)
          ((d.put Reg.CHECK_STEP 0).put Reg.CHECK_CODE_0A00 0)
        let t := (x.put Reg.SEQ_NUM (x.get Reg.SEQ_NUM + 1)).setAux (fun a => { a.await 0 with
          running := true, loop := (e.inl 12 1).testBit 2, steps := n, latch := 0, counts := Vector.replicate 24 0 })
        exec (.auxSequence e) s =
          .next (s.to (t.reply formAuxSequence e { result := t.get Reg.SEQ_NUM + t.tb % 2 ^ 32 * 2 ^ 32 }))) ∧
      ((e.inl 12 1).testBit 0 = false → (e.inl 12 1).testBit 1 = true →
        exec (.auxSequence e) s =
          .next (s.to ((d.setAux (fun a => { a.await 0 with running := false, latch := 0 })).reply formAuxSequence e
            { result := d.get Reg.SEQ_NUM + d.tb % 2 ^ 32 * 2 ^ 32 }))))

/-- R386, R389, R391, R398: accepted commands of the clocks act: LSYN_CONFIG, LSYN_RAMP, LSYN_PHASE_STEP, TIMEBASE_ALIGN. -/
def Obligations.ClockCommandsAct : Prop :=
  ∀ (s : State) (e : Entry),
    (∀ nf p, s.dev.Accepts formLsynConfig checkLsynConfig e →
      let d := s.dev.begun formLsynConfig e
      s.dev.runOn = false →
      let o := e.inl 12 1
      let w : LsynWant := ⟨o.testBit 0, o.testBit 1, o.testBit 2, e.inl 16 4, e.inl 24 1 * 2 ^ 24 + e.inl 20 3, e.inl 26 2,
        e.inl 28 4⟩
      d.lsynCheck w = .ok (nf, p) →
      exec (.lsynConfig e) s = .next (s.to ((d.lsynWrite w nf p).reply formLsynConfig e { result := nf + 2 ^ 32 * p }))) ∧
    (∀ segs, s.dev.Accepts formLsynRamp checkLsynRamp e →
      let d := s.dev.begun formLsynRamp e
      d.flag Reg.LSYN_EN = true → d.flag Reg.LSYN_SETTLED = true → (e.inl 12 1).testBit 0 = true → d.rampProfile = some segs →
      d.rampFault d.nf 0 segs = none →
      let t := ((d.put Reg.CHECK_SEG 0).put Reg.CHECK_CODE_0100 0).dropAsk
      exec (.lsynRamp e) s =
        .next (s.to (Dev.hold { t with clk := { t.clk with
          ask := some ⟨some segs, some ⟨e.sq, e.tag.toNat, 0x0B02, false⟩, none, d.cycle⟩ } } e formLsynRamp))) ∧
    (s.dev.Accepts formLsynRamp checkLsynRamp e →
      let d := s.dev.begun formLsynRamp e
      d.flag Reg.LSYN_EN = true → d.flag Reg.LSYN_SETTLED = true → (e.inl 12 1).testBit 0 = false →
      exec (.lsynRamp e) s =
        .next (s.to (Dev.hold { d.dropAsk with clk := { d.dropAsk.clk with
          ask := some ⟨none, some ⟨e.sq, e.tag.toNat, 0x0B02, false⟩, none, d.cycle⟩ } } e formLsynRamp))) ∧
    (s.dev.Accepts formLsynPhaseStep noCheck e →
      let d := s.dev.begun formLsynPhaseStep e
      d.flag Reg.LSYN_EN = true → d.flag Reg.LSYN_SETTLED = true →
      let left := d.pstepLeft + signed 32 (e.inl 12 4)
      left ≤ 2097151 → -2097152 ≤ left → signed 32 (e.inl 12 4) ≤ 2097151 → -2097152 ≤ signed 32 (e.inl 12 4) →
      exec (.lsynPhaseStep e) s =
        .next (s.to ({ d with clk := { d.clk with pstep := left, pstepAt := d.clk.bus } }.reply formLsynPhaseStep e
          { result := unsigned 23 left + 2 ^ 32 * ceilDiv left.natAbs 64 }))) ∧
    (s.dev.Accepts formTimebaseAlign noCheck e →
      let d := s.dev.begun formTimebaseAlign e
      e.inl 12 1 % 4 = 0 →
      exec (.timebaseAlign e) s =
        .next (s.to (d.reply formTimebaseAlign e { result := d.get Reg.TB_ERROR + 2 ^ 32 * d.get Reg.TB_LOCKED }))) ∧
    (s.dev.Accepts formTimebaseAlign noCheck e →
      let d := s.dev.begun formTimebaseAlign e
      e.inl 12 1 % 4 = 1 → s.dev.runOn = false →
      let t := (d.tbJump (e.inl 16 8 * 16)).tbMoved
      exec (.timebaseAlign e) s = .next (s.to (t.reply formTimebaseAlign e { result := t.countTb.tb }))) ∧
    (s.dev.Accepts formTimebaseAlign noCheck e →
      let d := s.dev.begun formTimebaseAlign e
      e.inl 12 1 % 4 = 2 → s.dev.runOn = true →
      (signed 64 (e.inl 16 8)).natAbs ≤ 65536 →
      let t := ({ d with clk := { d.clk with slew := d.clk.slew + 16 * signed 64 (e.inl 16 8) } }).tbMoved
      exec (.timebaseAlign e) s = .next (s.to (t.reply formTimebaseAlign e { result := t.countTb.tb })))

/-- R60, R445, R446, R486, R503: accepted RECIPE_LOAD, RECIPE_SAVE and SELFTEST begin, INJECT makes its occurrence, and RESET_UNIT
completes before its reset. -/
def Obligations.LongCommandsBegin : Prop :=
  ∀ (s : State) (e : Entry),
    (∀ ss, s.dev.Accepts formRecipeLoad noCheck e →
      let d := s.dev.begun formRecipeLoad e
      s.dev.runOn = false →
      let a := d.abortAuto
      let ws := a.baro.flash.recipe (e.sel 5 0)
      let new := a.withSections ss
      ws ≠ [] → imageGood ws = true → rcp ws 1 % 65536 = a.get Reg.BFW_IFACE →
      sectionsOf (rcp ws 1 / 65536) (ws.drop 16) = some ss → new.recipeFails (rcp ws 3 / 65536) ss = none →
      let t := ((ss.foldl (Dev.sectionActs a) new).put Reg.CHECK_SECTION 0).put Reg.CHECK_CODE_0D00 0
      exec (.recipeLoad e) s =
        .next (s.to ((t.setChan (fun c => { c with longArgs := [e.sel 5 0, rcp ws 3 / 65536] })).hold e formRecipeLoad))) ∧
    (s.dev.Accepts formRecipeSave noCheck e →
      let d := s.dev.begun formRecipeSave e
      let name := (List.range 16).map (fun i => BitVec.ofNat 8 (e.inl (16 + i) 1))
      exec (.recipeSave e) s =
        .next (s.to ((d.setChan (fun c => { c with
          longArgs := [e.sel 5 0, 0, d.conf.gen], longBytes := wordBytes (d.captureBody name d.tb), touched := false })).hold e
            formRecipeSave))) ∧
    (s.dev.Accepts formSelftest checkSelftest e →
      let d := s.dev.begun formSelftest e
      d.testRefuses (e.sel 7 0) (e.sel 11 8) ((e.inl 12 1).testBit 0) = none →
      e.sel 7 0 ≠ 2 →
      exec (.selftest e) s =
        .next (s.to ((((d.put Reg.ST_ID (e.sel 7 0)).testStarts (e.sel 7 0) (e.sel 11 8)).setChan (fun c => { c with
          longArgs := [e.sel 7 0, e.sel 11 8] })).hold e formSelftest))) ∧
    (s.dev.Accepts formSelftest checkSelftest e →
      let d := s.dev.begun formSelftest e
      d.testRefuses (e.sel 7 0) (e.sel 11 8) ((e.inl 12 1).testBit 0) = none →
      e.sel 7 0 = 2 →
      exec (.selftest e) s =
        .next (s.to (((((d.put Reg.ST_ID 2).put Reg.SCRUB_PASS 0).putFlag Reg.ST_PASS true).put Reg.ST_CODE 0).reply formSelftest e
          { result := 1 }))) ∧
    (s.dev.Accepts formInject checkInject e →
      let d := s.dev.begun formInject e
      let t := (d.count Reg.INJECTS).inject (e.inl 12 2) e.selector.toNat
      exec (.inject e) s =
        .next (s.to (t.1.reply formInject e { result := t.2.getD 0xFFFFFFFF + (if t.1.st = .fault ∧ d.st ≠ .fault then 2 ^ 32 else 0) }))) ∧
    (s.dev.Accepts formResetUnit noCheck e →
      let d := s.dev.begun formResetUnit e
      exec (.resetUnit e) s =
        .next (s.to (((d.setPower (fun p => { p with resetAsk := some (.resetUnit, e.sq.val, e.tag.toNat) })).reply formResetUnit e
          {}).resetCheck)))

/-- R436 to R440: accepted FW_STAGE writes its chunk, FW_VERIFY begins, FW_ACTIVATE invalidates the copy it will write, and
UNLOCK_UNTESTED sets its flags. -/
def Obligations.FirmwareCommandsAct : Prop :=
  ∀ (s : State) (e : Entry),
    (s.dev.Accepts formFwStage checkFwStage e →
      let d := s.dev.begun formFwStage e
      let kind := e.sel 0 0
      let i := slotIndex kind (d.stageSlot kind)
      let staged := e.inl 12 4 + e.bufLen.toNat
      (d.longOp.all (fun o => o.opcode != 0x0D02 && o.opcode != 0x0D03)) = true →
      e.inl 12 4 = (if (e.inl 16 1).testBit 0 then 0 else d.get (stagedReg kind)) →
      staged ≤ slotSize kind → crc32c e.data = e.inl 20 4 → s.dev.windowOpen = true →
      let t := d.setBaro (fun b => { b with flash := { b.flash with
        slots := b.flash.slots.set i.val (stageChunk b.flash.slots[i] (e.inl 12 4) e.data) i.isLt
        factory := b.flash.factory.set i.val false i.isLt } })
      exec (.fwStage e) s =
        .next (s.to (((t.put (stagedReg kind) staged).putFlag (verifiedReg kind) false).reply formFwStage e { result := staged }))) ∧
    (s.dev.Accepts formFwVerify noCheck e →
      let d := s.dev.begun formFwVerify e
      exec (.fwVerify e) s =
        .next (s.to ((d.setChan (fun c => { c with longArgs := [e.sel 0 0] })).hold e formFwVerify))) ∧
    (s.dev.Accepts formFwActivate checkFwActivate e →
      let d := s.dev.begun formFwActivate e
      let o := e.inl 12 1
      let i := d.baro.flash.otherCopy
      (o.testBit 0 = true → d.flag Reg.BFW_VERIFIED = true) → (o.testBit 1 = true → d.flag Reg.SQM_VERIFIED = true) →
      d.wouldBoot o ≠ some 2 → (d.wouldBoot o = some 1 → o.testBit 2 = true) → s.dev.windowOpen = true →
      let t := d.setBaro (fun b => { b with flash := { b.flash with
        sel := b.flash.sel.set i.val { b.flash.sel[i] with valid := false } i.isLt } })
      exec (.fwActivate e) s = .next (s.to ((t.setChan (fun c => { c with longArgs := [o] })).hold e formFwActivate))) ∧
    (s.dev.Accepts formUnlockUntested checkUnlockUntested e →
      let d := s.dev.begun formUnlockUntested e
      d.get Reg.PAIRING = 1 → e.inl 16 4 = d.get Reg.BFW_VERSION →
      e.inl 20 4 = d.get Reg.SQM_VERSION → e.inl 24 1 = d.get Reg.STEPPING →
      let a := if (e.inl 12 1).testBit 0 then d.putFlag Reg.UNLOCKED true else d
      let b := if (e.inl 12 1).testBit 1 then a.putFlag Reg.LIVE_OK true else a
      let t := ((b.logOpen 8 0x0D04 0).orBits Reg.UNLOCK 1).raise { source := 550 }
      let u := if t.st = .restricted ∧ t.flag Reg.UNLOCKED = true then t.enter .idle 0x0D04 else t
      exec (.unlockUntested e) s =
        .next (s.to (u.reply formUnlockUntested e { result := u.get Reg.UNLOCKED + 2 * u.get Reg.LIVE_OK + 16 * u.st.code })))

/-- R439, R440, R445, R446, R487, R183: the later steps of long operations end them, each with the RESULT its chapter gives:
FW_VERIFY_DONE, FW_ACTIVATE_DONE, RECIPE_LOAD_DONE, RECIPE_SAVE_DONE, SELFTEST_DONE, CALIBRATE_FINAL_STEP. -/
def Obligations.LongOperationsEnd : Prop :=
  ∀ (s : State),
    let d := s.dev
    let ends := fun (i : Instr) (t : Dev) => exec i s = .next (s.to t)
    d.baro.halted = false →
    (∀ kind, d.longIs 0x0D02 = true → d.chan.longArgs = [kind] → kind < 2 →
      let slot := d.stageSlot kind
      let x := d.baro.flash.image kind slot
      x.fits kind = true → d.signed kind slot = true →
      let t := (d.putFlag (verifiedReg kind) true).outcomeWith kind x
      ends .fwVerifyDone (t.1.finishLong 0x0D02 { result := x.version + x.iface * 2 ^ 32 + t.2 * 2 ^ 48 })) ∧
    (∀ c o, d.longOp = some c → c.opcode = 0x0D03 → d.chan.longArgs = [o] → d.windowOpen = true → o.testBit 3 = false →
      let f := d.baro.flash
      let i := f.otherCopy
      let seq := match f.selected with | some x => (x.seq + 1) % 2 ^ 32 | none => 1
      let n := d.newSlots o
      let t := d.setBaro (fun b => { b with flash := { f with
        sel := f.sel.set i.val ⟨true, seq, n.1, n.2, (f.image 0 n.1).version, (f.image 1 n.2).version⟩ i.isLt } })
      ends .fwActivateDone (t.finishLong 0x0D03 { result := seq }).resetCheck) ∧
    (∀ o, d.longIs 0x0D03 = true → d.chan.longArgs = [o] → d.windowOpen = false →
      ends .fwActivateDone (d.refuseWindow.finishLong 0x0D03 { status := .thermalWindow }).resetCheck) ∧
    (∀ slot mask u, d.longIs 0x0106 = true → d.chan.longArgs = [slot, mask] →
      let ws := d.baro.flash.recipe slot
      let ss := (sectionsOf (rcp ws 1 / 65536) (ws.drop 16)).getD []
      let t := (ss.foldl Dev.applyLsyn d).tryCommit 0
      t.2.status = .ok → t.1.startEngines mask true true = .inl u →
      ends .recipeLoadDone ((u.logOpen 5 0x0106 0).finishLong 0x0106 { result := t.2.result / 2 ^ 32 % 2 ^ 16 })) ∧
    (∀ slot tries gen t, d.longIs 0x0107 = true → d.chan.longArgs = [slot, tries, gen] → d.windowOpen = true →
      d.chan.touched = false → d.conf.gen = gen →
      let ws := withCheck (leWords d.chan.longBytes)
      d.writeRecipe slot ws = some t →
      ends .recipeSaveDone (t.finishLong 0x0107 { result := 4 * ws.length + gen * 2 ^ 32 })) ∧
    (∀ slot tries gen, d.longIs 0x0107 = true → d.chan.longArgs = [slot, tries, gen] → tries < 3 →
      (d.chan.touched = true ∨ d.conf.gen ≠ gen) →
      ends .recipeSaveDone (d.captureFor slot (tries + 1) ((d.chan.longBytes.drop 16).take 16))) ∧
    (∀ (code : BitVec 32) us inst, d.longIs 0x0C01 = true → d.chan.longArgs = [0x01, inst] →
      ends (.selftestDone true code us)
        (((d.putFlag Reg.ST_PASS true).put Reg.ST_CODE 0).finishLong 0x0C01 { result := 1 + 2 ^ 32 * (us % 2 ^ 32) })) ∧
    (∀ k, d.pipe.calib = some k →
      (∃ x ∈ k.heads, x.blocks < k.blocks ∧ max k.since (d.headS x.head).lastTb + 20000000 < d.clk.bus) →
      ends .calibrateFinalStep (d.endCalibrate k { status := .timeout })) ∧
    (∀ k, d.pipe.calib = some k → (∀ x ∈ k.heads, k.blocks ≤ x.blocks) →
      (k.flat = false → ∀ x ∈ k.heads, x.bright = false) →
      let m := k.heads.foldl (fun (acc : Dev × List (Nat × CalOut)) x =>
        let o := if k.flat then acc.1.flatOut k x else acc.1.darkOut x
        (o.1, acc.2 ++ [(x.head, o.2)])) (d, [])
      (∀ o ∈ m.2, m.1.defectsOver k o = false) →
      ends .calibrateFinalStep ((m.1.keepCalibration k m.2).1.endCalibrate k (m.1.keepCalibration k m.2).2))

/-- R157, R159, R160, R151: accepted LINK_TRAIN and LANE_PRBS take their group down and begin; HEAD_CONTROL sends a message or
takes the oldest of a mailbox; LINK_TRAIN_COMPLETE ends a training and answers the group's status. -/
def Obligations.LaneCommandsAct : Prop :=
  ∀ (s : State) (e : Entry),
    (s.dev.Accepts formLinkTrain checkGroup e →
      let d := s.dev.begun formLinkTrain e
      d.trainRefuses (e.sel 2 0) = none →
      exec (.linkTrain e) s =
        .next (s.to ((d.trainGroup (e.sel 2 0) ⟨e.sq, e.tag.toNat, 0x0401, true⟩).hold e formLinkTrain))) ∧
    (s.dev.Accepts formLanePrbs checkGroup e →
      let d := s.dev.begun formLanePrbs e
      (s.dev.st.imaging = true → (e.inl 12 1).testBit 7 = true) →
      let g := e.sel 2 0
      let o := e.inl 12 1
      let c := (laneNumbers g).foldl (fun d n => d.setRxLane n { d.rxLane n with checker := ⟨[], none⟩ }) (d.closeGroup g)
      let f := c.takeFree
      let t := f.1.setLaneGroup g { f.1.laneGroup g with
        pattern := o % 4, patternUse := o / 4 % 4, patternLanes := e.inl 13 1 % 16, patternErrors := e.inl 14 2
        patternRaised := false, patternSent := 0, patternNow := (e.inl 16 1).testBit 0
        patternState := List.replicate 4 (1 + Config.freeValue f.2 % (2 ^ (prbsTaps (o % 4)).1 - 1)) }
      exec (.lanePrbs e) s = .next (s.to ((t.putFlag Reg.PRBS_ACTIVE (o % 4 != 0) g).reply formLanePrbs e {}))) ∧
    (∀ g, s.dev.Accepts formHeadControl checkHeadControl e →
      let d := s.dev.begun formHeadControl e
      let peer := e.selector.getLsbD 15
      (if peer then (d.laneGroup g).peer = true ∧ d.flag Reg.GROUP_UP g = true ∧ g = e.sel 2 0 else d.groupOf (e.sel 3 0) = some g) →
      e.inl 12 1 = 0 →
      exec (.headControl e) s =
        .next (s.to ((d.control g (if peer then 0 else e.sel 3 0) (e.inl 13 1) (words64 e.data)
          (some ⟨e.sq, e.tag.toNat, 0x0404, false⟩)).hold e formHeadControl))) ∧
    (∀ g m rest, s.dev.Accepts formHeadControl checkHeadControl e →
      let d := s.dev.begun formHeadControl e
      let peer := e.selector.getLsbD 15
      (if peer then (d.laneGroup g).peer = true ∧ d.flag Reg.GROUP_UP g = true ∧ g = e.sel 2 0 else d.groupOf (e.sel 3 0) = some g) →
      let box := if peer then 16 + g else e.sel 3 0
      e.inl 12 1 ≠ 0 →
      d.lane.mail.filter (fun (x : MailMsg) => x.box == box) = m :: rest → 8 * m.words.length ≤ e.bufLen.toNat →
      exec (.headControl e) s =
        .next (s.to (({ d with lane := { d.lane with
          mail := rest ++ d.lane.mail.filter (fun (x : MailMsg) => x.box != box) } }).reply formHeadControl e
            { result := m.msg + 2 ^ 16 * m.words.length + 2 ^ 32 * m.seq + (if rest = [] then 0 else 2 ^ 48)
              out := groupBytes m.words }))) ∧
    (∀ (g : Fin 6) t0 cmd, (s.dev.laneGroup g).training = some (t0, cmd) →
      (s.dev.trained g = true ∨ t0 + (s.dev.laneGroup g).timeoutMs * 200000 ≤ s.dev.clk.bus) →
      let t := (s.dev.setLaneGroup g { s.dev.laneGroup g with training := none }).putFlag Reg.TRAINING false g
      exec (.linkTrainComplete g) s =
        .next (s.to (t.finish cmd
          { status := if t.flag Reg.GROUP_UP g then .ok else .timeout
            result := t.get Reg.LANE_UP g + 2 ^ 4 * t.get Reg.GROUP_UP g + 2 ^ 5 * t.get Reg.DEGRADED g
              + 2 ^ 8 * t.get Reg.RX_GID g + 2 ^ 16 * t.get Reg.HEADS_IN_LINK g + 2 ^ 32 * t.get Reg.SKEW g })))

/-- R35, R52, R54, R55, R62: an entry that fails ENTRY_CRC or names no opcode completes with the status of R65; a timed-out fetch
disables its queue, and a timed-out buffer read ends its command with TIMEOUT. An entry with FENCE waits, fetched and checked, while
an earlier command of its queue is outstanding, and one that is not the next to be fetched changes nothing. -/
def Obligations.EntriesThatDoNotExecute : Prop :=
  ∀ (s : State) (e : Entry) (op : BitVec 16),
    let d := s.dev.fetched e.sq
    (s.dev.nextSq = some e.sq.val → e.crcGood op.toNat = false →
      exec (.entryCheck op e) s =
        .next (s.to ((d.noteEntryCheck e).turnAway e.sq e.tag.toNat 0 { status := .checkFail, detail := 1 }))) ∧
    (s.dev.nextSq = some e.sq.val → e.crcGood op.toNat = true → op.toNat ∉ opcodes → e.tag.toNat ∉ d.tagsOut →
      exec (.badOpcode op e) s = .next (s.to (d.turnAway e.sq e.tag.toNat 0 { status := .badOpcode }))) ∧
    (∀ q : Fin 64, s.dev.nextSq = some q.val →
      exec (.cplTimeout q none) s =
        .next (s.to ((s.dev.setSq q { s.dev.sq q with ready := false, err := true }).noteTimeout q 0xFFFF))) ∧
    (∀ f check, bufferForm op.toNat e = some (f, check) → s.dev.Accepts f check e → f.buf = true → e.bufLen ≠ 0 →
      exec (.cplTimeout e.sq (some (op, e))) s =
        .next (s.to (((s.dev.begun f e).noteTimeout e.sq e.tag.toNat).reply f e { status := .timeout }))) ∧
    (s.dev.nextSq = some e.sq.val → d.refuses formNop noCheck e = none → e.fence = true → s.dev.busySq e.sq = true →
      exec (.nop e) s = .next (s.to (d.setSq e.sq { d.sq e.sq with fenced := some ⟨0x0100, e, false⟩ }))) ∧
    (s.dev.nextSq ≠ some e.sq.val → exec (.nop e) s = .next s)

/-- R38, R47, R49 to R53, R340, R349, R408, R494 to R497: in a function that answers memory requests, a write of a register's row
writes that register as its rule says. -/
def Obligations.RegisterRowsAct : Prop :=
  ∀ (s : State), s.dev.memoryOn = true →
    let d := s.dev
    let wrote := fun (i : Instr) (t : Dev) => exec i s = .next (s.to t.resetCheck)
    (∀ (n : Fin 64) (v : Word), (d.sq n).enable = true → v.toNat % 4096 ≤ (d.sq n).size →
      wrote (.sqTail n v) (d.setSq n { d.sq n with tail := v.toNat % 4096 })) ∧
    (∀ (n : Fin 64) (v : Word), (d.sq n).enable = true → (d.sq n).size < v.toNat % 4096 →
      wrote (.sqTail n v) (d.setSq n { d.sq n with dbErr := true })) ∧
    (∀ (n : Fin 64) (v : Word), (d.cq n).enable = true → v.toNat % 4096 ≤ (d.cq n).size →
      wrote (.cqHead n v) (((d.setCq n { d.cq n with head := v.toNat % 4096 }).drainCq n (d.cq n).waiting.length).evalVectors
        (if (d.cq n).irqEn then [(d.cq n).vector] else []))) ∧
    (∀ (n cqid : Fin 64) (size : BitVec 12), (d.sq n).enable = false → size ≠ 0 →
      let q := if n.val = 0 then 0 else cqid.val
      (d.cq q).ready = true →
      let a := if q = d.cqOf n then d else d.keepCq n
      wrote (.sqEnable n cqid size) (a.setSq n { d.sq n with
        size := size.toNat, cqid := q, enable := true, ready := true, err := false, head := 0, tail := 0 })) ∧
    (∀ n : Fin 64, (d.sq n).enable = true → (d.sq n).size < 4096 → (d.sq n).cqid < 64 →
      wrote (.sqDisable n) (d.setSq n { d.sq n with enable := false, ready := false })) ∧
    (∀ (n : Fin 64) irqEn (vector : Fin 64) (size : BitVec 12), (d.cq n).enable = false → size ≠ 0 →
      wrote (.cqEnable n irqEn vector size) (((d.setCq n { d.cq n with
        irqEn := irqEn, vector := vector.val, size := size.toNat, enable := true, ready := true, err := false, head := 0, tail := 0
        phase := true, waiting := [] }).evalVectors []).deliverAborted)) ∧
    (∀ n : Fin 64, (d.cq n).enable = true → d.cqInUse n = false → (d.cq n).size < 4096 → (d.cq n).vector < 64 →
      wrote (.cqDisable n) (((d.setCq n { d.cq n with enable := false, ready := false }).evalVectors []).deliverAborted)) ∧
    (∀ (g : Fin 32) (v : Word),
      let keep : BitVec 1024 := ~~~BitVec.ofNat 1024 (v.toNat <<< (32 * g.val))
      wrote (.causeWrite g v) (({ d with ev := { d.ev with
        cause := d.ev.cause &&& keep, injCause := d.ev.injCause &&& keep } }).evalVectors
          (d.vectorsOf (32 * g) (32 * g + 32)))) ∧
    (∀ (g : Fin 32) (v : Word),
      let keep : BitVec 1024 := ~~~BitVec.ofNat 1024 (0xFFFFFFFF <<< (32 * g.val))
      let new := BitVec.ofNat 1024 ((v.toNat &&& groupSources g) <<< (32 * g.val))
      wrote (.maskWrite g v) (({ d with ev := { d.ev with mask := d.ev.mask &&& keep ||| new } }).evalVectors
          (d.vectorsOf (32 * g) (32 * g + 32)))) ∧
    (∀ (n : Fin 1024) (v : Word), isSource n = true → ((d.route n).getLsbD 0 || !v.getLsbD 0 || !d.ev.cause.getLsbD n) = true →
      let t := { d with ev := { d.ev with
        route := Store.put routeDefault d.ev.route n (BitVec.ofNat 32 (v.toNat &&& 0xBF000007)) } }
      wrote (.routeWrite n v) (t.evalVectors (d.vectorsOf n (n + 1) ++ t.vectorsOf n (n + 1)))) ∧
    (∀ (n : Fin 1024) (v : Word), isSource n = true → (d.route n).getLsbD 0 = false → v.getLsbD 0 = true →
      d.ev.cause.getLsbD n = true →
      let t := { d with ev := { d.ev with
        route := Store.put routeDefault d.ev.route n (BitVec.ofNat 32 (v.toNat &&& 0xBF000007)) } }
      wrote (.routeWrite n v) ((t.replay n).evalVectors (d.vectorsOf n (n + 1) ++ (t.replay n).vectorsOf n (n + 1)))) ∧
    (∀ size : BitVec 12, d.ev.ringEnable = false → size ≠ 0 →
      wrote (.evrEnable true size) { d with ev := { d.ev with
        ringSize := size.toNat, ringEnable := true, ringReady := true, ringErr := false, ringTail := 0, ringHead := 0
        ringPhase := true } }) ∧
    (∀ size : BitVec 12, d.ev.ringEnable = true →
      wrote (.evrEnable false size) { d with ev := { d.ev with ringEnable := false, ringReady := false } }) ∧
    (∀ v : Word, d.ev.ringEnable = true → v.toNat % 4096 ≤ d.ev.ringSize →
      wrote (.evrHead v) { d with ev := { d.ev with ringHead := v.toNat % 4096 } }) ∧
    (∀ (w : Fin 64) (v : BitVec 64), (d.win w).attached = true → (d.win w).rpHeld = 0 → (d.win w).rp ≤ v.toNat % 2 ^ 32 →
      v.toNat % 2 ^ 32 ≤ (d.win w).wp →
      let p := v.toNat % 2 ^ 32
      wrote (.rpLo w false v) (d.setWin w { d.win w with
        rp := p, live := (d.win w).live.filter (fun r => decide (p < r.1 + r.2)) })) ∧
    (∀ (w : Fin 64) (v : BitVec 64), d.power.resetAsk = none → (d.win w).attached = true → (d.win w).rp ≤ v.toNat →
      v.toNat ≤ (d.win w).wp →
      exec (.rpLo w true v) s =
        .next (s.to (d.setWin w { d.win w with
          rpHeld := v.toNat / 2 ^ 32, rp := v.toNat, live := (d.win w).live.filter (fun r => decide (v.toNat < r.1 + r.2)) }))) ∧
    (∀ t : Fin 32, wrote (.timerArm t) (d.arm t)) ∧
    (∀ t : Fin 32, (d.tmr t).running = true → d.endDue d.clk.bus t = false → d.matchDue d.clk.bus t false = false →
      d.matchDue d.clk.bus t true = false →
      wrote (.timerStop t) (d.setTmr t { d.tmr t with running := false, held := some ((d.tmr t).cycles d.clk.bus) })) ∧
    (∀ t : Fin 32, wrote (.timerStop t) (d.stopTimer t)) ∧
    (∀ (n : Fin 16) (v : Word), d.valveEngine n = false → (d.eng n).pull.length < 8 →
      wrote (.pullData n v) (d.setEng n { d.eng n with pull := (d.eng n).pull ++ [v] })) ∧
    (∀ (n : Fin 16) (v : Word), d.valveEngine n = false → 8 ≤ (d.eng n).pull.length →
      wrote (.pullData n v) (d.setEng n { d.eng n with pullOvf := true })) ∧
    (∀ (n : Fin 16) w rest, d.valveEngine n = false → (d.eng n).push = w :: rest →
      exec (.pushData n) s = .next (s.to ((d.setEng n { d.eng n with push := rest }).send (.read w.toNat)))) ∧
    (∀ n : Fin 16, d.valveEngine n = false → (d.eng n).push = [] →
      exec (.pushData n) s = .next (s.to ((d.setEng n { d.eng n with pushUnder := true }).send (.read 0)))) ∧
    (∀ t : Fin 32, (d.tmr t).capNext = none →
      exec (.capLo t false) s =
        .next (s.to ((d.setTmr t { d.tmr t with pairOpen := true, capHi := (d.tmr t).cap / 2 ^ 32 }).send
          (.read ((d.tmr t).cap % 2 ^ 32))))) ∧
    (∀ t : Fin 32, (d.tmr t).capNext = none →
      exec (.capLo t true) s =
        .next (s.to ((d.setTmr t { d.tmr t with pairOpen := false, newCap := false, capHi := (d.tmr t).cap / 2 ^ 32 }).send
          (.read (d.tmr t).cap)))) ∧
    (∀ v : Fin 64,
      wrote (.msixUnmask (some v))
        (({ d with host := { d.host with msixTable := Store.put msixDefault d.host.msixTable (4 * v + 3) 0 } }).sendPending)) ∧
    (d.host.funcReady = true →
      exec (.msixUnmask none) s =
        .next (s.to (({ d with host := { d.host with functionMask := false } }).sendPending)))

/-- R36, R47: accesses of any size: an aligned 32-bit or 64-bit write writes its words, a read answers, and one that is misaligned
or crosses a word raises BAR_ACCESS and does nothing else. -/
def Obligations.AccessesAct : Prop :=
  ∀ (s : State) (bar : Fin 8) (off : BitVec 20) (size : Fin 17) (v : BitVec 64),
    s.dev.memoryOn = true → 0 < size.val → off.toNat + size.val ≤ barSize bar →
    let d := s.dev
    (size.val = 4 → off.toNat % 4 = 0 →
      exec (.barAccess bar off size true v) s = .next (s.to (d.writeReg bar off.toNat (v.toNat % 2 ^ 32))) ∧
      exec (.registerWrite bar off false v) s = .next (s.to (d.writeReg bar off.toNat (v.toNat % 2 ^ 32)))) ∧
    (size.val = 8 → off.toNat % 8 = 0 →
      let t := (d.writeReg bar (off.toNat + 4) (v.toNat / 2 ^ 32)).writeReg bar off.toNat (v.toNat % 2 ^ 32)
      exec (.barAccess bar off size true v) s = .next (s.to t) ∧ exec (.registerWrite bar off true v) s = .next (s.to t)) ∧
    (¬ (size.val = 4 ∧ off.toNat % 4 = 0) → ¬ (size.val = 8 ∧ off.toNat % 8 = 0) →
      exec (.barAccess bar off size true v) s = .next (s.to (d.noteBarAccess bar off.toNat))) ∧
    (off.toNat % 4 + size.val ≤ 4 →
      exec (.barAccess bar off size false v) s =
        .next (s.to ((d.readReg bar (off.toNat - off.toNat % 4)).1.send
          (.read ((d.readReg bar (off.toNat - off.toNat % 4)).2 >>> (8 * (off.toNat % 4)) % 2 ^ (8 * size.val)))))) ∧
    (4 < off.toNat % 4 + size.val → ¬ (size.val = 8 ∧ off.toNat % 8 = 0) →
      exec (.barAccess bar off size false v) s = .next (s.to ((d.noteBarAccess bar off.toNat).send (.read 0))))

/-- R34 to R38, R47: once the function is ready, a write of a configuration field sets it; before, it is answered with Configuration
Request Retry Status. In D3hot only the way back to D0 is taken. The lists of values are those that log 113 presumes. -/
def Obligations.ConfigurationWritesAct : Prop :=
  ∀ (s : State), s.dev.domainReady 17 = true →
    let h := s.dev.host
    let sets := fun (f : ConfigField) (h' : HostLink) => exec (.configurationWrite f) s = .next (s.to { s.dev with host := h' })
    sets .d0 { h with d3hot := false } ∧
    (∀ f : ConfigField, h.funcReady = false → f ≠ .d0 → exec (.configurationWrite f) s = .next (s.to (s.dev.send .retry))) ∧
    (h.funcReady = true →
      (∀ en, sets (.memorySpace en) { h with memSpace := en }) ∧
      (∀ (n : Fin 3) (base : BitVec 64),
        sets (.bar n base) { h with bars := h.bars.set n (base.toNat / barSize (2 * n) * barSize (2 * n)) }) ∧
      (∀ v, sets (.aerCorrectable v) { h with aerCorrectable := h.aerCorrectable &&& ~~~v }) ∧
      (∀ v, sets (.aerUncorrectable v) { h with aerUncorrectable := h.aerUncorrectable &&& ~~~v }) ∧
      (∀ n, n = 128 ∨ n = 256 ∨ n = 512 → sets (.maxPayload n) { h with maxPayload := n }) ∧
      (∀ n, n ∈ [128, 256, 512, 1024, 2048, 4096] → sets (.maxReadRequest n) { h with maxReadRequest := n }) ∧
      (∀ en, sets (.relaxedOrdering en) { h with relaxedOrdering := en }) ∧
      (∀ en, sets (.noSnoop en) { h with noSnoop := en }) ∧
      (∀ en, sets (.extendedTags en) { h with tagsExt := en }) ∧
      (∀ en, sets (.tags10 en) { h with tags10 := en }) ∧
      (∀ us, 50 ≤ us → us ≤ 64000000 → sets (.completionTimeout us) { h with cplTimeoutUs := us }) ∧
      (∀ en mask, exec (.configurationWrite (.msix en mask)) s =
        .next (s.to (({ s.dev with host := { h with msixEnable := en, functionMask := mask } }).sendPending))))

/-- R426, R473, R474, R479, R482: supplies and resets act: COLD_START, VIN_POWER_ON, POWER_FAIL, VSTBY_LOSS, RESET_N (beyond 1 us),
RESET_N_RELEASE, WATCHDOG. -/
def Obligations.SuppliesAndResetsAct : Prop :=
  ∀ (s : State),
    let d := s.dev
    let goes := fun (i : Instr) (t : Dev) => exec i s = .next (s.to t)
    (d.power.vstby = false → goes .coldStart (d.bootInto .coldStart)) ∧
    (d.power.vin = false → d.power.vstby = true →
      goes .vinPowerOn ((d.setPower (fun p => { p with vin := true })).bootInto .vinPowerOn)) ∧
    (d.power.vin = true → d.power.vstby = true →
      let t := ({ (d.setPower (fun p => { p with vin := false, resetAsk := none, bistHold := false })).powerDown with
        st := UState.boot }.count Reg.POWER_FAILS)
      let f := ((t.setPower (fun p => { p with failAt := some d.tb })).markReset 1).takeFree
      goes .powerFail (f.1.logOpen 3 608 (Config.freeValue f.2 % 65536))) ∧
    (d.power.vstby = true →
      let t := ((d.keepAlways (Dev.cold d.baro.flash)).put Reg.DOMAIN_ON 0).put Reg.DOMAIN_READY 0
      goes .vstbyLoss (t.setPower (fun p => { p with vstby := false }))) ∧
    (∀ ns, d.power.resetLow = false → 1000 ≤ ns →
      goes (.resetN ns) ((d.setPower (fun p => { p with resetLow := true })).warmReset .resetN)) ∧
    (d.power.resetLow = true →
      goes .resetNRelease ((d.setPower (fun p => { p with
        resetLow := false, bootAt := if p.starting then d.clk.bus else p.bootAt })).firstDomains)) ∧
    (d.baro.halted = false → d.power.vstby = true → d.outranked 3 = false →
      goes .watchdog (((d.count Reg.WDT_RESETS).setBaro (fun b => { b with
        dogPending := true, dogBoots := if d.power.starting then b.dogBoots + 1 else b.dogBoots })).warmReset .watchdog))

/-- R43, R45 to R47: the host link's happenings act: HOST_LINK_RESET puts configuration space at its defaults, takes the queues,
routes, windows and taps away and, without AUTONOMOUS, leaves ARMED and SORTING for HOLD; FUNCTION_READY lets the function answer and
reports the reset; LINK_RETRAIN reports the link, whose budget BUDGET_MBPS then reads. -/
def Obligations.LinkHappeningsAct : Prop :=
  ∀ (s : State), s.dev.domainOn 17 = true →
    let d := s.dev
    (∀ kind : Fin 5, d.outranked 5 = false →
      let a := { d with host := { d.host with
        linkResets := min 0xFFFF (d.host.linkResets + 1), inReset := true, resetKind := kind } }
      let b := (((a.configDefaults.orphan).dropQueues).clearRoutes.detachAll).disarm
      let t := { b with host := { b.host with d3hot := decide (kind.val = 4) } }
      exec (.hostLinkReset kind) s =
        .next (s.to (if !t.host.autonomous && (t.st == .armed || t.st == .sorting) then t.moveTo .hold 1 else t).resetCheck) ∧
      t.st = d.st ∧ t.host.autonomous = d.host.autonomous ∧ t.memoryOn = false ∧
      (∀ n, (t.sq n).enable = false ∧ (t.cq n).enable = false) ∧ (∀ w, w < 64 → (t.win w).attached = false) ∧
      (∀ n, (t.route n).getLsbD 0 = false ∧ (t.route n).getLsbD 31 = false)) ∧
    (d.domainReady 17 = true → d.host.d3hot = false → d.host.inReset = true →
      let t := { d with host := { d.host with funcReady := true, inReset := false } }
      let u := (t.orBits Reg.LINK_RESET 1).raise { source := 1, data := [(1, d.host.resetKind), (1, d.st.code)] }
      exec .functionReady s = .next (s.to u) ∧ u.host.funcReady = true ∧ u.ev.cause.getLsbD 1 = true ∧ u.still = t.still) ∧
    (d.domainReady 17 = true → d.host.d3hot = false → d.host.inReset = false → d.host.funcReady = false →
      exec .functionReady s = .next (s.to { d with host := { d.host with funcReady := true } })) ∧
    (∀ width (speed : Fin 5), width ∈ [1, 4, 8, 16] → speed.val ≠ 0 →
      let t := { d with host := { d.host with width := width, speed := speed.val } }
      let u := (t.orBits Reg.LINK_RETRAIN 1).raise { source := 2, data := [(1, width), (1, speed.val), (2, budget width speed)] }
      exec (.linkRetrain width speed) s = .next (s.to u) ∧ (u.readReg 0 0x10).2 = budget width speed ∧
        u.ev.cause.getLsbD 2 = true ∧ u.still = t.still)

/-- R434, R447, R475, R478, R485: start-up goes on: BOOT_SELECTION runs the pair that verifies, STARTUP_DONE leaves BOOT,
AUTOSTART takes its steps, AUTOSTART_HOLD_END ends its hold, DOMAIN_READY and DOMAIN_FAULT change domains. -/
def Obligations.StartUpGoesOn : Prop :=
  ∀ (s : State),
    let d := s.dev
    let goes := fun (i : Instr) (t : Dev) => exec i s = .next (s.to t)
    (∀ b q, d.power.starting = true → d.inPulse = false → d.flag Reg.SYSPLL_SETTLED = true → d.baro.booted = false →
      d.baro.inRom = false → d.bootDog.bootBfw = some b → d.bootDog.bootSlot 1 (d.bootDog.namedSlot 1) = some q →
      goes .bootSelection (d.bootDog.bootPair b q)) ∧
    (d.power.starting = true → d.baro.booted = true → d.get Reg.DOMAIN_READY = d.get Reg.DOMAIN_ON → d.therm.tripRec = none →
      d.st = .boot →
      let a := d.enter (if d.get Reg.FAULT_CAUSE ≠ 0 then .fault else if d.get Reg.PAIRING = 1 then .restricted else .idle) 612
      let b := (a.put Reg.STARTUP_MS (sat32 ((a.clk.bus - a.power.bootAt) / 200000))).setPower (fun p => { p with
        starting := false })
      let c := (b.setBaro (fun x => { x with dogBoots := 0 })).raise
        { source := 612, data := [(1, b.get Reg.LAST_RESET), (1, b.st.code)] }
      goes (.startupDone 0) (c.reportPast.autoBegin.resume.deliverAborted).resetCheck) ∧
    (d.get Reg.AS_RESULT = 1 → d.baro.halted = false → d.autoBusy = false → d.get Reg.AS_STEP = 3 →
      d.flag Reg.LSYN_SETTLED = true → goes .autostart (d.autoNext 4)) ∧
    (d.get Reg.AS_RESULT = 1 → d.baro.halted = false → d.get Reg.AS_STEP = 5 →
      d.baro.autoSince + 200000 * d.get Reg.AUTOSTART_HOLD_MS ≤ d.clk.bus →
      (d.flag Reg.AUTOSTART_LIVE = false → goes .autostartHoldEnd (d.put Reg.AS_RESULT 2)) ∧
      (let t := (d.autoNext 6).autoState .sorting
       d.flag Reg.AUTOSTART_LIVE = true →
       (t.2 = none → goes .autostartHoldEnd (t.1.put Reg.AS_RESULT 2)) ∧
       (∀ code, t.2 = some code → goes .autostartHoldEnd (t.1.autoFail code)))) ∧
    (∀ n : Fin 25, 2 < n.val → d.domainOn n = true → d.domainReady n = false →
      (n.val = 4 ∨ n.val = 5 → d.conv.fgMask.testBit n = false) → (n.val = 24 → d.aux.fgCal = false) →
      d.power.onAt[n] + readyTime n ≤ d.clk.bus →
      goes (.domainReady n) (d.putBit Reg.DOMAIN_READY n true).domainWaits) ∧
    (∀ n : Fin 25, n.val ≠ 0 → d.domainOn n = true → n.val ∉ runDomains → n.val ≠ 13 →
      goes (.domainFault n) ((((d.switchOff (1 <<< n.val)).orBits Reg.DOMAIN_FAULT (1 <<< n.val)).raise
        { source := 609, inst := n.val, data := [(1, n.val)] }).domainWaits)) ∧
    (∀ n : Fin 25, d.domainOn n = true → n.val ∈ runDomains →
      goes (.domainFault n) ((((d.switchOff (1 <<< n.val)).orBits Reg.DOMAIN_FAULT (1 <<< n.val)).stopOn
        { source := 609, inst := n.val, data := [(1, n.val)] } 7).closeRun.domainWaits))

/-- R381, R382, R385, R387, R393 to R397: the clocks' happenings act: REF_LOSS, REF_RETURN, SYSPLL_SETTLED, LSYN_SETTLED, LINE_EDGE,
SYNCIN_EDGE, SYNC_MISS, SYNCOUT. -/
def Obligations.ClockHappeningsAct : Prop :=
  ∀ (s : State),
    let d := s.dev
    let goes := fun (i : Instr) (t : Dev) => exec i s = .next (s.to t)
    (d.flag Reg.HOLDOVER = false → d.flag Reg.SYSPLL_SETTLED = true →
      let t := ((d.putFlag Reg.HOLDOVER true).putFlag Reg.REF_PRESENT false).count Reg.REF_LOSSES
      goes .refLoss ((Dev.orBits { t with clk := { t.clk with lostAt := d.clk.bus } } Reg.REF_LOSS 1).stopOn { source := 480 } 3)) ∧
    (d.flag Reg.HOLDOVER = true →
      goes .refReturn ((((((d.putFlag Reg.HOLDOVER false).putFlag Reg.REF_PRESENT true).orBits Reg.REF_RETURN 1).raise
        { source := 481, data := [(8, d.clk.bus - d.clk.lostAt)] }).clearCause 3).reacquire)) ∧
    (d.flag Reg.SYSPLL_SETTLED = false → d.power.starting = true → d.power.vin = true → d.power.vstby = true →
      d.therm.tripLatch = false → d.pllSettled.flag Reg.SYSPLL_SETTLED = true →
      let t := (((d.putFlag Reg.SYSPLL_SETTLED true).putFlag Reg.REF_PRESENT true).orBits Reg.DOMAIN_ON 2).orBits
        Reg.DOMAIN_READY 2
      goes .sysPllSettled (Dev.firstDomains { t with
        tb := 0, half := false, clk := { t.clk with frac := 0, slew := 0, lastE := 0, lastOut := 0 } })) ∧
    (d.flag Reg.LSYN_EN = true → d.domainOn 2 = true → d.flag Reg.LSYN_SETTLED = false → d.clk.settleFrom + 51200 ≤ d.clk.bus →
      d.arr.rerun = none →
      goes .lsynSettled ((d.putFlag Reg.LSYN_SETTLED true).putBit Reg.DOMAIN_READY 2 true).lineEdge) ∧
    (d.flag Reg.LSYN_EN = true → d.flag Reg.LSYN_SETTLED = true → d.clk.ask = none → d.clk.ramp = none → d.clk.pstep = 0 →
      d.arr.running = true → d.arr.stopping = false → d.trigSrc = 0 → goes .lineEdge { d with arr := { d.arr with due := true } }) ∧
    (∀ n : Fin 16, d.get Reg.TB_ROLE ≠ 1 →
      goes (.syncinEdge n) { d with clk := { d.clk with scap := d.tb * 16 + n.val } }) ∧
    (∀ n : Fin 16,
      let log := max 16 d.clk.syncLog
      let t : Int := (d.tb * 16 + n.val : Nat) - signed 16 (d.get Reg.CABLE_COMP)
      let grid : Int := (2 ^ (log + 4) : Nat)
      let expect := (t + grid / 2) / grid * grid
      let e := t - expect
      let seen := ((Dev.count { d with clk := { d.clk with scap := d.tb * 16 + n.val } } Reg.SYNC_PULSES).put Reg.TB_ERROR (unsigned 32 e))
      let kept := { seen with free := seen.free + 1, clk := { seen.clk with
        lastE := (expect / 16).toNat, syncLog := d.get Reg.SYNC_LOG, missRun := 0, acquired := true, slew := -e } }
      s.paramsWf → d.get Reg.TB_ROLE = 1 → (d.clk.acquired = false ∨ e.natAbs ≤ 2 ^ log) →
      (d.runOn = true ∨ e.natAbs ≤ d.get Reg.JUMP_LIMIT * 16) → e.natAbs ≤ d.get Reg.LOCK_TOL → d.clk.lockRun < 7 →
      let u := kept.put Reg.TB_RATE_PPB (Config.freeValue d.free)
      goes (.syncinEdge n) { u with clk := { u.clk with lockRun := d.clk.lockRun + 1 } }) ∧
    (let log := max 16 d.clk.syncLog
     let due := (d.tb - (2 ^ (log - 4) + 1)) / 2 ^ log * 2 ^ log
     d.get Reg.TB_ROLE = 1 → d.clk.lastE < due → d.clk.missRun < 3 →
     goes .syncMiss (((Dev.count { d with clk := { d.clk with
       lastE := due, syncLog := d.get Reg.SYNC_LOG, missRun := d.clk.missRun + 1 } } Reg.SYNC_MISSES).orBits Reg.SYNC_MISS 1).raise
         { source := 485, limited := true })) ∧
    (let log := max 16 d.clk.syncLog
     d.clk.lastOut < d.tb / 2 ^ log * 2 ^ log → d.get Reg.TB_ROLE = 0 → d.flag Reg.SYNCOUT_EN = true →
     goes .syncout (Dev.send { d with clk := { d.clk with
       lastOut := d.tb / 2 ^ log * 2 ^ log, syncLog := d.get Reg.SYNC_LOG } } (.syncout (d.tb / 2 ^ log * 2 ^ log) 16)))

/-- R452, R530: the test access port acts: EXTEST, EXTEST_PULSE, EXTEST_TRAIN (with no run in progress), SAMPLE_PRELOAD, IDCODE,
CLAMP, HIGHZ, BYPASS, DBG_CHALLENGE, DBG_RESPONSE, DBG_ACCESS. What pins hold, the challenge and what the debug register holds are
free values (Config). -/
def Obligations.TestPortActs : Prop :=
  ∀ (s : State), s.dev.power.vstby = true →
    let d := s.dev
    let with' := fun (code : Nat) => d.setJtag (fun j => { j with instruction := code })
    let scanned := fun (code : Nat) (cells : List Bool) =>
      let t := { with' code with free := d.free + cells.length }
      (t.setJtag (fun j => { j with boundary := cells })).send (.tdo (maskOf ((List.range cells.length).filter (fun i =>
        Config.pinLevel (d.free + i)))))
    let goes := fun (i : Instr) (t : Dev) => exec i s = .next (s.to t)
    (d.runOn = false → ∀ cells,
      goes (.extest cells) (scanned 0x00 cells) ∧ goes (.extestPulse cells) (scanned 0x08 cells) ∧
        goes (.extestTrain cells) (scanned 0x09 cells)) ∧
    (d.runOn = true → ∀ cells, goes (.extest cells) (with' 0xFF)) ∧
    (∀ cells, goes (.samplePreload cells) (scanned 0x02 cells)) ∧
    goes .idcode ((with' 0x01).send (.tdo (d.get Reg.STEPPING % 16 * 2 ^ 28 + 0x9416 * 2 ^ 12 + 0x0D3 * 2 + 1))) ∧
    (d.runOn = false → goes .clamp (with' 0x04) ∧ goes .highz (with' 0x05)) ∧
    goes .bypass (with' 0xFF) ∧
    (d.baro.dbg.refusedUntil ≤ d.clk.bus →
      let t := { with' 0x30 with free := d.free + 1 }
      let r := Config.randomValue d.free
      goes .dbgChallenge ((t.setDebug { d.baro.dbg with challenge := some (r, d.clk.bus) }).send
        (.tdo (leNat (d.challengeBytes r))))) ∧
    (∀ sig, d.responseGood sig = true →
      let t := (with' 0x31).setDebug { d.baro.dbg with challenge := none }
      goes (.dbgResponse sig) ((((t.putFlag Reg.DEBUG_OPEN true).logOpen 8 549 0).orBits Reg.DEBUG_UNLOCK 1).raise
        { source := 549 })) ∧
    (∀ sig, d.responseGood sig = false →
      goes (.dbgResponse sig) ((with' 0x31).setDebug ⟨none, d.clk.bus + 200000000⟩)) ∧
    (d.flag Reg.DEBUG_OPEN = false → goes .dbgAccess ((with' 0x32).send (.tdo 0))) ∧
    (d.flag Reg.DEBUG_OPEN = true →
      goes .dbgAccess (Dev.send { with' 0x32 with free := d.free + 1 } (.tdo (Config.freeValue d.free))))

/-- R346, R348, R350, R351, R366 to R375: timers and the auxiliary sequencer go on: TIMER_MATCH, TIMER_DONE, AUX_STEP_START,
AUX_RESULT, AUX_CHECK_CONVERSION, AUX_FOREGROUND_CAL, AUX_BACKGROUND_CAL. -/
def Obligations.TimersAndAuxGoOn : Prop :=
  ∀ (s : State),
    let d := s.dev
    let a := d.aux
    let goes := fun (i : Instr) (t : Dev) => exec i s = .next (s.to t)
    (∀ t : Fin 32, d.matchDue d.clk.bus t false = true →
      goes (.timerMatch t false) ((d.setTmr t { d.tmr t with matchA := true, doneA := true }).timerAct Dev.armChain
        ((d.tmr t).edge (d.tmr t).cmpA) t 0)) ∧
    (∀ t : Fin 32, d.matchDue d.clk.bus t true = true → (d.tmr t).cmpB < (d.tmr t).cmpA →
      goes (.timerMatch t true) ((d.setTmr t { d.tmr t with matchB := true, doneB := true }).timerAct Dev.armChain
        ((d.tmr t).edge (d.tmr t).cmpB) t 1)) ∧
    (∀ t : Fin 32, d.endDue d.clk.bus t = true → d.matchDue d.clk.bus t false = false → d.matchDue d.clk.bus t true = false →
      let x := d.tmr t
      let ended := d.setTmr t { x with running := false, held := some (x.period * 2 ^ x.presc), done := true }
      goes (.timerDone t) (((ended.raise
        { source := 384 + t, inst := t, key := t, data := [(1, t)], limited := true }).pulse (32 + t)).timerAct Dev.armChain
          (x.edge x.period) t 2)) ∧
    (a.running = true → a.phase = .waiting → a.fgCal = false → d.auxOn = true → d.get Reg.STEP_TRIG a.step = 0 →
      goes .auxStepStart (d.setAux (fun x => { x with
        phase := .converting, hit := false
        left := if d.get Reg.STEP_COUNT a.step = 0 then 32 else d.get Reg.STEP_COUNT a.step
        due := d.clk.bus + 200 * d.auxSettle a.step }))) ∧
    (∀ raw : Int, a.running = true → a.phase = .converting → a.due ≤ d.clk.bus → 1 < a.left →
      let ch := d.auxChan
      let code := auxClamp raw
      d.auxFlagsOf a.step ch code false = [] → a.inject.filter (fun p => p.1 == ch) = [] →
      let n := (a.counts[ch % 24]'(Nat.mod_lt _ (by decide)) + 1) % 65536
      let r : AuxResult := ⟨unsigned 32 code, 1 + 2 ^ 7 * b2n (d.flag Reg.STEP_RANGE a.step) + 2 ^ 8 * a.step, n, d.tb⟩
      let t := (d.modResult ch (fun _ => r)).setAux (fun x => { x with
        counts := x.counts.set (ch % 24) n (Nat.mod_lt _ (by decide)), inject := x.inject.filter (fun p => p.1 != ch)
        left := x.left - 1, due := x.due + 200 * odrPeriod (d.get Reg.ODR a.step) })
      goes (.auxResult raw false) (t.count Reg.RESULTS)) ∧
    (∀ raw : Int, a.running = true → a.due ≤ d.clk.bus → a.phase = .openCheck →
      100 * (auxClamp raw - d.auxLast d.auxChan).natAbs < d.get Reg.OPEN_PCT * 8388608 →
      goes (.auxCheckConversion raw) (d.auxChecks true)) ∧
    (∀ raw : Int, a.running = true → a.due ≤ d.clk.bus → a.phase = .openCheck →
      d.get Reg.OPEN_PCT * 8388608 ≤ 100 * (auxClamp raw - d.auxLast d.auxChan).natAbs →
      goes (.auxCheckConversion raw)
        (((d.modResult d.auxChan (fun r => { r with flags := r.flags ||| 4 })).auxFlag d.auxChan 2 0).auxChecks true)) ∧
    (∀ o1 g1 o4 g4 : Int, a.fgCal = true →
      let t := d.setAux (fun x => { x with fgCal := false, calAt := d.clk.bus })
      goes (.auxForegroundCal ⟨o1, g1, o4, g4⟩) ((t.calibrateRange 0 (o1, g1)).calibrateRange 1 (o4, g4)) ∧
      (200 * o1.natAbs ≤ 8388608 → g1.natAbs ≤ 10000 → 200 * o4.natAbs ≤ 8388608 → g4.natAbs ≤ 10000 →
        (t.calibrateRange 0 (o1, g1)).calibrateRange 1 (o4, g4) = t.setAux (fun x => { x with
          offsets := ⟨#[o1 * 65536, o4 * 65536], rfl⟩, gains := ⟨#[g1, g4], rfl⟩ })) ∧
      (8388608 < 200 * o1.natAbs ∨ 10000 < g1.natAbs →
        t.calibrateRange 0 (o1, g1) = (t.setAux (fun x => { x with
          offsets := x.offsets.set 0 (Config.auxCal 0).1, gains := x.gains.set 0 (Config.auxCal 0).2 })).auxCalFail 0)) ∧
    (∀ m1 m4 : Int, d.auxOn = true → a.fgCal = false → a.running = false → a.calNow = true → 200 * m1.natAbs ≤ 8388608 →
      200 * m4.natAbs ≤ 8388608 →
      goes (.auxBackgroundCal m1 m4) (d.setAux (fun x => { x with
        calAt := d.clk.bus, calNow := false
        offsets := ⟨#[auxOffset x.offsets[0] m1, auxOffset x.offsets[1] m4], rfl⟩ })))

/-- R427, R449, R450, R455 to R467: DIODE_SAMPLE filters and judges, HOT_ON takes the actions of WARN and HOT, TRIP_COMMIT and
LOG_COMMIT write the flash, DEBUGGER_HALT halts the Barometer and lets it go on. -/
def Obligations.BarometerGoesOn : Prop :=
  ∀ (s : State),
    let d := s.dev
    let goes := fun (i : Instr) (t : Dev) => exec i s = .next (s.to t)
    (∀ r : Int, d.power.vstby = true → d.therm.sampled = true → -880 ≤ r → r < 1920 →
      goes (.diodeSample (some r))
        ((((((d.filterTemp r).diodeRange true).judgeWindow false).judge).setTherm (fun t => { t with tripRun := 0 })))) ∧
    (d.power.vstby = true → d.therm.sampled = true →
      goes (.diodeSample none) (((d.diodeRange false).judgeWindow false).setTherm (fun t => { t with tripRun := 0 }))) ∧
    (d.baro.halted = false → d.baro.booted = true → d.therm.warnDue = true → d.therm.hotDue = false →
      goes .hotOn (((d.setTherm (fun t => { t with
        warnDue := false, scrubPaused := d.flag Reg.SCRUB_PAUSE && d.flag Reg.WARN })).orBits Reg.WARN_SEEN 1).thermalEvent 576)) ∧
    (s.paramsWf → d.baro.halted = false → d.baro.booted = true → d.therm.warnDue = false → d.therm.hotDue = true →
      d.flag Reg.HOT = true →
      let a := (((d.setTherm (fun t => { t with hotDue := false })).orBits Reg.HOT_SEEN 1).thermalEvent 578).putFlag Reg.THROTTLED true
      let b := if a.bitOf Reg.HOT_ACT 0 then a.leaveGust else a
      let c := if b.bitOf Reg.HOT_ACT 1 then b.capRate else b
      goes .hotOn (c.setTherm (fun t => { t with noChips := c.bitOf Reg.HOT_ACT 2, noTaps := c.bitOf Reg.HOT_ACT 3 }))) ∧
    (d.canCommit = true → d.therm.tripRec = none → goes .tripCommit d.commitLog.writeReservation) ∧
    (∀ e, d.canCommit = true → d.therm.tripRec = some e → d.st = .tripped →
      let a := (d.setBaro (fun b => { b with flash := { b.flash with
        log := trimLog (logInsert e b.flash.log)
        trips := b.flash.trips + (if e.flags.testBit 0 then 0 else 1) } })).setTherm (fun t => { t with tripRec := none })
      let b := (a.putFlag Reg.TRIP_PENDING false).logOpen 7 581 4
      goes .tripCommit ((b.setTherm (fun t => { t with commitSeen := true })).commitLog).writeReservation) ∧
    (d.canCommit = true → 16 ≤ d.baro.logHeld.length → d.therm.tripRec = none → goes .logCommit d.commitLog) ∧
    (d.baro.halted = false → d.flag Reg.DEBUG_OPEN = true →
      goes (.debuggerHalt true) ((d.setBaro (fun b => { b with halted := true })).freezeAll).resetCheck) ∧
    (d.baro.halted = true →
      let t := (d.setBaro (fun b => { b with halted := false })).freezeAll
      goes (.debuggerHalt false)
        ((t.chan.late.foldl (fun x p => x.finish p.1 p.2) (t.setChan (fun c => { c with late := [] }))).resume).resetCheck)

/-- R96, R97, R99, R100, R105, R130, R334, R352: encoder edges, line triggers, frame marks and calibrations act: ENC_EDGE, ENC_Z,
LINE_TRIGGER, HELD_TRIGGER_ACCEPT, FRAME_IN, TRIG_STALL, FG_CAL. -/
def Obligations.LinesAreTriggered : Prop :=
  ∀ (s : State),
    let d := s.dev
    let goes := fun (i : Instr) (t : Dev) => exec i s = .next (s.to t)
    (∀ a b, ¬ (a = d.arr.encA ∧ b = d.arr.encB) →
      let pos := d.arr.encPos + quadStep (d.flag Reg.ENC_DIR) d.arr.encA d.arr.encB a b
      let div : Int := max 1 (d.get Reg.ENC_DIV)
      let moved := { d with arr := { d.arr with encA := a, encB := b, encPos := pos } }
      (¬ (d.arr.running = true ∧ d.arr.stopping = false ∧ d.trigSrc = 1 ∧ d.arr.encBase + div ≤ pos) → goes (.encEdge a b) (moved.timerEvent 4 0)) ∧
      (d.arr.running = true → d.arr.stopping = false → d.trigSrc = 1 → d.arr.encBase + div ≤ pos →
        goes (.encEdge a b) (Dev.timerEvent { moved with arr := { moved.arr with
          due := true, encBase := d.arr.encBase + div } } 4 0))) ∧
    (d.flag Reg.ENC_ZRST = true → goes .encZ (Dev.timerEvent { d with arr := { d.arr with encBase := d.arr.encPos } } 5 0)) ∧
    (d.flag Reg.ENC_ZRST = false → goes .encZ (d.timerEvent 5 0)) ∧
    (∀ cals, d.half = false → d.arr.running = true → d.arr.stopping = false → d.arr.begun = true → d.trigSrc ≠ 2 → d.arr.due = true →
      let num := lineAdd ((d.arr.lines.head?.map (·.num)).getD 0) 1
      let taken := { d with arr := { d.arr with due := false } }
      (d.arr.held = none → d.mayAccept = true → goes (.lineTrigger cals) ((taken.acceptLine num cals).afterTrigger d)) ∧
      (d.arr.held = none → d.mayAccept = false →
        goes (.lineTrigger cals) { d with arr := { d.arr with due := false, held := some num } }) ∧
      (d.arr.held ≠ none →
        goes (.lineTrigger cals)
          (((taken.count Reg.TRIG_OVERRUNS).raise { source := 64, limited := true }).afterTrigger d))) ∧
    (∀ cals, d.half = false → d.arr.running = true → d.arr.stopping = false → d.arr.begun = true → d.trigSrc = 2 →
      let t := d.syncTrigger d.arr.syncNext
      t ≤ d.tb → d.arr.held = none → d.mayAccept = true →
      goes (.lineTrigger cals) ((Dev.acceptLine { d with arr := { d.arr with syncNext := t + 1 } } (d.syncLine t) cals).afterTrigger d)) ∧
    (∀ cals n, d.half = false → d.arr.running = true → d.arr.held = some n → d.mayAccept = true →
      goes (.heldTriggerAccept cals) ((Dev.acceptLine { d with arr := { d.arr with held := none } } n cals).afterTrigger d)) ∧
    (∀ level, d.arr.frameIn ≠ level → level ≠ d.flag Reg.FRAME_IN_EDGE → d.get Reg.FRAME_SRC = 1 → d.arr.running = true →
      d.arr.begun = true → 64 ≤ d.arr.frameOff →
      goes (.frameIn level)
        ((Dev.pulse { d with arr := { d.arr with frameIn := level, mark := true } } 3).timerEvent 6 0)) ∧
    (∀ level, d.arr.frameIn ≠ level → level = d.flag Reg.FRAME_IN_EDGE →
      goes (.frameIn level) { d with arr := { d.arr with frameIn := level } }) ∧
    (d.arr.running = true → d.arr.stopping = false → d.arr.stalled = false → d.trigSrc ≠ 0 → d.get Reg.LINE_TIMEOUT ≠ 0 →
      d.arr.waitSince + d.get Reg.LINE_TIMEOUT * 200000 ≤ d.clk.bus →
      goes .trigStall ((Dev.orBits { d with arr := { d.arr with stalled := true } } Reg.TRIG_STALL 1).raise
        { source := 65, limited := true })) ∧
    (∀ cals, d.conv.fgMask ≠ 0 →
      let gs := groupsOfMask d.conv.fgMask
      let a := gs.foldl (fun x g => Dev.groupCalibrated x cals g)
        { d with conv := { d.conv with bad := d.conv.bad.filter (fun g => !gs.contains g) } }
      let b := Dev.putFlag { a with conv := { a.conv with fgMask := 0 } } Reg.CONV_FG_CAL false
      (b.conv.bad = [] → goes (.fgCal cals) (b.clearCause 0)) ∧
      (∀ g rest, b.conv.bad = g :: rest →
        goes (.fgCal cals) (b.stopOn { source := 74, inst := if g < 256 then g else 0xFF, limited := true } 0)))

/-- R119, R124, R168, R176: HEAD0_LINE_DELIVERY: the oldest line whose conversions have ended reaches ingest, in DUAL with the long
codes beside the short ones. -/
def Obligations.Head0Delivers : Prop :=
  ∀ (s : State) (charges : List (List Int)) (trips : List (Nat × Nat)) (info : LineInfo),
    let d := s.dev
    d.ingestOn = true → d.nextHead0 = some info →
    let dual := decide (d.runMode % 4 = 1)
    let c := d.confAt info.num
    let near := rowTrips c info.windows charges trips
    let rows := d.rowsOf c info.windows charges near
    let gone := (d.declareUpTo 0 info.num).glints near.length
    let first := (gone.headS 0).hist.isEmpty
    let dark := rows.foldl (fun a p => a.darkStep c p.1.row (if dual && !p.1.long then 4 + p.1.row else p.1.row) first
      (a.darkCodes p.2)) gone
    let mask := dark.slotsOf 0
    let active := fun (p : Window × List (Nat × Bool)) => (p.2.drop 64).take 16384
    let shorts := columnsOf 16384 ((rows.filter (fun p => !p.1.long)).map active)
    let longs := columnsOf 16384 ((rows.filter (fun p => p.1.long)).map active)
    let raws := List.zipWith (fun (a b : List (Nat × Bool)) =>
      if dual then List.zipWith (fun x y => (⟨x.1, x.2, false, y.1, y.2⟩ : Raw)) a b
      else a.map (fun x => (⟨x.1, x.2, false, 0, false⟩ : Raw))) shorts longs
    let cols := (raws.zip (List.range 16384)).map (fun p => if dark.converted c p.2 then some p.1 else none)
    let codes := (List.zipWith (fun (a b : List (Nat × Bool)) => (a ++ b).map (·.1)) shorts longs).zip (List.range 16384)
      |>.filter (fun p => dark.converted c p.2)
    let words := virtualSegment (info.offset == 0) mask info.num info.gen dual ((codes.head?.map (·.2)).getD 0) (codes.map (·.1))
    let taken := dark.setHeadS 0 { dark.headS 0 with last := some info.num }
    let done := taken.handleLine 0 ⟨info.num, info.gen, mask, dual, cols⟩
      ⟨info.num, crc32c (groupBytes (words.take 2 ++ words.drop 3)), false, false⟩ words
      ((List.range 4).map (dualRatio info.windows)) info
    exec (.head0LineDelivery charges trips) s =
      .next (s.to ((done.setStats 0 (fun x => { x with dark := (rows.filter (fun p => !dual || p.1.long)).foldl (fun (acc : List (Nat × Nat)) p =>
        let dc := (done.darkCodes p.2).map (·.1)
        acc.modify p.1.row (fun q => (q.1 + dc.foldl (· + ·) 0, q.2 + dc.length))) x.dark })).headMoved 0))

/-- R140, R141, R143, R151, R152, R154, R159, R161, R164: the lanes' happenings act, where their domain is on: MARKER, LOS, WANDER,
CLOCK_RECOVERY_LOCK, PHASE_DETECTOR_RANGE, PRBS_BIT_ERROR. -/
def Obligations.LanesAct : Prop :=
  ∀ (s : State) (n : Fin 24), s.dev.lanesOn (n.val / 4) = true →
    let d := s.dev
    let x := d.rxLane n
    let g := n.val / 4
    let y := d.laneGroup g
    let goes := fun (i : Instr) (t : Dev) => exec i s = .next (s.to t)
    let skewed := fun (t : Dev) => t.put Reg.SKEW (min 2047 (t.laneSkew g)) g
    (∀ (w : BitVec 64) at' inv lane gid seq,
      readMarker (if d.boardInverts g (n.val % 4) then 2 ^ 64 - 1 - w.toNat % 2 ^ 64 else w.toNat) = some (inv, lane, gid, seq) →
      let e := d.put Reg.RX_GID gid g
      let z := { x with seq := some seq, arrived := at', bad := 0 }
      (x.aligned = true → x.seq = some ((seq + 65535) % 65536) → y.recovering = none →
        let t := e.setRxLane n z
        goes (.marker n (some w) at') (skewed (if t.flag Reg.GROUP_UP g = true ∨ y.fault = true then t else t.tryGroupUp g))) ∧
      (x.aligned = false → x.locked = true → y.pattern = 0 → (y.trained = true ∨ y.training ≠ none) →
        (x.good = 0 ∨ x.seq ≠ some ((seq + 65535) % 65536) →
          goes (.marker n (some w) at') (skewed (e.setRxLane n { z with good := 1, logical := lane, gid := gid, inverted := inv }))) ∧
        (x.good ≠ 0 → x.seq = some ((seq + 65535) % 65536) →
          let t := ((e.setRxLane n { z with
            good := 0, aligned := true, suspect := false, noLock := false, logical := lane, gid := gid, inverted := inv }).putBit
              Reg.LOL (n.val % 4) false g).noteLanes g
          goes (.marker n (some w) at') (skewed (if t.flag Reg.GROUP_UP g then t.rejoin g n else t.tryGroupUp g))))) ∧
    (∀ at', x.aligned = false → goes (.marker n none at') (d.setRxLane n { x with good := 0, seq := none })) ∧
    (∀ at', x.aligned = true → y.recovering = none →
      let t := (d.setRxLane n { x with seq := some ((x.seq.getD 0 + 1) % 2 ^ 16), bad := x.bad + 1 }).count Reg.MARKER_ERRS 1 g
      (x.bad < 2 → goes (.marker n none at') t) ∧ (2 ≤ x.bad → goes (.marker n none at') (t.lol n))) ∧
    (x.noSignal = false →
      goes (.los ⟨n, false⟩) (((((d.setRxLane n { x with noSignal := true }).putBit Reg.LOS (n % 4) true g).gflag g 0).raise
        { source := 96 + 5 * g, inst := g }).laneOut n) ∧
      (d.flag Reg.GROUP_UP g = true → y.parity = true → x.aligned = true → goes (.los ⟨n, true⟩) (d.laneOut n))) ∧
    (∀ ppm, y.wanderPpm < ppm → goes (.wander ⟨n, ppm⟩) ((d.gflag g 2).raise { source := 98 + 5 * g, inst := g })) ∧
    goes (.clockRecoveryLock n)
      ((d.setRxLane n { x with locked := true, noSignal := false, good := 0, seq := none }).putBit Reg.LOS (n % 4) false g) ∧
    (x.noLock = false →
      goes (.phaseDetectorRange n) (((((d.setRxLane n { x with noLock := true }).putBit Reg.LOL (n % 4) true g).gflag g 1).raise
        { source := 97 + 5 * g, inst := g }).laneOut n)) ∧
    (∀ bits, y.pattern ≠ 0 → y.patternUse.testBit 1 = true → y.patternLanes.testBit (n % 4) = true →
      let f := match n.val % 4 with | 0 => Reg.PRBS_ERRS0 | 1 => Reg.PRBS_ERRS1 | 2 => Reg.PRBS_ERRS2 | _ => Reg.PRBS_ERRS3
      goes (.prbsBitError ⟨n, bits⟩) (bits.foldl (fun a b =>
        let c := (a.rxLane n).checker.take y.pattern b
        let t := a.setRxLane n { a.rxLane n with checker := c.1 }
        if c.2 = false then t
        else if (t.laneGroup g).patternRaised then t.count f 1 g
        else (((t.count f 1 g).setLaneGroup g { t.laneGroup g with patternRaised := true }).gflag g 6).raise
          { source := 134 + g, inst := g }) d))

/-- R135 to R149, R157, R166, R170: the bits of a group's lanes act: LINE_SEGMENT gives its line to ingest, CONTROL greets or
stores a message; MISSING_LINE declares a line missing. The words are those that the lanes' bits spell, unscrambled and put together
again, from a place on that the row gives (log 103). -/
def Obligations.PacketsAct : Prop :=
  ∀ (s : State),
    let d := s.dev
    let goes := fun (i : Instr) (t : Dev) => exec i s = .next (s.to t)
    (∀ (g : Fin 6) pos first (rest : List (Vector (List Bool) 4)) len, d.flag Reg.GROUP_UP g = true →
      let r := d.receiveWords g pos ((first :: rest).map Vector.toList)
      let found := scan (r.2.1.length + 1) 0 (r.1.laneGroup g).hunting r.2.1
      let u := r.1.setLaneGroup g { r.1.laneGroup g with hunting := found.2 }
      found.1 = [.packet 0 len] →
      let w := r.2.1.take len
      let inj := r.2.2.any (fun k => decide (k < len))
      let h := (segHead w).head
      (hfield w 0 63 56 ≠ 0xC3 → (u.laneGroup g).peer = false → (u.groupHeads g).contains h = true → u.ingestOn = true →
        (bodyGood w = true → goes (.lineSegment g pos first rest) ((u.placeSegment w inj).headMoved h)) ∧
        (bodyGood w = false →
          goes (.lineSegment g pos first rest)
            (((u.headEvent 160 h Reg.SEG_CRC (some Reg.SEG_CRC_FAILS) inj).noteLost h inj).headMoved h))) ∧
      (hfield w 0 63 56 = 0xC3 → bodyGood w = true →
        let head := hfield w 0 55 52
        let msg := hfield w 0 47 40
        let payload := w.drop 3
        (msg = 0x81 → (u.laneGroup g).peer = false →
          goes (.control g pos first rest) (u.hello g head (payload[0]?.getD 0))) ∧
        (0xC0 ≤ msg → (u.laneGroup g).peer = false → (u.groupHeads g).contains head = true →
          goes (.control g pos first rest) (u.mailIn g head ⟨head, msg, hfield w 0 15 0, payload⟩)))) ∧
    (∀ (g : Fin 6) pos first rest, exec (.lineSegment g pos first rest) s = exec (.control g pos first rest) s) ∧
    (∀ (h : Fin 12) last t, d.ingestOn = true → d.expects h = true → h.val ≠ 0 → (d.headS h).last = some last →
      d.deadline (lineAdd last 1) = some t → t < d.tb →
      goes (.missingLine h)
        (((d.headEvent 161 h Reg.MISSING_LINE (some Reg.MISSING_LINES) (d.headS h).injLost).take h (lineAdd last 1) none
          false).headMoved h))

/-- R237, R274, R277, R281, R293, R299: faces, evaluations, verdicts and valve frames go on: FACE_ASSEMBLY, EVALUATION_START,
CLASS_OVERLOAD, VERDICT, PROVISIONAL_RESULT, VALVE_FRAME, RETRACTION_RECORD. -/
def Obligations.ObjectsGoOn : Prop :=
  ∀ (s : State),
    let d := s.dev
    let goes := fun (i : Instr) (t : Dev) => exec i s = .next (s.to t)
    (∀ (f : Fin 2) info, d.nextFaceLine f = some info → d.faceReady f info = true →
      let a := d.stormCheck.assemble f info
      let c := a.1.confAt a.2.num
      let idx := a.2.cols.map (fun p => c.indices f p.vals)
      let cls := List.zipWith (fun p i => c.classOf f p i) a.2.cols idx
      let b := (a.1.tapFace f a.2 cls).toLineRing f a.2
      (info.tracked = false → goes (.faceAssembly ⟨f, []⟩) b.drainCheck.flushCheck) ∧
      (info.tracked = true → goes (.faceAssembly ⟨f, []⟩) (b.label f a.2 cls idx).drainCheck.flushCheck)) ∧
    (∀ (f : Fin 2) errs, exec (.faceAssembly ⟨f, errs⟩) s = exec (.faceAssembly ⟨f, []⟩) (s.to (d.pathErrors errs))) ∧
    (∀ x, d.cls.evals.find? (fun y => !y.running && y.verdict && !y.late d.cycle) = some x →
      goes .evaluationStart (d.setCls (fun c => { c with
        evals := c.evals.map (fun y => if y.seq = x.seq ∧ y.verdict = x.verdict ∧ y.line = x.line then { y with running := true } else y) }))) ∧
    (∀ x, d.cls.evals.find? (fun y => y.verdict && !y.running && y.late d.cycle) = some x →
      goes .classOverload ((d.dropEval x).overload x.seq).verdicts) ∧
    (∀ x, d.cls.evals.find? (fun y => y.running && y.verdict) = some x →
      let r := (d.confOf x.gen).evaluate x.words
      goes .verdict (((d.dropEval x).noteErrors x.seq x.inj r.2).setResult x.seq ⟨r.1, false, !r.2.isEmpty⟩).verdicts) ∧
    (∀ x, d.cls.evals.find? (fun y => y.running && !y.verdict) = some x →
      let c := d.confOf x.gen
      let r := c.evaluate x.words
      let b := (d.dropEval x).noteErrors x.seq x.inj r.2
      let v := judge r.1
      let rule := c.rule v.1
      (d.obj? x.seq = none → goes .provisionalResult b) ∧
      (∀ o, d.obj? x.seq = some o →
        (o.forecast ≠ none ∨ rule.testBit 8 = false ∨ v.2 < rule / 2 ^ 16 % 256 → goes .provisionalResult b) ∧
        (o.forecast = none → rule.testBit 8 = true → rule / 2 ^ 16 % 256 ≤ v.2 →
          let met := rule.testBit 9 && shoots (rule % 8) && decide (rule / 2 ^ 24 ≤ v.2)
          let p := if met then b.fireForecast ⟨x.seq, x.face, x.gen, x.line, x.words, [], x.inj⟩ else (b, false, false)
          let t := p.1.modObj x.seq (fun o => { o with
            forecast := some ⟨x.seq, x.face, v.1, v.2, x.line, x.gen, fw x.words 1, shoots (rule % 8), met, p.2.1, p.2.2, x.inj⟩ })
          let dry := p.2.1 && t.dryNow ((t.forecastWins [x.seq]).map (·.fOpen))
          goes .provisionalResult (t.forecastOut ⟨0, 1 + 2 * b2n p.2.1 + 4 * b2n dry + 8 * b2n x.inj + 16 * b2n p.2.2, v.1, v.2, 0, 0,
            t.objectId x.seq, 0, x.line, t.timeOf x.line, x.gen, o.firstLine, (o.acc.colMin, o.acc.colMax), o.height⟩)))) ∧
    (d.half = false → d.ejectOn = true → d.eject.frame ≠ some d.frameNow →
      let k := d.frameNow
      let a := d.compose k
      let vs := (List.range 16).filter a.valveEngine
      let b := ((List.range 16).filter (fun e => !vs.contains e)).foldl (fun x e => x.setEng e { x.eng e with sent := 0 }) a
      let l := b.linkChecks k vs
      l.2 = [] → vs.filter (fun e => (l.1.eng e).late) = [] →
      goes .valveFrame ((vs.foldl (fun x e => x.placeFrame k e) l.1).pulse 2 |>.syncOn 1)) ∧
    (∀ r, d.cls.retractions.find? (fun y => d.latched y.frame) = some r →
      goes .retractionRecord ((d.setCls (fun c => { c with retractions := c.retractions.erase r })).objRecord r.bytes))

/-- R44, R407, R413, R415, R420: the archive goes on: RECORD_PUBLISH, TOKEN_BUCKET_REFILL, SNAPSHOT, CHIP_STAGING,
BACKGROUND_SCRUB. -/
def Obligations.ArchiveGoesOn : Prop :=
  ∀ (s : State),
    let d := s.dev
    let goes := fun (i : Instr) (t : Dev) => exec i s = .next (s.to t)
    (∀ (w : Fin 64) now rest, d.winOpen w = true → nextPlaced (d.win w).placed = some (now, rest) →
      let x := d.win w
      let wp := x.wp + (now.map (·.len)).foldl (· + ·) 0
      let relaxed := d.host.relaxedOrdering
      let snoop := d.host.noSnoop && x.noSnoop && !x.peer
      let sent := now.foldl (fun a p => (writePieces d.host.maxPayload p.bytes.length (x.base + p.start % x.size) p.bytes).foldl
        (fun a t => a.send (.write w t.1 t.2 relaxed snoop)) a) d
      goes (.recordPublish ⟨w, []⟩) ((sent.setWin w { x with
        wp := wp, placed := rest, live := x.live ++ now.map (fun p => (p.start, p.len))
        records := sat32 (x.records + 1) }).send (.wp w wp))) ∧
    (∀ (w : Fin 64) errs, exec (.recordPublish ⟨w, errs⟩) s = exec (.recordPublish ⟨w, []⟩) (s.to (d.recordErrors w errs))) ∧
    (let b := budget d.host.width d.host.speed
     let ts := refillBuckets d.host.tokens.toList [1000, 250, 500, b, b] b
     let t := { d with host := { d.host with tokens := Vector.ofFn (fun i : Fin 5 => (ts[i.val]?).getD 0) } }
     goes .tokenBucketRefill ((((t.drainQueue d.arch.queue.length).drainAll .forecast).drainAll .view).drainAll .tap)) ∧
    (∀ r rest, d.arch.snaps = r :: rest →
      let t := { d with arch := { d.arch with snaps := rest } }
      (d.flag Reg.SNAP_EN = false → goes .snapshot t) ∧
      (d.flag Reg.SNAP_EN = true → goes .snapshot (t.archive .snap (d.get Reg.SNAP_WINDOW) (t.snapRecord r)))) ∧
    (∀ x v, d.cls.held.find? (fun y => y.chip && d.chipDue y) = some x → (d.heldDigest x).2 = some v →
      let a := ((d.heldDigest x).1.dropHeld x).chip x v
      let w := a.1.get Reg.CHIP_WINDOW
      let u := a.1.objRecord (x.bytes v 1)
      let gone := ((a.1.objRecord (x.bytes v 2)).chipUnavailable x.seq x.inj).releaseRecords
      (a.2 = none → goes .chipStaging gone) ∧
      (∀ bytes, a.2 = some bytes → a.1.flag Reg.CHIP_EN = true → a.1.winOpen w = true → a.1.therm.noChips = false →
        (a.1.affords .chip bytes.length = false → goes .chipStaging gone.lostBudget) ∧
        (a.1.affords .chip bytes.length = true → (u.stream .chip w bytes).2 = false → goes .chipStaging gone) ∧
        (a.1.affords .chip bytes.length = true → (u.stream .chip w bytes).2 = true →
          goes .chipStaging ((u.stream .chip w bytes).1.count Reg.CHIPS_WRITTEN).releaseRecords))) ∧
    (∀ p, d.domainReady 15 = true → d.domainReady 16 = true → d.therm.scrubPaused = false →
      goes (.backgroundScrub p none) (d.put Reg.SCRUB_PASS (min p 99)) ∧
      (∀ a : BitVec 32,
        goes (.backgroundScrub p (some (true, a)))
          ((((d.put Reg.SCRUB_PASS (min p 99)).count Reg.LS_CES).orBits Reg.LS_CE 1).raise
            { source := 519, data := [(4, a.toNat)], limited := true }) ∧
        goes (.backgroundScrub p (some (false, a)))
          (((((d.put Reg.SCRUB_PASS (min p 99)).count Reg.LS_UES).orBits Reg.LS_UE 1).put Reg.LS_UE_ADDR a.toNat).raise
            { source := 520, data := [(4, a.toNat)], limited := true })))

/-- R327, R328, R333: an engine that stands at an instruction carries it out as its tick ends: OUT, IN, PULL, PUSH, SET, JMP,
DELAY. From the start of the tick OUT and SET drive their pins; while an OUT or IN is in the first half of a tick, and then only, the
CLOCK pin is low. -/
def Obligations.EngineInstructionsAct : Prop :=
  ∀ (s : State) (n : Fin 16),
    let d := s.dev
    let x := d.eng n
    let i := d.instr n x.pc
    let goes := fun (c : Instr) (t : Dev) => exec c s = .next (s.to t)
    let data := ((List.range (d.rolePins n 2).length).zip (d.rolePins n 2)).foldl (fun y p =>
      y.setPin p.2 ((shiftBits (d.flag Reg.SHIFT_DIR n) (d.outWidth n) x.reg 0).1.testBit p.1)) x
    let control := ((List.range (d.rolePins n 3).length).zip (d.rolePins n 3)).foldl (fun y p =>
      if i.testBit (4 + p.1) then y.setPin p.2 (i.testBit p.1) else y) x
    (∀ w, d.role n w = 1 → x.outs.getLsbD w = true →
      let m := (x.pos + x.div) / 4096 - x.pos / 4096
      (d.windowLevel n w = false ↔
        x.running = true ∧ instrOp i ≤ 1 ∧ x.pos / 4096 ≤ d.clk.bus ∧ d.clk.bus < x.pos / 4096 + m / 2)) ∧
    (d.ejectOn = true → x.running = true → x.pos / 4096 ≤ d.clk.bus → d.tickOver x = false →
      (∀ cap, instrOp i = 0 → goes (.engOut n cap) (d.setEng n data)) ∧
      (instrOp i = 4 → goes (.engSet n) (d.setEng n control))) ∧
    (d.ejectOn = true → d.tickOver x = true →
      (∀ cap, instrOp i = 0 →
        let w := d.outWidth n
        let xin := i.testBit 5
        let z := { data with
          reg := (shiftBits (d.flag Reg.SHIFT_DIR n) w x.reg (if xin then cap else 0)).2
          inCount := if xin then min 32 (x.inCount + w) else x.inCount }
        (x.bitCount + w < bitsCount i →
          goes (.engOut n cap) (d.setEng n { z with pos := x.pos + x.div, div := d.get Reg.DIV n, bitCount := x.bitCount + w })) ∧
        (bitsCount i ≤ x.bitCount + w → goes (.engOut n cap) (d.stepOn n { z with bitCount := 0 }))) ∧
      (∀ cap, instrOp i = 1 →
        let w := d.inWidth n
        let z := { x with
          reg := (shiftBits (d.flag Reg.SHIFT_DIR n) w x.reg cap).2, inCount := min 32 (x.inCount + w) }
        (x.bitCount + w < bitsCount i →
          goes (.engIn n cap) (d.setEng n { z with pos := x.pos + x.div, div := d.get Reg.DIV n, bitCount := x.bitCount + w })) ∧
        (bitsCount i ≤ x.bitCount + w → goes (.engIn n cap) (d.stepOn n { z with bitCount := 0 }))) ∧
      (∀ w rest, instrOp i = 2 → x.pull = w :: rest →
        goes (.engPull n) (d.flow n (d.nextTick n (d.ticksOver x) ({ x with reg := w, inCount := 0, pull := rest }).refill))) ∧
      (instrOp i = 2 → x.pull = [] → goes (.engPull n) (d.setEng n (d.nextTick n (d.ticksOver x) { x with stall := 2 }))) ∧
      (instrOp i = 3 → x.push.length < 8 →
        goes (.engPush n) (d.flow n (d.nextTick n (d.ticksOver x) { x with
          push := x.push ++ [pushWord (d.flag Reg.SHIFT_DIR n) x.inCount x.reg], reg := 0, inCount := 0 }))) ∧
      (instrOp i = 3 → 8 ≤ x.push.length → goes (.engPush n) (d.setEng n (d.nextTick n (d.ticksOver x) { x with stall := 3 }))) ∧
      (instrOp i = 4 →
        goes (.engSet n) (d.stepOn n control)) ∧
      (∀ level, instrOp i = 7 →
        let go := (i / 64 % 8 = 0) ∨ (i / 64 % 8 = 1 ∧ x.flag = true) ∨ (i / 64 % 8 = 2 ∧ x.flag = false) ∨
          (i / 64 % 8 = 3 ∧ x.pull ≠ []) ∨ (i / 64 % 8 = 4 ∧ x.push.length < 8) ∨ (i / 64 % 8 = 5 ∧ level = true) ∨
          (6 ≤ i / 64 % 8 ∧ level = false)
        (go → goes (.engJmp n level) (d.setEng n (d.arrive n { x with
          pos := x.pos + x.div, div := d.get Reg.DIV n, pc := i % 64 }))) ∧
        (¬ go → goes (.engJmp n level) (d.stepOn n x))) ∧
      (instrOp i = 8 →
        let k := min x.delay (if x.div = d.get Reg.DIV n then d.ticksOver x else 1)
        (k < x.delay → goes (.engDelay n) (d.setEng n (d.nextTick n k { x with delay := x.delay - k }))) ∧
        (x.delay ≤ k → goes (.engDelay n) (d.flow n (d.nextTick n k x)))))

/-- R331, R333, R334, R336: engines compare, signal, wait and meet: CMP, EVENT, WAIT, WAIT_RELEASE, SYNC, SYNC_RELEASE; PIN_SHORT
releases a pin. -/
def Obligations.EnginesMeet : Prop :=
  ∀ (s : State) (n : Fin 16),
    let d := s.dev
    let x := d.eng n
    let i := d.instr n x.pc
    let goes := fun (c : Instr) (t : Dev) => exec c s = .next (s.to t)
    d.ejectOn = true →
    (d.tickOver x = true → instrOp i = 6 →
      let cmp := d.get Reg.CMPVAL n
      let hit := if i.testBit 2 then cmp.testBit (16 * (i / 8 % 2) + x.reg.toNat % 16)
        else (x.reg.toNat ^^^ cmp) &&& d.get Reg.CMP_MASK n == 0
      (i % 4 = 0 → goes (.engCmp n) (d.stepOn n { x with flag := hit })) ∧
      (i % 4 = 1 → goes (.engCmp n) (d.stepOn n { x with flag := !hit })) ∧
      (i % 4 = 2 → hit = false → goes (.engCmp n) (d.stepOn n x)) ∧
      (i % 4 = 2 → hit = true → goes (.engCmp n) (((d.stepOn n x).engineEvent n).timerEvent 3 n)) ∧
      (i % 4 = 3 → hit = true → goes (.engCmp n) (d.stepOn n x)) ∧
      (i % 4 = 3 → hit = false → goes (.engCmp n) (((d.stepOn n x).engineEvent n).timerEvent 3 n))) ∧
    (d.tickOver x = true → instrOp i = 9 → goes (.engEvent n) (((d.stepOn n x).engineEvent n).timerEvent 3 n)) ∧
    (∀ k level, x.running = true → x.wait = some k →
      let met := match i / 1024 % 4 with
        | 0 => level == i.testBit 9
        | 1 => k.prev == some false && level
        | 2 => k.prev == some true && !level
        | _ => k.hit
      let t := if met then d.flow n (d.nextTick n (d.ticksTo x) x) else d.setEng n { x with wait := some { k with prev := some level } }
      goes (.engWaitRelease n level) t ∧ (k.prev = none → goes (.engWait n level) t)) ∧
    (∀ g, x.running = true → x.sync = true → d.get Reg.SYNC_SRC n = 0 → d.get Reg.SYNC_GROUP n = g → 1 ≤ g →
      (∀ e, e < 16 → (d.eng e).running = true → d.get Reg.SYNC_GROUP e = g → (d.eng e).sync = true) →
      let all := (List.range 16).filter (fun e => (d.eng e).running && d.get Reg.SYNC_GROUP e == g && d.get Reg.SYNC_SRC e == 0)
      goes (.engSync n) (all.foldl (fun a e => a.flow e (a.clearTicks e (a.eng e))) d) ∧
      (∀ h : Fin 4, d.half = false → h.val = g → goes (.syncRelease h) (all.foldl (fun a e => a.flow e (a.clearTicks e (a.eng e))) d))) ∧
    (∀ (p : Fin 64) e, d.pinLevel p ≠ none → d.driver p = some e →
      let t := { d with engine := { d.engine with released := d.engine.released ||| BitVec.ofNat 64 (1 <<< p.val) } }
      let u := (t.setShort p true).raise { source := 368 + e, inst := e, data := [(1, p)] }
      goes (.pinShort p) (if d.valveEngine e then u.valveStall e else u))

/-- A step takes the command at the front of the queue: it is what exec answers on the rest. -/
def Obligations.StepRunsTheFrontCommand : Prop :=
  ∀ (c : Instr) (rest : List Instr) (s : State), s.pending = c :: rest → step s = exec c { s with pending := rest }

/-- R534: with no command waiting a step lets one CTLCLK cycle pass, and nothing at all where VSTBY is off; after the second cycle of
a BUSCLK period the BUSCLK cycles are one more, and the timebase one count more unless it is slewed. The premise says that nothing
waits for time to pass: no storm that STORM_CLEAR ends, no run that ends or begins, no FENCE, no reset pulse. That the idle step is a
cycle is the model's choice (DESIGN CHOICE, log 3). -/
def Obligations.IdleStepsAreCycles : Prop :=
  ∀ s : State, s.paramsWf → s.pending = [] →
    (s.dev.power.vstby = false → step s = .next s) ∧
    (s.dev.power.vstby = true → s.dev.power.pulse = none → s.dev.arr.stopping = false → s.dev.arr.pendingRun = none →
      (∀ x ∈ s.dev.track.storms, x.clear = none) → (∀ q, (s.dev.sq q).fenced = none) →
      (s.dev.half = false → step s = .next { s with dev := { s.dev with half := true } }) ∧
      (s.dev.half = true → ∃ t, step s = .next t ∧ t.pending = [] ∧ t.dev.half = false ∧ t.dev.clk.bus = s.dev.clk.bus + 1 ∧
        (s.dev.flag Reg.SYSPLL_SETTLED = false → t.dev.tb = s.dev.tb) ∧
        (s.dev.flag Reg.SYSPLL_SETTLED = true → s.dev.clk.slew = 0 → s.dev.clk.frac = 0 → s.dev.get Reg.TB_RATE_PPB = 0 →
          t.dev.tb = (s.dev.tb + 1) % 2 ^ 64)))

/-- No command stops the machine, none looks at the commands that wait behind it, and none changes them. -/
def Obligations.EveryCommandCompletes : Prop :=
  ∀ (c : Instr) (s : State), exec c s = .next (s.to (s.dev.after c))

/-- The queue is served first in, first out, to its end: as many steps as commands wait lead to an empty queue, and the unit is the
one that the commands make of it one after another. -/
def Obligations.QueueIsServedInOrder : Prop :=
  ∀ s : State, stepsFrom s.pending.length s = .next ⟨[], s.pending.foldl Dev.after s.dev⟩

/-- A queue of well-formed commands stays one. -/
def Obligations.QueueStaysWellFormed : Prop :=
  ∀ s t : State, s.queueWf → step s = .next t → t.queueWf

/-- Every step keeps the parameter words in their one form: each listed once, in rising order, where it differs from its reset
value. -/
def Obligations.ParamsStayCanonical : Prop :=
  ∀ s t : State, s.paramsWf → step s = .next t → t.paramsWf

/-- The invariants hold after reset. -/
def Obligations.ResetIsCanonical : Prop :=
  State.reset.paramsWf ∧ State.reset.queueWf

/-- R29, R45, R407, R449, R489: what the spec gives the unit at power-on: it is in BOOT, no queue is enabled, no cause is latched,
no window is attached, no engine and no timer runs, no run is in progress. -/
def Obligations.ResetLeaves : Prop :=
  let d := State.reset.dev
  State.reset.pending = [] ∧ d.st = .boot ∧ (∀ n, (d.sq n).enable = false ∧ (d.cq n).enable = false) ∧
    d.ev.cause = 0 ∧ d.ev.ringEnable = false ∧ (∀ w, (d.win w).attached = false) ∧ (∀ e, (d.eng e).running = false) ∧
    (∀ t, (d.tmr t).running = false) ∧ d.arr.running = false

/-- R7: a stored word reads as what was last written to it, and no other word changes. -/
def Obligations.WordsReadAsWritten : Prop :=
  ∀ (d : Dev) (k j : Nat) (w : Word), d.paramsWf →
    (d.setWord k w).word j = (if j = k then w else d.word j) ∧ (d.setWord k w).paramsWf

/-- R7, R69: a write of an immediate word sets its RW bits, clears the W1C bits written as 1, and leaves every other bit and every
other word; a write of a staged word sets its pending value and leaves the words in effect. -/
def Obligations.WritesFollowTheAccessCodes : Prop :=
  ∀ (d : Dev) (page w v : Nat), d.paramsWf →
    let t := d.storeWord page w v
    (isStaged page w = false →
      (∀ b, b < 32 →
        let rw := (bitsWhere (fun f => f.acc == .rw) page w).testBit b
        let w1c := (bitsWhere (fun f => f.acc == .w1c) page w).testBit b
        (t.word (paramKey page w)).getLsbD b =
          ((if rw then v.testBit b else (d.word (paramKey page w)).getLsbD b) && !(w1c && v.testBit b))) ∧
      (∀ k, k ≠ paramKey page w → t.word k = d.word k)) ∧
    (isStaged page w = true → (∀ k, t.word k = d.word k) ∧
      let new := BitVec.ofNat 32 (v &&& bitsWhere (fun f => f.acc == .st) page w)
      t = d.setChan (fun c => { c with pend := Store.insert c.pend (paramKey page w) new }))

/-- R491, R493, R494: whatever a source raises and wherever its route takes the record, nothing of the unit changes but what reports
it: the CAUSE bit is set, masked or not, and the words that change are those that count and flag reports. -/
def Obligations.EventsOnlyReport : Prop :=
  ∀ (d : Dev) (o : Occ), d.paramsWf → d.Reported (d.raise o) ∧ (o.source < 1024 → (d.raise o).ev.cause.getLsbD o.source = true) ∧
    (∀ n, d.ev.cause.getLsbD n = true → (d.raise o).ev.cause.getLsbD n = true) ∧ (d.raise o).ev.mask = d.ev.mask ∧
    (d.raise o).chan = d.chan

/-- R53, R57: the frame of an answer: nothing of the unit changes but the queues, the reports and what is sent; a completion queue
that is full gets no entry, and one that is not gets it at its tail, with its phase. -/
def Obligations.CompletionsAreWritten : Prop :=
  ∀ (d : Dev) (x : Cpl) (q : Nat), d.paramsWf →
    d.Reported (d.complete x q) ∧
    ((d.cq q).ready = false → (d.complete x q).cq q = d.cq q) ∧
    ((d.cq q).ready = true → (d.cq q).waiting = [] → (d.cq q).full = false →
      (d.complete x q).cq q = { d.cq q with
        tail := if (d.cq q).tail = (d.cq q).size then 0 else (d.cq q).tail + 1
        phase := (d.cq q).phase != decide ((d.cq q).tail = (d.cq q).size) } ∧
      .cqe q (d.cq q).tail x (d.sq x.sq).head (d.cq q).phase ∈ (d.complete x q).out) ∧
    ((d.cq q).ready = true → ((d.cq q).waiting ≠ [] ∨ (d.cq q).full = true) →
      (d.complete x q).cq q = { d.cq q with waiting := (d.cq q).waiting ++ [x] })

/-- The frame of the commands that only answer: NOP, STATE_GET, IDENTIFY, LINK_STATUS, ENGINE_STATUS, THERMAL_STATUS, TABLE_READ,
LOG_READ, AUX_READ, STATS_READ, and TRACKER_STATUS and COUNTERS_READ without their clear option. Whether accepted, refused or
waiting, they change the command channel and reports alone. -/
def Obligations.QueriesKeepTheUnit : Prop :=
  ∀ (s t : State) (e : Entry) (c : Instr), s.paramsWf →
    (c ∈ [.nop e, .stateGet e, .identify e, .linkStatus e, .engineStatus e, .thermalStatus e, .tableRead e, .logRead e, .auxRead e,
        .statsRead e] ∨
      (e.inl 12 1).testBit 0 = false ∧ c ∈ [.trackerStatus e, .countersRead e]) →
    exec c s = .next t → s.dev.Reported t.dev ∧ t.pending = s.pending

/-- R70, R72: the frame of a PARAM_STAGE and a TABLE_WRITE: no word in effect changes before the COMMIT, or before the write is
applied; only the command channel holds what they bring. -/
def Obligations.StagingKeepsTheUnit : Prop :=
  ∀ (s t : State) (e : Entry) (c : Instr), s.paramsWf → c ∈ [.paramStage e, .tableWrite e] →
    exec c s = .next t → s.dev.Reported t.dev ∧ t.pending = s.pending ∧ t.dev.chan.shadow = s.dev.chan.shadow ∧
      t.dev.chan.confs = s.dev.chan.confs

/-- The frame of the host's writes to queues, causes, masks, routes, the event ring and the pointers of windows: with no reset asked
for, they change the channel, the events, the windows and reports alone, and of these what their rows name. While the function takes
no memory requests (R47) they change the host link and what it sends alone. -/
def Obligations.RegisterRowsKeepTheUnit : Prop :=
  ∀ (s t : State) (c : Instr), s.paramsWf → s.dev.power.resetAsk = none → exec c s = .next t →
    (s.dev.memoryOn = false →
      (∃ n v, c = .sqTail n v ∨ c = .cqHead n v) ∨ (∃ n, c = .sqDisable n) ∨ (∃ g v, c = .causeWrite g v ∨ c = .maskWrite g v) ∨
        (∃ n v, c = .routeWrite n v) ∨ (∃ en size, c = .evrEnable en size) ∨ (∃ v, c = .evrHead v) ∨ (∃ w both v, c = .rpLo w both v) →
      t = { s with dev := { s.dev with host := t.dev.host, out := t.dev.out } }) ∧
    (s.dev.memoryOn = true →
    (∀ (n : Fin 64) (v : Word), c = .sqTail n v →
      t.dev = { s.dev with chan := t.dev.chan } ∧ t.dev.chan.cqs = s.dev.chan.cqs ∧
        ∀ m, m % 64 ≠ n.val → t.dev.sq m = s.dev.sq m) ∧
    (∀ n : Fin 64, c = .sqDisable n →
      t.dev = { s.dev with chan := t.dev.chan } ∧ t.dev.chan.cqs = s.dev.chan.cqs ∧
        ∀ m, m % 64 ≠ n.val → t.dev.sq m = s.dev.sq m) ∧
    (∀ (n : Fin 64) (v : Word), c = .cqHead n v →
      s.dev.Reported t.dev ∧ t.dev.chan.sqs = s.dev.chan.sqs ∧ ∀ m, m % 64 ≠ n.val → t.dev.cq m = s.dev.cq m) ∧
    (∀ (g : Fin 32) (v : Word), c = .causeWrite g v →
      t.dev = { s.dev with ev := t.dev.ev, host := t.dev.host, out := t.dev.out } ∧ t.dev.ev.mask = s.dev.ev.mask ∧
        t.dev.ev.route = s.dev.ev.route ∧
        ∀ n, n < 1024 → n / 32 ≠ g.val → t.dev.ev.cause.getLsbD n = s.dev.ev.cause.getLsbD n) ∧
    (∀ (g : Fin 32) (v : Word), c = .maskWrite g v →
      t.dev = { s.dev with ev := t.dev.ev, host := t.dev.host, out := t.dev.out } ∧ t.dev.ev.cause = s.dev.ev.cause ∧
        t.dev.ev.route = s.dev.ev.route ∧
        ∀ n, n < 1024 → n / 32 ≠ g.val → t.dev.ev.mask.getLsbD n = s.dev.ev.mask.getLsbD n) ∧
    (∀ (n : Fin 1024) (v : Word), c = .routeWrite n v →
      s.dev.Reported t.dev ∧ t.dev.ev.mask = s.dev.ev.mask ∧ t.dev.chan = s.dev.chan) ∧
    (∀ en size, c = .evrEnable en size → t.dev = { s.dev with ev := t.dev.ev } ∧ t.dev.ev.cause = s.dev.ev.cause) ∧
    (∀ v, c = .evrHead v → t.dev = { s.dev with ev := t.dev.ev } ∧ t.dev.ev.cause = s.dev.ev.cause) ∧
    (∀ (w : Fin 64) both v, c = .rpLo w both v →
      s.dev.Reported t.dev ∧ t.dev.chan = s.dev.chan ∧
        ∀ m, m % 64 ≠ w.val → (t.dev.win m).rp = (s.dev.win m).rp ∧ (t.dev.win m).attached = (s.dev.win m).attached))

/-- The frame of the configuration fields: CONFIGURATION_WRITE changes the host link alone, and what it may then send. -/
def Obligations.ConfigurationWritesKeepTheUnit : Prop :=
  ∀ (s t : State) (f : ConfigField), exec (.configurationWrite f) s = .next t →
    t = { s with dev := { s.dev with host := t.dev.host, out := t.dev.out } } ∧
      t.dev.host.width = s.dev.host.width ∧ t.dev.host.speed = s.dev.host.speed ∧ t.dev.host.funcReady = s.dev.host.funcReady ∧
      t.dev.host.tokens = s.dev.host.tokens ∧ t.dev.host.msixTable = s.dev.host.msixTable

/-- R333: the frame of the engine instructions that signal nothing: OUT, IN, PULL, PUSH, SET, JMP and DELAY change their own engine
alone, and of the parameter words its LOOPS. -/
def Obligations.EngineInstructionsKeepTheUnit : Prop :=
  ∀ (s t : State) (n : Fin 16) (c : Instr), s.paramsWf →
    ((∃ v, c = .engOut n v ∨ c = .engIn n v) ∨ (∃ l, c = .engJmp n l) ∨
      c ∈ [.engPull n, .engPush n, .engSet n, .engDelay n]) →
    exec c s = .next t →
    t = { s with dev := { s.dev with params := t.dev.params, engine := t.dev.engine } } ∧
      (∀ m, m % 16 ≠ n.val → t.dev.eng m = s.dev.eng m) ∧ t.dev.engine.prog = s.dev.engine.prog ∧
      t.dev.engine.released = s.dev.engine.released ∧ (∀ k, k ≠ Reg.LOOPS.key n → t.dev.word k = s.dev.word k)

/-- R452, R530: the frame of the test port: EXTEST, IDCODE, SAMPLE_PRELOAD, CLAMP, HIGHZ, EXTEST_PULSE, EXTEST_TRAIN, BYPASS,
DBG_CHALLENGE and DBG_ACCESS change the port's own registers alone, and what is shifted out. -/
def Obligations.TestPortKeepsTheUnit : Prop :=
  ∀ (s t : State) (c : Instr),
    ((∃ cells, c = .extest cells ∨ c = .extestPulse cells ∨ c = .extestTrain cells ∨ c = .samplePreload cells) ∨
      c ∈ [.idcode, .clamp, .highz, .bypass, .dbgChallenge, .dbgAccess]) →
    exec c s = .next t →
    t = { s with dev := { s.dev with
      baro := { s.dev.baro with jtag := t.dev.baro.jtag, dbg := t.dev.baro.dbg }, free := t.dev.free, out := t.dev.out } }

/-- R407: the frame of a record's publication: RECORD_PUBLISH of a record in whose data no error was found changes its window alone, and
what is sent; where errors were found (R419, R420), the window is published after them as it is without. -/
def Obligations.PublicationKeepsTheUnit : Prop :=
  (∀ (s t : State) (w : Fin 64), exec (.recordPublish ⟨w, []⟩) s = .next t →
    t = { s with dev := { s.dev with arch := { s.dev.arch with wins := t.dev.arch.wins }, out := t.dev.out } } ∧
      (∀ m, m % 64 ≠ w.val → t.dev.win m = s.dev.win m) ∧ (t.dev.win w).rp = (s.dev.win w).rp ∧
      (t.dev.win w).attached = (s.dev.win w).attached) ∧
  ∀ (s : State) (w : Fin 64) (errs : List RecordErr),
    exec (.recordPublish ⟨w, errs⟩) s = exec (.recordPublish ⟨w, []⟩) (s.to (s.dev.recordErrors w errs))

/-- R14: line numbers wrap modulo 2^32; a is after b when a - b modulo 2^32 lies in 1 to 2^31 - 1, before b when it lies in 2^31 to
2^32 - 1, and the same line when the numbers are equal. -/
def Obligations.LineNumbersAreOrdered : Prop :=
  ∀ a b : Nat, a < 2 ^ 32 → b < 2 ^ 32 →
    let x := (a + 2 ^ 32 - b) % 2 ^ 32
    (lineAfter a b = true ↔ 1 ≤ x ∧ x ≤ 2 ^ 31 - 1) ∧ (lineFrom a b = false ↔ 2 ^ 31 ≤ x ∧ x ≤ 2 ^ 32 - 1) ∧
    (lineAfter a b = false ∧ lineFrom a b = true ↔ a = b) ∧
    ∀ n, n < 2 ^ 32 → lineAdd a n < 2 ^ 32 ∧ lineSub (lineAdd a n) a = n

/-- R43: the budget B is 24 GB/s × (W ÷ 16) × E for the negotiated width and speed, in whole MB/s; every retrain computes it again,
BUDGET_MBPS reads it, and the classes of R44 are metered against it. -/
def Obligations.BudgetFollowsTheLink : Prop :=
  ∀ (s t : State) (width : Nat) (speed : Fin 5), s.paramsWf → s.dev.domainOn 17 = true → width ∈ [1, 4, 8, 16] → speed.val ≠ 0 →
    exec (.linkRetrain width speed) s = .next t →
    ∀ e, (speed.val, e) ∈ [(4, 1000), (3, 500), (2, 254), (1, 127)] →
      let b := 24000 * width * e / (16 * 1000)
      (t.dev.readReg 0 0x10).2 = b ∧
      exec .tokenBucketRefill t =
        .next (t.to (((Dev.drainQueue { t.dev with host := { t.dev.host with
          tokens := Vector.ofFn (fun i : Fin 5 => ((refillBuckets t.dev.host.tokens.toList [1000, 250, 500, b, b] b)[i.val]?).getD 0) } }
            t.dev.arch.queue.length).drainAll .forecast |>.drainAll .view).drainAll .tap))

/-- R349: STOP halts a running timer that has reached neither its end nor a compare since it was last seen: the counter holds its value, RUNNING clears, and nothing else happens.
On a timer that is not running it has no effect. Where STOP and ARM fall on one edge, ARM prevails. -/
def Obligations.StopHaltsTheTimer : Prop :=
  ∀ (s : State) (t : Fin 32), s.dev.memoryOn = true → s.dev.power.resetAsk = none →
    let x := s.dev.tmr t
    let off := BitVec.ofNat 20 (64 * t.val + 0x28)
    let halted : Timer := { x with running := false, held := some (x.cycles s.dev.clk.bus) }
    (x.running = true → s.dev.endDue s.dev.clk.bus t = false → s.dev.matchDue s.dev.clk.bus t false = false →
        s.dev.matchDue s.dev.clk.bus t true = false →
      exec (.timerStop t) s = .next (s.to (s.dev.setTmr t halted)) ∧
        ∀ now, halted.counter now = x.counter s.dev.clk.bus) ∧
    (x.running = false → exec (.timerStop t) s = .next s) ∧
    exec (.registerWrite 2 off false 2) s = exec (.timerStop t) s ∧
    exec (.registerWrite 2 off false 3) s = exec (.timerArm t) s

/-- R51: a doorbell write to a disabled queue is ignored; a value above the queue's size is ignored and sets DB_ERR; any other moves
the doorbell, which reads back. A submission queue whose tail equals its head is empty: nothing is fetched from it. -/
def Obligations.DoorbellsFollowTheirQueues : Prop :=
  ∀ (s : State) (n : Fin 64) (v : Word), s.dev.memoryOn = true → s.dev.power.resetAsk = none →
    let d := s.dev
    let x := v.toNat % 4096
    let sqOff := BitVec.ofNat 20 (0x1000 + 16 * n.val)
    let cqOff := BitVec.ofNat 20 (0x1008 + 16 * n.val)
    let q := d.sq n
    let c := d.cq n
    exec (.registerWrite 0 sqOff false (v.setWidth 64)) s = exec (.sqTail n v) s ∧
    exec (.registerWrite 0 cqOff false (v.setWidth 64)) s = exec (.cqHead n v) s ∧
    exec (.sqTail n v) s = .next (s.to
      (if q.enable = false then d else if q.size < x then d.setSq n { q with dbErr := true } else d.setSq n { q with tail := x })) ∧
    (c.enable = false → exec (.cqHead n v) s = .next s) ∧
    (c.enable = true → c.size < x → exec (.cqHead n v) s = .next (s.to (d.setCq n { c with dbErr := true }))) ∧
    (c.enable = true → x ≤ c.size → ∀ t, exec (.cqHead n v) s = .next t → (t.dev.cq n).head = x ∧ (t.dev.cq n).dbErr = c.dbErr) ∧
    (d.readReg 0 (0x1000 + 16 * n.val)).2 = q.tail ∧ (d.readReg 0 (0x1008 + 16 * n.val)).2 = c.head ∧
    (q.head = q.tail → d.nextSq ≠ some n.val)

/-- R62: an entry with FENCE is fetched and checked, and its command waits while one fetched earlier from its queue is not completed;
while it waits nothing is fetched from that queue, and no other queue is held back by it. Once the earlier ones have completed its
FENCE is over, and the command is dispatched. That steps 1 to 7 of R55 come before the wait, and 5 to 7 after it once more, is the model's choice (DESIGN CHOICE, log 108). -/
def Obligations.FenceHoldsItsQueue : Prop :=
  ∀ d : Dev,
    (∀ (f : Form) (check : Entry → Dev → Option Nat) (eff : Entry → Dev → Dev × Reply) (e : Entry),
      d.nextSq = some e.sq.val → e.fence = true → d.busySq e.sq = true →
      let n := d.fetched e.sq
      n.refuses f check e = none →
      d.hostCommand f check eff e = n.setSq e.sq { n.sq e.sq with fenced := some ⟨f.code, e, false⟩ }) ∧
    (∀ q, (d.sq q).fenced.isSome = true → d.nextSq ≠ some q) ∧
    (∀ q r x, q % 64 ≠ r % 64 → (d.setSq q { d.sq q with fenced := some x }).canFetch r = d.canFetch r) ∧
    (∀ q, q < 64 → d.canFetch q = true → (d.canFetch 0 = true ∨ d.sq0Holds = false) →
      ∃ r, d.nextSq = some r ∧ d.canFetch r = true) ∧
    (∀ q, q < 64 → (d.sq q).fenced.isSome = true → d.busySq q = false → ∃ x r, d.fenceOver = some x ∧ (d.sq r).fenced = some x ∧
      d.busySq r = false) ∧
    (∀ x : Fenced, x.timesOut = false → d.refusesNow (anyOp x.entry x.code).1 = none →
      d.unfence x = (d.setSq x.entry.sq { d.sq x.entry.sq with fenced := none }).dispatch (anyOp x.entry x.code).1
        (anyOp x.entry x.code).2 x.entry)

/-- R100: under ENC and SYNC a run in which no trigger is accepted for LINE_TIMEOUT milliseconds sets TRIG_STALL and raises source
65, once; it keeps waiting and produces no line. A LINE_TIMEOUT of 0 disables the check. -/
def Obligations.StallsAreReported : Prop :=
  ∀ s : State, s.paramsWf →
    let d := s.dev
    let ms := d.get Reg.LINE_TIMEOUT
    (d.arr.running = true → d.arr.stalled = false → d.trigSrc ≠ 0 → ms ≠ 0 → d.arr.waitSince + ms * 200000 ≤ d.clk.bus → d.arr.stopping = false →
      ∃ t : State, exec .trigStall s = .next t ∧ t.dev.flag Reg.TRIG_STALL = true ∧ t.dev.ev.cause.getLsbD 65 = true ∧
        t.dev.arr = { d.arr with stalled := true } ∧ t.pending = s.pending) ∧
    (ms = 0 ∨ d.trigSrc = 0 ∨ d.arr.running = false ∨ d.arr.stalled = true ∨ d.arr.stopping = true ∨ d.clk.bus < d.arr.waitSince + ms * 200000 → exec .trigStall s = .next s)

/-- R337: an accepted ENGINE_STOP stops the running engines of its mask at once, even within a shift, and keeps their registers,
counts, flags, program counters and FIFOs. Their pins keep their levels; with RELEASE they are released. -/
def Obligations.EngineStopKeepsState : Prop :=
  ∀ (s : State) (e : Entry), s.paramsWf → s.dev.Accepts formEngineStop noCheck e →
    ∃ t : State, exec (.engineStop e) s = .next t ∧ t.pending = s.pending ∧
      let released := (e.inl 14 1).testBit 0
      ∀ n, n < 16 →
        let x := s.dev.eng n
        let y := t.dev.eng n
        ((e.inl 12 2).testBit n = true → x.running = true →
          y = { x with running := false, stall := 0, wait := none, sync := false, drives := x.drives && !released, outs := y.outs }) ∧
        (released = true → (e.inl 12 2).testBit n = true → x.running = true → ∀ p, t.dev.driver p ≠ some n) ∧
        (((e.inl 12 2).testBit n = false ∨ x.running = false) → y = x) ∧
        (y.running = false →
          ∀ (m : Fin 16) (v : Nat), m.val = n → exec (.engOut m v) t = .next t ∧ exec (.engIn m v) t = .next t) ∧
        (released = false → ∀ p, t.dev.pinLevel p = s.dev.pinLevel p)

/-- R338: a program is loaded only into a stopped engine: an ENGINE_LOAD or a TABLE_WRITE to table 10h for one that runs, stalls or
waits returns NOT_STOPPED and changes nothing; one with an illegal instruction returns BAD_PARAM, detail FFh, writes nothing, and
records the engine, the address and the code in ENG_CHECK. -/
def Obligations.ProgramsLoadIntoStoppedEngines : Prop :=
  (∀ (s : State) (e : Entry), s.dev.Accepts formEngineLoad checkEngineLoad e →
      let d := s.dev.begun formEngineLoad e
      crc32c e.data = e.inl 16 4 →
    let n := e.sel 3 0
    let code := (List.range (e.inl 12 1)).map (fun i => leAt e.data (2 * i) 2)
    ((s.dev.eng n).running = true → exec (.engineLoad e) s = .next (s.to (d.reply formEngineLoad e { status := .notStopped }))) ∧
    (∀ i, (s.dev.eng n).running = false → i < e.inl 12 1 → instrIllegal (code[i]?.getD 0) = true →
      (∀ j, j < i → instrIllegal (code[j]?.getD 0) = false) →
      exec (.engineLoad e) s = .next (s.to (Dev.reply (((d.put Reg.CHECK_CODE_0900 1).put Reg.CHECK_ADDR i).put Reg.CHECK_ENG n)
        formEngineLoad e { status := .badParam, detail := 0xFF })))) ∧
  (∀ (s : State) (w : TableWrite) (rest : List TableWrite), s.dev.baro.halted = false → s.dev.chan.writes = w :: rest →
    w.table = 0x10 →
    let d := s.dev.setChan (fun c => { c with writes := rest })
    let cmd : Outst := ⟨w.sq, w.tag, 0x0205, false⟩
    let code := w.words.flatMap (fun v => [v.toNat % 65536, v.toNat / 65536])
    ((s.dev.eng w.inst).running = true → exec .tableWriteApply s = .next (s.to (d.finish cmd { status := .notStopped }))) ∧
    (∀ i, (s.dev.eng w.inst).running = false → i < code.length → instrIllegal (code[i]?.getD 0) = true →
      (∀ j, j < i → instrIllegal (code[j]?.getD 0) = false) →
      exec .tableWriteApply s =
        .next (s.to (Dev.finish (((d.put Reg.CHECK_CODE_0900 1).put Reg.CHECK_ADDR (2 * w.offset + i)).put Reg.CHECK_ENG w.inst) cmd
          { status := .badParam, detail := 0xFF }))))

/-- R469: THERMAL_STATUS takes SELECTOR 0 and INLINE 0 and returns only OK besides the statuses of R67: accepted, it answers
TEMP_FILT, TEMP_RAW and its six flags; with another selector or inline byte it is refused with BAD_PARAM. -/
def Obligations.ThermalStatusAnswers : Prop :=
  ∀ (s : State) (e : Entry),
    let d := s.dev.fetched e.sq
    (s.dev.Accepts formThermalStatus noCheck e →
      let d := s.dev.begun formThermalStatus e
      let flags := d.get Reg.WARN + 2 * d.get Reg.HOT + 4 * d.get Reg.WINDOW_OPEN + 8 * d.get Reg.THROTTLED
        + 16 * d.get Reg.DIODE_FAULT + 32 * d.get Reg.CAP_SHORT
      exec (.thermalStatus e) s =
        .next (s.to (d.reply formThermalStatus e { result := d.get Reg.TEMP_FILT + 2 ^ 16 * d.get Reg.TEMP_RAW + 2 ^ 32 * flags }))) ∧
    (s.dev.nextSq = some e.sq.val → e.crcGood 0x0E01 = true →
      e.tag.toNat ∉ d.tagsOut → e.unit.toNat = d.get Reg.UNIT_ID →
      (e.selector ≠ 0 ∨ ∃ i, 12 ≤ i ∧ i < 48 ∧ e.inl i 1 ≠ 0) →
      ∃ at', exec (.thermalStatus e) s =
        .next (s.to (d.turnAway e.sq e.tag.toNat 0 { status := .badParam, detail := at' })))
end

