-- ==== Sys2Proof/Laws/Command.lean ====
section
/-!
SUPPORT. What a host command does, said once: an accepted entry is executed and answered, and a fetch changes the command channel
alone.
-/

namespace Sys2Proof.Machine

/-! Reads of host memory. -/

theorem foldl_send_eq {α : Type} (f : α → Outbound) (l : List α) (d : Dev) :
    ∃ o, l.foldl (fun d x => d.send (f x)) d = { d with out := o } := by
  induction l generalizing d with
  | nil => exact ⟨d.out, rfl⟩
  | cons x l ih => obtain ⟨o, h⟩ := ih (d.send (f x)); exact ⟨o, h⟩

/-- A read of host memory sends requests and does nothing else. -/
theorem Dev.readHost_eq (d : Dev) (addr len : Nat) : ∃ o, d.readHost addr len = { d with out := o } :=
  foldl_send_eq _ _ d

theorem Dev.readBuffer_eq (d : Dev) (f : Form) (e : Entry) : ∃ o, d.readBuffer f e = { d with out := o } := by
  unfold Dev.readBuffer; split
  · exact d.readHost_eq _ _
  · exact ⟨d.out, rfl⟩

/-! A fetch. -/

/-- A fetch changes the command channel and what is sent, and nothing else. -/
theorem Dev.fetched_eq (d : Dev) (q : Nat) : ∃ c o, d.fetched q = { d with chan := c, out := o } := by
  obtain ⟨o, h⟩ := d.readHost_eq ((d.sq q).baseLo + 2 ^ 32 * (d.sq q).baseHi + 64 * (d.sq q).head) 64
  simp only [Dev.fetched, h]
  split <;> exact ⟨_, _, rfl⟩

/-- What comes before a command's effect changes the command channel and what is sent, and nothing else. -/
theorem Dev.begun_eq (d : Dev) (f : Form) (e : Entry) : ∃ c o, d.begun f e = { d with chan := c, out := o } := by
  obtain ⟨c, o, h⟩ := d.fetched_eq e.sq
  obtain ⟨o', h'⟩ := (d.fetched e.sq).readBuffer_eq f e
  exact ⟨c, o', by rw [Dev.begun, h', h]⟩

theorem Dev.fetched_st (d : Dev) (q : Nat) : (d.fetched q).st = d.st := by
  obtain ⟨c, o, h⟩ := d.fetched_eq q; rw [h]

theorem Dev.fetched_get (d : Dev) (q : Nat) (f : Fld) (i : Nat) : (d.fetched q).get f i = d.get f i := by
  obtain ⟨c, o, h⟩ := d.fetched_eq q; rw [h]; rfl

theorem Dev.fetched_params (d : Dev) (q : Nat) : (d.fetched q).params = d.params := by
  obtain ⟨c, o, h⟩ := d.fetched_eq q; rw [h]

theorem turnTaken_keeps (q : Nat) (c : Channel) :
    let c' := if c.turn = q && decide (0 < c.turnLeft) then { c with turnLeft := c.turnLeft - 1 } else { c with turn := q, turnLeft := 7 }
    c'.outst = c.outst ∧ c'.intake = c.intake ∧ c'.writes = c.writes ∧ c'.cqs = c.cqs := by
  dsimp only; split <;> exact ⟨rfl, rfl, rfl, rfl⟩

theorem Dev.fetched_chan (d : Dev) (q : Nat) :
    (d.fetched q).chan.outst = d.chan.outst ∧ (d.fetched q).chan.intake = d.chan.intake ∧
      (d.fetched q).chan.writes = d.chan.writes ∧ (d.fetched q).chan.cqs = d.chan.cqs := by
  obtain ⟨o, h⟩ := d.readHost_eq ((d.sq q).baseLo + 2 ^ 32 * (d.sq q).baseHi + 64 * (d.sq q).head) 64
  simp only [Dev.fetched, h]
  split
  · exact ⟨rfl, rfl, rfl, rfl⟩
  · exact turnTaken_keeps q _

theorem Dev.fetched_intakeWaits (d : Dev) (q : Nat) (f : Form) : (d.fetched q).intakeWaits f = d.intakeWaits f := by
  obtain ⟨c, o, h⟩ := d.fetched_eq q; rw [h]; rfl

theorem Dev.fetched_longRefuses (d : Dev) (q : Nat) (f : Form) : (d.fetched q).longRefuses f = d.longRefuses f := by
  unfold Dev.longRefuses Dev.longOp
  rw [(d.fetched_chan q).1]

theorem Dev.fetched_busySq (d : Dev) (q n : Nat) : (d.fetched q).busySq n = d.busySq n := by
  unfold Dev.busySq
  rw [(d.fetched_chan q).1, (d.fetched_chan q).2.2.2]

/-! An accepted entry. -/

theorem Dev.Accepts.refuses {d : Dev} {f : Form} {check : Entry → Dev → Option Nat} {e : Entry} (h : d.Accepts f check e) :
    (d.fetched e.sq).refuses f check e = none := by
  have hc := d.fetched_chan e.sq
  have hi : ¬ (f.managed = true ∧ 256 ≤ d.chan.intake.length + d.chan.writes.length) := by
    rintro ⟨hm, hl⟩; exact absurd (h.intake hm) (by omega)
  have hr : ¬ (d.st = .restricted ∧ UState.restricted ∉ f.states) := by
    rintro ⟨hs, hn⟩; exact hn (hs ▸ h.state)
  simp [Dev.refuses, Dev.refusesNow, h.crc, h.tag, Dev.fetched_get, h.unit, h.reserved, h.fields, Dev.fetched_st, h.state, hr, hc.2.1,
    hc.2.2.1, hi]

/-- R52, R55, R59: an accepted entry is fetched, executed, and answered or held. -/
theorem Dev.hostCommand_of_accepts {d : Dev} {f : Form} {check : Entry → Dev → Option Nat} {e : Entry}
    (eff : Entry → Dev → Dev × Reply) (h : d.Accepts f check e) :
    d.hostCommand f check eff e =
      if (eff e (d.begun f e)).2.held then (eff e (d.begun f e)).1.hold e f
      else (eff e (d.begun f e)).1.reply f e (eff e (d.begun f e)).2 := by
  have hf : (e.fence && (d.fetched e.sq).busySq e.sq) = false := by
    cases he : e.fence
    · rfl
    · simp [Dev.fetched_busySq, h.fence he]
  have hq : (f.managed && (d.fetched e.sq).chan.intake.any (fun p => p.2.sq == e.sq)) = false := by
    cases hm : f.managed
    · rfl
    · rw [(d.fetched_chan e.sq).2.1, h.first hm]; rfl
  simp only [Dev.hostCommand, h.next, h.refuses, hf, Dev.dispatch, Dev.fetched_intakeWaits, h.served, hq, Dev.execute,
    Dev.fetched_longRefuses, h.long, Bool.or_self, ne_eq, not_true_eq_false, if_false, Bool.false_eq_true]
  rfl

/-- An accepted entry whose effect answers at once. -/
theorem Dev.hostCommand_answers {d d' : Dev} {f : Form} {check : Entry → Dev → Option Nat} {e : Entry} {r : Reply}
    (eff : Entry → Dev → Dev × Reply) (h : d.Accepts f check e) (he : eff e (d.begun f e) = (d', r)) (hr : r.held = false) :
    d.hostCommand f check eff e = d'.reply f e r := by
  rw [d.hostCommand_of_accepts eff h, he]; simp [hr]

/-- An accepted entry whose completion is still to come. -/
theorem Dev.hostCommand_holds {d d' : Dev} {f : Form} {check : Entry → Dev → Option Nat} {e : Entry} {r : Reply}
    (eff : Entry → Dev → Dev × Reply) (h : d.Accepts f check e) (he : eff e (d.begun f e) = (d', r)) (hr : r.held = true) :
    d.hostCommand f check eff e = d'.hold e f := by
  rw [d.hostCommand_of_accepts eff h, he]; simp [hr]

/-! The conditions, evaluated. -/

/-- `Dev.Accepts` as a computation. -/
def Dev.acceptsNow (d : Dev) (f : Form) (check : Entry → Dev → Option Nat) (e : Entry) : Bool :=
  d.nextSq == some e.sq.val && (!e.fence || !d.busySq e.sq) && e.crcGood f.code && !(d.fetched e.sq).tagsOut.contains e.tag.toNat
    && e.unit.toNat == d.get Reg.UNIT_ID && f.reserved e == none && check e (d.fetched e.sq) == none && f.states.contains d.st
    && (!f.managed || decide (d.chan.intake.length + d.chan.writes.length < 256)) && !d.intakeWaits f && d.longRefuses f == none
    && !(f.managed && d.chan.intake.any (fun p => p.2.sq == e.sq))

theorem Dev.accepts_of_now {d : Dev} {f : Form} {check : Entry → Dev → Option Nat} {e : Entry}
    (h : d.acceptsNow f check e = true) : d.Accepts f check e := by
  simp only [Dev.acceptsNow, Bool.and_eq_true, Bool.or_eq_true, Bool.not_eq_true', beq_iff_eq, List.contains_iff_mem,
    decide_eq_true_eq] at h
  obtain ⟨⟨⟨⟨⟨⟨⟨⟨⟨⟨⟨h1, h2⟩, h3⟩, h4⟩, h5⟩, h6⟩, h7⟩, h8⟩, h9⟩, h10⟩, h11⟩, h12⟩ := h
  refine ⟨h1, fun hf => ?_, h3, ?_, h5, h6, h7, h8, fun hm => ?_, h10, fun hm => by simpa [hm] using h12, h11⟩
  · simpa [hf] using h2
  · intro hm; simp at h4; exact h4 hm
  · simpa [hm] using h9

end Sys2Proof.Machine
end

