-- ==== Sys2Proof/Laws/Store.lean ====
section
/-!
SUPPORT. The store of words: every write keeps its canonical form, and a read gives what was last written.
-/

namespace Sys2Proof.Machine

variable {dflt : Nat → Word}

theorem Store.wfFrom_mono {lo lo' : Nat} {st : Store} (h : Store.wfFrom dflt lo st = true) (hl : lo' ≤ lo) :
    Store.wfFrom dflt lo' st = true := by
  cases st with
  | nil => rfl
  | cons p r => simp only [Store.wfFrom, Bool.and_eq_true, decide_eq_true_eq] at h ⊢; exact ⟨⟨by omega, h.1.2⟩, h.2⟩

theorem Store.insert_wfFrom {lo k : Nat} {w : Word} {st : Store} (h : Store.wfFrom dflt lo st = true) (hk : lo ≤ k)
    (hw : w ≠ dflt k) : Store.wfFrom dflt lo (Store.insert st k w) = true := by
  induction st generalizing lo with
  | nil => simp [Store.insert, Store.wfFrom, hk, hw]
  | cons p r ih =>
    obtain ⟨a, v⟩ := p
    simp only [Store.wfFrom, Bool.and_eq_true, decide_eq_true_eq] at h
    simp only [Store.insert]
    split
    · simp [Store.wfFrom]; subst_vars; exact ⟨⟨hk, hw⟩, h.2⟩
    · split
      · simp only [Store.wfFrom, Bool.and_eq_true, decide_eq_true_eq]
        exact ⟨⟨hk, hw⟩, ⟨by omega, h.1.2⟩, h.2⟩
      · simp only [Store.wfFrom, Bool.and_eq_true, decide_eq_true_eq]
        exact ⟨h.1, ih h.2 (by omega)⟩

theorem Store.erase_wfFrom {lo k : Nat} {st : Store} (h : Store.wfFrom dflt lo st = true) :
    Store.wfFrom dflt lo (Store.erase st k) = true := by
  induction st generalizing lo with
  | nil => rfl
  | cons p r ih =>
    obtain ⟨a, v⟩ := p
    have h' := h
    simp only [Store.wfFrom, Bool.and_eq_true, decide_eq_true_eq] at h
    simp only [Store.erase]
    split
    · exact Store.wfFrom_mono h.2 (by omega)
    · split
      · exact h'
      · simp only [Store.wfFrom, Bool.and_eq_true, decide_eq_true_eq]
        exact ⟨h.1, ih h.2⟩

/-- R68: writing one word keeps the canonical form. -/
theorem Store.put_wf {st : Store} {k : Nat} {w : Word} (h : Store.wf dflt st = true) :
    Store.wf dflt (Store.put dflt st k w) = true := by
  unfold Store.put
  split
  · exact Store.erase_wfFrom h
  · exact Store.insert_wfFrom h (by omega) ‹_›

theorem Store.putAll_wf {st : Store} {k : Nat} {ws : List Word} (h : Store.wf dflt st = true) :
    Store.wf dflt (Store.putAll dflt st k ws) = true := by
  induction ws generalizing st k with
  | nil => exact h
  | cons w ws ih => exact ih (Store.put_wf h)

/-! What a read gives. -/

theorem Store.find?_below {lo k : Nat} {st : Store} (h : Store.wfFrom dflt lo st = true) (hk : k < lo) : Store.find? st k = none := by
  cases st with
  | nil => rfl
  | cons p r =>
    obtain ⟨a, v⟩ := p
    simp only [Store.wfFrom, Bool.and_eq_true, decide_eq_true_eq] at h
    simp only [Store.find?]
    rw [if_neg (by omega), if_pos (by omega)]

theorem Store.find?_insert (st : Store) (k j : Nat) (w : Word) {lo : Nat} (h : Store.wfFrom dflt lo st = true) :
    Store.find? (Store.insert st k w) j = if k = j then some w else Store.find? st j := by
  induction st generalizing lo with
  | nil => simp only [Store.insert, Store.find?]; split <;> simp
  | cons p r ih =>
    obtain ⟨a, v⟩ := p
    simp only [Store.wfFrom, Bool.and_eq_true, decide_eq_true_eq] at h
    simp only [Store.insert]
    split
    · subst_vars; simp only [Store.find?]
      split
      · rfl
      · rfl
    · split
      · simp only [Store.find?]
        split
        · rfl
        · split
          · rw [if_neg (by omega), if_pos (by omega)]
          · rfl
      · simp only [Store.find?, ih h.2]
        split
        · rw [if_neg (by omega)]
        · split
          · rw [if_neg (by omega)]
          · rfl

theorem Store.find?_erase (st : Store) (k j : Nat) {lo : Nat} (h : Store.wfFrom dflt lo st = true) :
    Store.find? (Store.erase st k) j = if k = j then none else Store.find? st j := by
  induction st generalizing lo with
  | nil => simp [Store.erase, Store.find?]
  | cons p r ih =>
    obtain ⟨a, v⟩ := p
    simp only [Store.wfFrom, Bool.and_eq_true, decide_eq_true_eq] at h
    simp only [Store.erase]
    split
    · subst_vars
      simp only [Store.find?]
      split
      · subst_vars; exact Store.find?_below h.2 (by omega)
      · split
        · exact Store.find?_below h.2 (by omega)
        · rfl
    · split
      · simp only [Store.find?]
        split
        · rw [if_neg (by omega)]
        · split
          · split <;> rfl
          · split
            · subst_vars; exact Store.find?_below h.2 (by omega)
            · rfl
      · simp only [Store.find?, ih h.2]
        split
        · rw [if_neg (by omega)]
        · split
          · rw [if_neg (by omega)]
          · rfl

/-- R68: a word reads as what was last written to it. -/
theorem Store.get_put (st : Store) (k j : Nat) (w : Word) (h : Store.wf dflt st = true) :
    Store.get dflt (Store.put dflt st k w) j = if k = j then w else Store.get dflt st j := by
  unfold Store.get Store.put
  split
  · rw [Store.find?_erase st k j h]; split
    · subst_vars; simp
    · rfl
  · rw [Store.find?_insert st k j w h]; split <;> simp

end Sys2Proof.Machine
end

