-- ==== Sys2Proof/Laws/Params.lean ====
section
/-!
SUPPORT. The parameter words keep their canonical form: the shared parts of the argument. The lemmas about the operations follow, in
the order of the machine's files, in ParamsEvents, ParamsLines, ParamsObjects, ParamsUnit, ParamsHost and ParamsCommands.
-/

namespace Sys2Proof.Machine

theorem Dev.paramsWf_upd (d : Dev) (h : d.paramsWf) (a1 a2 a3 a5 a6 a7 a8 a9 b1 b2 b3 b4 b5 b6 b7 b8 b9 c1 c2 c3 c4 c5 c6 c7 c8) :
    Dev.paramsWf ⟨a1, a2, a3, d.params, a5, a6, a7, a8, a9, b1, b2, b3, b4, b5, b6, b7, b8, b9, c1, c2, c3, c4, c5, c6, c7, c8⟩ := h

theorem Dev.paramsWf_ite {a b : Dev} {c : Prop} [Decidable c] (ha : a.paramsWf) (hb : b.paramsWf) : (if c then a else b).paramsWf := by
  split <;> assumption

theorem Dev.paramsWf_ite1 {α} {a b : Dev × α} {c : Prop} [Decidable c] (ha : a.1.paramsWf) (hb : b.1.paramsWf) :
    (if c then a else b).1.paramsWf := by
  split <;> assumption

theorem Dev.paramsWf_foldl {α} (f : Dev → α → Dev) (l : List α) (d : Dev) (h : d.paramsWf) (hf : ∀ d a, d.paramsWf → (f d a).paramsWf) :
    (l.foldl f d).paramsWf := by
  induction l generalizing d with
  | nil => exact h
  | cons x xs ih => exact ih _ (hf _ _ h)

theorem Dev.paramsWf_foldl1 {α β} (f : Dev × β → α → Dev × β) (l : List α) (d : Dev × β) (h : d.1.paramsWf)
    (hf : ∀ d a, d.1.paramsWf → (f d a).1.paramsWf) : (l.foldl f d).1.paramsWf := by
  induction l generalizing d with
  | nil => exact h
  | cons x xs ih => exact ih _ (hf _ _ h)

/-- R449: the words that a cold start leaves. -/
theorem Dev.cold_paramsWf (fl : Flash) : (Dev.cold fl).paramsWf := by
  show Store.wf paramReset [(0x0D0005, 1), (0x0E0020, 1), (0x0E0021, 1)]
  decide

theorem Dev.setWord_paramsWf (d : Dev) (k : Nat) (w : Word) (h : d.paramsWf) : (d.setWord k w).paramsWf := Store.put_wf h

end Sys2Proof.Machine
end

