-- ==== Sys2Proof/Laws/ParamsEvents.lean ====
section
/-!
SUPPORT. The parameter words keep their canonical form under the operations of events, flags, operands and drivers.
-/

set_option Elab.async false
set_option linter.unusedVariables false

namespace Sys2Proof.Machine

theorem Dev.put_paramsWf (d : Dev) (f : Fld) (v : Nat) (i : Nat) (h0 : d.paramsWf) : (Dev.put d f v i).paramsWf := by
  grind [Dev.put, Dev.paramsWf_upd, Dev.setWord_paramsWf]

theorem Dev.putFlag_paramsWf (d : Dev) (f : Fld) (v : Bool) (i : Nat) (h0 : d.paramsWf) : (Dev.putFlag d f v i).paramsWf := by
  grind [Dev.putFlag, Dev.paramsWf_upd, Dev.put_paramsWf]

theorem Dev.count_paramsWf (d : Dev) (f : Fld) (n : Nat) (i : Nat) (h0 : d.paramsWf) : (Dev.count d f n i).paramsWf := by
  grind [Dev.count, Dev.paramsWf_upd, Dev.put_paramsWf]

theorem Dev.orBits_paramsWf (d : Dev) (f : Fld) (bits : Nat) (i : Nat) (h0 : d.paramsWf) : (Dev.orBits d f bits i).paramsWf :=
    by
  grind [Dev.orBits, Dev.paramsWf_upd, Dev.put_paramsWf]

theorem Dev.putBit_paramsWf (d : Dev) (f : Fld) (b : Nat) (v : Bool) (i : Nat) (h0 : d.paramsWf) : (Dev.putBit d f b v
    i).paramsWf := by
  grind [Dev.putBit, Dev.paramsWf_upd, Dev.put_paramsWf]

theorem Dev.send_paramsWf (d : Dev) (o : Outbound) (h0 : d.paramsWf) : (Dev.send d o).paramsWf := by
  grind [Dev.send, Dev.paramsWf_upd]

theorem Dev.takeFree_paramsWf (d : Dev) (h0 : d.paramsWf) : (Dev.takeFree d).1.paramsWf := by
  grind [Dev.takeFree, Dev.paramsWf_upd]

theorem Dev.refuseWindow_paramsWf (d : Dev) (h0 : d.paramsWf) : (Dev.refuseWindow d).paramsWf := by
  grind [Dev.refuseWindow, Dev.paramsWf_upd, Dev.count_paramsWf]

theorem Dev.onEdge_paramsWf (d : Dev) (f : Dev → Dev) (h0 : d.paramsWf) (hf0 : ∀ a0, a0.paramsWf → (f a0).paramsWf) :
    (Dev.onEdge d f).paramsWf := by
  grind [Dev.onEdge, Dev.paramsWf_upd]

theorem Dev.touch_paramsWf (d : Dev) (h0 : d.paramsWf) : (Dev.touch d).paramsWf := by
  grind [Dev.touch, Dev.paramsWf_upd]

theorem Dev.setChan_paramsWf (d : Dev) (f : Channel → Channel) (h0 : d.paramsWf) : (Dev.setChan d f).paramsWf := by
  grind [Dev.setChan, Dev.paramsWf_upd]

theorem Dev.sendMsix_paramsWf (d : Dev) (v : Nat) (h0 : d.paramsWf) : (Dev.sendMsix d v).paramsWf := by
  grind [Dev.sendMsix, Dev.paramsWf_upd, Dev.send_paramsWf]

theorem Dev.vecEdge_paramsWf (d : Dev) (v : Nat) (h0 : d.paramsWf) : (Dev.vecEdge d v).paramsWf := by
  grind [Dev.vecEdge, Dev.paramsWf_upd, Dev.sendMsix_paramsWf]

theorem Dev.evalVectors_paramsWf (d : Dev) (again : List Nat) (h0 : d.paramsWf) : (Dev.evalVectors d again).paramsWf := by
  grind [Dev.evalVectors, Dev.paramsWf_upd, Dev.vecEdge_paramsWf, Dev.paramsWf_foldl, Dev.paramsWf_foldl1]

theorem Dev.setWin_paramsWf (d : Dev) (w : Nat) (x : Win) (h0 : d.paramsWf) : (Dev.setWin d w x).paramsWf := by
  grind [Dev.setWin, Dev.paramsWf_upd]

theorem Dev.lostRecord_paramsWf (d : Dev) (w : Nat) (h0 : d.paramsWf) : (Dev.lostRecord d w).paramsWf := by
  grind [Dev.lostRecord, Dev.paramsWf_upd]

theorem Dev.lostBudget_paramsWf (d : Dev) (h0 : d.paramsWf) : (Dev.lostBudget d).paramsWf := by
  grind [Dev.lostBudget, Dev.paramsWf_upd]

theorem Dev.charge_paramsWf (d : Dev) (c : ArchClass) (n : Nat) (h0 : d.paramsWf) : (Dev.charge d c n).paramsWf := by
  grind [Dev.charge, Dev.paramsWf_upd]

theorem Dev.placeRecord_paramsWf (raise : Occ → Dev → Dev) (w : Nat) (bytes : List Byte) (d : Dev) (h0 : d.paramsWf) (hf0 : ∀ a0
    a1, a1.paramsWf → (raise a0 a1).paramsWf) : (Dev.placeRecord raise w bytes d).1.paramsWf := by
  grind [Dev.placeRecord, Dev.paramsWf_upd, Dev.count_paramsWf, Dev.lostRecord_paramsWf, Dev.orBits_paramsWf,
      Dev.setWin_paramsWf]

theorem Dev.overQueue_paramsWf (raise : Occ → Dev → Dev) (c : ArchClass) (w : Nat) (bytes : List Byte) (d : Dev) (h0 :
    d.paramsWf) (hf0 : ∀ a0 a1, a1.paramsWf → (raise a0 a1).paramsWf) : (Dev.overQueue raise c w bytes d).paramsWf := by
  grind [Dev.overQueue, Dev.paramsWf_upd, Dev.lostBudget_paramsWf, Dev.orBits_paramsWf, Dev.setWin_paramsWf]

theorem Dev.submit_paramsWf (raise : Occ → Dev → Dev) (c : ArchClass) (w : Nat) (bytes : List Byte) (d : Dev) (h0 : d.paramsWf)
    (hf0 : ∀ a0 a1, a1.paramsWf → (raise a0 a1).paramsWf) : (Dev.submit raise c w bytes d).paramsWf := by
  grind [Dev.submit, Dev.paramsWf_upd, Dev.charge_paramsWf, Dev.lostRecord_paramsWf, Dev.overQueue_paramsWf,
      Dev.placeRecord_paramsWf]

theorem Dev.holdLog_paramsWf (raise : Occ → Dev → Dev) (kind flags source code data : Nat) (d : Dev) (h0 : d.paramsWf) (hf0 : ∀
    a0 a1, a1.paramsWf → (raise a0 a1).paramsWf) : (Dev.holdLog raise kind flags source code data d).paramsWf := by
  grind [Dev.holdLog, Dev.paramsWf_upd, Dev.count_paramsWf, Dev.orBits_paramsWf, Dev.put_paramsWf]

theorem Dev.ringWrite_paramsWf (d : Dev) (r : EvRec) (h0 : d.paramsWf) : (Dev.ringWrite d r).paramsWf := by
  grind [Dev.ringWrite, Dev.paramsWf_upd, Dev.count_paramsWf, Dev.send_paramsWf]

theorem Dev.toRing_paramsWf (raise : Occ → Dev → Dev) (r : EvRec) (d : Dev) (h0 : d.paramsWf) (hf0 : ∀ a0 a1, a1.paramsWf →
    (raise a0 a1).paramsWf) : (Dev.toRing raise r d).paramsWf := by
  grind [Dev.toRing, Dev.paramsWf_upd, Dev.orBits_paramsWf, Dev.ringWrite_paramsWf]

theorem Dev.toLog_paramsWf (raise : Occ → Dev → Dev) (r : EvRec) (d : Dev) (h0 : d.paramsWf) (hf0 : ∀ a0 a1, a1.paramsWf →
    (raise a0 a1).paramsWf) : (Dev.toLog raise r d).paramsWf := by
  grind [Dev.toLog, Dev.paramsWf_upd, Dev.count_paramsWf, Dev.holdLog_paramsWf]

theorem Dev.toCopy_paramsWf (raise : Occ → Dev → Dev) (r : EvRec) (d : Dev) (h0 : d.paramsWf) (hf0 : ∀ a0 a1, a1.paramsWf →
    (raise a0 a1).paramsWf) : (Dev.toCopy raise r d).paramsWf := by
  grind [Dev.toCopy, Dev.paramsWf_upd, Dev.submit_paramsWf]

theorem Dev.occur_paramsWf (o : Occ) (d : Dev) (h0 : d.paramsWf) : (Dev.occur o d).1.paramsWf := by
  grind [Dev.occur, Dev.paramsWf_upd, Dev.count_paramsWf]

theorem raiseDeep_paramsWf (n : Nat) (o : Occ) (d : Dev) (h0 : d.paramsWf) : (raiseDeep n o d).paramsWf := by
  induction n generalizing o d with
  | zero => exact h0
  | succ n ih =>
    have hr : ∀ o d, d.paramsWf → (raiseDeep n o d).paramsWf := fun o d h => ih o d h
    have ho := Dev.occur_paramsWf o d h0
    unfold raiseDeep
    split
    · next e heq => rw [heq] at ho; exact Dev.evalVectors_paramsWf _ _ ho
    · next e r heq =>
      rw [heq] at ho
      refine Dev.evalVectors_paramsWf _ _ (Dev.paramsWf_upd _ ?_ ..)
      exact Dev.toCopy_paramsWf _ _ _ (Dev.toLog_paramsWf _ _ _ (Dev.toRing_paramsWf _ _ _ ho hr) hr) hr

theorem Dev.raise_paramsWf (d : Dev) (o : Occ) (h0 : d.paramsWf) : (Dev.raise d o).paramsWf := by
  grind [Dev.raise, Dev.paramsWf_upd, raiseDeep_paramsWf]

theorem Dev.log_paramsWf (d : Dev) (kind source code data : Nat) (flags : Nat) (h0 : d.paramsWf) : (Dev.log d kind source code
    data flags).paramsWf := by
  grind [Dev.log, Dev.paramsWf_upd, Dev.holdLog_paramsWf, raiseDeep_paramsWf]

theorem Dev.logOpen_paramsWf (d : Dev) (kind source code : Nat) (h0 : d.paramsWf) : (Dev.logOpen d kind source code).paramsWf :=
    by
  grind [Dev.logOpen, Dev.paramsWf_upd, Dev.log_paramsWf, Dev.takeFree_paramsWf]

theorem Dev.archive_paramsWf (d : Dev) (c : ArchClass) (w : Nat) (bytes : List Byte) (h0 : d.paramsWf) : (Dev.archive d c w
    bytes).paramsWf := by
  grind [Dev.archive, Dev.paramsWf_upd, Dev.submit_paramsWf, raiseDeep_paramsWf]

theorem Dev.enter_paramsWf (d : Dev) (new : UState) (why : Nat) (inj : Bool) (h0 : d.paramsWf) : (Dev.enter d new why
    inj).paramsWf := by
  grind [Dev.enter, Dev.paramsWf_upd, Dev.raise_paramsWf]

theorem Dev.setSq_paramsWf (d : Dev) (q : Nat) (x : Sq) (h0 : d.paramsWf) : (Dev.setSq d q x).paramsWf := by
  grind [Dev.setSq, Dev.paramsWf_upd]

theorem Dev.setCq_paramsWf (d : Dev) (q : Nat) (x : Cq) (h0 : d.paramsWf) : (Dev.setCq d q x).paramsWf := by
  grind [Dev.setCq, Dev.paramsWf_upd]

theorem Dev.readHost_paramsWf (d : Dev) (addr len : Nat) (h0 : d.paramsWf) : (Dev.readHost d addr len).paramsWf := by
  grind [Dev.readHost, Dev.paramsWf_upd, Dev.send_paramsWf, Dev.paramsWf_foldl, Dev.paramsWf_foldl1]

theorem Dev.fetched_paramsWf (d : Dev) (q : Nat) (h0 : d.paramsWf) : (Dev.fetched d q).paramsWf := by
  grind [Dev.fetched, Dev.paramsWf_upd, Dev.readHost_paramsWf, Dev.setChan_paramsWf, Dev.setSq_paramsWf]

theorem Dev.writeCpl_paramsWf (d : Dev) (q : Nat) (x : Cpl) (h0 : d.paramsWf) : (Dev.writeCpl d q x).paramsWf := by
  grind [Dev.writeCpl, Dev.paramsWf_upd, Dev.evalVectors_paramsWf, Dev.send_paramsWf, Dev.setCq_paramsWf]

theorem Dev.complete_paramsWf (d : Dev) (x : Cpl) (cq : Nat) (h0 : d.paramsWf) : (Dev.complete d x cq).paramsWf := by
  grind [Dev.complete, Dev.paramsWf_upd, Dev.count_paramsWf, Dev.orBits_paramsWf, Dev.raise_paramsWf, Dev.setCq_paramsWf,
      Dev.writeCpl_paramsWf]

theorem Dev.writeBuffer_paramsWf (d : Dev) (addr : Nat) (bytes : List Byte) (h0 : d.paramsWf) : (Dev.writeBuffer d addr
    bytes).paramsWf := by
  grind [Dev.writeBuffer, Dev.paramsWf_upd, Dev.send_paramsWf, Dev.paramsWf_foldl, Dev.paramsWf_foldl1]

theorem Dev.turnAway_paramsWf (d : Dev) (sq tag op : Nat) (r : Reply) (h0 : d.paramsWf) : (Dev.turnAway d sq tag op r).paramsWf
    := by
  grind [Dev.turnAway, Dev.paramsWf_upd, Dev.complete_paramsWf]

theorem Dev.answer_paramsWf (d : Dev) (sq tag addr op : Nat) (r : Reply) (h0 : d.paramsWf) : (Dev.answer d sq tag addr op
    r).paramsWf := by
  grind [Dev.answer, Dev.paramsWf_upd, Dev.complete_paramsWf, Dev.setChan_paramsWf, Dev.writeBuffer_paramsWf]

theorem Dev.finish_paramsWf (d : Dev) (o : Outst) (r : Reply) (h0 : d.paramsWf) : (Dev.finish d o r).paramsWf := by
  grind [Dev.finish, Dev.paramsWf_upd, Dev.answer_paramsWf, Dev.log_paramsWf, Dev.logOpen_paramsWf, Dev.setChan_paramsWf]

theorem Dev.finishLong_paramsWf (d : Dev) (opcode : Nat) (r : Reply) (h0 : d.paramsWf) : (Dev.finishLong d opcode r).paramsWf :=
    by
  grind [Dev.finishLong, Dev.paramsWf_upd, Dev.finish_paramsWf]

theorem Dev.readBuffer_paramsWf (d : Dev) (f : Form) (e : Entry) (h0 : d.paramsWf) : (Dev.readBuffer d f e).paramsWf := by
  grind [Dev.readBuffer, Dev.paramsWf_upd, Dev.readHost_paramsWf]

theorem Dev.execute_paramsWf (d : Dev) (f : Form) (eff : Entry → Dev → Dev × Reply) (e : Entry) (h0 : d.paramsWf) (hf0 : ∀ a0
    a1, a1.paramsWf → (eff a0 a1).1.paramsWf) : (Dev.execute d f eff e).paramsWf := by
  grind [Dev.execute, Dev.paramsWf_upd, Dev.answer_paramsWf, Dev.readBuffer_paramsWf, Dev.setChan_paramsWf]

theorem Dev.dispatch_paramsWf (d : Dev) (f : Form) (eff : Entry → Dev → Dev × Reply) (e : Entry) (h0 : d.paramsWf) (hf0 : ∀ a0
    a1, a1.paramsWf → (eff a0 a1).1.paramsWf) : (Dev.dispatch d f eff e).paramsWf := by
  grind [Dev.dispatch, Dev.paramsWf_upd, Dev.execute_paramsWf, Dev.setChan_paramsWf]

theorem Dev.noteEntryCheck_paramsWf (d : Dev) (e : Entry) (h0 : d.paramsWf) : (Dev.noteEntryCheck d e).paramsWf := by
  grind [Dev.noteEntryCheck, Dev.paramsWf_upd, Dev.raise_paramsWf]

theorem Dev.refused_paramsWf (d : Dev) (op : Nat) (e : Entry) (r : Reply) (h0 : d.paramsWf) : (Dev.refused d op e r).paramsWf :=
    by
  grind [Dev.refused, Dev.paramsWf_upd, Dev.noteEntryCheck_paramsWf, Dev.turnAway_paramsWf]

theorem Dev.hostCommand_paramsWf (d : Dev) (f : Form) (extra : Entry → Dev → Option Nat) (eff : Entry → Dev → Dev × Reply) (e :
    Entry) (h0 : d.paramsWf) (hf0 : ∀ a0 a1, a1.paramsWf → (eff a0 a1).1.paramsWf) : (Dev.hostCommand d f extra eff e).paramsWf
    := by
  unfold Dev.hostCommand; (repeat' split) <;> (try dsimp only) <;> (try simp only [h0]) <;> grind [Dev.paramsWf_upd,
      Dev.dispatch_paramsWf, Dev.fetched_paramsWf, Dev.refused_paramsWf, Dev.setSq_paramsWf]

theorem Dev.setLaneGroup_paramsWf (d : Dev) (g : Nat) (x : LaneGroup) (h0 : d.paramsWf) : (Dev.setLaneGroup d g x).paramsWf :=
    by
  grind [Dev.setLaneGroup, Dev.paramsWf_upd]

theorem Dev.control_paramsWf (d : Dev) (g head msg : Nat) (words : List Nat) (cmd : Option Outst) (h0 : d.paramsWf) :
    (Dev.control d g head msg words cmd).paramsWf := by
  grind [Dev.control, Dev.paramsWf_upd, Dev.send_paramsWf, Dev.setLaneGroup_paramsWf]

theorem Dev.tellHeads_paramsWf (d : Dev) (msg : Nat) (words : List Nat) (h0 : d.paramsWf) : (Dev.tellHeads d msg words).paramsWf
    := by
  grind [Dev.tellHeads, Dev.paramsWf_upd, Dev.control_paramsWf, Dev.paramsWf_foldl, Dev.paramsWf_foldl1]

theorem Dev.sendAlign_paramsWf (d : Dev) (h0 : d.paramsWf) : (Dev.sendAlign d).paramsWf := by
  grind [Dev.sendAlign, Dev.paramsWf_upd, Dev.tellHeads_paramsWf]

end Sys2Proof.Machine
end

