-- ==== Sys2Proof/Laws/Reports.lean ====
section
/-!
SUPPORT. What raising an event, writing its records and completing a command can change, said once: `Dev.Reported`.
-/

set_option linter.unusedVariables false

namespace Sys2Proof.Machine

theorem Dev.Reported.refl (d : Dev) : d.Reported d := ⟨rfl, fun _ _ => rfl⟩

theorem Dev.Reported.trans {a b c : Dev} (h : a.Reported b) (h' : b.Reported c) : a.Reported c :=
  ⟨h'.still.trans h.still, fun k hk => (h'.words k hk).trans (h.words k hk)⟩

/-- A change outside `Dev.still` and the parameter words. -/
theorem Dev.Reported.of_eq {d t : Dev} (h : t.still = d.still) (hp : t.params = d.params) : d.Reported t :=
  ⟨h, fun k _ => by unfold Dev.word; rw [hp]⟩

theorem Dev.setWord_word (d : Dev) (k j : Nat) (w : Word) (h : d.paramsWf) :
    (d.setWord k w).word j = if k = j then w else d.word j := Store.get_put _ _ _ _ h

theorem Dev.put_reported (d : Dev) (f : Fld) (v i : Nat) (h : d.paramsWf) (hf : ∃ g ∈ reportFields, g.key 0 = f.key i) :
    d.Reported (d.put f v i) := by
  refine ⟨rfl, fun k hk => ?_⟩
  obtain ⟨g, hg, e⟩ := hf
  have := hk g hg
  unfold Dev.put
  rw [Dev.setWord_word _ _ _ _ h, if_neg (by rw [← e]; exact this)]

theorem Dev.count_reported (d : Dev) (f : Fld) (h : d.paramsWf) (hf : f ∈ reportFields) : d.Reported (d.count f) :=
  d.put_reported f _ 0 h ⟨f, hf, rfl⟩

theorem Dev.orBits_reported (d : Dev) (f : Fld) (n : Nat) (h : d.paramsWf) (hf : f ∈ reportFields) : d.Reported (d.orBits f n) :=
  d.put_reported f _ 0 h ⟨f, hf, rfl⟩

/-- Nothing but reports changed, and the canonical form kept. -/
def Dev.Tells (d t : Dev) : Prop := t.still = d.still ∧ (d.paramsWf → t.paramsWf ∧ d.Reported t)

theorem Dev.Tells.refl (d : Dev) : d.Tells d := ⟨rfl, fun h => ⟨h, .refl d⟩⟩

theorem Dev.Tells.trans {a b c : Dev} (h : a.Tells b) (h' : b.Tells c) : a.Tells c :=
  ⟨h'.1.trans h.1, fun w => ⟨(h'.2 (h.2 w).1).1, (h.2 w).2.trans (h'.2 (h.2 w).1).2⟩⟩

/-- A change outside `Dev.still` and the parameter words. -/
theorem Dev.Tells.of_eq {d t : Dev} (h : t.still = d.still) (hp : t.params = d.params) : d.Tells t :=
  ⟨h, fun w => ⟨by unfold Dev.paramsWf; rw [hp]; exact w, .of_eq h hp⟩⟩

theorem Dev.Tells.put {d e : Dev} {f : Fld} {v : Nat} (h : d.Tells e) (hf : f ∈ reportFields) : d.Tells (e.put f v) :=
  h.trans ⟨rfl, fun w => ⟨Dev.put_paramsWf e f v 0 w, e.put_reported f v 0 w ⟨f, hf, rfl⟩⟩⟩

theorem Dev.Tells.count {d e : Dev} {f : Fld} {n : Nat} (h : d.Tells e) (hf : f ∈ reportFields) : d.Tells (e.count f n) := h.put hf

theorem Dev.Tells.orBits {d e : Dev} {f : Fld} {n : Nat} (h : d.Tells e) (hf : f ∈ reportFields) : d.Tells (e.orBits f n) := h.put hf

theorem Dev.Tells.ite {d a b : Dev} {c : Prop} [Decidable c] (ha : d.Tells a) (hb : d.Tells b) : d.Tells (if c then a else b) := by
  split <;> assumption

theorem Dev.Tells.foldl {α} (f : Dev → α → Dev) (hf : ∀ (d : Dev) a, d.Tells (f d a)) (l : List α) (d : Dev) :
    d.Tells (l.foldl f d) := by
  induction l generalizing d with
  | nil => exact .refl d
  | cons x xs ih => exact (hf d x).trans (ih _)

theorem Dev.vecEdge_tells (d : Dev) (v : Nat) : d.Tells (d.vecEdge v) := by
  unfold Dev.vecEdge; split
  · exact .of_eq rfl rfl
  · exact .of_eq rfl rfl

theorem Dev.evalVectors_tells (d : Dev) (l : List Nat) : d.Tells (d.evalVectors l) := by
  unfold Dev.evalVectors; dsimp only; split
  · exact .of_eq rfl rfl
  · refine .trans ?_ (Dev.Tells.foldl _ (fun d v => d.vecEdge_tells v) _ _)
    exact .of_eq rfl rfl

theorem Dev.occur_tells (d : Dev) (o : Occ) : d.Tells (d.occur o).1 := by
  unfold Dev.occur; dsimp only
  split <;> exact .of_eq rfl rfl

theorem Dev.lostRecord_tells (d : Dev) (w : Nat) : d.Tells (d.lostRecord w) := by
  unfold Dev.lostRecord; split
  · exact .of_eq rfl rfl
  · exact .refl d

/-- A delivery that raises events of its own, each of which tells. -/
def TellsAlways (raise : Occ → Dev → Dev) : Prop := ∀ (o : Occ) (d : Dev), d.Tells (raise o d)

theorem TellsAlways.after {raise : Occ → Dev → Dev} (hr : TellsAlways raise) {d e : Dev} {o : Occ} (h : d.Tells e) :
    d.Tells (raise o e) := h.trans (hr o e)

theorem Dev.toRing_tells {raise : Occ → Dev → Dev} (hr : TellsAlways raise) (r : EvRec) (d : Dev) : d.Tells (d.toRing raise r) := by
  have hw : ∀ d : Dev, d.Tells (d.ringWrite r) := fun d => .of_eq rfl rfl
  unfold Dev.toRing
  exact .ite (.refl d) (.ite (.refl d) (.ite (hw d) (.ite (.of_eq rfl rfl) (hr.after (.orBits (.of_eq rfl rfl) (by decide))))))

theorem Dev.holdLog_tells {raise : Occ → Dev → Dev} (hr : TellsAlways raise) (kind flags source code data : Nat) (d : Dev) :
    d.Tells (d.holdLog raise kind flags source code data) := by
  unfold Dev.holdLog; dsimp only
  split
  · exact .ite (.count (.refl d) (by decide)) (hr.after (.orBits (.count (.refl d) (by decide)) (by decide)))
  · exact .put (.put (.of_eq rfl rfl) (by decide)) (by decide)

theorem Dev.toLog_tells {raise : Occ → Dev → Dev} (hr : TellsAlways raise) (r : EvRec) (d : Dev) : d.Tells (d.toLog raise r) := by
  unfold Dev.toLog; dsimp only
  generalize (if d.baro.logSecond = d.tb / 200000000 then d.baro.logInSecond else 0) = n
  split
  · exact .refl d
  · split
    · exact .count (.refl d) (by decide)
    · refine .trans ?_ (Dev.holdLog_tells hr _ _ _ _ _ _)
      exact .of_eq rfl rfl

theorem Dev.Tells.poison {d e : Dev} {c : Prop} [Decidable c] (h : d.Tells e) :
    d.Tells (if c then (e.count Reg.POISONED).orBits Reg.POISON 1 else e) :=
  .ite (.orBits (.count h (by decide)) (by decide)) h

theorem Dev.Tells.snap {d e : Dev} {c : Prop} [Decidable c] (h : d.Tells e) : d.Tells (if c then e.count Reg.SNAPS else e) :=
  .ite (.count h (by decide)) h

theorem Dev.placeRecord_tells {raise : Occ → Dev → Dev} (hr : TellsAlways raise) (w : Nat) (bytes : List Byte) (d : Dev) :
    d.Tells (d.placeRecord raise w bytes).1 := by
  unfold Dev.placeRecord; dsimp only
  split
  · exact d.lostRecord_tells w
  · split
    · exact hr.after (.orBits (.of_eq rfl rfl) (by decide))
    · exact .poison (.snap (.of_eq rfl rfl))
    · exact .poison (hr.after (.snap (.orBits (.of_eq rfl rfl) (by decide))))

theorem Dev.overQueue_tells {raise : Occ → Dev → Dev} (hr : TellsAlways raise) (c : ArchClass) (w : Nat) (bytes : List Byte) (d : Dev) :
    d.Tells (d.overQueue raise c w bytes) := by
  unfold Dev.overQueue; extract_lets x oldest e
  split
  · have he : d.Tells e := .orBits (.of_eq rfl rfl) (by decide)
    clear_value e
    exact hr.after (he.trans (.of_eq rfl rfl))
  · exact hr.after (.orBits (.of_eq rfl rfl) (by decide))

theorem Dev.submit_tells {raise : Occ → Dev → Dev} (hr : TellsAlways raise) (c : ArchClass) (w : Nat) (bytes : List Byte) (d : Dev) :
    d.Tells (d.submit raise c w bytes) := by
  unfold Dev.submit; dsimp only
  split
  · exact d.lostRecord_tells w
  · split
    · refine .trans ?_ (Dev.placeRecord_tells hr _ _ _)
      exact .of_eq rfl rfl
    · split
      · exact .of_eq rfl rfl
      · exact Dev.overQueue_tells hr _ _ _ _

theorem Dev.toCopy_tells {raise : Occ → Dev → Dev} (hr : TellsAlways raise) (r : EvRec) (d : Dev) : d.Tells (d.toCopy raise r) := by
  unfold Dev.toCopy; dsimp only
  split
  · exact .refl d
  · refine .trans ?_ (Dev.submit_tells hr _ _ _ _)
    exact .of_eq rfl rfl

theorem raiseDeep_tells (n : Nat) : TellsAlways (raiseDeep n) := by
  intro o d
  induction n generalizing o d with
  | zero => exact .refl d
  | succ n ih =>
    have ho := d.occur_tells o
    unfold raiseDeep
    split
    · next e heq => rw [heq] at ho; exact ho.trans (Dev.evalVectors_tells _ _)
    · next e r heq =>
      rw [heq] at ho
      have h3 := ho.trans (.trans (.trans (Dev.toRing_tells ih r e) (Dev.toLog_tells ih r _)) (Dev.toCopy_tells ih r _))
      refine .trans (h3.trans ?_) (Dev.evalVectors_tells _ _)
      exact .of_eq rfl rfl

/-- R491: raising an event reports it and does nothing else. -/
theorem Dev.raise_tells (d : Dev) (o : Occ) : d.Tells (d.raise o) := raiseDeep_tells 8 o d

theorem Dev.Tells.raise {d e : Dev} {o : Occ} (h : d.Tells e) : d.Tells (e.raise o) := h.trans (e.raise_tells o)

theorem Dev.writeCpl_tells (d : Dev) (q : Nat) (x : Cpl) : d.Tells (d.writeCpl q x) := by
  unfold Dev.writeCpl; dsimp only
  refine .trans ?_ (Dev.evalVectors_tells _ _)
  exact .of_eq rfl rfl

/-- R53: a completion that is written, or that waits for its queue. -/
theorem Dev.complete_tells (d : Dev) (x : Cpl) (cq : Nat) : d.Tells (d.complete x cq) := by
  have h : d.Tells
      (if (x.status = .checkFail && decide (x.detail = 1)) = true then
        (if x.status = .ok then d else d.count Reg.REJECTS).count Reg.ENTRY_CHECK_FAILS
      else if x.status = .ok then d else d.count Reg.REJECTS) :=
    .ite (.count (.ite (.refl d) (.count (.refl d) (by decide))) (by decide)) (.ite (.refl d) (.count (.refl d) (by decide)))
  unfold Dev.complete; dsimp only
  refine h.trans ?_
  generalize (if (x.status = .checkFail && decide (x.detail = 1)) = true then _ else _ : Dev) = e
  split
  · exact .refl e
  · split
    · exact e.writeCpl_tells _ _
    · split
      · exact .raise (.orBits (.of_eq rfl rfl) (by decide))
      · exact .of_eq rfl rfl

/-- Writes of result bytes, and reads of host memory. -/
theorem Dev.sends_tells {α : Type} (f : α → Outbound) (l : List α) (d : Dev) : d.Tells (l.foldl (fun d x => d.send (f x)) d) :=
  Dev.Tells.foldl (fun d x => d.send (f x)) (fun _ _ => .of_eq rfl rfl) l d

theorem Dev.readHost_tells (d : Dev) (addr len : Nat) : d.Tells (d.readHost addr len) := Dev.sends_tells _ _ d

theorem Dev.writeBuffer_tells (d : Dev) (addr : Nat) (bytes : List Byte) : d.Tells (d.writeBuffer addr bytes) := Dev.sends_tells _ _ d

theorem Dev.readBuffer_tells (d : Dev) (f : Form) (e : Entry) : d.Tells (d.readBuffer f e) := by
  unfold Dev.readBuffer; split
  · exact d.readHost_tells _ _
  · exact .refl d

/-- R55: an entry turned away. -/
theorem Dev.turnAway_tells (d : Dev) (sq tag op : Nat) (r : Reply) : d.Tells (d.turnAway sq tag op r) := d.complete_tells _ _

theorem Dev.refused_tells (d : Dev) (op : Nat) (e : Entry) (r : Reply) : d.Tells (d.refused op e r) := by
  unfold Dev.refused
  refine .trans ?_ (Dev.turnAway_tells _ _ _ _ _)
  exact .ite (.raise (.refl _)) (.refl _)

/-- R57: the answer to a command. -/
theorem Dev.answer_tells (d : Dev) (sq tag addr op : Nat) (r : Reply) : d.Tells (d.answer sq tag addr op r) := by
  unfold Dev.answer; extract_lets a cq b
  have ha : d.Tells a := d.writeBuffer_tells addr r.out
  clear_value a
  exact ha.trans (.trans (b := b) (.of_eq rfl rfl) (b.complete_tells _ _))

theorem Dev.fetched_tells (d : Dev) (q : Nat) : d.Tells (d.fetched q) := by
  obtain ⟨c, o, h⟩ := d.fetched_eq q
  rw [h]; exact .of_eq rfl rfl

/-- R52, R55, R59: a host command whose effect tells, tells. -/
theorem Dev.hostCommand_tells {eff : Entry → Dev → Dev × Reply} (he : ∀ (e : Entry) (d : Dev), d.Tells (eff e d).1) (d : Dev) (f : Form)
    (extra : Entry → Dev → Option Nat) (e : Entry) : d.Tells (d.hostCommand f extra eff e) := by
  have hx : ∀ d : Dev, d.Tells (d.execute f eff e) := by
    intro d; unfold Dev.execute
    split
    · exact d.answer_tells _ _ _ _ _
    · refine ((d.readBuffer_tells f e).trans (he e _)).trans ?_
      dsimp only; split
      · exact .of_eq rfl rfl
      · exact Dev.answer_tells _ _ _ _ _ _
  unfold Dev.hostCommand Dev.dispatch
  split
  · exact .refl d
  · refine (d.fetched_tells e.sq).trans ?_
    dsimp only; split
    · exact Dev.refused_tells _ _ _ _
    · split
      · exact .of_eq rfl rfl
      · exact .ite (.of_eq rfl rfl) (hx _)

end Sys2Proof.Machine
end

