-- ==== Sys2Proof/Laws/State.lean ====
section
/-!
SUPPORT. One lemma for each field under each update that the operations are made of: what an update leaves alone, and what it
writes.
-/

namespace Sys2Proof.Machine

variable (d : Dev)

/-! The machine with another unit. -/

@[simp] theorem State.to_dev (s : State) (d : Dev) : (s.to d).dev = d := rfl
@[simp] theorem State.to_pending (s : State) (d : Dev) : (s.to d).pending = s.pending := rfl

/-! What an update writes. -/

@[simp] theorem Dev.setWord_params (k : Nat) (w : Word) : (d.setWord k w).params = Store.put paramReset d.params k w := rfl
@[simp] theorem Dev.setChan_chan (g : Channel → Channel) : (d.setChan g).chan = g d.chan := rfl
@[simp] theorem Dev.send_out (o : Outbound) : (d.send o).out = o :: d.out := rfl

/-! What an update leaves alone. -/

@[simp] theorem Dev.setWord_st (k : Nat) (w : Word) : (d.setWord k w).st = d.st := rfl
@[simp] theorem Dev.setWord_tb (k : Nat) (w : Word) : (d.setWord k w).tb = d.tb := rfl
@[simp] theorem Dev.setWord_half (k : Nat) (w : Word) : (d.setWord k w).half = d.half := rfl
@[simp] theorem Dev.setWord_host (k : Nat) (w : Word) : (d.setWord k w).host = d.host := rfl
@[simp] theorem Dev.setWord_chan (k : Nat) (w : Word) : (d.setWord k w).chan = d.chan := rfl
@[simp] theorem Dev.setWord_ev (k : Nat) (w : Word) : (d.setWord k w).ev = d.ev := rfl
@[simp] theorem Dev.setWord_arch (k : Nat) (w : Word) : (d.setWord k w).arch = d.arch := rfl
@[simp] theorem Dev.setWord_baro (k : Nat) (w : Word) : (d.setWord k w).baro = d.baro := rfl
@[simp] theorem Dev.setWord_therm (k : Nat) (w : Word) : (d.setWord k w).therm = d.therm := rfl
@[simp] theorem Dev.setWord_power (k : Nat) (w : Word) : (d.setWord k w).power = d.power := rfl
@[simp] theorem Dev.setWord_arr (k : Nat) (w : Word) : (d.setWord k w).arr = d.arr := rfl
@[simp] theorem Dev.setWord_conv (k : Nat) (w : Word) : (d.setWord k w).conv = d.conv := rfl
@[simp] theorem Dev.setWord_clk (k : Nat) (w : Word) : (d.setWord k w).clk = d.clk := rfl
@[simp] theorem Dev.setWord_lane (k : Nat) (w : Word) : (d.setWord k w).lane = d.lane := rfl
@[simp] theorem Dev.setWord_pipe (k : Nat) (w : Word) : (d.setWord k w).pipe = d.pipe := rfl
@[simp] theorem Dev.setWord_track (k : Nat) (w : Word) : (d.setWord k w).track = d.track := rfl
@[simp] theorem Dev.setWord_cls (k : Nat) (w : Word) : (d.setWord k w).cls = d.cls := rfl
@[simp] theorem Dev.setWord_eject (k : Nat) (w : Word) : (d.setWord k w).eject = d.eject := rfl
@[simp] theorem Dev.setWord_engine (k : Nat) (w : Word) : (d.setWord k w).engine = d.engine := rfl
@[simp] theorem Dev.setWord_timers (k : Nat) (w : Word) : (d.setWord k w).timers = d.timers := rfl
@[simp] theorem Dev.setWord_aux (k : Nat) (w : Word) : (d.setWord k w).aux = d.aux := rfl
@[simp] theorem Dev.setWord_faultInj (k : Nat) (w : Word) : (d.setWord k w).faultInj = d.faultInj := rfl
@[simp] theorem Dev.setWord_faultTb (k : Nat) (w : Word) : (d.setWord k w).faultTb = d.faultTb := rfl
@[simp] theorem Dev.setWord_out (k : Nat) (w : Word) : (d.setWord k w).out = d.out := rfl
@[simp] theorem Dev.setWord_free (k : Nat) (w : Word) : (d.setWord k w).free = d.free := rfl

@[simp] theorem Dev.put_st (f : Fld) (v i : Nat) : (d.put f v i).st = d.st := rfl
@[simp] theorem Dev.put_tb (f : Fld) (v i : Nat) : (d.put f v i).tb = d.tb := rfl
@[simp] theorem Dev.put_half (f : Fld) (v i : Nat) : (d.put f v i).half = d.half := rfl
@[simp] theorem Dev.put_host (f : Fld) (v i : Nat) : (d.put f v i).host = d.host := rfl
@[simp] theorem Dev.put_chan (f : Fld) (v i : Nat) : (d.put f v i).chan = d.chan := rfl
@[simp] theorem Dev.put_ev (f : Fld) (v i : Nat) : (d.put f v i).ev = d.ev := rfl
@[simp] theorem Dev.put_arch (f : Fld) (v i : Nat) : (d.put f v i).arch = d.arch := rfl
@[simp] theorem Dev.put_baro (f : Fld) (v i : Nat) : (d.put f v i).baro = d.baro := rfl
@[simp] theorem Dev.put_therm (f : Fld) (v i : Nat) : (d.put f v i).therm = d.therm := rfl
@[simp] theorem Dev.put_power (f : Fld) (v i : Nat) : (d.put f v i).power = d.power := rfl
@[simp] theorem Dev.put_arr (f : Fld) (v i : Nat) : (d.put f v i).arr = d.arr := rfl
@[simp] theorem Dev.put_conv (f : Fld) (v i : Nat) : (d.put f v i).conv = d.conv := rfl
@[simp] theorem Dev.put_clk (f : Fld) (v i : Nat) : (d.put f v i).clk = d.clk := rfl
@[simp] theorem Dev.put_lane (f : Fld) (v i : Nat) : (d.put f v i).lane = d.lane := rfl
@[simp] theorem Dev.put_pipe (f : Fld) (v i : Nat) : (d.put f v i).pipe = d.pipe := rfl
@[simp] theorem Dev.put_track (f : Fld) (v i : Nat) : (d.put f v i).track = d.track := rfl
@[simp] theorem Dev.put_cls (f : Fld) (v i : Nat) : (d.put f v i).cls = d.cls := rfl
@[simp] theorem Dev.put_eject (f : Fld) (v i : Nat) : (d.put f v i).eject = d.eject := rfl
@[simp] theorem Dev.put_engine (f : Fld) (v i : Nat) : (d.put f v i).engine = d.engine := rfl
@[simp] theorem Dev.put_timers (f : Fld) (v i : Nat) : (d.put f v i).timers = d.timers := rfl
@[simp] theorem Dev.put_aux (f : Fld) (v i : Nat) : (d.put f v i).aux = d.aux := rfl
@[simp] theorem Dev.put_faultInj (f : Fld) (v i : Nat) : (d.put f v i).faultInj = d.faultInj := rfl
@[simp] theorem Dev.put_faultTb (f : Fld) (v i : Nat) : (d.put f v i).faultTb = d.faultTb := rfl
@[simp] theorem Dev.put_out (f : Fld) (v i : Nat) : (d.put f v i).out = d.out := rfl
@[simp] theorem Dev.put_free (f : Fld) (v i : Nat) : (d.put f v i).free = d.free := rfl

@[simp] theorem Dev.putFlag_st (f : Fld) (v : Bool) (i : Nat) : (d.putFlag f v i).st = d.st := rfl
@[simp] theorem Dev.putFlag_tb (f : Fld) (v : Bool) (i : Nat) : (d.putFlag f v i).tb = d.tb := rfl
@[simp] theorem Dev.putFlag_half (f : Fld) (v : Bool) (i : Nat) : (d.putFlag f v i).half = d.half := rfl
@[simp] theorem Dev.putFlag_host (f : Fld) (v : Bool) (i : Nat) : (d.putFlag f v i).host = d.host := rfl
@[simp] theorem Dev.putFlag_chan (f : Fld) (v : Bool) (i : Nat) : (d.putFlag f v i).chan = d.chan := rfl
@[simp] theorem Dev.putFlag_ev (f : Fld) (v : Bool) (i : Nat) : (d.putFlag f v i).ev = d.ev := rfl
@[simp] theorem Dev.putFlag_arch (f : Fld) (v : Bool) (i : Nat) : (d.putFlag f v i).arch = d.arch := rfl
@[simp] theorem Dev.putFlag_baro (f : Fld) (v : Bool) (i : Nat) : (d.putFlag f v i).baro = d.baro := rfl
@[simp] theorem Dev.putFlag_therm (f : Fld) (v : Bool) (i : Nat) : (d.putFlag f v i).therm = d.therm := rfl
@[simp] theorem Dev.putFlag_power (f : Fld) (v : Bool) (i : Nat) : (d.putFlag f v i).power = d.power := rfl
@[simp] theorem Dev.putFlag_arr (f : Fld) (v : Bool) (i : Nat) : (d.putFlag f v i).arr = d.arr := rfl
@[simp] theorem Dev.putFlag_conv (f : Fld) (v : Bool) (i : Nat) : (d.putFlag f v i).conv = d.conv := rfl
@[simp] theorem Dev.putFlag_clk (f : Fld) (v : Bool) (i : Nat) : (d.putFlag f v i).clk = d.clk := rfl
@[simp] theorem Dev.putFlag_lane (f : Fld) (v : Bool) (i : Nat) : (d.putFlag f v i).lane = d.lane := rfl
@[simp] theorem Dev.putFlag_pipe (f : Fld) (v : Bool) (i : Nat) : (d.putFlag f v i).pipe = d.pipe := rfl
@[simp] theorem Dev.putFlag_track (f : Fld) (v : Bool) (i : Nat) : (d.putFlag f v i).track = d.track := rfl
@[simp] theorem Dev.putFlag_cls (f : Fld) (v : Bool) (i : Nat) : (d.putFlag f v i).cls = d.cls := rfl
@[simp] theorem Dev.putFlag_eject (f : Fld) (v : Bool) (i : Nat) : (d.putFlag f v i).eject = d.eject := rfl
@[simp] theorem Dev.putFlag_engine (f : Fld) (v : Bool) (i : Nat) : (d.putFlag f v i).engine = d.engine := rfl
@[simp] theorem Dev.putFlag_timers (f : Fld) (v : Bool) (i : Nat) : (d.putFlag f v i).timers = d.timers := rfl
@[simp] theorem Dev.putFlag_aux (f : Fld) (v : Bool) (i : Nat) : (d.putFlag f v i).aux = d.aux := rfl
@[simp] theorem Dev.putFlag_faultInj (f : Fld) (v : Bool) (i : Nat) : (d.putFlag f v i).faultInj = d.faultInj := rfl
@[simp] theorem Dev.putFlag_faultTb (f : Fld) (v : Bool) (i : Nat) : (d.putFlag f v i).faultTb = d.faultTb := rfl
@[simp] theorem Dev.putFlag_out (f : Fld) (v : Bool) (i : Nat) : (d.putFlag f v i).out = d.out := rfl
@[simp] theorem Dev.putFlag_free (f : Fld) (v : Bool) (i : Nat) : (d.putFlag f v i).free = d.free := rfl

@[simp] theorem Dev.putBit_st (f : Fld) (b : Nat) (v : Bool) (i : Nat) : (d.putBit f b v i).st = d.st := rfl
@[simp] theorem Dev.putBit_tb (f : Fld) (b : Nat) (v : Bool) (i : Nat) : (d.putBit f b v i).tb = d.tb := rfl
@[simp] theorem Dev.putBit_half (f : Fld) (b : Nat) (v : Bool) (i : Nat) : (d.putBit f b v i).half = d.half := rfl
@[simp] theorem Dev.putBit_host (f : Fld) (b : Nat) (v : Bool) (i : Nat) : (d.putBit f b v i).host = d.host := rfl
@[simp] theorem Dev.putBit_chan (f : Fld) (b : Nat) (v : Bool) (i : Nat) : (d.putBit f b v i).chan = d.chan := rfl
@[simp] theorem Dev.putBit_ev (f : Fld) (b : Nat) (v : Bool) (i : Nat) : (d.putBit f b v i).ev = d.ev := rfl
@[simp] theorem Dev.putBit_arch (f : Fld) (b : Nat) (v : Bool) (i : Nat) : (d.putBit f b v i).arch = d.arch := rfl
@[simp] theorem Dev.putBit_baro (f : Fld) (b : Nat) (v : Bool) (i : Nat) : (d.putBit f b v i).baro = d.baro := rfl
@[simp] theorem Dev.putBit_therm (f : Fld) (b : Nat) (v : Bool) (i : Nat) : (d.putBit f b v i).therm = d.therm := rfl
@[simp] theorem Dev.putBit_power (f : Fld) (b : Nat) (v : Bool) (i : Nat) : (d.putBit f b v i).power = d.power := rfl
@[simp] theorem Dev.putBit_arr (f : Fld) (b : Nat) (v : Bool) (i : Nat) : (d.putBit f b v i).arr = d.arr := rfl
@[simp] theorem Dev.putBit_conv (f : Fld) (b : Nat) (v : Bool) (i : Nat) : (d.putBit f b v i).conv = d.conv := rfl
@[simp] theorem Dev.putBit_clk (f : Fld) (b : Nat) (v : Bool) (i : Nat) : (d.putBit f b v i).clk = d.clk := rfl
@[simp] theorem Dev.putBit_lane (f : Fld) (b : Nat) (v : Bool) (i : Nat) : (d.putBit f b v i).lane = d.lane := rfl
@[simp] theorem Dev.putBit_pipe (f : Fld) (b : Nat) (v : Bool) (i : Nat) : (d.putBit f b v i).pipe = d.pipe := rfl
@[simp] theorem Dev.putBit_track (f : Fld) (b : Nat) (v : Bool) (i : Nat) : (d.putBit f b v i).track = d.track := rfl
@[simp] theorem Dev.putBit_cls (f : Fld) (b : Nat) (v : Bool) (i : Nat) : (d.putBit f b v i).cls = d.cls := rfl
@[simp] theorem Dev.putBit_eject (f : Fld) (b : Nat) (v : Bool) (i : Nat) : (d.putBit f b v i).eject = d.eject := rfl
@[simp] theorem Dev.putBit_engine (f : Fld) (b : Nat) (v : Bool) (i : Nat) : (d.putBit f b v i).engine = d.engine := rfl
@[simp] theorem Dev.putBit_timers (f : Fld) (b : Nat) (v : Bool) (i : Nat) : (d.putBit f b v i).timers = d.timers := rfl
@[simp] theorem Dev.putBit_aux (f : Fld) (b : Nat) (v : Bool) (i : Nat) : (d.putBit f b v i).aux = d.aux := rfl
@[simp] theorem Dev.putBit_faultInj (f : Fld) (b : Nat) (v : Bool) (i : Nat) : (d.putBit f b v i).faultInj = d.faultInj := rfl
@[simp] theorem Dev.putBit_faultTb (f : Fld) (b : Nat) (v : Bool) (i : Nat) : (d.putBit f b v i).faultTb = d.faultTb := rfl
@[simp] theorem Dev.putBit_out (f : Fld) (b : Nat) (v : Bool) (i : Nat) : (d.putBit f b v i).out = d.out := rfl
@[simp] theorem Dev.putBit_free (f : Fld) (b : Nat) (v : Bool) (i : Nat) : (d.putBit f b v i).free = d.free := rfl

@[simp] theorem Dev.orBits_st (f : Fld) (b i : Nat) : (d.orBits f b i).st = d.st := rfl
@[simp] theorem Dev.orBits_tb (f : Fld) (b i : Nat) : (d.orBits f b i).tb = d.tb := rfl
@[simp] theorem Dev.orBits_half (f : Fld) (b i : Nat) : (d.orBits f b i).half = d.half := rfl
@[simp] theorem Dev.orBits_host (f : Fld) (b i : Nat) : (d.orBits f b i).host = d.host := rfl
@[simp] theorem Dev.orBits_chan (f : Fld) (b i : Nat) : (d.orBits f b i).chan = d.chan := rfl
@[simp] theorem Dev.orBits_ev (f : Fld) (b i : Nat) : (d.orBits f b i).ev = d.ev := rfl
@[simp] theorem Dev.orBits_arch (f : Fld) (b i : Nat) : (d.orBits f b i).arch = d.arch := rfl
@[simp] theorem Dev.orBits_baro (f : Fld) (b i : Nat) : (d.orBits f b i).baro = d.baro := rfl
@[simp] theorem Dev.orBits_therm (f : Fld) (b i : Nat) : (d.orBits f b i).therm = d.therm := rfl
@[simp] theorem Dev.orBits_power (f : Fld) (b i : Nat) : (d.orBits f b i).power = d.power := rfl
@[simp] theorem Dev.orBits_arr (f : Fld) (b i : Nat) : (d.orBits f b i).arr = d.arr := rfl
@[simp] theorem Dev.orBits_conv (f : Fld) (b i : Nat) : (d.orBits f b i).conv = d.conv := rfl
@[simp] theorem Dev.orBits_clk (f : Fld) (b i : Nat) : (d.orBits f b i).clk = d.clk := rfl
@[simp] theorem Dev.orBits_lane (f : Fld) (b i : Nat) : (d.orBits f b i).lane = d.lane := rfl
@[simp] theorem Dev.orBits_pipe (f : Fld) (b i : Nat) : (d.orBits f b i).pipe = d.pipe := rfl
@[simp] theorem Dev.orBits_track (f : Fld) (b i : Nat) : (d.orBits f b i).track = d.track := rfl
@[simp] theorem Dev.orBits_cls (f : Fld) (b i : Nat) : (d.orBits f b i).cls = d.cls := rfl
@[simp] theorem Dev.orBits_eject (f : Fld) (b i : Nat) : (d.orBits f b i).eject = d.eject := rfl
@[simp] theorem Dev.orBits_engine (f : Fld) (b i : Nat) : (d.orBits f b i).engine = d.engine := rfl
@[simp] theorem Dev.orBits_timers (f : Fld) (b i : Nat) : (d.orBits f b i).timers = d.timers := rfl
@[simp] theorem Dev.orBits_aux (f : Fld) (b i : Nat) : (d.orBits f b i).aux = d.aux := rfl
@[simp] theorem Dev.orBits_faultInj (f : Fld) (b i : Nat) : (d.orBits f b i).faultInj = d.faultInj := rfl
@[simp] theorem Dev.orBits_faultTb (f : Fld) (b i : Nat) : (d.orBits f b i).faultTb = d.faultTb := rfl
@[simp] theorem Dev.orBits_out (f : Fld) (b i : Nat) : (d.orBits f b i).out = d.out := rfl
@[simp] theorem Dev.orBits_free (f : Fld) (b i : Nat) : (d.orBits f b i).free = d.free := rfl

@[simp] theorem Dev.count_st (f : Fld) (n i : Nat) : (d.count f n i).st = d.st := rfl
@[simp] theorem Dev.count_tb (f : Fld) (n i : Nat) : (d.count f n i).tb = d.tb := rfl
@[simp] theorem Dev.count_half (f : Fld) (n i : Nat) : (d.count f n i).half = d.half := rfl
@[simp] theorem Dev.count_host (f : Fld) (n i : Nat) : (d.count f n i).host = d.host := rfl
@[simp] theorem Dev.count_chan (f : Fld) (n i : Nat) : (d.count f n i).chan = d.chan := rfl
@[simp] theorem Dev.count_ev (f : Fld) (n i : Nat) : (d.count f n i).ev = d.ev := rfl
@[simp] theorem Dev.count_arch (f : Fld) (n i : Nat) : (d.count f n i).arch = d.arch := rfl
@[simp] theorem Dev.count_baro (f : Fld) (n i : Nat) : (d.count f n i).baro = d.baro := rfl
@[simp] theorem Dev.count_therm (f : Fld) (n i : Nat) : (d.count f n i).therm = d.therm := rfl
@[simp] theorem Dev.count_power (f : Fld) (n i : Nat) : (d.count f n i).power = d.power := rfl
@[simp] theorem Dev.count_arr (f : Fld) (n i : Nat) : (d.count f n i).arr = d.arr := rfl
@[simp] theorem Dev.count_conv (f : Fld) (n i : Nat) : (d.count f n i).conv = d.conv := rfl
@[simp] theorem Dev.count_clk (f : Fld) (n i : Nat) : (d.count f n i).clk = d.clk := rfl
@[simp] theorem Dev.count_lane (f : Fld) (n i : Nat) : (d.count f n i).lane = d.lane := rfl
@[simp] theorem Dev.count_pipe (f : Fld) (n i : Nat) : (d.count f n i).pipe = d.pipe := rfl
@[simp] theorem Dev.count_track (f : Fld) (n i : Nat) : (d.count f n i).track = d.track := rfl
@[simp] theorem Dev.count_cls (f : Fld) (n i : Nat) : (d.count f n i).cls = d.cls := rfl
@[simp] theorem Dev.count_eject (f : Fld) (n i : Nat) : (d.count f n i).eject = d.eject := rfl
@[simp] theorem Dev.count_engine (f : Fld) (n i : Nat) : (d.count f n i).engine = d.engine := rfl
@[simp] theorem Dev.count_timers (f : Fld) (n i : Nat) : (d.count f n i).timers = d.timers := rfl
@[simp] theorem Dev.count_aux (f : Fld) (n i : Nat) : (d.count f n i).aux = d.aux := rfl
@[simp] theorem Dev.count_faultInj (f : Fld) (n i : Nat) : (d.count f n i).faultInj = d.faultInj := rfl
@[simp] theorem Dev.count_faultTb (f : Fld) (n i : Nat) : (d.count f n i).faultTb = d.faultTb := rfl
@[simp] theorem Dev.count_out (f : Fld) (n i : Nat) : (d.count f n i).out = d.out := rfl
@[simp] theorem Dev.count_free (f : Fld) (n i : Nat) : (d.count f n i).free = d.free := rfl

@[simp] theorem Dev.setChan_st (g : Channel → Channel) : (d.setChan g).st = d.st := rfl
@[simp] theorem Dev.setChan_tb (g : Channel → Channel) : (d.setChan g).tb = d.tb := rfl
@[simp] theorem Dev.setChan_half (g : Channel → Channel) : (d.setChan g).half = d.half := rfl
@[simp] theorem Dev.setChan_params (g : Channel → Channel) : (d.setChan g).params = d.params := rfl
@[simp] theorem Dev.setChan_host (g : Channel → Channel) : (d.setChan g).host = d.host := rfl
@[simp] theorem Dev.setChan_ev (g : Channel → Channel) : (d.setChan g).ev = d.ev := rfl
@[simp] theorem Dev.setChan_arch (g : Channel → Channel) : (d.setChan g).arch = d.arch := rfl
@[simp] theorem Dev.setChan_baro (g : Channel → Channel) : (d.setChan g).baro = d.baro := rfl
@[simp] theorem Dev.setChan_therm (g : Channel → Channel) : (d.setChan g).therm = d.therm := rfl
@[simp] theorem Dev.setChan_power (g : Channel → Channel) : (d.setChan g).power = d.power := rfl
@[simp] theorem Dev.setChan_arr (g : Channel → Channel) : (d.setChan g).arr = d.arr := rfl
@[simp] theorem Dev.setChan_conv (g : Channel → Channel) : (d.setChan g).conv = d.conv := rfl
@[simp] theorem Dev.setChan_clk (g : Channel → Channel) : (d.setChan g).clk = d.clk := rfl
@[simp] theorem Dev.setChan_lane (g : Channel → Channel) : (d.setChan g).lane = d.lane := rfl
@[simp] theorem Dev.setChan_pipe (g : Channel → Channel) : (d.setChan g).pipe = d.pipe := rfl
@[simp] theorem Dev.setChan_track (g : Channel → Channel) : (d.setChan g).track = d.track := rfl
@[simp] theorem Dev.setChan_cls (g : Channel → Channel) : (d.setChan g).cls = d.cls := rfl
@[simp] theorem Dev.setChan_eject (g : Channel → Channel) : (d.setChan g).eject = d.eject := rfl
@[simp] theorem Dev.setChan_engine (g : Channel → Channel) : (d.setChan g).engine = d.engine := rfl
@[simp] theorem Dev.setChan_timers (g : Channel → Channel) : (d.setChan g).timers = d.timers := rfl
@[simp] theorem Dev.setChan_aux (g : Channel → Channel) : (d.setChan g).aux = d.aux := rfl
@[simp] theorem Dev.setChan_faultInj (g : Channel → Channel) : (d.setChan g).faultInj = d.faultInj := rfl
@[simp] theorem Dev.setChan_faultTb (g : Channel → Channel) : (d.setChan g).faultTb = d.faultTb := rfl
@[simp] theorem Dev.setChan_out (g : Channel → Channel) : (d.setChan g).out = d.out := rfl
@[simp] theorem Dev.setChan_free (g : Channel → Channel) : (d.setChan g).free = d.free := rfl

@[simp] theorem Dev.setSq_st (q : Nat) (x : Sq) : (d.setSq q x).st = d.st := rfl
@[simp] theorem Dev.setSq_tb (q : Nat) (x : Sq) : (d.setSq q x).tb = d.tb := rfl
@[simp] theorem Dev.setSq_half (q : Nat) (x : Sq) : (d.setSq q x).half = d.half := rfl
@[simp] theorem Dev.setSq_params (q : Nat) (x : Sq) : (d.setSq q x).params = d.params := rfl
@[simp] theorem Dev.setSq_host (q : Nat) (x : Sq) : (d.setSq q x).host = d.host := rfl
@[simp] theorem Dev.setSq_ev (q : Nat) (x : Sq) : (d.setSq q x).ev = d.ev := rfl
@[simp] theorem Dev.setSq_arch (q : Nat) (x : Sq) : (d.setSq q x).arch = d.arch := rfl
@[simp] theorem Dev.setSq_baro (q : Nat) (x : Sq) : (d.setSq q x).baro = d.baro := rfl
@[simp] theorem Dev.setSq_therm (q : Nat) (x : Sq) : (d.setSq q x).therm = d.therm := rfl
@[simp] theorem Dev.setSq_power (q : Nat) (x : Sq) : (d.setSq q x).power = d.power := rfl
@[simp] theorem Dev.setSq_arr (q : Nat) (x : Sq) : (d.setSq q x).arr = d.arr := rfl
@[simp] theorem Dev.setSq_conv (q : Nat) (x : Sq) : (d.setSq q x).conv = d.conv := rfl
@[simp] theorem Dev.setSq_clk (q : Nat) (x : Sq) : (d.setSq q x).clk = d.clk := rfl
@[simp] theorem Dev.setSq_lane (q : Nat) (x : Sq) : (d.setSq q x).lane = d.lane := rfl
@[simp] theorem Dev.setSq_pipe (q : Nat) (x : Sq) : (d.setSq q x).pipe = d.pipe := rfl
@[simp] theorem Dev.setSq_track (q : Nat) (x : Sq) : (d.setSq q x).track = d.track := rfl
@[simp] theorem Dev.setSq_cls (q : Nat) (x : Sq) : (d.setSq q x).cls = d.cls := rfl
@[simp] theorem Dev.setSq_eject (q : Nat) (x : Sq) : (d.setSq q x).eject = d.eject := rfl
@[simp] theorem Dev.setSq_engine (q : Nat) (x : Sq) : (d.setSq q x).engine = d.engine := rfl
@[simp] theorem Dev.setSq_timers (q : Nat) (x : Sq) : (d.setSq q x).timers = d.timers := rfl
@[simp] theorem Dev.setSq_aux (q : Nat) (x : Sq) : (d.setSq q x).aux = d.aux := rfl
@[simp] theorem Dev.setSq_faultInj (q : Nat) (x : Sq) : (d.setSq q x).faultInj = d.faultInj := rfl
@[simp] theorem Dev.setSq_faultTb (q : Nat) (x : Sq) : (d.setSq q x).faultTb = d.faultTb := rfl
@[simp] theorem Dev.setSq_out (q : Nat) (x : Sq) : (d.setSq q x).out = d.out := rfl
@[simp] theorem Dev.setSq_free (q : Nat) (x : Sq) : (d.setSq q x).free = d.free := rfl

@[simp] theorem Dev.setCq_st (q : Nat) (x : Cq) : (d.setCq q x).st = d.st := rfl
@[simp] theorem Dev.setCq_tb (q : Nat) (x : Cq) : (d.setCq q x).tb = d.tb := rfl
@[simp] theorem Dev.setCq_half (q : Nat) (x : Cq) : (d.setCq q x).half = d.half := rfl
@[simp] theorem Dev.setCq_params (q : Nat) (x : Cq) : (d.setCq q x).params = d.params := rfl
@[simp] theorem Dev.setCq_host (q : Nat) (x : Cq) : (d.setCq q x).host = d.host := rfl
@[simp] theorem Dev.setCq_ev (q : Nat) (x : Cq) : (d.setCq q x).ev = d.ev := rfl
@[simp] theorem Dev.setCq_arch (q : Nat) (x : Cq) : (d.setCq q x).arch = d.arch := rfl
@[simp] theorem Dev.setCq_baro (q : Nat) (x : Cq) : (d.setCq q x).baro = d.baro := rfl
@[simp] theorem Dev.setCq_therm (q : Nat) (x : Cq) : (d.setCq q x).therm = d.therm := rfl
@[simp] theorem Dev.setCq_power (q : Nat) (x : Cq) : (d.setCq q x).power = d.power := rfl
@[simp] theorem Dev.setCq_arr (q : Nat) (x : Cq) : (d.setCq q x).arr = d.arr := rfl
@[simp] theorem Dev.setCq_conv (q : Nat) (x : Cq) : (d.setCq q x).conv = d.conv := rfl
@[simp] theorem Dev.setCq_clk (q : Nat) (x : Cq) : (d.setCq q x).clk = d.clk := rfl
@[simp] theorem Dev.setCq_lane (q : Nat) (x : Cq) : (d.setCq q x).lane = d.lane := rfl
@[simp] theorem Dev.setCq_pipe (q : Nat) (x : Cq) : (d.setCq q x).pipe = d.pipe := rfl
@[simp] theorem Dev.setCq_track (q : Nat) (x : Cq) : (d.setCq q x).track = d.track := rfl
@[simp] theorem Dev.setCq_cls (q : Nat) (x : Cq) : (d.setCq q x).cls = d.cls := rfl
@[simp] theorem Dev.setCq_eject (q : Nat) (x : Cq) : (d.setCq q x).eject = d.eject := rfl
@[simp] theorem Dev.setCq_engine (q : Nat) (x : Cq) : (d.setCq q x).engine = d.engine := rfl
@[simp] theorem Dev.setCq_timers (q : Nat) (x : Cq) : (d.setCq q x).timers = d.timers := rfl
@[simp] theorem Dev.setCq_aux (q : Nat) (x : Cq) : (d.setCq q x).aux = d.aux := rfl
@[simp] theorem Dev.setCq_faultInj (q : Nat) (x : Cq) : (d.setCq q x).faultInj = d.faultInj := rfl
@[simp] theorem Dev.setCq_faultTb (q : Nat) (x : Cq) : (d.setCq q x).faultTb = d.faultTb := rfl
@[simp] theorem Dev.setCq_out (q : Nat) (x : Cq) : (d.setCq q x).out = d.out := rfl
@[simp] theorem Dev.setCq_free (q : Nat) (x : Cq) : (d.setCq q x).free = d.free := rfl

@[simp] theorem Dev.send_st (o : Outbound) : (d.send o).st = d.st := rfl
@[simp] theorem Dev.send_tb (o : Outbound) : (d.send o).tb = d.tb := rfl
@[simp] theorem Dev.send_half (o : Outbound) : (d.send o).half = d.half := rfl
@[simp] theorem Dev.send_params (o : Outbound) : (d.send o).params = d.params := rfl
@[simp] theorem Dev.send_host (o : Outbound) : (d.send o).host = d.host := rfl
@[simp] theorem Dev.send_chan (o : Outbound) : (d.send o).chan = d.chan := rfl
@[simp] theorem Dev.send_ev (o : Outbound) : (d.send o).ev = d.ev := rfl
@[simp] theorem Dev.send_arch (o : Outbound) : (d.send o).arch = d.arch := rfl
@[simp] theorem Dev.send_baro (o : Outbound) : (d.send o).baro = d.baro := rfl
@[simp] theorem Dev.send_therm (o : Outbound) : (d.send o).therm = d.therm := rfl
@[simp] theorem Dev.send_power (o : Outbound) : (d.send o).power = d.power := rfl
@[simp] theorem Dev.send_arr (o : Outbound) : (d.send o).arr = d.arr := rfl
@[simp] theorem Dev.send_conv (o : Outbound) : (d.send o).conv = d.conv := rfl
@[simp] theorem Dev.send_clk (o : Outbound) : (d.send o).clk = d.clk := rfl
@[simp] theorem Dev.send_lane (o : Outbound) : (d.send o).lane = d.lane := rfl
@[simp] theorem Dev.send_pipe (o : Outbound) : (d.send o).pipe = d.pipe := rfl
@[simp] theorem Dev.send_track (o : Outbound) : (d.send o).track = d.track := rfl
@[simp] theorem Dev.send_cls (o : Outbound) : (d.send o).cls = d.cls := rfl
@[simp] theorem Dev.send_eject (o : Outbound) : (d.send o).eject = d.eject := rfl
@[simp] theorem Dev.send_engine (o : Outbound) : (d.send o).engine = d.engine := rfl
@[simp] theorem Dev.send_timers (o : Outbound) : (d.send o).timers = d.timers := rfl
@[simp] theorem Dev.send_aux (o : Outbound) : (d.send o).aux = d.aux := rfl
@[simp] theorem Dev.send_faultInj (o : Outbound) : (d.send o).faultInj = d.faultInj := rfl
@[simp] theorem Dev.send_faultTb (o : Outbound) : (d.send o).faultTb = d.faultTb := rfl
@[simp] theorem Dev.send_free (o : Outbound) : (d.send o).free = d.free := rfl

end Sys2Proof.Machine
end

