-- ==== Sys2Proof/Laws/Link.lean ====
section
/-!
SUPPORT. What a host-link reset leaves (R45, R494), and what reports leave of the host link.
-/

namespace Sys2Proof.Machine

/-- What reports leave of the host link, from the whole of what they leave alone. -/
theorem Dev.still_host {d t : Dev} (h : t.still = d.still) : t.host.still = d.host.still := congrArg (·.1.2.2.2.2.1) h

theorem Dev.still_st {d t : Dev} (h : t.still = d.still) : t.st = d.st := congrArg (·.1.1) h

theorem Dev.log_tells (d : Dev) (kind source code data flags : Nat) : d.Tells (d.log kind source code data flags) :=
  Dev.holdLog_tells (raiseDeep_tells 8) _ _ _ _ _ _

/-- R45, R56: entries of the log for completions that wait for their queues are reports. -/
theorem Dev.logWaiting_tells (d : Dev) : d.Tells d.logWaiting :=
  Dev.Tells.foldl _ (fun d _ => .ite (.refl d) (d.log_tells _ _ _ _ _)) _ _

/-- R494: after a host-link reset no route leads to a vector or to the ring. -/
theorem Dev.clearRoutes_route (d : Dev) (n : Nat) :
    (d.clearRoutes.route n).getLsbD 0 = false ∧ (d.clearRoutes.route n).getLsbD 31 = false := by
  suffices h : ∀ (l st : Store), Store.wf routeDefault st = true →
      (∀ n, (Store.get routeDefault st n).getLsbD 0 = false ∧ (Store.get routeDefault st n).getLsbD 31 = false) →
      ∀ n, let r := l.foldl (fun st r => Store.put routeDefault st r.1 (r.2 &&& 0x7FFFFFFE)) st
        (Store.get routeDefault r n).getLsbD 0 = false ∧ (Store.get routeDefault r n).getLsbD 31 = false from
    h d.ev.route [] rfl (fun _ => by simp [Store.get, Store.find?, routeDefault]) n
  intro l
  induction l with
  | nil => intro st _ h; exact h
  | cons x xs ih =>
    intro st hw h
    refine ih _ (Store.put_wf hw) fun n => ?_
    rw [Store.get_put _ _ _ _ hw]
    split
    · simp
    · exact h n

theorem Dev.setWin_win (d : Dev) (w m : Nat) (x : Win) : (d.setWin w x).win m = if w % 64 = m % 64 then x else d.win m := by
  simp only [Dev.setWin, Dev.win, Vector.getElem_set]

/-- Windows detached one after another stay detached. -/
theorem Dev.detach_foldl (l : List Nat) (d : Dev) (w : Nat) (h : (d.win w).attached = false ∨ w % 64 ∈ l.map (· % 64)) :
    ((l.foldl (fun d w => d.setWin w (d.win w).detach) d).win w).attached = false := by
  induction l generalizing d with
  | nil => simpa using h
  | cons x xs ih =>
    refine ih _ ?_
    rw [Dev.setWin_win]
    by_cases e : x % 64 = w % 64
    · rw [if_pos e]; exact .inl rfl
    · rw [if_neg e]
      rcases h with h | h
      · exact .inl h
      · simp only [List.map_cons, List.mem_cons] at h
        exact h.elim (fun h => absurd h.symm e) .inr

/-- Parameter words and the host link are no part of the windows. -/
theorem Dev.noteAttached_arch (d : Dev) : d.noteAttached.arch = d.arch := by unfold Dev.noteAttached; simp

/-- R45: no window is attached after a host-link reset. -/
theorem Dev.detachAll_win (d : Dev) (w : Nat) : (d.detachAll.win w).attached = false := by
  unfold Dev.detachAll Dev.win
  simp only [Dev.noteAttached_arch]
  refine Dev.detach_foldl _ d w ?_
  have hm : d.win (w % 64) = d.win w := by simp only [Dev.win, Nat.mod_mod]
  cases h : (d.win w).attached
  · exact .inl rfl
  · refine .inr (List.mem_map.2 ⟨w % 64, ?_, Nat.mod_mod _ _⟩)
    simp only [List.mem_filter, List.mem_range]
    exact ⟨Nat.mod_lt _ (by decide), (congrArg Win.attached hm).trans h⟩

/-- Folds that leave something of the unit leave it. -/
theorem Dev.foldl_keeps {α β : Type} (g : Dev → β) (f : Dev → α → Dev) (hf : ∀ d a, g (f d a) = g d) (l : List α) (d : Dev) :
    g (l.foldl f d) = g d := by
  induction l generalizing d with
  | nil => rfl
  | cons x xs ih => exact (ih _).trans (hf d x)

/-- R45: disarming taps and the view stream changes what no write of a parameter word changes, the taps alone. -/
theorem Dev.disarm_keeps {β : Type} (g : Dev → β) (hp : ∀ (d : Dev) f v i, g (d.put f v i) = g d)
    (ht : ∀ d : Dev, g { d with pipe := { d.pipe with taps := [] } } = g d) (d : Dev) : g d.disarm = g d := by
  unfold Dev.disarm Dev.putFlag
  rw [hp]
  exact (Dev.foldl_keeps g _ (fun d a => hp d _ _ _) _ _).trans (ht d)

/-- R45: detaching windows. -/
theorem Dev.detachAll_keeps {β : Type} (g : Dev → β) (hp : ∀ (d : Dev) f v i, g (d.put f v i) = g d)
    (ha : ∀ (d : Dev) a, g { d with arch := a } = g d) (hh : ∀ (d : Dev) w n, g { d with host := { d.host with
      downWindows := w, dropLinkdown := n } } = g d) (d : Dev) : g d.detachAll = g d := by
  unfold Dev.detachAll Dev.noteAttached
  extract_lets on lost e lost' e' m
  rw [hp, hp]
  exact (hh _ _ _).trans ((ha e _).trans (Dev.foldl_keeps g (fun d w => d.setWin w (d.win w).detach) (fun d w => ha d _) _ _))

/-- What a host-link reset leaves (R45, R494): the queues and routes gone, the windows detached, the state as it was. -/
theorem Dev.linkGone (d : Dev) :
    let t := ((((d.configDefaults.orphan).dropQueues).clearRoutes).detachAll).disarm
    t.st = d.st ∧ t.host.autonomous = d.host.autonomous ∧ t.host.funcReady = false ∧
      (∀ n, (t.sq n).enable = false ∧ (t.cq n).enable = false) ∧ (∀ w, (t.win w).attached = false) ∧
      ∀ n, (t.route n).getLsbD 0 = false ∧ (t.route n).getLsbD 31 = false := by
  intro t
  have hq : d.configDefaults.orphan.logWaiting.still = d.configDefaults.orphan.still :=
    (Dev.logWaiting_tells d.configDefaults.orphan).1
  have hh := Dev.still_host hq
  have a1 := congrArg HostLink.autonomous hh
  have a2 := congrArg HostLink.funcReady hh
  have h1 : d.configDefaults.orphan.dropQueues.clearRoutes.host = d.configDefaults.orphan.logWaiting.host := rfl
  have ka : ∀ {β : Type} (g : Dev → β), (∀ (d : Dev) f v i, g (d.put f v i) = g d) →
      (∀ d : Dev, g { d with pipe := { d.pipe with taps := [] } } = g d) → (∀ (d : Dev) a, g { d with arch := a } = g d) →
      (∀ (d : Dev) w n, g { d with host := { d.host with downWindows := w, dropLinkdown := n } } = g d) →
      g t = g d.configDefaults.orphan.dropQueues.clearRoutes :=
    fun g hp ht ha hh => (Dev.disarm_keeps g hp ht _).trans (Dev.detachAll_keeps g hp ha hh _)
  refine ⟨(ka Dev.st (fun _ _ _ _ => rfl) (fun _ => rfl) (fun _ _ => rfl) (fun _ _ _ => rfl)).trans
    (Dev.still_st (d := d.configDefaults.orphan) (t := d.configDefaults.orphan.logWaiting) hq), ?_, ?_, ?_, ?_, ?_⟩
  · exact (ka (·.host.autonomous) (fun _ _ _ _ => rfl) (fun _ => rfl) (fun _ _ => rfl) (fun _ _ _ => rfl)).trans
      ((congrArg HostLink.autonomous h1).trans a1)
  · exact (ka (·.host.funcReady) (fun _ _ _ _ => rfl) (fun _ => rfl) (fun _ _ => rfl) (fun _ _ _ => rfl)).trans
      ((congrArg HostLink.funcReady h1).trans a2)
  · intro n
    have hc := ka Dev.chan (fun _ _ _ _ => rfl) (fun _ => rfl) (fun _ _ => rfl) (fun _ _ _ => rfl)
    clear_value t
    unfold Dev.sq Dev.cq
    rw [hc]
    simp [Dev.clearRoutes, Dev.dropQueues, Dev.setChan, Sq.zero, Cq.zero]
  · intro w
    have := Dev.disarm_keeps Dev.arch (fun _ _ _ _ => rfl) (fun _ => rfl) d.configDefaults.orphan.dropQueues.clearRoutes.detachAll
    exact (congrArg (fun a : Archive => (a.wins[w % 64]'(Nat.mod_lt _ (by decide))).attached) this).trans (Dev.detachAll_win _ w)
  · intro n
    have he := ka Dev.ev (fun _ _ _ _ => rfl) (fun _ => rfl) (fun _ _ => rfl) (fun _ _ _ => rfl)
    have := Dev.clearRoutes_route d.configDefaults.orphan.dropQueues n
    clear_value t
    unfold Dev.route at this ⊢
    rw [he]; exact this

/-- R34, R47: setting the power state of a function that is not ready keeps the rest, and its memory space answers nothing. -/
theorem Dev.linkGone_d3hot {st : UState} {auto : Bool} (b : Dev) (v : Bool)
    (h : b.st = st ∧ b.host.autonomous = auto ∧ b.host.funcReady = false ∧
      (∀ n, (b.sq n).enable = false ∧ (b.cq n).enable = false) ∧ (∀ w, (b.win w).attached = false) ∧
      ∀ n, (b.route n).getLsbD 0 = false ∧ (b.route n).getLsbD 31 = false) :
    let t := { b with host := { b.host with d3hot := v } };
    t.st = st ∧ t.host.autonomous = auto ∧ t.memoryOn = false ∧
      (∀ n, (t.sq n).enable = false ∧ (t.cq n).enable = false) ∧ (∀ w, (t.win w).attached = false) ∧
      ∀ n, (t.route n).getLsbD 0 = false ∧ (t.route n).getLsbD 31 = false :=
  ⟨h.1, h.2.1, by simp [Dev.memoryOn, h.2.2.1], h.2.2.2⟩

/-- R45, R47: what a host-link reset leaves, with the power state it gives the function. -/
theorem Dev.linkReset (d : Dev) (v : Bool) :
    let b := ((((d.configDefaults.orphan).dropQueues).clearRoutes).detachAll).disarm;
    let t := { b with host := { b.host with d3hot := v } };
    t.st = d.st ∧ t.host.autonomous = d.host.autonomous ∧ t.memoryOn = false ∧
      (∀ n, (t.sq n).enable = false ∧ (t.cq n).enable = false) ∧ (∀ w, (t.win w).attached = false) ∧
      ∀ n, (t.route n).getLsbD 0 = false ∧ (t.route n).getLsbD 31 = false :=
  Dev.linkGone_d3hot _ v (Dev.linkGone d)

end Sys2Proof.Machine
end

