-- ==== Sys2Proof/Laws/ParamsLines.lean ====
section
/-!
SUPPORT. The parameter words keep their canonical form under the operations of lines and the image path.
-/

set_option Elab.async false
set_option linter.unusedVariables false

namespace Sys2Proof.Machine

theorem Dev.setGroup_paramsWf (d : Dev) (x : ConvGroup) (h0 : d.paramsWf) : (Dev.setGroup d x).paramsWf := by
  grind [Dev.setGroup, Dev.paramsWf_upd]

theorem Dev.noSpare_paramsWf (d : Dev) (g : Nat) (v : Bool) (h0 : d.paramsWf) : (Dev.noSpare d g v).paramsWf := by
  grind [Dev.noSpare, Dev.paramsWf_upd, Dev.put_paramsWf, Dev.putBit_paramsWf, Dev.paramsWf_foldl, Dev.paramsWf_foldl1]

theorem Dev.calFailed_paramsWf (d : Dev) (g slice : Nat) (h0 : d.paramsWf) : (Dev.calFailed d g slice).paramsWf := by
  grind [Dev.calFailed, Dev.paramsWf_upd, Dev.orBits_paramsWf, Dev.put_paramsWf, Dev.raise_paramsWf]

theorem Dev.calStep_paramsWf (d : Dev) (cals : List SliceCal) (g : Nat) (h0 : d.paramsWf) : (Dev.calStep d cals g).paramsWf :=
    by
  grind [Dev.calStep, Dev.paramsWf_upd, Dev.calFailed_paramsWf, Dev.count_paramsWf, Dev.noSpare_paramsWf, Dev.orBits_paramsWf,
      Dev.raise_paramsWf, Dev.setGroup_paramsWf]

theorem Dev.confsAtLine_paramsWf (d : Dev) (line : Nat) (frameStart : Bool) (h0 : d.paramsWf) : (Dev.confsAtLine d line
    frameStart).paramsWf := by
  grind [Dev.confsAtLine, Dev.paramsWf_upd, Dev.setChan_paramsWf]

theorem Dev.cicBoundary_paramsWf (d : Dev) (old new : Conf) (h0 : d.paramsWf) : (Dev.cicBoundary d old new).paramsWf := by
  grind [Dev.cicBoundary, Dev.paramsWf_upd, Dev.count_paramsWf]

theorem Dev.confsAtEnd_paramsWf (d : Dev) (h0 : d.paramsWf) : (Dev.confsAtEnd d).paramsWf := by
  grind [Dev.confsAtEnd, Dev.paramsWf_upd, Dev.cicBoundary_paramsWf, Dev.setChan_paramsWf, Dev.tellHeads_paramsWf]

theorem Dev.foldConfs_paramsWf (d : Dev) (h0 : d.paramsWf) : (Dev.foldConfs d).paramsWf := by
  grind [Dev.foldConfs, Dev.paramsWf_upd, Dev.setChan_paramsWf]

theorem Dev.beginRun_paramsWf (d : Dev) (byStart : Bool) (first : Option Nat) (h0 : d.paramsWf) : (Dev.beginRun d byStart
    first).paramsWf := by
  grind [Dev.beginRun, Dev.paramsWf_upd, Dev.foldConfs_paramsWf, Dev.sendAlign_paramsWf]

theorem Dev.startRun_paramsWf (d : Dev) (byStart : Bool) (first : Option Nat) (h0 : d.paramsWf) : (Dev.startRun d byStart
    first).paramsWf := by
  grind [Dev.startRun, Dev.paramsWf_upd, Dev.beginRun_paramsWf]

theorem Dev.forgetRun_paramsWf (d : Dev) (h0 : d.paramsWf) : (Dev.forgetRun d).paramsWf := by
  grind [Dev.forgetRun, Dev.paramsWf_upd]

theorem Dev.cutFade_paramsWf (d : Dev) (c : Nat) (h0 : d.paramsWf) : (Dev.cutFade d c).paramsWf := by
  grind [Dev.cutFade, Dev.paramsWf_upd, Dev.count_paramsWf, Dev.put_paramsWf, Dev.putFlag_paramsWf, Dev.raise_paramsWf,
      Dev.touch_paramsWf]

theorem Dev.endTap_paramsWf (d : Dev) (t : Tap) (cause : Nat) (h0 : d.paramsWf) : (Dev.endTap d t cause).paramsWf := by
  grind [Dev.endTap, Dev.paramsWf_upd, Dev.putFlag_paramsWf, Dev.raise_paramsWf]

theorem Dev.endTaps_paramsWf (d : Dev) (which : Tap → Bool) (cause : Nat) (h0 : d.paramsWf) : (Dev.endTaps d which
    cause).paramsWf := by
  grind [Dev.endTaps, Dev.paramsWf_upd, Dev.endTap_paramsWf, Dev.paramsWf_foldl, Dev.paramsWf_foldl1]

theorem Dev.runTaps_paramsWf (d : Dev) (h0 : d.paramsWf) : (Dev.runTaps d).paramsWf := by
  grind [Dev.runTaps, Dev.paramsWf_upd, Dev.endTaps_paramsWf]

theorem Dev.stopLines_paramsWf (d : Dev) (h0 : d.paramsWf) : (Dev.stopLines d).paramsWf := by
  grind [Dev.stopLines, Dev.paramsWf_upd, Dev.confsAtEnd_paramsWf, Dev.cutFade_paramsWf, Dev.runTaps_paramsWf]

theorem Dev.markFrame_paramsWf (d : Dev) (h0 : d.paramsWf) : (Dev.markFrame d).paramsWf := by
  grind [Dev.markFrame, Dev.paramsWf_upd, Dev.count_paramsWf, Dev.raise_paramsWf]

theorem Dev.setStats_paramsWf (d : Dev) (h : Nat) (f : Stats → Stats) (h0 : d.paramsWf) : (Dev.setStats d h f).paramsWf := by
  grind [Dev.setStats, Dev.paramsWf_upd]

theorem Dev.markMixed_paramsWf (d : Dev) (h0 : d.paramsWf) : (Dev.markMixed d).paramsWf := by
  grind [Dev.markMixed, Dev.paramsWf_upd, Dev.setStats_paramsWf, Dev.paramsWf_foldl, Dev.paramsWf_foldl1]

theorem Dev.noteLine_paramsWf (d : Dev) (l : LineInfo) (h0 : d.paramsWf) : (Dev.noteLine d l).paramsWf := by
  grind [Dev.noteLine, Dev.paramsWf_upd, Dev.put_paramsWf]

theorem Dev.setHeadS_paramsWf (d : Dev) (h : Nat) (x : HeadS) (h0 : d.paramsWf) : (Dev.setHeadS d h x).paramsWf := by
  grind [Dev.setHeadS, Dev.paramsWf_upd]

theorem Dev.restartPaths_paramsWf (d : Dev) (first : Nat) (h0 : d.paramsWf) : (Dev.restartPaths d first).paramsWf := by
  grind [Dev.restartPaths, Dev.paramsWf_upd, Dev.count_paramsWf]

theorem Dev.fadeAtLine_paramsWf (d : Dev) (num : Nat) (newFrame : Bool) (h0 : d.paramsWf) : (Dev.fadeAtLine d num
    newFrame).paramsWf := by
  grind [Dev.fadeAtLine, Dev.paramsWf_upd, Dev.put_paramsWf]

theorem Dev.skipLines_paramsWf (d : Dev) (n m : Nat) (h0 : d.paramsWf) : (Dev.skipLines d n m).paramsWf := by
  induction n generalizing d with
  | zero => exact h0
  | succ k ih => exact ih _ (Dev.paramsWf_upd d h0 ..)

theorem Dev.expose_paramsWf (d : Dev) (c : Conf) (index : Nat) (h0 : d.paramsWf) : (Dev.expose d c index).1.paramsWf := by
  unfold Dev.expose
  extract_lets floors ws d1 p x d2 ws2 d3 d4
  have h1 : d1.paramsWf := by
    simp only [d1]; split
    · exact Dev.raise_paramsWf _ _ (Dev.orBits_paramsWf _ _ _ _ (Dev.orBits_paramsWf _ _ _ _ h0))
    · exact h0
  clear_value d1 p
  have h2 : d2.paramsWf := Dev.paramsWf_upd _ h1 ..
  clear_value d2
  refine Dev.paramsWf_foldl _ _ _ ?_ (fun a r ha => Dev.put_paramsWf _ _ _ _ ha)
  simp only [d4]; split
  · exact Dev.raise_paramsWf _ _ (Dev.orBits_paramsWf _ _ _ _ (Dev.orBits_paramsWf _ _ _ _ (Dev.put_paramsWf _ _ _ _
      (Dev.count_paramsWf _ _ _ _ h2))))
  · exact h2

theorem Dev.lineSetUp_paramsWf (d : Dev) (num : Nat) (first newFrame : Bool) (h0 : d.paramsWf) : (Dev.lineSetUp d num first
    newFrame).paramsWf := by
  grind [Dev.lineSetUp, Dev.paramsWf_upd, Dev.cicBoundary_paramsWf, Dev.confsAtLine_paramsWf, Dev.restartPaths_paramsWf,
      Dev.skipLines_paramsWf]

theorem Dev.lineFrame_paramsWf (d : Dev) (num frame : Nat) (first ends : Bool) (h0 : d.paramsWf) : (Dev.lineFrame d num frame
    first ends).paramsWf := by
  grind [Dev.lineFrame, Dev.paramsWf_upd]

theorem Dev.lineShown_paramsWf (d : Dev) (c : Conf) (num frame index : Nat) (h0 : d.paramsWf) : (Dev.lineShown d c num frame
    index).paramsWf := by
  unfold Dev.lineShown; dsimp only
  exact Dev.noteLine_paramsWf _ _ (Dev.paramsWf_upd _ (Dev.expose_paramsWf _ _ _ h0) ..)

theorem Dev.acceptLine_paramsWf (d : Dev) (num : Nat) (cals : List SliceCal) (h0 : d.paramsWf) : (Dev.acceptLine d num
    cals).paramsWf := by
  unfold Dev.acceptLine; dsimp only
  generalize (!d.arr.begun) = first
  have h1 : ∀ b, (d.lineSetUp num first b).paramsWf := fun b => Dev.lineSetUp_paramsWf d num first b h0
  generalize hf : (first || !first && d.frameEnds) = b
  replace h1 := h1 b
  revert h1
  generalize d.lineSetUp num first b = e
  intro h1
  have h2 : ∀ x y, ((e.lineFrame num x first y).fadeAtLine num b).paramsWf :=
    fun x y => Dev.fadeAtLine_paramsWf _ _ _ (Dev.lineFrame_paramsWf _ _ _ _ _ h1)
  refine Dev.paramsWf_ite (Dev.sendAlign_paramsWf _ ?_) ?_
  all_goals exact Dev.paramsWf_foldl _ _ _ (Dev.lineShown_paramsWf _ _ _ _ _ (h2 _ _)) (fun d g h => Dev.calStep_paramsWf _ _ _
      h)

theorem Dev.trigger_paramsWf (d : Dev) (sync : Option Nat) (cals : List SliceCal) (h0 : d.paramsWf) : (Dev.trigger d sync
    cals).paramsWf := by
  unfold Dev.trigger; (repeat' split) <;> (try dsimp only) <;> (try simp only [h0]) <;> grind [Dev.paramsWf_upd,
      Dev.acceptLine_paramsWf, Dev.count_paramsWf, Dev.raise_paramsWf]

theorem Dev.lineTrigger_paramsWf (d : Dev) (cals : List SliceCal) (h0 : d.paramsWf) : (Dev.lineTrigger d cals).paramsWf := by
  grind [Dev.lineTrigger, Dev.paramsWf_upd, Dev.trigger_paramsWf]

theorem Dev.acceptHeld_paramsWf (d : Dev) (cals : List SliceCal) (h0 : d.paramsWf) : (Dev.acceptHeld d cals).paramsWf := by
  grind [Dev.acceptHeld, Dev.paramsWf_upd, Dev.acceptLine_paramsWf]

theorem Dev.encEdge_paramsWf (d : Dev) (a b : Bool) (h0 : d.paramsWf) : (Dev.encEdge d a b).paramsWf := by
  grind [Dev.encEdge, Dev.paramsWf_upd]

theorem Dev.encZ_paramsWf (d : Dev) (h0 : d.paramsWf) : (Dev.encZ d).paramsWf := by
  grind [Dev.encZ, Dev.paramsWf_upd]

theorem Dev.trigStall_paramsWf (d : Dev) (h0 : d.paramsWf) : (Dev.trigStall d).paramsWf := by
  grind [Dev.trigStall, Dev.paramsWf_upd, Dev.orBits_paramsWf, Dev.raise_paramsWf]

theorem Dev.frameInLevel_paramsWf (d : Dev) (v : Bool) (h0 : d.paramsWf) : (Dev.frameInLevel d v).paramsWf := by
  grind [Dev.frameInLevel, Dev.paramsWf_upd, Dev.markFrame_paramsWf]

theorem Dev.setRxLane_paramsWf (d : Dev) (n : Nat) (x : Lane) (h0 : d.paramsWf) : (Dev.setRxLane d n x).paramsWf := by
  grind [Dev.setRxLane, Dev.paramsWf_upd]

theorem Dev.gflag_paramsWf (d : Dev) (g b : Nat) (h0 : d.paramsWf) : (Dev.gflag d g b).paramsWf := by
  grind [Dev.gflag, Dev.paramsWf_upd, Dev.orBits_paramsWf]

theorem Dev.noteLanes_paramsWf (d : Dev) (g : Nat) (h0 : d.paramsWf) : (Dev.noteLanes d g).paramsWf := by
  grind [Dev.noteLanes, Dev.paramsWf_upd, Dev.put_paramsWf, Dev.putFlag_paramsWf, Dev.paramsWf_foldl, Dev.paramsWf_foldl1]

theorem Dev.setDegraded_paramsWf (d : Dev) (g : Nat) (v : Bool) (h0 : d.paramsWf) : (Dev.setDegraded d g v).paramsWf := by
  grind [Dev.setDegraded, Dev.paramsWf_upd, Dev.gflag_paramsWf, Dev.putFlag_paramsWf, Dev.raise_paramsWf,
      Dev.setLaneGroup_paramsWf]

theorem Dev.groupDown_paramsWf (d : Dev) (g : Nat) (h0 : d.paramsWf) : (Dev.groupDown d g).paramsWf := by
  grind [Dev.groupDown, Dev.paramsWf_upd, Dev.putFlag_paramsWf, Dev.setDegraded_paramsWf]

theorem Dev.laneOut_paramsWf (d : Dev) (n : Nat) (h0 : d.paramsWf) : (Dev.laneOut d n).paramsWf := by
  unfold Dev.laneOut; dsimp only; (repeat' split) <;> grind [Dev.paramsWf_upd, Dev.groupDown_paramsWf, Dev.noteLanes_paramsWf,
      Dev.setDegraded_paramsWf, Dev.setRxLane_paramsWf]

theorem Dev.los_paramsWf (d : Dev) (n : Nat) (dip : Bool) (h0 : d.paramsWf) : (Dev.los d n dip).paramsWf := by
  grind [Dev.los, Dev.paramsWf_upd, Dev.gflag_paramsWf, Dev.laneOut_paramsWf, Dev.putBit_paramsWf, Dev.raise_paramsWf,
      Dev.setRxLane_paramsWf]

theorem Dev.lol_paramsWf (d : Dev) (n : Nat) (h0 : d.paramsWf) : (Dev.lol d n).paramsWf := by
  grind [Dev.lol, Dev.paramsWf_upd, Dev.gflag_paramsWf, Dev.laneOut_paramsWf, Dev.putBit_paramsWf, Dev.raise_paramsWf,
      Dev.setRxLane_paramsWf]

theorem Dev.phaseOut_paramsWf (d : Dev) (n : Nat) (h0 : d.paramsWf) : (Dev.phaseOut d n).paramsWf := by
  grind [Dev.phaseOut, Dev.paramsWf_upd, Dev.lol_paramsWf]

theorem Dev.laneLock_paramsWf (d : Dev) (n : Nat) (h0 : d.paramsWf) : (Dev.laneLock d n).paramsWf := by
  grind [Dev.laneLock, Dev.paramsWf_upd, Dev.putBit_paramsWf, Dev.setRxLane_paramsWf]

theorem Dev.wander_paramsWf (d : Dev) (n ppm : Nat) (h0 : d.paramsWf) : (Dev.wander d n ppm).paramsWf := by
  grind [Dev.wander, Dev.paramsWf_upd, Dev.gflag_paramsWf, Dev.raise_paramsWf]

theorem Dev.cabling_paramsWf (d : Dev) (g : Nat) (h0 : d.paramsWf) : (Dev.cabling d g).paramsWf := by
  grind [Dev.cabling, Dev.paramsWf_upd, Dev.gflag_paramsWf, Dev.raise_paramsWf]

theorem Dev.greetHeads_paramsWf (d : Dev) (g : Nat) (h0 : d.paramsWf) : (Dev.greetHeads d g).paramsWf := by
  grind [Dev.greetHeads, Dev.paramsWf_upd, Dev.control_paramsWf, Dev.paramsWf_foldl, Dev.paramsWf_foldl1]

theorem Dev.tryGroupUp_paramsWf (d : Dev) (g : Nat) (h0 : d.paramsWf) : (Dev.tryGroupUp d g).paramsWf := by
  unfold Dev.tryGroupUp; dsimp only; (repeat' split) <;> grind [Dev.paramsWf_upd, Dev.cabling_paramsWf, Dev.greetHeads_paramsWf,
      Dev.put_paramsWf, Dev.putFlag_paramsWf, Dev.setDegraded_paramsWf, Dev.setLaneGroup_paramsWf]

theorem Dev.rejoin_paramsWf (d : Dev) (g n : Nat) (h0 : d.paramsWf) : (Dev.rejoin d g n).paramsWf := by
  grind [Dev.rejoin, Dev.paramsWf_upd, Dev.cabling_paramsWf, Dev.noteLanes_paramsWf, Dev.putFlag_paramsWf,
      Dev.setLaneGroup_paramsWf, Dev.setRxLane_paramsWf]

theorem Dev.intervalBegins_paramsWf (d : Dev) (g n : Nat) (h0 : d.paramsWf) : (Dev.intervalBegins d g n).paramsWf := by
  grind [Dev.intervalBegins, Dev.paramsWf_upd, Dev.setDegraded_paramsWf]

theorem Dev.retryUp_paramsWf (d : Dev) (g : Nat) (h0 : d.paramsWf) : (Dev.retryUp d g).paramsWf := by
  grind [Dev.retryUp, Dev.paramsWf_upd, Dev.tryGroupUp_paramsWf]

theorem Dev.badMarker_paramsWf (d : Dev) (n : Nat) (h0 : d.paramsWf) : (Dev.badMarker d n).paramsWf := by
  grind [Dev.badMarker, Dev.paramsWf_upd, Dev.count_paramsWf, Dev.intervalBegins_paramsWf, Dev.lol_paramsWf,
      Dev.setRxLane_paramsWf]

theorem Dev.markerRead_paramsWf (d : Dev) (n : Nat) (inv : Bool) (lane gid seq arrived : Nat) (h0 : d.paramsWf) :
    (Dev.markerRead d n inv lane gid seq arrived).paramsWf := by
  unfold Dev.markerRead; dsimp only; (repeat' split) <;> grind [Dev.paramsWf_upd, Dev.badMarker_paramsWf,
      Dev.intervalBegins_paramsWf, Dev.noteLanes_paramsWf, Dev.putBit_paramsWf, Dev.rejoin_paramsWf, Dev.retryUp_paramsWf,
      Dev.setRxLane_paramsWf, Dev.tryGroupUp_paramsWf]

theorem Dev.marker_paramsWf (d : Dev) (n : Nat) (word : Option Nat) (arrived : Nat) (h0 : d.paramsWf) : (Dev.marker d n word
    arrived).paramsWf := by
  grind [Dev.marker, Dev.paramsWf_upd, Dev.badMarker_paramsWf, Dev.markerRead_paramsWf, Dev.put_paramsWf,
      Dev.setRxLane_paramsWf]

theorem Dev.receiveWords_paramsWf (d : Dev) (g pos : Nat) (intervals : List (List (List Bool))) (h0 : d.paramsWf) :
    (Dev.receiveWords d g pos intervals).1.paramsWf := by
  grind [Dev.receiveWords, Dev.paramsWf_upd, Dev.count_paramsWf, Dev.setRxLane_paramsWf, Dev.paramsWf_foldl,
      Dev.paramsWf_foldl1]

theorem Dev.noteLost_paramsWf (d : Dev) (h : Nat) (inj : Bool) (h0 : d.paramsWf) : (Dev.noteLost d h inj).paramsWf := by
  grind [Dev.noteLost, Dev.paramsWf_upd, Dev.setHeadS_paramsWf]

theorem Dev.packetLost_paramsWf (d : Dev) (g : Nat) (inj : Bool) (h0 : d.paramsWf) : (Dev.packetLost d g inj).paramsWf := by
  grind [Dev.packetLost, Dev.paramsWf_upd, Dev.count_paramsWf, Dev.gflag_paramsWf, Dev.raise_paramsWf]

theorem Dev.mailIn_paramsWf (d : Dev) (g box : Nat) (m : MailMsg) (h0 : d.paramsWf) : (Dev.mailIn d g box m).paramsWf := by
  grind [Dev.mailIn, Dev.paramsWf_upd, Dev.count_paramsWf, Dev.gflag_paramsWf, Dev.raise_paramsWf]

theorem Dev.joinHead_paramsWf (d : Dev) (h : Nat) (h0 : d.paramsWf) : (Dev.joinHead d h).paramsWf := by
  grind [Dev.joinHead, Dev.paramsWf_upd, Dev.setHeadS_paramsWf]

theorem Dev.hello_paramsWf (d : Dev) (g head w0 : Nat) (h0 : d.paramsWf) : (Dev.hello d g head w0).paramsWf := by
  grind [Dev.hello, Dev.paramsWf_upd, Dev.gflag_paramsWf, Dev.joinHead_paramsWf, Dev.orBits_paramsWf]

theorem Dev.controlIn_paramsWf (d : Dev) (g : Nat) (p : Packet) (h0 : d.paramsWf) : (Dev.controlIn d g p).paramsWf := by
  grind [Dev.controlIn, Dev.paramsWf_upd, Dev.hello_paramsWf, Dev.mailIn_paramsWf, Dev.packetLost_paramsWf]

theorem Dev.segmentIn_paramsWf (d : Dev) (g : Nat) (p : Packet) (h0 : d.paramsWf) : (Dev.segmentIn d g p).1.paramsWf := by
  grind [Dev.segmentIn, Dev.paramsWf_upd, Dev.packetLost_paramsWf]

theorem Dev.checkBlt_paramsWf (d : Dev) (h0 : d.paramsWf) : (Dev.checkBlt d).paramsWf := by
  grind [Dev.checkBlt, Dev.paramsWf_upd, Dev.putFlag_paramsWf, Dev.raise_paramsWf]

theorem Dev.txDrop_paramsWf (d : Dev) (g : Nat) (on : Bool) (h0 : d.paramsWf) : (Dev.txDrop d g on).paramsWf := by
  grind [Dev.txDrop, Dev.paramsWf_upd, Dev.finish_paramsWf, Dev.setLaneGroup_paramsWf, Dev.paramsWf_foldl, Dev.paramsWf_foldl1]

theorem Dev.dropGroup_paramsWf (d : Dev) (g : Nat) (h0 : d.paramsWf) : (Dev.dropGroup d g).paramsWf := by
  grind [Dev.dropGroup, Dev.paramsWf_upd, Dev.groupDown_paramsWf, Dev.noteLanes_paramsWf, Dev.setRxLane_paramsWf,
      Dev.paramsWf_foldl, Dev.paramsWf_foldl1]

theorem Dev.closeGroup_paramsWf (d : Dev) (g : Nat) (h0 : d.paramsWf) : (Dev.closeGroup d g).paramsWf := by
  grind [Dev.closeGroup, Dev.paramsWf_upd, Dev.dropGroup_paramsWf, Dev.put_paramsWf, Dev.putFlag_paramsWf,
      Dev.setLaneGroup_paramsWf, Dev.txDrop_paramsWf]

theorem Dev.lanesOff_paramsWf (d : Dev) (g : Nat) (h0 : d.paramsWf) : (Dev.lanesOff d g).paramsWf := by
  grind [Dev.lanesOff, Dev.paramsWf_upd, Dev.closeGroup_paramsWf, Dev.put_paramsWf, Dev.setRxLane_paramsWf, Dev.paramsWf_foldl,
      Dev.paramsWf_foldl1]

theorem Dev.applyBoard_paramsWf (d : Dev) (g : Nat) (h0 : d.paramsWf) : (Dev.applyBoard d g).paramsWf := by
  grind [Dev.applyBoard, Dev.paramsWf_upd, Dev.setLaneGroup_paramsWf]

theorem Dev.readDecls_paramsWf (d : Dev) (g : Nat) (h0 : d.paramsWf) : (Dev.readDecls d g).paramsWf := by
  grind [Dev.readDecls, Dev.paramsWf_upd, Dev.paramsWf_foldl, Dev.paramsWf_foldl1]

theorem Dev.trainGroup_paramsWf (d : Dev) (g : Nat) (cmd : Outst) (h0 : d.paramsWf) : (Dev.trainGroup d g cmd).paramsWf := by
  grind [Dev.trainGroup, Dev.paramsWf_upd, Dev.applyBoard_paramsWf, Dev.checkBlt_paramsWf, Dev.closeGroup_paramsWf,
      Dev.putFlag_paramsWf, Dev.readDecls_paramsWf, Dev.setLaneGroup_paramsWf]

theorem effLinkTrain_paramsWf (e : Entry) (d : Dev) (h0 : d.paramsWf) : (effLinkTrain e d).1.paramsWf := by
  grind [effLinkTrain, Dev.paramsWf_upd, Dev.closeGroup_paramsWf, Dev.trainGroup_paramsWf]

theorem Dev.trainDone_paramsWf (d : Dev) (g : Nat) (h0 : d.paramsWf) : (Dev.trainDone d g).paramsWf := by
  grind [Dev.trainDone, Dev.paramsWf_upd, Dev.finish_paramsWf, Dev.putFlag_paramsWf, Dev.setLaneGroup_paramsWf]

theorem effLinkStatus_paramsWf (e : Entry) (d : Dev) (h0 : d.paramsWf) : (effLinkStatus e d).1.paramsWf := by
  grind [effLinkStatus, Dev.paramsWf_upd]

theorem effLanePrbs_paramsWf (e : Entry) (d : Dev) (h0 : d.paramsWf) : (effLanePrbs e d).1.paramsWf := by
  grind [effLanePrbs, Dev.paramsWf_upd, Dev.closeGroup_paramsWf, Dev.putFlag_paramsWf, Dev.setLaneGroup_paramsWf,
      Dev.setRxLane_paramsWf, Dev.takeFree_paramsWf, Dev.paramsWf_foldl, Dev.paramsWf_foldl1]

theorem Dev.prbsError_paramsWf (d : Dev) (n : Nat) (h0 : d.paramsWf) : (Dev.prbsError d n).paramsWf := by
  grind [Dev.prbsError, Dev.paramsWf_upd, Dev.count_paramsWf, Dev.gflag_paramsWf, Dev.raise_paramsWf, Dev.setLaneGroup_paramsWf]

theorem Dev.prbsIn_paramsWf (d : Dev) (n : Nat) (bits : List Bool) (h0 : d.paramsWf) : (Dev.prbsIn d n bits).paramsWf := by
  grind [Dev.prbsIn, Dev.paramsWf_upd, Dev.prbsError_paramsWf, Dev.setRxLane_paramsWf, Dev.paramsWf_foldl, Dev.paramsWf_foldl1]

theorem effHeadControl_paramsWf (e : Entry) (d : Dev) (h0 : d.paramsWf) : (effHeadControl e d).1.paramsWf := by
  grind [effHeadControl, Dev.paramsWf_upd, Dev.control_paramsWf]

theorem Dev.armFlip_paramsWf (d : Dev) (g lane : Nat) (h0 : d.paramsWf) : (Dev.armFlip d g lane).paramsWf := by
  grind [Dev.armFlip, Dev.paramsWf_upd, Dev.setRxLane_paramsWf, Dev.paramsWf_foldl, Dev.paramsWf_foldl1]

theorem Dev.sendInterval_paramsWf (d : Dev) (g : Nat) (h0 : d.paramsWf) : (Dev.sendInterval d g).paramsWf := by
  grind [Dev.sendInterval, Dev.paramsWf_upd, Dev.finish_paramsWf, Dev.send_paramsWf, Dev.setLaneGroup_paramsWf,
      Dev.paramsWf_foldl, Dev.paramsWf_foldl1]

theorem Dev.sendPattern_paramsWf (d : Dev) (g n : Nat) (h0 : d.paramsWf) : (Dev.sendPattern d g n).paramsWf := by
  grind [Dev.sendPattern, Dev.paramsWf_upd, Dev.send_paramsWf, Dev.setLaneGroup_paramsWf, Dev.paramsWf_foldl,
      Dev.paramsWf_foldl1]

theorem Dev.sendLanes_paramsWf (d : Dev) (g : Nat) (h0 : d.paramsWf) : (Dev.sendLanes d g).paramsWf := by
  grind [Dev.sendLanes, Dev.paramsWf_upd, Dev.sendInterval_paramsWf, Dev.sendPattern_paramsWf, Dev.setLaneGroup_paramsWf]

theorem Dev.transmit_paramsWf (d : Dev) (h0 : d.paramsWf) : (Dev.transmit d).paramsWf := by
  grind [Dev.transmit, Dev.paramsWf_upd, Dev.sendLanes_paramsWf, Dev.paramsWf_foldl, Dev.paramsWf_foldl1]

theorem Dev.stream_paramsWf (d : Dev) (c : ArchClass) (w : Nat) (bytes : List Byte) (h0 : d.paramsWf) : (Dev.stream d c w
    bytes).1.paramsWf := by
  grind [Dev.stream, Dev.paramsWf_upd, Dev.charge_paramsWf, Dev.lostRecord_paramsWf, Dev.placeRecord_paramsWf,
      raiseDeep_paramsWf]

theorem Dev.setWaiting_paramsWf (c : ArchClass) (rs : List StreamRec) (d : Dev) (h0 : d.paramsWf) : (Dev.setWaiting c rs
    d).paramsWf := by
  unfold Dev.setWaiting; (repeat' split) <;> (try dsimp only) <;> (try simp only [h0]) <;> grind [Dev.paramsWf_upd]

theorem Dev.streamOut_paramsWf (c : ArchClass) (key : Nat) (d : Dev) (h0 : d.paramsWf) : (Dev.streamOut c key d).paramsWf := by
  unfold Dev.streamOut; (repeat' split) <;> (try dsimp only) <;> (try simp only [h0]) <;> grind [Dev.paramsWf_upd,
      Dev.count_paramsWf, Dev.setHeadS_paramsWf]

theorem Dev.streamLost_paramsWf (c : ArchClass) (key : Nat) (d : Dev) (h0 : d.paramsWf) : (Dev.streamLost c key d).paramsWf :=
    by
  unfold Dev.streamLost; (repeat' split) <;> (try dsimp only) <;> (try simp only [h0]) <;> grind [Dev.paramsWf_upd,
      Dev.count_paramsWf, Dev.lostBudget_paramsWf, Dev.orBits_paramsWf, Dev.raise_paramsWf, Dev.setHeadS_paramsWf]

theorem Dev.leave_paramsWf (c : ArchClass) (r : StreamRec) (d : Dev) (h0 : d.paramsWf) : (Dev.leave c r d).paramsWf := by
  grind [Dev.leave, Dev.paramsWf_upd, Dev.charge_paramsWf, Dev.placeRecord_paramsWf, Dev.streamLost_paramsWf,
      Dev.streamOut_paramsWf, raiseDeep_paramsWf]

theorem Dev.offer_paramsWf (c : ArchClass) (r : StreamRec) (d : Dev) (h0 : d.paramsWf) : (Dev.offer c r d).paramsWf := by
  grind [Dev.offer, Dev.paramsWf_upd, Dev.leave_paramsWf, Dev.lostRecord_paramsWf, Dev.setWaiting_paramsWf,
      Dev.streamLost_paramsWf]

theorem Dev.noteTap_paramsWf (d : Dev) (t : Tap) (armed : Bool) (h0 : d.paramsWf) : (Dev.noteTap d t armed).paramsWf := by
  grind [Dev.noteTap, Dev.paramsWf_upd, Dev.put_paramsWf, Dev.putFlag_paramsWf]

theorem Dev.setTap_paramsWf (d : Dev) (old new : Tap) (h0 : d.paramsWf) : (Dev.setTap d old new).paramsWf := by
  grind [Dev.setTap, Dev.paramsWf_upd]

theorem Dev.tapOne_paramsWf (d : Dev) (t : Tap) (make : Tap → TapLine) (h0 : d.paramsWf) : (Dev.tapOne d t make).paramsWf := by
  grind [Dev.tapOne, Dev.paramsWf_upd, Dev.endTap_paramsWf, Dev.offer_paramsWf, Dev.setTap_paramsWf, Dev.streamLost_paramsWf]

theorem Dev.tap_paramsWf (d : Dev) (point source : Nat) (make : Tap → TapLine) (h0 : d.paramsWf) : (Dev.tap d point source
    make).paramsWf := by
  grind [Dev.tap, Dev.paramsWf_upd, Dev.tapOne_paramsWf, Dev.paramsWf_foldl, Dev.paramsWf_foldl1]

theorem Dev.stopTap_paramsWf (d : Dev) (t : Tap) (h0 : d.paramsWf) : (Dev.stopTap d t).paramsWf := by
  unfold Dev.stopTap; (repeat' split) <;> (try dsimp only) <;> (try simp only [h0]) <;> grind [Dev.paramsWf_upd,
      Dev.endTap_paramsWf, Dev.setTap_paramsWf]

theorem effTapArm_paramsWf (e : Entry) (d : Dev) (h0 : d.paramsWf) : (effTapArm e d).1.paramsWf := by
  grind [effTapArm, Dev.paramsWf_upd, Dev.noteTap_paramsWf, Dev.stopTap_paramsWf]

theorem Dev.darkStep_paramsWf (d : Dev) (c : Conf) (row i : Nat) (first : Bool) (codes : List (Nat × Bool)) (h0 : d.paramsWf) :
    (Dev.darkStep d c row i first codes).paramsWf := by
  grind [Dev.darkStep, Dev.paramsWf_upd, Dev.orBits_paramsWf, Dev.put_paramsWf, Dev.raise_paramsWf, Dev.paramsWf_foldl,
      Dev.paramsWf_foldl1]

theorem Dev.closeStats_paramsWf (d : Dev) (h : Nat) (short : Bool) (h0 : d.paramsWf) : (Dev.closeStats d h short).paramsWf := by
  grind [Dev.closeStats, Dev.paramsWf_upd, Dev.archive_paramsWf, Dev.count_paramsWf]

theorem Dev.openStats_paramsWf (d : Dev) (h : Nat) (l : LineInfo) (h0 : d.paramsWf) : (Dev.openStats d h l).paramsWf := by
  grind [Dev.openStats, Dev.paramsWf_upd, Dev.closeStats_paramsWf]

theorem effStatsRead_paramsWf (e : Entry) (d : Dev) (h0 : d.paramsWf) : (effStatsRead e d).1.paramsWf := by
  grind [effStatsRead, Dev.paramsWf_upd]

theorem Dev.headEvent_paramsWf (d : Dev) (source h : Nat) (flag : Fld) (counter : Option Fld) (inj : Bool) (h0 : d.paramsWf) :
    (Dev.headEvent d source h flag counter inj).paramsWf := by
  unfold Dev.headEvent; (repeat' split) <;> (try dsimp only) <;> (try simp only [h0]) <;> grind [Dev.paramsWf_upd,
      Dev.count_paramsWf, Dev.orBits_paramsWf, Dev.raise_paramsWf]

theorem Dev.markStats_paramsWf (d : Dev) (h : Nat) (f : Stats → Stats) (h0 : d.paramsWf) : (Dev.markStats d h f).paramsWf := by
  grind [Dev.markStats, Dev.paramsWf_upd, Dev.setStats_paramsWf]

theorem Dev.gather_paramsWf (d : Dev) (h : Nat) (v : CorrEnv) (l : RawLine) (black : SampLine) (h0 : d.paramsWf) : (Dev.gather d
    h v l black).paramsWf := by
  grind [Dev.gather, Dev.paramsWf_upd, Dev.put_paramsWf, Dev.paramsWf_foldl, Dev.paramsWf_foldl1]

theorem Dev.handleLine_paramsWf (d : Dev) (h : Nat) (l : RawLine) (r : LineRec) (t0 : List Nat) (ratio : List Nat) (info :
    LineInfo) (h0 : d.paramsWf) : (Dev.handleLine d h l r t0 ratio info).paramsWf := by
  grind [Dev.handleLine, Dev.paramsWf_upd, Dev.count_paramsWf, Dev.gather_paramsWf, Dev.headEvent_paramsWf,
      Dev.openStats_paramsWf, Dev.setHeadS_paramsWf, Dev.setStats_paramsWf, Dev.tap_paramsWf]

theorem Dev.handleMissing_paramsWf (d : Dev) (h n : Nat) (h0 : d.paramsWf) : (Dev.handleMissing d h n).paramsWf := by
  grind [Dev.handleMissing, Dev.paramsWf_upd, Dev.handleLine_paramsWf]

theorem Dev.checkGen_paramsWf (d : Dev) (h gen : Nat) (info : LineInfo) (h0 : d.paramsWf) : (Dev.checkGen d h gen info).paramsWf
    := by
  grind [Dev.checkGen, Dev.paramsWf_upd, Dev.orBits_paramsWf, Dev.raise_paramsWf, Dev.setStats_paramsWf]

theorem Dev.noteShape_paramsWf (d : Dev) (h : Nat) (short long planes inj : Bool) (h0 : d.paramsWf) : (Dev.noteShape d h short
    long planes inj).paramsWf := by
  grind [Dev.noteShape, Dev.paramsWf_upd, Dev.headEvent_paramsWf]

theorem Dev.handleSegment_paramsWf (d : Dev) (words : List Nat) (inj : Bool) (h0 : d.paramsWf) : (Dev.handleSegment d words
    inj).paramsWf := by
  grind [Dev.handleSegment, Dev.paramsWf_upd, Dev.checkGen_paramsWf, Dev.handleLine_paramsWf, Dev.headEvent_paramsWf,
      Dev.noteShape_paramsWf, Dev.setStats_paramsWf]

theorem Dev.handleEarly_paramsWf (d : Dev) (h : Nat) (h0 : d.paramsWf) : (Dev.handleEarly d h).paramsWf := by
  grind [Dev.handleEarly, Dev.paramsWf_upd, Dev.handleMissing_paramsWf, Dev.handleSegment_paramsWf, Dev.setHeadS_paramsWf,
      Dev.paramsWf_foldl, Dev.paramsWf_foldl1]

theorem Dev.take_paramsWf (d : Dev) (h n : Nat) (seg : Option (List Nat)) (inj : Bool) (h0 : d.paramsWf) : (Dev.take d h n seg
    inj).paramsWf := by
  grind [Dev.take, Dev.paramsWf_upd, Dev.handleEarly_paramsWf, Dev.setHeadS_paramsWf]

theorem Dev.declare_paramsWf (d : Dev) (h n : Nat) (h0 : d.paramsWf) : (Dev.declare d h n).paramsWf := by
  grind [Dev.declare, Dev.paramsWf_upd, Dev.headEvent_paramsWf, Dev.take_paramsWf]

theorem Dev.declareUpTo_paramsWf (d : Dev) (h upTo : Nat) (h0 : d.paramsWf) : (Dev.declareUpTo d h upTo).paramsWf := by
  grind [Dev.declareUpTo, Dev.paramsWf_upd, Dev.declare_paramsWf, Dev.paramsWf_foldl, Dev.paramsWf_foldl1]

theorem Dev.placeSegment_paramsWf (d : Dev) (words : List Nat) (inj : Bool) (h0 : d.paramsWf) : (Dev.placeSegment d words
    inj).paramsWf := by
  unfold Dev.placeSegment; (repeat' split) <;> (try dsimp only) <;> (try simp only [h0]) <;> grind [Dev.paramsWf_upd,
      Dev.declare_paramsWf, Dev.declareUpTo_paramsWf, Dev.headEvent_paramsWf, Dev.take_paramsWf]

theorem Dev.ingestSegment_paramsWf (d : Dev) (p : Packet) (h0 : d.paramsWf) : (Dev.ingestSegment d p).paramsWf := by
  grind [Dev.ingestSegment, Dev.paramsWf_upd, Dev.headEvent_paramsWf, Dev.noteLost_paramsWf, Dev.placeSegment_paramsWf]

theorem Dev.missingLine_paramsWf (d : Dev) (h : Nat) (h0 : d.paramsWf) : (Dev.missingLine d h).paramsWf := by
  grind [Dev.missingLine, Dev.paramsWf_upd, Dev.declare_paramsWf]

theorem Dev.glints_paramsWf (d : Dev) (k_ : Nat) (h0 : d.paramsWf) : (Dev.glints d k_).paramsWf := by
  induction k_ generalizing d with
  | zero => exact h0
  | succ k ih => exact ih _ (Dev.raise_paramsWf _ _ (Dev.orBits_paramsWf _ _ _ _ (Dev.count_paramsWf _ _ _ _ h0)))

theorem Dev.head0Line_paramsWf (d : Dev) (charges : List (List Int)) (trips : List (Nat × Nat)) (h0 : d.paramsWf) :
    (Dev.head0Line d charges trips).paramsWf := by
  grind [Dev.head0Line, Dev.paramsWf_upd, Dev.darkStep_paramsWf, Dev.declareUpTo_paramsWf, Dev.glints_paramsWf,
      Dev.handleLine_paramsWf, Dev.setHeadS_paramsWf, Dev.setStats_paramsWf, Dev.take_paramsWf, Dev.paramsWf_foldl,
      Dev.paramsWf_foldl1]

theorem Dev.clipped_paramsWf (d : Dev) (h n : Nat) (h0 : d.paramsWf) : (Dev.clipped d h n).paramsWf := by
  grind [Dev.clipped, Dev.paramsWf_upd, Dev.count_paramsWf, Dev.orBits_paramsWf, Dev.raise_paramsWf]

theorem Dev.viewLine_paramsWf (d : Dev) (c : Conf) (h pad : Nat) (l : HLine) (h0 : d.paramsWf) : (Dev.viewLine d c h pad
    l).paramsWf := by
  grind [Dev.viewLine, Dev.paramsWf_upd, Dev.offer_paramsWf, Dev.setHeadS_paramsWf]

theorem Dev.tapT2_paramsWf (d : Dev) (h : Nat) (h0 : d.paramsWf) : (Dev.tapT2 d h).paramsWf := by
  grind [Dev.tapT2, Dev.paramsWf_upd, Dev.setHeadS_paramsWf, Dev.tap_paramsWf, Dev.paramsWf_foldl, Dev.paramsWf_foldl1]

theorem Dev.alignLine_paramsWf (d : Dev) (h n : Nat) (h0 : d.paramsWf) : (Dev.alignLine d h n).paramsWf := by
  grind [Dev.alignLine, Dev.paramsWf_upd, Dev.clipped_paramsWf, Dev.setHeadS_paramsWf, Dev.tapT2_paramsWf,
      Dev.viewLine_paramsWf]

theorem Dev.fadeCheck_paramsWf (d : Dev) (h0 : d.paramsWf) : (Dev.fadeCheck d).paramsWf := by
  grind [Dev.fadeCheck, Dev.paramsWf_upd, Dev.count_paramsWf, Dev.putFlag_paramsWf, Dev.raise_paramsWf, Dev.touch_paramsWf]

theorem Dev.alignSome_paramsWf (d : Dev) (h : Nat) (k_ : Nat) (h0 : d.paramsWf) : (Dev.alignSome d h k_).paramsWf := by
  induction k_ generalizing d with
  | zero => exact h0
  | succ k ih =>
    unfold Dev.alignSome; dsimp only
    split
    · exact ih _ (Dev.alignLine_paramsWf _ _ _ h0)
    · exact h0

theorem Dev.pump_paramsWf (d : Dev) (h : Nat) (h0 : d.paramsWf) : (Dev.pump d h).paramsWf := by
  grind [Dev.pump, Dev.paramsWf_upd, Dev.alignSome_paramsWf, Dev.fadeCheck_paramsWf, Dev.handleEarly_paramsWf,
      Dev.tapT2_paramsWf]

theorem effBankSwap_paramsWf (e : Entry) (d : Dev) (h0 : d.paramsWf) : (effBankSwap e d).1.paramsWf := by
  grind [effBankSwap, Dev.paramsWf_upd, Dev.count_paramsWf, Dev.put_paramsWf, Dev.putFlag_paramsWf, Dev.raise_paramsWf]

theorem Dev.setFaceS_paramsWf (d : Dev) (f : Nat) (x : FaceS) (h0 : d.paramsWf) : (Dev.setFaceS d f x).paramsWf := by
  grind [Dev.setFaceS, Dev.paramsWf_upd]

theorem Dev.noteBlind_paramsWf (d : Dev) (n : Nat) (width : Nat) (s : Source) (h0 : d.paramsWf) : (Dev.noteBlind d n width
    s).paramsWf := by
  grind [Dev.noteBlind, Dev.paramsWf_upd, Dev.putBit_paramsWf, Dev.raise_paramsWf, Dev.setHeadS_paramsWf, Dev.paramsWf_foldl,
      Dev.paramsWf_foldl1]

theorem Dev.dropUnplaced_paramsWf (d : Dev) (c : Conf) (h0 : d.paramsWf) : (Dev.dropUnplaced d c).paramsWf := by
  grind [Dev.dropUnplaced, Dev.paramsWf_upd, Dev.putBit_paramsWf, Dev.setHeadS_paramsWf, Dev.paramsWf_foldl,
      Dev.paramsWf_foldl1]

theorem Dev.noteLate_paramsWf (d : Dev) (f n : Nat) (h0 : d.paramsWf) : (Dev.noteLate d f n).paramsWf := by
  grind [Dev.noteLate, Dev.paramsWf_upd, Dev.count_paramsWf, Dev.orBits_paramsWf, Dev.raise_paramsWf]

theorem Dev.assemble_paramsWf (d : Dev) (f : Nat) (l : LineInfo) (h0 : d.paramsWf) : (Dev.assemble d f l).1.paramsWf := by
  grind [Dev.assemble, Dev.paramsWf_upd, Dev.dropUnplaced_paramsWf, Dev.noteBlind_paramsWf, Dev.noteLate_paramsWf,
      Dev.put_paramsWf, Dev.setFaceS_paramsWf, Dev.paramsWf_foldl, Dev.paramsWf_foldl1]

theorem Dev.toLineRing_paramsWf (d : Dev) (f : Nat) (l : FaceLine) (h0 : d.paramsWf) : (Dev.toLineRing d f l).paramsWf := by
  grind [Dev.toLineRing, Dev.paramsWf_upd, Dev.setFaceS_paramsWf, Dev.take_paramsWf]

theorem Dev.tapFace_paramsWf (d : Dev) (f : Nat) (l : FaceLine) (classes : List Nat) (h0 : d.paramsWf) : (Dev.tapFace d f l
    classes).paramsWf := by
  grind [Dev.tapFace, Dev.paramsWf_upd, Dev.take_paramsWf, Dev.tap_paramsWf, Dev.paramsWf_foldl, Dev.paramsWf_foldl1]

theorem Dev.writeReservation_paramsWf (d : Dev) (h0 : d.paramsWf) : (Dev.writeReservation d).paramsWf := by
  grind [Dev.writeReservation, Dev.paramsWf_upd]

theorem Dev.takeSeq_paramsWf (d : Dev) (h0 : d.paramsWf) : (Dev.takeSeq d).1.paramsWf := by
  grind [Dev.takeSeq, Dev.paramsWf_upd, Dev.writeReservation_paramsWf]

theorem Dev.modObj_paramsWf (d : Dev) (seq : Nat) (g : Obj → Obj) (h0 : d.paramsWf) : (Dev.modObj d seq g).paramsWf := by
  grind [Dev.modObj, Dev.paramsWf_upd]

theorem Dev.modStorm_paramsWf (d : Dev) (seq : Nat) (g : Storm → Storm) (h0 : d.paramsWf) : (Dev.modStorm d seq g).paramsWf :=
    by
  grind [Dev.modStorm, Dev.paramsWf_upd]

theorem Dev.noteOpen_paramsWf (d : Dev) (c : Conf) (h0 : d.paramsWf) : (Dev.noteOpen d c).paramsWf := by
  grind [Dev.noteOpen, Dev.paramsWf_upd, Dev.orBits_paramsWf, Dev.put_paramsWf, Dev.raise_paramsWf]

theorem Dev.rearmHigh_paramsWf (d : Dev) (c : Conf) (h0 : d.paramsWf) : (Dev.rearmHigh d c).paramsWf := by
  grind [Dev.rearmHigh, Dev.paramsWf_upd]

theorem Dev.objRecord_paramsWf (d : Dev) (bytes : List Byte) (h0 : d.paramsWf) : (Dev.objRecord d bytes).paramsWf := by
  grind [Dev.objRecord, Dev.paramsWf_upd, Dev.archive_paramsWf]

theorem Dev.stormCols_paramsWf (d : Dev) (c : Conf) (f z : Nat) (run : Option (Nat × Nat)) (h0 : d.paramsWf) : (Dev.stormCols d
    c f z run).1.paramsWf := by
  grind [Dev.stormCols, Dev.paramsWf_upd, Dev.takeFree_paramsWf]

theorem Dev.enterStorm_paramsWf (d : Dev) (c : Conf) (f z n : Nat) (run : Option (Nat × Nat)) (h0 : d.paramsWf) :
    (Dev.enterStorm d c f z n run).paramsWf := by
  grind [Dev.enterStorm, Dev.paramsWf_upd, Dev.count_paramsWf, Dev.objRecord_paramsWf, Dev.orBits_paramsWf, Dev.raise_paramsWf,
      Dev.stormCols_paramsWf, Dev.takeSeq_paramsWf]

theorem Dev.exitStorm_paramsWf (d : Dev) (line cause : Nat) (s : Storm) (h0 : d.paramsWf) : (Dev.exitStorm d line cause
    s).paramsWf := by
  grind [Dev.exitStorm, Dev.paramsWf_upd, Dev.objRecord_paramsWf, Dev.raise_paramsWf]

theorem Dev.stormCheck_paramsWf (d : Dev) (h0 : d.paramsWf) : (Dev.stormCheck d).paramsWf := by
  grind [Dev.stormCheck, Dev.paramsWf_upd, Dev.exitStorm_paramsWf, Dev.paramsWf_foldl, Dev.paramsWf_foldl1]

theorem Dev.endStorms_paramsWf (d : Dev) (c : Conf) (f n : Nat) (h0 : d.paramsWf) : (Dev.endStorms d c f n).paramsWf := by
  grind [Dev.endStorms, Dev.paramsWf_upd, Dev.exitStorm_paramsWf, Dev.paramsWf_foldl, Dev.paramsWf_foldl1]

theorem Dev.openObj_paramsWf (d : Dev) (c : Conf) (l : Labels) (z : Nat) (pred : Option Nat) (touch : Bool) (h0 : d.paramsWf) :
    (Dev.openObj d c l z pred touch).1.paramsWf := by
  grind [Dev.openObj, Dev.paramsWf_upd, Dev.count_paramsWf, Dev.noteOpen_paramsWf, Dev.orBits_paramsWf, Dev.raise_paramsWf,
      Dev.takeSeq_paramsWf, Dev.touch_paramsWf]

theorem Dev.absorb_paramsWf (d : Dev) (l : Labels) (into gone : Nat) (h0 : d.paramsWf) : (Dev.absorb d l into gone).1.paramsWf
    := by
  grind [Dev.absorb, Dev.paramsWf_upd, Dev.count_paramsWf, Dev.modObj_paramsWf]

theorem Dev.takeRun_paramsWf (c : Conf) (dl : Dev × Labels) (run : Nat × Nat) (h0 : dl.1.paramsWf) : (Dev.takeRun c dl
    run).1.paramsWf := by
  grind [Dev.takeRun, Dev.paramsWf_upd, Dev.absorb_paramsWf, Dev.count_paramsWf, Dev.enterStorm_paramsWf, Dev.modObj_paramsWf,
      Dev.modStorm_paramsWf, Dev.openObj_paramsWf, Dev.touch_paramsWf, Dev.paramsWf_foldl, Dev.paramsWf_foldl1]

theorem Dev.takePixels_paramsWf (d : Dev) (c : Conf) (l : Labels) (fl : FaceLine) (cls : List Nat) (idx : List (List Nat)) (h0 :
    d.paramsWf) : (Dev.takePixels d c l fl cls idx).paramsWf := by
  grind [Dev.takePixels, Dev.paramsWf_upd, Dev.modObj_paramsWf, Dev.setFaceS_paramsWf, Dev.paramsWf_foldl, Dev.paramsWf_foldl1]

theorem Dev.labelLine_paramsWf (d : Dev) (fl : FaceLine) (f : Nat) (cls : List Nat) (idx : List (List Nat)) (h0 : d.paramsWf) :
    (Dev.labelLine d fl f cls idx).1.paramsWf := by
  grind [Dev.labelLine, Dev.paramsWf_upd, Dev.count_paramsWf, Dev.endStorms_paramsWf, Dev.enterStorm_paramsWf,
      Dev.orBits_paramsWf, Dev.raise_paramsWf, Dev.rearmHigh_paramsWf, Dev.takePixels_paramsWf, Dev.takeRun_paramsWf,
      Dev.paramsWf_foldl, Dev.paramsWf_foldl1]

theorem Dev.stopFace_paramsWf (d : Dev) (f cause : Nat) (h0 : d.paramsWf) : (Dev.stopFace d f cause).1.paramsWf := by
  grind [Dev.stopFace, Dev.paramsWf_upd, Dev.exitStorm_paramsWf, Dev.modObj_paramsWf, Dev.rearmHigh_paramsWf,
      Dev.setFaceS_paramsWf, Dev.paramsWf_foldl, Dev.paramsWf_foldl1]

end Sys2Proof.Machine
end

