-- ==== Sys2Proof/Laws/ParamsObjects.lean ====
section
/-!
SUPPORT. The parameter words keep their canonical form under the operations of objects, verdicts, valves and engines.
-/

set_option Elab.async false
set_option linter.unusedVariables false

namespace Sys2Proof.Machine

theorem Dev.setEject_paramsWf (d : Dev) (g : EjectS → EjectS) (h0 : d.paramsWf) : (Dev.setEject d g).paramsWf := by
  grind [Dev.setEject, Dev.paramsWf_upd]

theorem Dev.putWins_paramsWf (d : Dev) (ws : List ValveWin) (h0 : d.paramsWf) : (Dev.putWins d ws).paramsWf := by
  grind [Dev.putWins, Dev.paramsWf_upd, Dev.count_paramsWf, Dev.put_paramsWf, Dev.setEject_paramsWf]

theorem Dev.dropWins_paramsWf (d : Dev) (which : ValveWin → Bool) (h0 : d.paramsWf) : (Dev.dropWins d which).paramsWf := by
  grind [Dev.dropWins, Dev.paramsWf_upd, Dev.count_paramsWf, Dev.setEject_paramsWf]

theorem Dev.emptyStore_paramsWf (d : Dev) (h0 : d.paramsWf) : (Dev.emptyStore d).paramsWf := by
  grind [Dev.emptyStore, Dev.paramsWf_upd, Dev.dropWins_paramsWf, Dev.setEject_paramsWf, Dev.paramsWf_foldl,
      Dev.paramsWf_foldl1]

theorem Dev.windowFull_paramsWf (d : Dev) (data : List (Nat × Nat)) (inj : Bool) (h0 : d.paramsWf) : (Dev.windowFull d data
    inj).paramsWf := by
  grind [Dev.windowFull, Dev.paramsWf_upd, Dev.orBits_paramsWf, Dev.raise_paramsWf]

theorem Dev.putHold_paramsWf (d : Dev) (v fOpen fEnd : Nat) (h0 : d.paramsWf) : (Dev.putHold d v fOpen fEnd).paramsWf := by
  grind [Dev.putHold, Dev.paramsWf_upd, Dev.setEject_paramsWf]

theorem Dev.endForecasts_paramsWf (d : Dev) (seqs : List Nat) (h0 : d.paramsWf) : (Dev.endForecasts d seqs).paramsWf := by
  grind [Dev.endForecasts, Dev.paramsWf_upd, Dev.dropWins_paramsWf, Dev.setEject_paramsWf]

theorem Dev.shoot_paramsWf (d : Dev) (group : Nat) (xs : List Shooter) (h0 : d.paramsWf) : (Dev.shoot d group xs).1.paramsWf :=
    by
  grind [Dev.shoot, Dev.paramsWf_upd, Dev.count_paramsWf, Dev.endForecasts_paramsWf, Dev.orBits_paramsWf, Dev.putWins_paramsWf,
      Dev.raise_paramsWf, Dev.setEject_paramsWf, Dev.windowFull_paramsWf, Dev.paramsWf_foldl, Dev.paramsWf_foldl1]

theorem Dev.fireForecast_paramsWf (d : Dev) (x : Shooter) (h0 : d.paramsWf) : (Dev.fireForecast d x).1.paramsWf := by
  grind [Dev.fireForecast, Dev.paramsWf_upd, Dev.count_paramsWf, Dev.putWins_paramsWf, Dev.windowFull_paramsWf]

theorem Dev.putSpan_paramsWf (d : Dev) (w : ValveWin) (joins : ValveWin → Bool) (face zone : Nat) (h0 : d.paramsWf) :
    (Dev.putSpan d w joins face zone).paramsWf := by
  grind [Dev.putSpan, Dev.paramsWf_upd, Dev.count_paramsWf, Dev.putWins_paramsWf, Dev.setEject_paramsWf,
      Dev.windowFull_paramsWf]

theorem Dev.stormSpan_paramsWf (d : Dev) (c : Conf) (n : Nat) (s : Storm) (h0 : d.paramsWf) : (Dev.stormSpan d c n s).paramsWf
    := by
  unfold Dev.stormSpan; dsimp only
  refine Dev.paramsWf_foldl _ _ _ h0 (fun a v ha => ?_)
  split
  · exact Dev.putSpan_paramsWf _ _ _ _ _ ha
  · split
    · exact ha
    · exact Dev.putHold_paramsWf _ _ _ _ ha
  · exact ha

theorem Dev.blindSpans_paramsWf (d : Dev) (c : Conf) (f n before : Nat) (runs : List (Nat × Nat)) (h0 : d.paramsWf) :
    (Dev.blindSpans d c f n before runs).paramsWf := by
  unfold Dev.blindSpans
  generalize c.get (if f = 0 then Reg.BLIND_ACTION_FRONT else Reg.BLIND_ACTION_REAR) = action
  dsimp only
  split
  · exact h0
  · refine Dev.paramsWf_foldl _ _ _ ?_ (fun a v ha => ?_)
    · split
      · exact Dev.raise_paramsWf _ _ (Dev.orBits_paramsWf _ _ _ _ h0)
      · exact h0
    · split
      · exact Dev.putSpan_paramsWf _ _ _ _ _ ha
      · split
        · exact ha
        · exact Dev.putHold_paramsWf _ _ _ _ ha

theorem Dev.spans_paramsWf (d : Dev) (f n : Nat) (storms : List Storm) (blind : List (Nat × Nat)) (before : Nat) (h0 :
    d.paramsWf) : (Dev.spans d f n storms blind before).paramsWf := by
  grind [Dev.spans, Dev.paramsWf_upd, Dev.blindSpans_paramsWf, Dev.setFaceS_paramsWf, Dev.stormSpan_paramsWf,
      Dev.paramsWf_foldl, Dev.paramsWf_foldl1]

theorem Dev.noteHeld_paramsWf (d : Dev) (k : Nat) (h0 : d.paramsWf) : (Dev.noteHeld d k).paramsWf := by
  grind [Dev.noteHeld, Dev.paramsWf_upd, Dev.count_paramsWf, Dev.orBits_paramsWf, Dev.raise_paramsWf, Dev.setEject_paramsWf,
      Dev.paramsWf_foldl, Dev.paramsWf_foldl1]

theorem Dev.endCut_paramsWf (d : Dev) (k : Nat) (valves : List Nat) (h0 : d.paramsWf) : (Dev.endCut d k valves).paramsWf := by
  grind [Dev.endCut, Dev.paramsWf_upd, Dev.dropWins_paramsWf, Dev.setEject_paramsWf, Dev.paramsWf_foldl, Dev.paramsWf_foldl1]

theorem Dev.compose_paramsWf (d : Dev) (k : Nat) (h0 : d.paramsWf) : (Dev.compose d k).paramsWf := by
  grind [Dev.compose, Dev.paramsWf_upd, Dev.count_paramsWf, Dev.dropWins_paramsWf, Dev.endCut_paramsWf, Dev.noteHeld_paramsWf,
      Dev.orBits_paramsWf, Dev.raise_paramsWf, Dev.setEject_paramsWf, Dev.paramsWf_foldl, Dev.paramsWf_foldl1]

theorem Dev.valvesOff_paramsWf (d : Dev) (h0 : d.paramsWf) : (Dev.valvesOff d).paramsWf := by
  grind [Dev.valvesOff, Dev.paramsWf_upd, Dev.setEject_paramsWf]

theorem effValveTest_paramsWf (e : Entry) (d : Dev) (h0 : d.paramsWf) : (effValveTest e d).1.paramsWf := by
  grind [effValveTest, Dev.paramsWf_upd, Dev.count_paramsWf, Dev.dropWins_paramsWf, Dev.putWins_paramsWf,
      Dev.windowFull_paramsWf]

theorem Dev.endTest_paramsWf (d : Dev) (h0 : d.paramsWf) : (Dev.endTest d).paramsWf := by
  grind [Dev.endTest, Dev.paramsWf_upd, Dev.dropWins_paramsWf]

theorem Dev.setCls_paramsWf (d : Dev) (g : ClassS → ClassS) (h0 : d.paramsWf) : (Dev.setCls d g).paramsWf := by
  grind [Dev.setCls, Dev.paramsWf_upd]

theorem Dev.markDepth_paramsWf (d : Dev) (seq : Nat) (h0 : d.paramsWf) : (Dev.markDepth d seq).paramsWf := by
  grind [Dev.markDepth, Dev.paramsWf_upd]

theorem Dev.noteErrors_paramsWf (d : Dev) (seq : Nat) (inj : Bool) (errs : List (Nat × Nat)) (h0 : d.paramsWf) : (Dev.noteErrors
    d seq inj errs).paramsWf := by
  grind [Dev.noteErrors, Dev.paramsWf_upd, Dev.count_paramsWf, Dev.markDepth_paramsWf, Dev.orBits_paramsWf, Dev.put_paramsWf,
      Dev.raise_paramsWf, Dev.paramsWf_foldl, Dev.paramsWf_foldl1]

theorem Dev.holdEval_paramsWf (d : Dev) (x : Eval) (h0 : d.paramsWf) : (Dev.holdEval d x).paramsWf := by
  grind [Dev.holdEval, Dev.paramsWf_upd, Dev.put_paramsWf, Dev.setCls_paramsWf]

theorem Dev.setResult_paramsWf (d : Dev) (seq : Nat) (r : EvalResult) (h0 : d.paramsWf) : (Dev.setResult d seq r).paramsWf := by
  grind [Dev.setResult, Dev.paramsWf_upd]

theorem Dev.countYield_paramsWf (d : Dev) (i n : Nat) (h0 : d.paramsWf) : (Dev.countYield d i n).paramsWf := by
  grind [Dev.countYield, Dev.paramsWf_upd, Dev.setCls_paramsWf]

theorem Dev.countVerdict_paramsWf (d : Dev) (f k : Nat) (h0 : d.paramsWf) : (Dev.countVerdict d f k).paramsWf := by
  grind [Dev.countVerdict, Dev.paramsWf_upd, Dev.setCls_paramsWf]

theorem Dev.overload_paramsWf (d : Dev) (seq : Nat) (h0 : d.paramsWf) : (Dev.overload d seq).paramsWf := by
  grind [Dev.overload, Dev.paramsWf_upd, Dev.countYield_paramsWf, Dev.orBits_paramsWf, Dev.raise_paramsWf, Dev.setCls_paramsWf,
      Dev.setResult_paramsWf]

theorem Dev.dropEval_paramsWf (d : Dev) (x : Eval) (h0 : d.paramsWf) : (Dev.dropEval d x).paramsWf := by
  grind [Dev.dropEval, Dev.paramsWf_upd, Dev.setCls_paramsWf]

theorem Dev.readyVerdict_paramsWf (d : Dev) (x : Closed) (h0 : d.paramsWf) : (Dev.readyVerdict d x).paramsWf := by
  grind [Dev.readyVerdict, Dev.paramsWf_upd, Dev.dropEval_paramsWf, Dev.holdEval_paramsWf, Dev.overload_paramsWf]

theorem Dev.startEval_paramsWf (d : Dev) (h0 : d.paramsWf) : (Dev.startEval d).paramsWf := by
  grind [Dev.startEval, Dev.paramsWf_upd, Dev.setCls_paramsWf]

theorem Dev.modClosed_paramsWf (d : Dev) (which : Closed → Bool) (g : Closed → Closed) (h0 : d.paramsWf) : (Dev.modClosed d
    which g).paramsWf := by
  grind [Dev.modClosed, Dev.paramsWf_upd]

theorem Dev.endWaits_paramsWf (d : Dev) (which : Closed → Bool) (h0 : d.paramsWf) : (Dev.endWaits d which).paramsWf := by
  grind [Dev.endWaits, Dev.paramsWf_upd, Dev.count_paramsWf, Dev.modClosed_paramsWf]

theorem Dev.fuse_paramsWf (d : Dev) (x : Closed) (h0 : d.paramsWf) : (Dev.fuse d x).paramsWf := by
  grind [Dev.fuse, Dev.paramsWf_upd, Dev.count_paramsWf, Dev.endWaits_paramsWf, Dev.modClosed_paramsWf, Dev.orBits_paramsWf,
      Dev.raise_paramsWf]

theorem Dev.waitsAt_paramsWf (d : Dev) (f n : Nat) (h0 : d.paramsWf) : (Dev.waitsAt d f n).paramsWf := by
  grind [Dev.waitsAt, Dev.paramsWf_upd, Dev.endWaits_paramsWf]

theorem Dev.forecastOut_paramsWf (d : Dev) (r : FcRecord) (h0 : d.paramsWf) : (Dev.forecastOut d r).paramsWf := by
  grind [Dev.forecastOut, Dev.paramsWf_upd, Dev.offer_paramsWf]

theorem Dev.foldNotice_paramsWf (d : Dev) (n : Nat) (into : Nat) (o : Obj) (h0 : d.paramsWf) : (Dev.foldNotice d n into
    o).paramsWf := by
  grind [Dev.foldNotice, Dev.paramsWf_upd, Dev.forecastOut_paramsWf]

theorem Dev.provisionalResult_paramsWf (d : Dev) (h0 : d.paramsWf) : (Dev.provisionalResult d).paramsWf := by
  grind [Dev.provisionalResult, Dev.paramsWf_upd, Dev.dropEval_paramsWf, Dev.fireForecast_paramsWf, Dev.forecastOut_paramsWf,
      Dev.modObj_paramsWf, Dev.noteErrors_paramsWf]

theorem Dev.provisional_paramsWf (d : Dev) (f n step : Nat) (h0 : d.paramsWf) : (Dev.provisional d f n step).paramsWf := by
  grind [Dev.provisional, Dev.paramsWf_upd, Dev.holdEval_paramsWf, Dev.modObj_paramsWf, Dev.paramsWf_foldl, Dev.paramsWf_foldl1]

theorem Dev.fillChecks_paramsWf (d : Dev) (l : List (Option Nat)) (h0 : d.paramsWf) : (Dev.fillChecks d l).1.paramsWf := by
  induction l generalizing d with
  | nil => exact h0
  | cons x xs ih =>
    cases x with
    | some v => exact ih d h0
    | none => exact ih _ (Dev.takeFree_paramsWf d h0)

theorem Dev.digest_paramsWf (d : Dev) (f first last : Nat) (h0 : d.paramsWf) : (Dev.digest d f first last).1.paramsWf := by
  unfold Dev.digest; dsimp only
  split
  · exact h0
  · exact Dev.fillChecks_paramsWf _ _ h0

theorem Dev.chipGroup_paramsWf (d : Dev) (c : Conf) (h l0 last : Nat) (bs : List Byte) (h0 : d.paramsWf) : (Dev.chipGroup d c h
    l0 last bs).1.paramsWf := by
  grind [Dev.chipGroup, Dev.paramsWf_upd, Dev.fillChecks_paramsWf]

theorem Dev.chip_paramsWf (d : Dev) (x : HeldRec) (digest : Nat) (h0 : d.paramsWf) : (Dev.chip d x digest).1.paramsWf := by
  unfold Dev.chip; dsimp only
  split
  · exact h0
  · split
    · exact h0
    · exact Dev.paramsWf_foldl1 _ _ _ h0 (fun y h hy => Dev.chipGroup_paramsWf _ _ _ _ _ _ hy)

theorem Dev.dropHeld_paramsWf (d : Dev) (x : HeldRec) (h0 : d.paramsWf) : (Dev.dropHeld d x).paramsWf := by
  grind [Dev.dropHeld, Dev.paramsWf_upd, Dev.setCls_paramsWf]

theorem Dev.heldDigest_paramsWf (d : Dev) (x : HeldRec) (h0 : d.paramsWf) : (Dev.heldDigest d x).1.paramsWf := by
  have hd := Dev.digest_paramsWf d x.face (fw x.words 1) (fw x.words 57) h0
  unfold Dev.heldDigest
  split
  · exact h0
  · split
    · next heq => rw [heq] at hd; exact hd
    · next heq => rw [heq] at hd; exact Dev.paramsWf_upd _ hd ..

theorem Dev.releaseFrom_paramsWf (d : Dev) (l : List HeldRec) (h0 : d.paramsWf) : (Dev.releaseFrom d l).paramsWf := by
  induction l generalizing d with
  | nil => exact h0
  | cons x xs ih =>
    have hd := Dev.heldDigest_paramsWf d x h0
    unfold Dev.releaseFrom
    split
    · exact ih _ hd
    · split
      · next heq => rw [heq] at hd; exact hd
      · next heq => rw [heq] at hd; exact ih _ (Dev.objRecord_paramsWf _ _ (Dev.dropHeld_paramsWf _ _ hd))

theorem Dev.releaseRecords_paramsWf (d : Dev) (h0 : d.paramsWf) : (Dev.releaseRecords d).paramsWf := by
  grind [Dev.releaseRecords, Dev.paramsWf_upd, Dev.releaseFrom_paramsWf]

theorem Dev.chipUnavailable_paramsWf (d : Dev) (seq : Nat) (inj : Bool) (h0 : d.paramsWf) : (Dev.chipUnavailable d seq
    inj).paramsWf := by
  grind [Dev.chipUnavailable, Dev.paramsWf_upd, Dev.count_paramsWf, Dev.orBits_paramsWf, Dev.raise_paramsWf,
      Dev.takeFree_paramsWf]

theorem Dev.stageChip_paramsWf (d : Dev) (h0 : d.paramsWf) : (Dev.stageChip d).paramsWf := by
  unfold Dev.stageChip
  split
  · exact h0
  · next x hx =>
    have hd := Dev.heldDigest_paramsWf d x h0
    split
    · next heq => rw [heq] at hd; exact hd
    · next d1 v heq =>
      rw [heq] at hd
      have hc := Dev.chip_paramsWf (d1.dropHeld x) x v (Dev.dropHeld_paramsWf _ _ hd)
      dsimp only
      generalize Dev.chip (d1.dropHeld x) x v = c at hc ⊢
      have hg : ((c.1.objRecord (x.bytes v 2)).chipUnavailable x.seq x.inj).releaseRecords.paramsWf :=
        Dev.releaseRecords_paramsWf _ (Dev.chipUnavailable_paramsWf _ _ _ (Dev.objRecord_paramsWf _ _ hc))
      split
      · exact hg
      · next bytes hb =>
        split
        · exact Dev.paramsWf_ite (Dev.lostRecord_paramsWf _ _ hg) hg
        · split
          · exact Dev.lostBudget_paramsWf _ hg
          · have hs := Dev.stream_paramsWf (c.1.objRecord (x.bytes v 1)) .chip (c.1.get Reg.CHIP_WINDOW) bytes
              (Dev.objRecord_paramsWf _ _ hc)
            split
            · next hs' => rw [hs'] at hs; exact Dev.releaseRecords_paramsWf _ (Dev.count_paramsWf _ _ _ _ hs)
            · exact hg

theorem Dev.retract_paramsWf (d : Dev) (x : Closed) (f : Forecast) (v : Verdict) (s : Shot) (h0 : d.paramsWf) : (Dev.retract d x
    f v s).paramsWf := by
  grind [Dev.retract, Dev.paramsWf_upd, Dev.countYield_paramsWf, Dev.orBits_paramsWf, Dev.raise_paramsWf, Dev.setCls_paramsWf]

theorem Dev.settle_paramsWf (d : Dev) (x : Closed) (v : Verdict) (shots : List Shot) (h0 : d.paramsWf) : (Dev.settle d x v
    shots).paramsWf := by
  grind [Dev.settle, Dev.paramsWf_upd, Dev.forecastOut_paramsWf, Dev.retract_paramsWf, Dev.paramsWf_foldl, Dev.paramsWf_foldl1]

theorem Dev.giveVerdict_paramsWf (d : Dev) (xs : List Closed) (v : Verdict) (h0 : d.paramsWf) : (Dev.giveVerdict d xs
    v).paramsWf := by
  grind [Dev.giveVerdict, Dev.paramsWf_upd, Dev.countVerdict_paramsWf, Dev.countYield_paramsWf, Dev.endForecasts_paramsWf,
      Dev.orBits_paramsWf, Dev.raise_paramsWf, Dev.setCls_paramsWf, Dev.setEject_paramsWf, Dev.settle_paramsWf,
      Dev.shoot_paramsWf, Dev.paramsWf_foldl, Dev.paramsWf_foldl1]

theorem Dev.oneVerdict_paramsWf (d : Dev) (h0 : d.paramsWf) : ∀ t, Dev.oneVerdict d = some t → t.paramsWf := by
  grind [Dev.oneVerdict, Dev.paramsWf_upd, Dev.giveVerdict_paramsWf]

theorem Dev.formVerdicts_paramsWf (n : Nat) (d : Dev) (h0 : d.paramsWf) : (Dev.formVerdicts n d).paramsWf := by
  induction n generalizing d with
  | zero => exact h0
  | succ k ih =>
    unfold Dev.formVerdicts
    split
    · next t ht => exact ih _ (Dev.oneVerdict_paramsWf d h0 _ ht)
    · exact h0

theorem Dev.verdicts_paramsWf (d : Dev) (h0 : d.paramsWf) : (Dev.verdicts d).paramsWf := by
  grind [Dev.verdicts, Dev.paramsWf_upd, Dev.formVerdicts_paramsWf, Dev.releaseRecords_paramsWf]

theorem Dev.verdictDone_paramsWf (d : Dev) (h0 : d.paramsWf) : (Dev.verdictDone d).paramsWf := by
  grind [Dev.verdictDone, Dev.paramsWf_upd, Dev.dropEval_paramsWf, Dev.noteErrors_paramsWf, Dev.setResult_paramsWf,
      Dev.verdicts_paramsWf]

theorem Dev.classOverload_paramsWf (d : Dev) (h0 : d.paramsWf) : (Dev.classOverload d).paramsWf := by
  grind [Dev.classOverload, Dev.paramsWf_upd, Dev.dropEval_paramsWf, Dev.overload_paramsWf, Dev.verdicts_paramsWf]

theorem Dev.clearCounters_paramsWf (d : Dev) (cls yield shot : Bool) (h0 : d.paramsWf) : (Dev.clearCounters d cls yield
    shot).paramsWf := by
  grind [Dev.clearCounters, Dev.paramsWf_upd, Dev.setCls_paramsWf, Dev.verdicts_paramsWf]

theorem effCountersRead_paramsWf (e : Entry) (d : Dev) (h0 : d.paramsWf) : (effCountersRead e d).1.paramsWf := by
  grind [effCountersRead, Dev.paramsWf_upd, Dev.clearCounters_paramsWf, Dev.verdicts_paramsWf]

theorem effCountersClear_paramsWf (e : Entry) (d : Dev) (h0 : d.paramsWf) : (effCountersClear e d).1.paramsWf := by
  grind [effCountersClear, Dev.paramsWf_upd, Dev.clearCounters_paramsWf]

theorem Dev.closeObj_paramsWf (d : Dev) (n step : Nat) (tall stopped : Bool) (o : Obj) (h0 : d.paramsWf) : (Dev.closeObj d n
    step tall stopped o).paramsWf := by
  grind [Dev.closeObj, Dev.paramsWf_upd, Dev.count_paramsWf, Dev.fuse_paramsWf, Dev.readyVerdict_paramsWf]

theorem Dev.closeAll_paramsWf (d : Dev) (n : Nat) (stopped : Bool) (l : Labelled) (h0 : d.paramsWf) : (Dev.closeAll d n stopped
    l).paramsWf := by
  grind [Dev.closeAll, Dev.paramsWf_upd, Dev.closeObj_paramsWf, Dev.foldNotice_paramsWf, Dev.paramsWf_foldl,
      Dev.paramsWf_foldl1]

theorem Dev.endFace_paramsWf (d : Dev) (f cause : Nat) (h0 : d.paramsWf) : (Dev.endFace d f cause).paramsWf := by
  grind [Dev.endFace, Dev.paramsWf_upd, Dev.closeAll_paramsWf, Dev.stopFace_paramsWf]

theorem Dev.drained_paramsWf (d : Dev) (h0 : d.paramsWf) : (Dev.drained d).paramsWf := by
  grind [Dev.drained, Dev.paramsWf_upd, Dev.closeStats_paramsWf, Dev.endFace_paramsWf, Dev.endTaps_paramsWf,
      Dev.endWaits_paramsWf, Dev.verdicts_paramsWf, Dev.paramsWf_foldl, Dev.paramsWf_foldl1]

theorem Dev.drainCheck_paramsWf (d : Dev) (h0 : d.paramsWf) : (Dev.drainCheck d).paramsWf := by
  grind [Dev.drainCheck, Dev.paramsWf_upd, Dev.drained_paramsWf, Dev.endFace_paramsWf, Dev.verdicts_paramsWf]

theorem Dev.forgetLines_paramsWf (d : Dev) (c : Nat) (h0 : d.paramsWf) : (Dev.forgetLines d c).paramsWf := by
  grind [Dev.forgetLines, Dev.paramsWf_upd, Dev.count_paramsWf, Dev.settle_paramsWf]

theorem Dev.forgetIdle_paramsWf (d : Dev) (h0 : d.paramsWf) : (Dev.forgetIdle d).paramsWf := by
  grind [Dev.forgetIdle, Dev.paramsWf_upd, Dev.count_paramsWf, Dev.emptyStore_paramsWf, Dev.settle_paramsWf]

theorem Dev.flushAt_paramsWf (d : Dev) (f : Flush) (h0 : d.paramsWf) : (Dev.flushAt d f).paramsWf := by
  grind [Dev.flushAt, Dev.paramsWf_upd, Dev.emptyStore_paramsWf, Dev.endFace_paramsWf, Dev.endWaits_paramsWf,
      Dev.forgetLines_paramsWf, Dev.pump_paramsWf, Dev.verdicts_paramsWf, Dev.paramsWf_foldl, Dev.paramsWf_foldl1]

theorem Dev.flushEnd_paramsWf (d : Dev) (g : Flush) (h0 : d.paramsWf) : (Dev.flushEnd d g).paramsWf := by
  grind [Dev.flushEnd, Dev.paramsWf_upd, Dev.finish_paramsWf]

theorem Dev.flushCheck_paramsWf (d : Dev) (h0 : d.paramsWf) : (Dev.flushCheck d).paramsWf := by
  grind [Dev.flushCheck, Dev.paramsWf_upd, Dev.flushAt_paramsWf, Dev.flushEnd_paramsWf, Dev.paramsWf_foldl, Dev.paramsWf_foldl1]

theorem Dev.label_paramsWf (d : Dev) (f : Nat) (l : FaceLine) (cls : List Nat) (idx : List (List Nat)) (h0 : d.paramsWf) :
    (Dev.label d f l cls idx).paramsWf := by
  grind [Dev.label, Dev.paramsWf_upd, Dev.closeAll_paramsWf, Dev.labelLine_paramsWf, Dev.provisional_paramsWf,
      Dev.spans_paramsWf, Dev.verdicts_paramsWf, Dev.waitsAt_paramsWf]

theorem Dev.faceLine_paramsWf (d : Dev) (f : Nat) (info : LineInfo) (h0 : d.paramsWf) : (Dev.faceLine d f info).paramsWf := by
  grind [Dev.faceLine, Dev.paramsWf_upd, Dev.assemble_paramsWf, Dev.drainCheck_paramsWf, Dev.flushCheck_paramsWf,
      Dev.label_paramsWf, Dev.stormCheck_paramsWf, Dev.tapFace_paramsWf, Dev.toLineRing_paramsWf]

theorem Dev.faceAssembly_paramsWf (d : Dev) (f : Nat) (h0 : d.paramsWf) : (Dev.faceAssembly d f).paramsWf := by
  grind [Dev.faceAssembly, Dev.paramsWf_upd, Dev.faceLine_paramsWf]

theorem Dev.headMoved_paramsWf (d : Dev) (h : Nat) (h0 : d.paramsWf) : (Dev.headMoved d h).paramsWf := by
  grind [Dev.headMoved, Dev.paramsWf_upd, Dev.drainCheck_paramsWf, Dev.flushCheck_paramsWf, Dev.pump_paramsWf,
      Dev.releaseRecords_paramsWf]

theorem Dev.allMoved_paramsWf (d : Dev) (h0 : d.paramsWf) : (Dev.allMoved d).paramsWf := by
  grind [Dev.allMoved, Dev.paramsWf_upd, Dev.drainCheck_paramsWf, Dev.flushCheck_paramsWf, Dev.pump_paramsWf,
      Dev.releaseRecords_paramsWf, Dev.stormCheck_paramsWf, Dev.paramsWf_foldl, Dev.paramsWf_foldl1]

theorem effTrackerStatus_paramsWf (e : Entry) (d : Dev) (h0 : d.paramsWf) : (effTrackerStatus e d).1.paramsWf := by
  grind [effTrackerStatus, Dev.paramsWf_upd]

theorem effStormClear_paramsWf (e : Entry) (d : Dev) (h0 : d.paramsWf) : (effStormClear e d).1.paramsWf := by
  grind [effStormClear, Dev.paramsWf_upd]

theorem effResetPipeline_paramsWf (e : Entry) (d : Dev) (h0 : d.paramsWf) : (effResetPipeline e d).1.paramsWf := by
  grind [effResetPipeline, Dev.paramsWf_upd, Dev.cutFade_paramsWf, Dev.forgetIdle_paramsWf]

theorem Dev.setEng_paramsWf (d : Dev) (e : Nat) (x : Eng) (h0 : d.paramsWf) : (Dev.setEng d e x).paramsWf := by
  grind [Dev.setEng, Dev.paramsWf_upd]

theorem Dev.setShort_paramsWf (d : Dev) (p : Nat) (v : Bool) (h0 : d.paramsWf) : (Dev.setShort d p v).paramsWf := by
  grind [Dev.setShort, Dev.paramsWf_upd, Dev.putBit_paramsWf]

theorem Dev.flow_paramsWf (d : Dev) (e : Nat) (x : Eng) (h0 : d.paramsWf) : (Dev.flow d e x).paramsWf := by
  grind [Dev.flow, Dev.paramsWf_upd, Dev.put_paramsWf, Dev.setEng_paramsWf]

theorem Dev.stepOn_paramsWf (d : Dev) (e : Nat) (x : Eng) (h0 : d.paramsWf) : (Dev.stepOn d e x).paramsWf := by
  grind [Dev.stepOn, Dev.paramsWf_upd, Dev.flow_paramsWf]

theorem Dev.pullData_paramsWf (d : Dev) (e : Nat) (w : Word) (h0 : d.paramsWf) : (Dev.pullData d e w).paramsWf := by
  grind [Dev.pullData, Dev.paramsWf_upd, Dev.setEng_paramsWf]

theorem Dev.pushData_paramsWf (d : Dev) (e : Nat) (h0 : d.paramsWf) : (Dev.pushData d e).1.paramsWf := by
  grind [Dev.pushData, Dev.paramsWf_upd, Dev.setEng_paramsWf]

theorem Dev.pulse_paramsWf (d : Dev) (idx : Nat) (h0 : d.paramsWf) : (Dev.pulse d idx).paramsWf := by
  grind [Dev.pulse, Dev.paramsWf_upd, Dev.setEng_paramsWf, Dev.paramsWf_foldl, Dev.paramsWf_foldl1]

theorem Dev.release_paramsWf (d : Dev) (e : Nat) (h0 : d.paramsWf) : (Dev.release d e).paramsWf := by
  grind [Dev.release, Dev.paramsWf_upd, Dev.flow_paramsWf]

theorem Dev.syncOn_paramsWf (d : Dev) (src : Nat) (h0 : d.paramsWf) : (Dev.syncOn d src).paramsWf := by
  grind [Dev.syncOn, Dev.paramsWf_upd, Dev.release_paramsWf, Dev.paramsWf_foldl, Dev.paramsWf_foldl1]

theorem Dev.syncGroup_paramsWf (d : Dev) (g : Nat) (h0 : d.paramsWf) : (Dev.syncGroup d g).paramsWf := by
  grind [Dev.syncGroup, Dev.paramsWf_upd, Dev.release_paramsWf, Dev.paramsWf_foldl, Dev.paramsWf_foldl1]

theorem Dev.engineEvent_paramsWf (d : Dev) (e : Nat) (h0 : d.paramsWf) : (Dev.engineEvent d e).paramsWf := by
  grind [Dev.engineEvent, Dev.paramsWf_upd, Dev.count_paramsWf, Dev.pulse_paramsWf, Dev.raise_paramsWf]

theorem Dev.shiftTick_paramsWf (d : Dev) (e w n : Nat) (x : Eng) (h0 : d.paramsWf) : (Dev.shiftTick d e w n x).paramsWf := by
  grind [Dev.shiftTick, Dev.paramsWf_upd, Dev.setEng_paramsWf, Dev.stepOn_paramsWf]

theorem Dev.opOut_paramsWf (d : Dev) (e captured : Nat) (h0 : d.paramsWf) : (Dev.opOut d e captured).paramsWf := by
  grind [Dev.opOut, Dev.paramsWf_upd, Dev.setEng_paramsWf, Dev.shiftTick_paramsWf]

theorem Dev.opIn_paramsWf (d : Dev) (e captured : Nat) (h0 : d.paramsWf) : (Dev.opIn d e captured).paramsWf := by
  grind [Dev.opIn, Dev.paramsWf_upd, Dev.shiftTick_paramsWf]

theorem Dev.opPull_paramsWf (d : Dev) (e : Nat) (h0 : d.paramsWf) : (Dev.opPull d e).paramsWf := by
  grind [Dev.opPull, Dev.paramsWf_upd, Dev.flow_paramsWf, Dev.setEng_paramsWf]

theorem Dev.opPush_paramsWf (d : Dev) (e : Nat) (h0 : d.paramsWf) : (Dev.opPush d e).paramsWf := by
  grind [Dev.opPush, Dev.paramsWf_upd, Dev.flow_paramsWf, Dev.setEng_paramsWf]

theorem Dev.opSet_paramsWf (d : Dev) (e : Nat) (h0 : d.paramsWf) : (Dev.opSet d e).paramsWf := by
  grind [Dev.opSet, Dev.paramsWf_upd, Dev.setEng_paramsWf, Dev.stepOn_paramsWf]

theorem Dev.lookWait_paramsWf (d : Dev) (e : Nat) (level : Bool) (h0 : d.paramsWf) : (Dev.lookWait d e level).paramsWf := by
  grind [Dev.lookWait, Dev.paramsWf_upd, Dev.flow_paramsWf, Dev.setEng_paramsWf]

theorem Dev.opWait_paramsWf (d : Dev) (e : Nat) (level : Bool) (h0 : d.paramsWf) : (Dev.opWait d e level).paramsWf := by
  grind [Dev.opWait, Dev.paramsWf_upd, Dev.lookWait_paramsWf]

theorem Dev.waitRelease_paramsWf (d : Dev) (e : Nat) (level : Bool) (h0 : d.paramsWf) : (Dev.waitRelease d e level).paramsWf :=
    by
  grind [Dev.waitRelease, Dev.paramsWf_upd, Dev.lookWait_paramsWf]

theorem Dev.opCmp_paramsWf (d : Dev) (e : Nat) (h0 : d.paramsWf) : (Dev.opCmp d e).1.paramsWf := by
  grind [Dev.opCmp, Dev.paramsWf_upd, Dev.engineEvent_paramsWf, Dev.stepOn_paramsWf]

theorem Dev.opJmp_paramsWf (d : Dev) (e : Nat) (level : Bool) (h0 : d.paramsWf) : (Dev.opJmp d e level).paramsWf := by
  grind [Dev.opJmp, Dev.paramsWf_upd, Dev.setEng_paramsWf, Dev.stepOn_paramsWf]

theorem Dev.opDelay_paramsWf (d : Dev) (e : Nat) (h0 : d.paramsWf) : (Dev.opDelay d e).paramsWf := by
  grind [Dev.opDelay, Dev.paramsWf_upd, Dev.flow_paramsWf, Dev.setEng_paramsWf]

theorem Dev.opEvent_paramsWf (d : Dev) (e : Nat) (h0 : d.paramsWf) : (Dev.opEvent d e).1.paramsWf := by
  grind [Dev.opEvent, Dev.paramsWf_upd, Dev.engineEvent_paramsWf, Dev.stepOn_paramsWf]

theorem Dev.opSync_paramsWf (d : Dev) (e : Nat) (h0 : d.paramsWf) : (Dev.opSync d e).paramsWf := by
  grind [Dev.opSync, Dev.paramsWf_upd, Dev.syncGroup_paramsWf]

theorem Dev.stopEngines_paramsWf (d : Dev) (mask : Nat) (release : Bool) (h0 : d.paramsWf) : (Dev.stopEngines d mask
    release).paramsWf := by
  grind [Dev.stopEngines, Dev.paramsWf_upd, Dev.release_paramsWf, Dev.setEng_paramsWf, Dev.paramsWf_foldl, Dev.paramsWf_foldl1]

theorem Dev.engCheck_paramsWf (d : Dev) (e code addr : Nat) (h0 : d.paramsWf) : (Dev.engCheck d e code addr).paramsWf := by
  grind [Dev.engCheck, Dev.paramsWf_upd, Dev.put_paramsWf]

theorem Dev.startEngine_paramsWf (d : Dev) (flush restart : Bool) (e : Nat) (h0 : d.paramsWf) : (Dev.startEngine d flush restart
    e).paramsWf := by
  grind [Dev.startEngine, Dev.paramsWf_upd, Dev.put_paramsWf, Dev.setEng_paramsWf, Dev.paramsWf_foldl, Dev.paramsWf_foldl1]

theorem Dev.startEngines_paramsWf (d : Dev) (mask : Nat) (flush restart : Bool) (h0 : d.paramsWf) : ∀ t, Dev.startEngines d mask
    flush restart = .inl t → t.paramsWf := by
  grind [Dev.startEngines, Dev.paramsWf_upd, Dev.startEngine_paramsWf, Dev.paramsWf_foldl, Dev.paramsWf_foldl1]

theorem Dev.restartValves_paramsWf (d : Dev) (h0 : d.paramsWf) : (Dev.restartValves d).paramsWf := by
  unfold Dev.restartValves
  extract_lets vs d1 d2
  have h1 : d1.paramsWf := by
    simp only [d1]; grind [Dev.paramsWf_upd, Dev.valvesOff_paramsWf, Dev.stopEngines_paramsWf]
  clear_value d1
  have h2 : d2.paramsWf := Dev.paramsWf_foldl _ _ _ h1 (fun a e ha => Dev.setEng_paramsWf _ _ _ ha)
  clear_value d2
  split
  · exact h2
  · split
    · next t ht => exact Dev.startEngines_paramsWf _ _ _ _ h2 _ ht
    · exact Dev.engCheck_paramsWf _ _ _ _ h2

theorem Dev.progWrite_paramsWf (d : Dev) (e off : Nat) (ws : List Word) (h0 : d.paramsWf) : (Dev.progWrite d e off
    ws).1.paramsWf := by
  grind [Dev.progWrite, Dev.paramsWf_upd, Dev.engCheck_paramsWf, Dev.setEng_paramsWf, Dev.touch_paramsWf]

theorem effEngineLoad_paramsWf (e : Entry) (d : Dev) (h0 : d.paramsWf) : (effEngineLoad e d).1.paramsWf := by
  grind [effEngineLoad, Dev.paramsWf_upd, Dev.progWrite_paramsWf, Dev.put_paramsWf]

theorem effEngineStart_paramsWf (e : Entry) (d : Dev) (h0 : d.paramsWf) : (effEngineStart e d).1.paramsWf := by
  unfold effEngineStart; dsimp only
  split
  · exact h0
  · split
    · exact h0
    · split
      · exact Dev.engCheck_paramsWf _ _ _ _ h0
      · next t ht => exact Dev.startEngines_paramsWf _ _ _ _ h0 _ ht

theorem effEngineStop_paramsWf (e : Entry) (d : Dev) (h0 : d.paramsWf) : (effEngineStop e d).1.paramsWf := by
  grind [effEngineStop, Dev.paramsWf_upd, Dev.stopEngines_paramsWf]

theorem effEngineStatus_paramsWf (e : Entry) (d : Dev) (h0 : d.paramsWf) : (effEngineStatus e d).1.paramsWf := by
  grind [effEngineStatus, Dev.paramsWf_upd]

end Sys2Proof.Machine
end

