-- ==== Sys2Proof/Laws/ParamsUnit.lean ====
section
/-!
SUPPORT. The parameter words keep their canonical form under the operations of timers, clocks, faults, the unit state and the face to the host.
-/

set_option Elab.async false
set_option linter.unusedVariables false

namespace Sys2Proof.Machine

theorem Dev.setAux_paramsWf (d : Dev) (g : AuxS → AuxS) (h0 : d.paramsWf) : (Dev.setAux d g).paramsWf := by
  grind [Dev.setAux, Dev.paramsWf_upd]

theorem Dev.auxEvent_paramsWf (d : Dev) (source ch : Nat) (flag : Fld) (chans : Option (Fld × Nat)) (data : List (Nat × Nat))
    (inj : Bool) (h0 : d.paramsWf) : (Dev.auxEvent d source ch flag chans data inj).paramsWf := by
  unfold Dev.auxEvent; (repeat' split) <;> (try dsimp only) <;> (try simp only [h0]) <;> grind [Dev.paramsWf_upd,
      Dev.orBits_paramsWf, Dev.raise_paramsWf]

theorem Dev.auxFlag_paramsWf (d : Dev) (ch bit : Nat) (code : Nat) (h0 : d.paramsWf) : (Dev.auxFlag d ch bit code).paramsWf :=
    by
  unfold Dev.auxFlag; (repeat' split) <;> (try dsimp only) <;> (try simp only [h0]) <;> grind [Dev.paramsWf_upd,
      Dev.auxEvent_paramsWf]

theorem Dev.modResult_paramsWf (d : Dev) (ch : Nat) (g : AuxResult → AuxResult) (h0 : d.paramsWf) : (Dev.modResult d ch
    g).paramsWf := by
  grind [Dev.modResult, Dev.paramsWf_upd, Dev.setAux_paramsWf]

theorem Dev.auxChecks_paramsWf (d : Dev) (openDone : Bool) (h0 : d.paramsWf) : (Dev.auxChecks d openDone).paramsWf := by
  grind [Dev.auxChecks, Dev.paramsWf_upd, Dev.setAux_paramsWf]

theorem Dev.auxTimer_paramsWf (d : Dev) (t : Nat) (h0 : d.paramsWf) : (Dev.auxTimer d t).paramsWf := by
  grind [Dev.auxTimer, Dev.paramsWf_upd, Dev.count_paramsWf, Dev.orBits_paramsWf, Dev.raise_paramsWf, Dev.setAux_paramsWf]

theorem Dev.auxLine_paramsWf (d : Dev) (frame : Bool) (h0 : d.paramsWf) : (Dev.auxLine d frame).paramsWf := by
  grind [Dev.auxLine, Dev.paramsWf_upd, Dev.setAux_paramsWf]

theorem Dev.auxStart_paramsWf (d : Dev) (h0 : d.paramsWf) : (Dev.auxStart d).paramsWf := by
  grind [Dev.auxStart, Dev.paramsWf_upd, Dev.setAux_paramsWf]

theorem Dev.auxResult_paramsWf (d : Dev) (raw : Int) (overload : Bool) (h0 : d.paramsWf) : (Dev.auxResult d raw
    overload).paramsWf := by
  grind [Dev.auxResult, Dev.paramsWf_upd, Dev.auxChecks_paramsWf, Dev.auxFlag_paramsWf, Dev.count_paramsWf,
      Dev.modResult_paramsWf, Dev.overload_paramsWf, Dev.setAux_paramsWf, Dev.paramsWf_foldl, Dev.paramsWf_foldl1]

theorem Dev.auxCheck_paramsWf (d : Dev) (raw : Int) (h0 : d.paramsWf) : (Dev.auxCheck d raw).paramsWf := by
  grind [Dev.auxCheck, Dev.paramsWf_upd, Dev.auxChecks_paramsWf, Dev.auxFlag_paramsWf, Dev.modResult_paramsWf,
      Dev.setAux_paramsWf]

theorem Dev.auxCalFail_paramsWf (d : Dev) (range : Nat) (h0 : d.paramsWf) : (Dev.auxCalFail d range).paramsWf := by
  grind [Dev.auxCalFail, Dev.paramsWf_upd, Dev.orBits_paramsWf, Dev.raise_paramsWf]

theorem Dev.calibrateRange_paramsWf (d : Dev) (range : Nat) (m : Int × Int) (h0 : d.paramsWf) : (Dev.calibrateRange d range
    m).paramsWf := by
  grind [Dev.calibrateRange, Dev.paramsWf_upd, Dev.auxCalFail_paramsWf, Dev.setAux_paramsWf]

theorem Dev.auxForeground_paramsWf (d : Dev) (measured : List (Int × Int)) (h0 : d.paramsWf) : (Dev.auxForeground d
    measured).paramsWf := by
  grind [Dev.auxForeground, Dev.paramsWf_upd, Dev.calibrateRange_paramsWf, Dev.setAux_paramsWf, Dev.paramsWf_foldl,
      Dev.paramsWf_foldl1]

theorem Dev.auxBackground_paramsWf (d : Dev) (m1 m4 : Int) (h0 : d.paramsWf) : (Dev.auxBackground d m1 m4).paramsWf := by
  grind [Dev.auxBackground, Dev.paramsWf_upd, Dev.auxCalFail_paramsWf, Dev.setAux_paramsWf, Dev.take_paramsWf]

theorem Dev.auxPower_paramsWf (d : Dev) (on : Bool) (h0 : d.paramsWf) : (Dev.auxPower d on).paramsWf := by
  grind [Dev.auxPower, Dev.paramsWf_upd, Dev.setAux_paramsWf]

theorem effAuxSequence_paramsWf (e : Entry) (d : Dev) (h0 : d.paramsWf) : (effAuxSequence e d).1.paramsWf := by
  grind [effAuxSequence, Dev.paramsWf_upd, Dev.put_paramsWf, Dev.setAux_paramsWf, Dev.setWord_paramsWf, Dev.paramsWf_foldl,
      Dev.paramsWf_foldl1]

theorem effAuxRead_paramsWf (e : Entry) (d : Dev) (h0 : d.paramsWf) : (effAuxRead e d).1.paramsWf := by
  grind [effAuxRead, Dev.paramsWf_upd, Dev.count_paramsWf]

theorem Dev.setTmr_paramsWf (d : Dev) (t : Nat) (x : Timer) (h0 : d.paramsWf) : (Dev.setTmr d t x).paramsWf := by
  grind [Dev.setTmr, Dev.paramsWf_upd]

theorem Dev.armAt_paramsWf (d : Dev) (edge t : Nat) (h0 : d.paramsWf) : (Dev.armAt d edge t).paramsWf := by
  grind [Dev.armAt, Dev.paramsWf_upd, Dev.setTmr_paramsWf]

theorem Dev.snapRequest_paramsWf (d : Dev) (edge t cause : Nat) (h0 : d.paramsWf) : (Dev.snapRequest d edge t cause).paramsWf :=
    by
  grind [Dev.snapRequest, Dev.paramsWf_upd, Dev.count_paramsWf, Dev.orBits_paramsWf, Dev.raise_paramsWf]

theorem Dev.timerAct_paramsWf (d : Dev) (arm : Dev → Nat → Nat → Dev) (edge t cause : Nat) (h0 : d.paramsWf) (hf0 : ∀ a0 a1 a2,
    a0.paramsWf → (arm a0 a1 a2).paramsWf) : (Dev.timerAct d arm edge t cause).paramsWf := by
  unfold Dev.timerAct; (repeat' split) <;> (try dsimp only) <;> (try simp only [h0]) <;> grind [Dev.paramsWf_upd,
      Dev.auxTimer_paramsWf, Dev.snapRequest_paramsWf]

theorem Dev.matchOne_paramsWf (d : Dev) (arm : Dev → Nat → Nat → Dev) (now t : Nat) (b : Bool) (h0 : d.paramsWf) (hf0 : ∀ a0 a1
    a2, a0.paramsWf → (arm a0 a1 a2).paramsWf) : (Dev.matchOne d arm now t b).paramsWf := by
  grind [Dev.matchOne, Dev.paramsWf_upd, Dev.setTmr_paramsWf, Dev.timerAct_paramsWf]

theorem Dev.timerEnd_paramsWf (d : Dev) (arm : Dev → Nat → Nat → Dev) (t : Nat) (h0 : d.paramsWf) (hf0 : ∀ a0 a1 a2, a0.paramsWf
    → (arm a0 a1 a2).paramsWf) : (Dev.timerEnd d arm t).paramsWf := by
  grind [Dev.timerEnd, Dev.paramsWf_upd, Dev.pulse_paramsWf, Dev.raise_paramsWf, Dev.setTmr_paramsWf, Dev.timerAct_paramsWf]

theorem Dev.settleTimer_paramsWf (d : Dev) (arm : Dev → Nat → Nat → Dev) (now t : Nat) (h0 : d.paramsWf) (hf0 : ∀ a0 a1 a2,
    a0.paramsWf → (arm a0 a1 a2).paramsWf) : (Dev.settleTimer d arm now t).paramsWf := by
  grind [Dev.settleTimer, Dev.paramsWf_upd, Dev.matchOne_paramsWf, Dev.timerEnd_paramsWf]

theorem Dev.armOn_paramsWf (n : Nat) (d : Dev) (a t : Nat) (h0 : d.paramsWf) : (Dev.armOn n d a t).paramsWf := by
  induction n generalizing d a t with
  | zero => exact Dev.armAt_paramsWf _ _ _ h0
  | succ n ih => exact Dev.armAt_paramsWf _ _ _ (Dev.settleTimer_paramsWf _ _ _ _ h0 (fun d a t h => ih d a t h))

theorem Dev.armChain_paramsWf (d : Dev) (a t : Nat) (h0 : d.paramsWf) : (Dev.armChain d a t).paramsWf := Dev.armOn_paramsWf 96 d
    a t h0

theorem Dev.timerMatch_paramsWf (d : Dev) (t : Nat) (b : Bool) (h0 : d.paramsWf) : (Dev.timerMatch d t b).paramsWf := by
  grind [Dev.timerMatch, Dev.paramsWf_upd, Dev.armChain_paramsWf, Dev.matchOne_paramsWf]

theorem Dev.timerDone_paramsWf (d : Dev) (t : Nat) (h0 : d.paramsWf) : (Dev.timerDone d t).paramsWf := by
  grind [Dev.timerDone, Dev.paramsWf_upd, Dev.armChain_paramsWf, Dev.settleTimer_paramsWf]

theorem Dev.arm_paramsWf (d : Dev) (t : Nat) (h0 : d.paramsWf) : (Dev.arm d t).paramsWf := by
  grind [Dev.arm, Dev.paramsWf_upd, Dev.armChain_paramsWf]

theorem Dev.stopTimer_paramsWf (d : Dev) (t : Nat) (h0 : d.paramsWf) : (Dev.stopTimer d t).paramsWf := by
  grind [Dev.stopTimer, Dev.paramsWf_upd, Dev.armChain_paramsWf, Dev.setTmr_paramsWf, Dev.settleTimer_paramsWf]

theorem Dev.stopTimers_paramsWf (d : Dev) (h0 : d.paramsWf) : (Dev.stopTimers d).paramsWf := by
  grind [Dev.stopTimers, Dev.paramsWf_upd, Dev.stopTimer_paramsWf, Dev.paramsWf_foldl, Dev.paramsWf_foldl1]

theorem Dev.freeze_paramsWf (d : Dev) (t : Nat) (h0 : d.paramsWf) : (Dev.freeze d t).paramsWf := by
  grind [Dev.freeze, Dev.paramsWf_upd, Dev.armChain_paramsWf, Dev.setTmr_paramsWf, Dev.settleTimer_paramsWf]

theorem Dev.freezeAll_paramsWf (d : Dev) (h0 : d.paramsWf) : (Dev.freezeAll d).paramsWf := by
  grind [Dev.freezeAll, Dev.paramsWf_upd, Dev.freeze_paramsWf, Dev.paramsWf_foldl, Dev.paramsWf_foldl1]

theorem Dev.capture_paramsWf (d : Dev) (t : Nat) (h0 : d.paramsWf) : (Dev.capture d t).paramsWf := by
  grind [Dev.capture, Dev.paramsWf_upd, Dev.raise_paramsWf, Dev.setTmr_paramsWf]

theorem Dev.timerEvent_paramsWf (d : Dev) (src eng : Nat) (h0 : d.paramsWf) : (Dev.timerEvent d src eng).paramsWf := by
  grind [Dev.timerEvent, Dev.paramsWf_upd, Dev.arm_paramsWf, Dev.capture_paramsWf, Dev.paramsWf_foldl, Dev.paramsWf_foldl1]

theorem Dev.readCapLo_paramsWf (d : Dev) (t : Nat) (h0 : d.paramsWf) : (Dev.readCapLo d t).1.paramsWf := by
  grind [Dev.readCapLo, Dev.paramsWf_upd, Dev.setTmr_paramsWf]

theorem Dev.readCapHi_paramsWf (d : Dev) (t : Nat) (h0 : d.paramsWf) : (Dev.readCapHi d t).1.paramsWf := by
  grind [Dev.readCapHi, Dev.paramsWf_upd, Dev.setTmr_paramsWf]

theorem Dev.readTimer_paramsWf (d : Dev) (t off : Nat) (h0 : d.paramsWf) : (Dev.readTimer d t off).1.paramsWf := by
  unfold Dev.readTimer; (repeat' split) <;> (try dsimp only) <;> (try simp only [h0]) <;> grind [Dev.paramsWf_upd,
      Dev.readCapHi_paramsWf, Dev.readCapLo_paramsWf, Dev.setTmr_paramsWf]

theorem Dev.writeTimer_paramsWf (d : Dev) (t off v : Nat) (h0 : d.paramsWf) : (Dev.writeTimer d t off v).paramsWf := by
  unfold Dev.writeTimer; (repeat' split) <;> (try dsimp only) <;> (try simp only [h0]) <;> grind [Dev.paramsWf_upd,
      Dev.arm_paramsWf, Dev.setTmr_paramsWf, Dev.stopTimer_paramsWf]

theorem effTimerConfig_paramsWf (e : Entry) (d : Dev) (h0 : d.paramsWf) : (effTimerConfig e d).1.paramsWf := by
  grind [effTimerConfig, Dev.paramsWf_upd, Dev.arm_paramsWf, Dev.freeze_paramsWf, Dev.setWord_paramsWf, Dev.paramsWf_foldl,
      Dev.paramsWf_foldl1]

theorem Dev.engineRaised_paramsWf (p : Dev × Bool) (e : Nat) (h0 : p.1.paramsWf) : (Dev.engineRaised p e).paramsWf := by
  grind [Dev.engineRaised, Dev.paramsWf_upd, Dev.timerEvent_paramsWf]

theorem Dev.lineHappened_paramsWf (d : Dev) (h0 : d.paramsWf) : (Dev.lineHappened d).paramsWf := by
  grind [Dev.lineHappened, Dev.paramsWf_upd, Dev.allMoved_paramsWf, Dev.auxLine_paramsWf, Dev.pulse_paramsWf,
      Dev.syncOn_paramsWf, Dev.timerEvent_paramsWf]

theorem Dev.afterTrigger_paramsWf (d old : Dev) (h0 : d.paramsWf) (h1 : old.paramsWf) : (Dev.afterTrigger d old).paramsWf := by
  grind [Dev.afterTrigger, Dev.paramsWf_upd, Dev.lineHappened_paramsWf]

theorem Dev.endRun_paramsWf (d : Dev) (h0 : d.paramsWf) : (Dev.endRun d).paramsWf := by
  grind [Dev.endRun, Dev.paramsWf_upd, Dev.drainCheck_paramsWf, Dev.flushCheck_paramsWf, Dev.forgetRun_paramsWf,
      Dev.stopLines_paramsWf]

theorem Dev.runCheck_paramsWf (d : Dev) (h0 : d.paramsWf) : (Dev.runCheck d).paramsWf := by
  grind [Dev.runCheck, Dev.paramsWf_upd, Dev.beginRun_paramsWf, Dev.drainCheck_paramsWf, Dev.flushCheck_paramsWf,
      Dev.stopLines_paramsWf]

theorem Dev.losePath_paramsWf (d : Dev) (h0 : d.paramsWf) : (Dev.losePath d).paramsWf := by
  grind [Dev.losePath, Dev.paramsWf_upd, Dev.endTaps_paramsWf, Dev.finish_paramsWf, Dev.rearmHigh_paramsWf, Dev.settle_paramsWf,
      Dev.paramsWf_foldl, Dev.paramsWf_foldl1]

theorem Dev.closeRun_paramsWf (d : Dev) (h0 : d.paramsWf) : (Dev.closeRun d).paramsWf := by
  grind [Dev.closeRun, Dev.paramsWf_upd, Dev.endRun_paramsWf, Dev.forgetRun_paramsWf, Dev.losePath_paramsWf,
      Dev.stopLines_paramsWf]

theorem Dev.abortAuto_paramsWf (d : Dev) (h0 : d.paramsWf) : (Dev.abortAuto d).paramsWf := by
  grind [Dev.abortAuto, Dev.paramsWf_upd, Dev.put_paramsWf]

theorem Dev.enterFault_paramsWf (d : Dev) (source : Nat) (inj : Bool) (h0 : d.paramsWf) : (Dev.enterFault d source inj).paramsWf
    := by
  grind [Dev.enterFault, Dev.paramsWf_upd, Dev.abortAuto_paramsWf, Dev.closeRun_paramsWf, Dev.count_paramsWf,
      Dev.emptyStore_paramsWf, Dev.endTest_paramsWf, Dev.enter_paramsWf, Dev.raise_paramsWf, Dev.restartValves_paramsWf]

theorem Dev.stopOn_paramsWf (d : Dev) (o : Occ) (bit : Nat) (h0 : d.paramsWf) : (Dev.stopOn d o bit).paramsWf := by
  grind [Dev.stopOn, Dev.paramsWf_upd, Dev.enterFault_paramsWf, Dev.orBits_paramsWf, Dev.put_paramsWf, Dev.raise_paramsWf]

theorem Dev.clearCause_paramsWf (d : Dev) (bit : Nat) (h0 : d.paramsWf) : (Dev.clearCause d bit).paramsWf := by
  grind [Dev.clearCause, Dev.paramsWf_upd, Dev.putBit_paramsWf, Dev.raise_paramsWf]

theorem Dev.putNf_paramsWf (d : Dev) (nf : Nat) (h0 : d.paramsWf) : (Dev.putNf d nf).paramsWf := by
  grind [Dev.putNf, Dev.paramsWf_upd, Dev.put_paramsWf]

theorem Dev.rampDone_paramsWf (d : Dev) (cause : Nat) (h0 : d.paramsWf) : (Dev.rampDone d cause).paramsWf := by
  grind [Dev.rampDone, Dev.paramsWf_upd, Dev.orBits_paramsWf, Dev.putFlag_paramsWf, Dev.raise_paramsWf]

theorem Dev.rampOver_paramsWf (d : Dev) (r : Ramp) (h0 : d.paramsWf) : (Dev.rampOver d r).paramsWf := by
  have h1 := Dev.rampDone_paramsWf d 0 h0
  unfold Dev.rampOver; dsimp only
  split
  · exact Dev.putFlag_paramsWf _ _ _ _ h1
  · exact h1

theorem Dev.rampStep_paramsWf (d : Dev) (h0 : d.paramsWf) : (Dev.rampStep d).paramsWf := by
  grind [Dev.rampStep, Dev.paramsWf_upd, Dev.put_paramsWf, Dev.putNf_paramsWf, Dev.rampOver_paramsWf, Dev.sendAlign_paramsWf]

theorem Dev.rampBegin_paramsWf (d : Dev) (segs : List (Int × Nat)) (goal : Option Nat) (h0 : d.paramsWf) : (Dev.rampBegin d segs
    goal).paramsWf := by
  grind [Dev.rampBegin, Dev.paramsWf_upd, Dev.put_paramsWf, Dev.putFlag_paramsWf, Dev.rampStep_paramsWf]

theorem Dev.rampAsked_paramsWf (d : Dev) (a : RampAsk) (h0 : d.paramsWf) : (Dev.rampAsked d a).paramsWf := by
  grind [Dev.rampAsked, Dev.paramsWf_upd, Dev.finish_paramsWf, Dev.rampBegin_paramsWf, Dev.rampDone_paramsWf]

theorem Dev.settlePhase_paramsWf (d : Dev) (p : Int) (h0 : d.paramsWf) : (Dev.settlePhase d p).paramsWf := by
  grind [Dev.settlePhase, Dev.paramsWf_upd]

theorem Dev.lineEdge_paramsWf (d : Dev) (h0 : d.paramsWf) : (Dev.lineEdge d).paramsWf := by
  grind [Dev.lineEdge, Dev.paramsWf_upd, Dev.rampAsked_paramsWf, Dev.rampStep_paramsWf, Dev.sendAlign_paramsWf,
      Dev.settlePhase_paramsWf]

theorem Dev.setMash_paramsWf (d : Dev) (m : Mash) (h0 : d.paramsWf) : (Dev.setMash d m).paramsWf := by
  grind [Dev.setMash, Dev.paramsWf_upd]

theorem Dev.modulate_paramsWf (d : Dev) (h0 : d.paramsWf) : (Dev.modulate d).paramsWf := by
  grind [Dev.modulate, Dev.paramsWf_upd, Dev.setMash_paramsWf]

theorem Dev.unsettle_paramsWf (d : Dev) (h0 : d.paramsWf) : (Dev.unsettle d).paramsWf := by
  grind [Dev.unsettle, Dev.paramsWf_upd, Dev.putFlag_paramsWf]

theorem Dev.lsynSettled_paramsWf (d : Dev) (h0 : d.paramsWf) : (Dev.lsynSettled d).paramsWf := by
  grind [Dev.lsynSettled, Dev.paramsWf_upd, Dev.lineEdge_paramsWf, Dev.putBit_paramsWf, Dev.putFlag_paramsWf,
      Dev.startRun_paramsWf]

theorem Dev.dropAsk_paramsWf (d : Dev) (h0 : d.paramsWf) : (Dev.dropAsk d).paramsWf := by
  grind [Dev.dropAsk, Dev.paramsWf_upd, Dev.finish_paramsWf]

theorem Dev.lsynWrite_paramsWf (d : Dev) (w : LsynWant) (nf postdiv : Nat) (h0 : d.paramsWf) : (Dev.lsynWrite d w nf
    postdiv).paramsWf := by
  grind [Dev.lsynWrite, Dev.paramsWf_upd, Dev.dropAsk_paramsWf, Dev.put_paramsWf, Dev.putFlag_paramsWf, Dev.putNf_paramsWf,
      Dev.rampDone_paramsWf, Dev.setMash_paramsWf, Dev.settlePhase_paramsWf, Dev.unsettle_paramsWf]

theorem effLsynConfig_paramsWf (e : Entry) (d : Dev) (h0 : d.paramsWf) : (effLsynConfig e d).1.paramsWf := by
  grind [effLsynConfig, Dev.paramsWf_upd, Dev.lsynWrite_paramsWf]

theorem effLsynRamp_paramsWf (e : Entry) (d : Dev) (h0 : d.paramsWf) : (effLsynRamp e d).1.paramsWf := by
  grind [effLsynRamp, Dev.paramsWf_upd, Dev.dropAsk_paramsWf, Dev.put_paramsWf]

theorem effLsynPhaseStep_paramsWf (e : Entry) (d : Dev) (h0 : d.paramsWf) : (effLsynPhaseStep e d).1.paramsWf := by
  grind [effLsynPhaseStep, Dev.paramsWf_upd, Dev.settlePhase_paramsWf]

theorem Dev.setTb16_paramsWf (d : Dev) (v : Nat) (h0 : d.paramsWf) : (Dev.setTb16 d v).paramsWf := by
  grind [Dev.setTb16, Dev.paramsWf_upd, Dev.log_paramsWf]

theorem Dev.tbJump_paramsWf (d : Dev) (v16 : Nat) (h0 : d.paramsWf) : (Dev.tbJump d v16).paramsWf := by
  grind [Dev.tbJump, Dev.paramsWf_upd, Dev.count_paramsWf, Dev.orBits_paramsWf, Dev.raise_paramsWf, Dev.setTb16_paramsWf]

theorem Dev.reacquire_paramsWf (d : Dev) (h0 : d.paramsWf) : (Dev.reacquire d).paramsWf := by
  grind [Dev.reacquire, Dev.paramsWf_upd]

theorem Dev.tbUnlock_paramsWf (d : Dev) (h0 : d.paramsWf) : (Dev.tbUnlock d).paramsWf := by
  grind [Dev.tbUnlock, Dev.paramsWf_upd, Dev.orBits_paramsWf, Dev.putFlag_paramsWf, Dev.raise_paramsWf, Dev.reacquire_paramsWf]

theorem Dev.tbSlew_paramsWf (d : Dev) (e : Int) (h0 : d.paramsWf) : (Dev.tbSlew d e).paramsWf := by
  grind [Dev.tbSlew, Dev.paramsWf_upd, Dev.put_paramsWf, Dev.takeFree_paramsWf]

theorem Dev.syncinEdge_paramsWf (d : Dev) (sixteenths : Nat) (h0 : d.paramsWf) : (Dev.syncinEdge d sixteenths).paramsWf := by
  grind [Dev.syncinEdge, Dev.paramsWf_upd, Dev.count_paramsWf, Dev.log_paramsWf, Dev.put_paramsWf, Dev.putFlag_paramsWf,
      Dev.raise_paramsWf, Dev.tbJump_paramsWf, Dev.tbSlew_paramsWf, Dev.tbUnlock_paramsWf]

theorem Dev.syncMiss_paramsWf (d : Dev) (h0 : d.paramsWf) : (Dev.syncMiss d).paramsWf := by
  grind [Dev.syncMiss, Dev.paramsWf_upd, Dev.count_paramsWf, Dev.log_paramsWf, Dev.orBits_paramsWf, Dev.raise_paramsWf,
      Dev.tbUnlock_paramsWf]

theorem Dev.syncout_paramsWf (d : Dev) (h0 : d.paramsWf) : (Dev.syncout d).paramsWf := by
  grind [Dev.syncout, Dev.paramsWf_upd, Dev.log_paramsWf, Dev.send_paramsWf]

theorem Dev.rateStep_paramsWf (d : Dev) (h0 : d.paramsWf) : (Dev.rateStep d).paramsWf := by
  grind [Dev.rateStep, Dev.paramsWf_upd]

theorem Dev.countTb_paramsWf (d : Dev) (h0 : d.paramsWf) : (Dev.countTb d).paramsWf := by
  grind [Dev.countTb, Dev.paramsWf_upd, Dev.rateStep_paramsWf]

theorem Dev.tbMoved_paramsWf (d : Dev) (h0 : d.paramsWf) : (Dev.tbMoved d).paramsWf := by
  grind [Dev.tbMoved, Dev.paramsWf_upd, Dev.putFlag_paramsWf, Dev.reacquire_paramsWf]

theorem effTimebaseAlign_paramsWf (e : Entry) (d : Dev) (h0 : d.paramsWf) : (effTimebaseAlign e d).1.paramsWf := by
  grind [effTimebaseAlign, Dev.paramsWf_upd, Dev.countTb_paramsWf, Dev.put_paramsWf, Dev.putFlag_paramsWf,
      Dev.reacquire_paramsWf, Dev.tbJump_paramsWf, Dev.tbMoved_paramsWf]

theorem Dev.refLoss_paramsWf (d : Dev) (h0 : d.paramsWf) : (Dev.refLoss d).paramsWf := by
  grind [Dev.refLoss, Dev.paramsWf_upd, Dev.count_paramsWf, Dev.orBits_paramsWf, Dev.putFlag_paramsWf, Dev.stopOn_paramsWf]

theorem Dev.refReturn_paramsWf (d : Dev) (h0 : d.paramsWf) : (Dev.refReturn d).paramsWf := by
  grind [Dev.refReturn, Dev.paramsWf_upd, Dev.clearCause_paramsWf, Dev.orBits_paramsWf, Dev.putFlag_paramsWf,
      Dev.raise_paramsWf, Dev.reacquire_paramsWf]

theorem Dev.pllSettled_paramsWf (d : Dev) (h0 : d.paramsWf) : (Dev.pllSettled d).paramsWf := by
  grind [Dev.pllSettled, Dev.paramsWf_upd, Dev.orBits_paramsWf, Dev.putFlag_paramsWf]

theorem Dev.calibrateGroups_paramsWf (d : Dev) (mask : Nat) (h0 : d.paramsWf) : (Dev.calibrateGroups d mask).paramsWf := by
  grind [Dev.calibrateGroups, Dev.paramsWf_upd, Dev.putFlag_paramsWf]

theorem Dev.domainStarts_paramsWf (d : Dev) (n : Nat) (h0 : d.paramsWf) : (Dev.domainStarts d n).paramsWf := by
  unfold Dev.domainStarts; (repeat' split) <;> (try dsimp only) <;> (try simp only [h0]) <;> grind [Dev.paramsWf_upd,
      Dev.auxPower_paramsWf, Dev.calibrateGroups_paramsWf, Dev.setMash_paramsWf, Dev.unsettle_paramsWf]

theorem Dev.switchOn_paramsWf (d : Dev) (mask : Nat) (h0 : d.paramsWf) : (Dev.switchOn d mask).paramsWf := by
  grind [Dev.switchOn, Dev.paramsWf_upd, Dev.domainStarts_paramsWf, Dev.putBit_paramsWf, Dev.paramsWf_foldl,
      Dev.paramsWf_foldl1]

theorem Dev.dropCalibration_paramsWf (d : Dev) (bit : Nat) (h0 : d.paramsWf) : (Dev.dropCalibration d bit).paramsWf := by
  grind [Dev.dropCalibration, Dev.paramsWf_upd, Dev.putFlag_paramsWf]

theorem Dev.ejectDown_paramsWf (d : Dev) (h0 : d.paramsWf) : (Dev.ejectDown d).paramsWf := by
  grind [Dev.ejectDown, Dev.paramsWf_upd, Dev.emptyStore_paramsWf, Dev.stopEngines_paramsWf, Dev.stopTimers_paramsWf]

theorem Dev.storeDown_paramsWf (d : Dev) (h0 : d.paramsWf) : (Dev.storeDown d).paramsWf := by
  grind [Dev.storeDown, Dev.paramsWf_upd]

theorem Dev.domainStops_paramsWf (d : Dev) (n : Nat) (h0 : d.paramsWf) : (Dev.domainStops d n).paramsWf := by
  unfold Dev.domainStops; (repeat' split) <;> (try dsimp only) <;> (try simp only [h0]) <;> grind [Dev.paramsWf_upd,
      Dev.auxPower_paramsWf, Dev.dropAsk_paramsWf, Dev.dropCalibration_paramsWf, Dev.ejectDown_paramsWf, Dev.lanesOff_paramsWf,
      Dev.losePath_paramsWf, Dev.putFlag_paramsWf, Dev.storeDown_paramsWf]

theorem Dev.switchOff_paramsWf (d : Dev) (mask : Nat) (h0 : d.paramsWf) : (Dev.switchOff d mask).paramsWf := by
  grind [Dev.switchOff, Dev.paramsWf_upd, Dev.domainStops_paramsWf, Dev.putBit_paramsWf, Dev.paramsWf_foldl,
      Dev.paramsWf_foldl1]

theorem Dev.domainWaits_paramsWf (d : Dev) (h0 : d.paramsWf) : (Dev.domainWaits d).paramsWf := by
  grind [Dev.domainWaits, Dev.paramsWf_upd, Dev.finish_paramsWf, Dev.paramsWf_foldl, Dev.paramsWf_foldl1]

theorem Dev.readyNow_paramsWf (d : Dev) (n : Nat) (h0 : d.paramsWf) : (Dev.readyNow d n).paramsWf := by
  grind [Dev.readyNow, Dev.paramsWf_upd, Dev.domainWaits_paramsWf, Dev.putBit_paramsWf]

theorem Dev.domainFails_paramsWf (d : Dev) (n : Nat) (h0 : d.paramsWf) : (Dev.domainFails d n).paramsWf := by
  grind [Dev.domainFails, Dev.paramsWf_upd, Dev.closeRun_paramsWf, Dev.domainWaits_paramsWf, Dev.orBits_paramsWf,
      Dev.raise_paramsWf, Dev.stopOn_paramsWf, Dev.switchOff_paramsWf]

theorem Dev.groupCalibrated_paramsWf (d : Dev) (cals : List SliceCal) (g : Nat) (h0 : d.paramsWf) : (Dev.groupCalibrated d cals
    g).paramsWf := by
  grind [Dev.groupCalibrated, Dev.paramsWf_upd, Dev.calFailed_paramsWf, Dev.noSpare_paramsWf, Dev.setGroup_paramsWf,
      Dev.take_paramsWf, Dev.paramsWf_foldl, Dev.paramsWf_foldl1]

theorem Dev.fgCal_paramsWf (d : Dev) (cals : List SliceCal) (h0 : d.paramsWf) : (Dev.fgCal d cals).paramsWf := by
  grind [Dev.fgCal, Dev.paramsWf_upd, Dev.clearCause_paramsWf, Dev.groupCalibrated_paramsWf, Dev.putFlag_paramsWf,
      Dev.stopOn_paramsWf, Dev.paramsWf_foldl, Dev.paramsWf_foldl1]

theorem Dev.newRun_paramsWf (d : Dev) (byStart : Bool) (h0 : d.paramsWf) : (Dev.newRun d byStart).paramsWf := by
  grind [Dev.newRun, Dev.paramsWf_upd, Dev.startRun_paramsWf, Dev.switchOn_paramsWf]

theorem effLineStart_paramsWf (x_ : Entry) (d : Dev) (h0 : d.paramsWf) : (effLineStart x_ d).1.paramsWf := by
  grind [effLineStart, Dev.paramsWf_upd, Dev.newRun_paramsWf]

theorem effLineStop_paramsWf (x_ : Entry) (d : Dev) (h0 : d.paramsWf) : (effLineStop x_ d).1.paramsWf := by
  grind [effLineStop, Dev.paramsWf_upd, Dev.endRun_paramsWf]

theorem Dev.moveTo_paramsWf (d : Dev) (new : UState) (why : Nat) (h0 : d.paramsWf) : (Dev.moveTo d new why).paramsWf := by
  grind [Dev.moveTo, Dev.paramsWf_upd, Dev.emptyStore_paramsWf, Dev.endRun_paramsWf, Dev.endTest_paramsWf, Dev.enter_paramsWf,
      Dev.newRun_paramsWf, Dev.switchOn_paramsWf]

theorem Dev.setState_paramsWf (d : Dev) (new : UState) (why : Nat) (h0 : d.paramsWf) : (Dev.setState d new why).1.paramsWf := by
  grind [Dev.setState, Dev.paramsWf_upd, Dev.moveTo_paramsWf]

theorem effStateSet_paramsWf (e : Entry) (d : Dev) (h0 : d.paramsWf) : (effStateSet e d).1.paramsWf := by
  grind [effStateSet, Dev.paramsWf_upd, Dev.abortAuto_paramsWf, Dev.setState_paramsWf]

theorem effStateGet_paramsWf (x_ : Entry) (d : Dev) (h0 : d.paramsWf) : (effStateGet x_ d).1.paramsWf := by
  grind [effStateGet, Dev.paramsWf_upd]

theorem effEjectLive_paramsWf (x_ : Entry) (d : Dev) (h0 : d.paramsWf) : (effEjectLive x_ d).1.paramsWf := by
  grind [effEjectLive, Dev.paramsWf_upd, Dev.abortAuto_paramsWf, Dev.setState_paramsWf]

theorem effEjectDry_paramsWf (x_ : Entry) (d : Dev) (h0 : d.paramsWf) : (effEjectDry x_ d).1.paramsWf := by
  grind [effEjectDry, Dev.paramsWf_upd, Dev.abortAuto_paramsWf, Dev.setState_paramsWf]

theorem effDomainSet_paramsWf (e : Entry) (d : Dev) (h0 : d.paramsWf) : (effDomainSet e d).1.paramsWf := by
  grind [effDomainSet, Dev.paramsWf_upd, Dev.switchOff_paramsWf, Dev.switchOn_paramsWf]

theorem Dev.valveStall_paramsWf (d : Dev) (e : Nat) (h0 : d.paramsWf) : (Dev.valveStall d e).paramsWf := by
  grind [Dev.valveStall, Dev.paramsWf_upd, Dev.orBits_paramsWf, Dev.stopOn_paramsWf]

theorem Dev.linkCheck_paramsWf (d : Dev) (k e : Nat) (h0 : d.paramsWf) : (Dev.linkCheck d k e).1.paramsWf := by
  grind [Dev.linkCheck, Dev.paramsWf_upd, Dev.setEject_paramsWf, Dev.setEng_paramsWf]

theorem Dev.linkChecks_paramsWf (d : Dev) (k : Nat) (l : List Nat) (h0 : d.paramsWf) : (Dev.linkChecks d k l).1.paramsWf := by
  induction l generalizing d with
  | nil => exact h0
  | cons e es ih => exact ih _ (Dev.linkCheck_paramsWf d k e h0)

theorem Dev.valveLink_paramsWf (d : Dev) (e : Nat) (h0 : d.paramsWf) : (Dev.valveLink d e).paramsWf := by
  grind [Dev.valveLink, Dev.paramsWf_upd, Dev.orBits_paramsWf, Dev.stopOn_paramsWf]

theorem Dev.placeFrame_paramsWf (d : Dev) (k e : Nat) (h0 : d.paramsWf) : (Dev.placeFrame d k e).paramsWf := by
  grind [Dev.placeFrame, Dev.paramsWf_upd, Dev.setEng_paramsWf]

theorem Dev.placeRetraction_paramsWf (d : Dev) (h0 : d.paramsWf) : (Dev.placeRetraction d).paramsWf := by
  grind [Dev.placeRetraction, Dev.paramsWf_upd, Dev.objRecord_paramsWf, Dev.setCls_paramsWf]

theorem Dev.valveFrame_paramsWf (d : Dev) (h0 : d.paramsWf) : (Dev.valveFrame d).paramsWf := by
  grind [Dev.valveFrame, Dev.paramsWf_upd, Dev.compose_paramsWf, Dev.linkChecks_paramsWf, Dev.placeFrame_paramsWf,
      Dev.pulse_paramsWf, Dev.setEng_paramsWf, Dev.syncOn_paramsWf, Dev.valveLink_paramsWf, Dev.valveStall_paramsWf,
      Dev.paramsWf_foldl, Dev.paramsWf_foldl1]

theorem Dev.pinShort_paramsWf (d : Dev) (p : Nat) (h0 : d.paramsWf) : (Dev.pinShort d p).paramsWf := by
  grind [Dev.pinShort, Dev.paramsWf_upd, Dev.raise_paramsWf, Dev.setShort_paramsWf, Dev.valveStall_paramsWf]

theorem Dev.logWaiting_paramsWf (d : Dev) (h0 : d.paramsWf) : (Dev.logWaiting d).paramsWf := by
  grind [Dev.logWaiting, Dev.paramsWf_upd, Dev.log_paramsWf, Dev.paramsWf_foldl, Dev.paramsWf_foldl1]

theorem Dev.dropQueues_paramsWf (d : Dev) (h0 : d.paramsWf) : (Dev.dropQueues d).paramsWf := by
  grind [Dev.dropQueues, Dev.paramsWf_upd, Dev.logWaiting_paramsWf, Dev.setChan_paramsWf]

theorem Dev.configDefaults_paramsWf (d : Dev) (h0 : d.paramsWf) : (Dev.configDefaults d).paramsWf := by
  grind [Dev.configDefaults, Dev.paramsWf_upd]

theorem Dev.clearRoutes_paramsWf (d : Dev) (h0 : d.paramsWf) : (Dev.clearRoutes d).paramsWf := by
  grind [Dev.clearRoutes, Dev.paramsWf_upd, Dev.put_paramsWf, Dev.paramsWf_foldl, Dev.paramsWf_foldl1]

theorem Dev.noteAttached_paramsWf (d : Dev) (h0 : d.paramsWf) : (Dev.noteAttached d).paramsWf := by
  grind [Dev.noteAttached, Dev.paramsWf_upd, Dev.put_paramsWf]

theorem Dev.detachAll_paramsWf (d : Dev) (h0 : d.paramsWf) : (Dev.detachAll d).paramsWf := by
  grind [Dev.detachAll, Dev.paramsWf_upd, Dev.noteAttached_paramsWf, Dev.setWin_paramsWf, Dev.paramsWf_foldl,
      Dev.paramsWf_foldl1]

theorem Dev.disarm_paramsWf (d : Dev) (h0 : d.paramsWf) : (Dev.disarm d).paramsWf := by
  grind [Dev.disarm, Dev.paramsWf_upd, Dev.putFlag_paramsWf, Dev.paramsWf_foldl, Dev.paramsWf_foldl1]

theorem Dev.orphan_paramsWf (d : Dev) (h0 : d.paramsWf) : (Dev.orphan d).paramsWf := by
  grind [Dev.orphan, Dev.paramsWf_upd, Dev.setChan_paramsWf]

theorem Dev.hostReset_paramsWf (d : Dev) (kind : Nat) (h0 : d.paramsWf) : (Dev.hostReset d kind).paramsWf := by
  unfold Dev.hostReset; dsimp only; (repeat' split) <;> grind [Dev.paramsWf_upd, Dev.clearRoutes_paramsWf,
      Dev.configDefaults_paramsWf, Dev.detachAll_paramsWf, Dev.disarm_paramsWf, Dev.dropQueues_paramsWf, Dev.moveTo_paramsWf,
      Dev.orphan_paramsWf]

theorem Dev.functionReady_paramsWf (d : Dev) (h0 : d.paramsWf) : (Dev.functionReady d).paramsWf := by
  grind [Dev.functionReady, Dev.paramsWf_upd, Dev.orBits_paramsWf, Dev.raise_paramsWf]

theorem Dev.drainQueue_paramsWf (d : Dev) (k_ : Nat) (h0 : d.paramsWf) : (Dev.drainQueue d k_).paramsWf := by
  induction k_ generalizing d with
  | zero => exact h0
  | succ k ih =>
    unfold Dev.drainQueue; dsimp only
    split
    · exact h0
    · next w r rest heq =>
      have hp : Dev.paramsWf { d with arch := { d.arch with queue := rest } } := Dev.paramsWf_upd d h0 ..
      split
      · exact ih _ (Dev.lostRecord_paramsWf _ _ hp)
      · split
        · exact ih _ (Dev.placeRecord_paramsWf _ _ _ _ (Dev.charge_paramsWf _ _ _ hp) (fun o d h => raiseDeep_paramsWf 8 o d h))
        · exact h0

theorem Dev.drainStream_paramsWf (c : ArchClass) (d : Dev) (k_ : Nat) (h0 : d.paramsWf) : (Dev.drainStream c d k_).paramsWf :=
    by
  induction k_ generalizing d with
  | zero => exact h0
  | succ n ih =>
    unfold Dev.drainStream
    split
    · exact h0
    · split
      · exact ih _ (Dev.streamLost_paramsWf _ _ _ (Dev.lostRecord_paramsWf _ _ (Dev.setWaiting_paramsWf _ _ _ h0)))
      · split
        · exact ih _ (Dev.leave_paramsWf _ _ _ (Dev.setWaiting_paramsWf _ _ _ h0))
        · exact h0

theorem Dev.drainAll_paramsWf (c : ArchClass) (d : Dev) (h0 : d.paramsWf) : (Dev.drainAll c d).paramsWf := by
  grind [Dev.drainAll, Dev.paramsWf_upd, Dev.drainStream_paramsWf]

theorem Dev.refillTokens_paramsWf (d : Dev) (h0 : d.paramsWf) : (Dev.refillTokens d).paramsWf := by
  grind [Dev.refillTokens, Dev.paramsWf_upd, Dev.drainAll_paramsWf, Dev.drainQueue_paramsWf, Dev.tap_paramsWf]

theorem Dev.linkRetrain_paramsWf (d : Dev) (width speed : Nat) (h0 : d.paramsWf) : (Dev.linkRetrain d width speed).paramsWf :=
    by
  grind [Dev.linkRetrain, Dev.paramsWf_upd, Dev.orBits_paramsWf, Dev.raise_paramsWf]

theorem Dev.reportAer_paramsWf (d : Dev) (correctable : Bool) (cor uncor : Nat) (h0 : d.paramsWf) : (Dev.reportAer d correctable
    cor uncor).paramsWf := by
  grind [Dev.reportAer, Dev.paramsWf_upd, Dev.send_paramsWf]

theorem Dev.noteTimeout_paramsWf (d : Dev) (sq tag : Nat) (h0 : d.paramsWf) : (Dev.noteTimeout d sq tag).paramsWf := by
  grind [Dev.noteTimeout, Dev.paramsWf_upd, Dev.count_paramsWf, Dev.orBits_paramsWf, Dev.raise_paramsWf, Dev.reportAer_paramsWf]

theorem Dev.fetchTimeout_paramsWf (d : Dev) (q : Nat) (h0 : d.paramsWf) : (Dev.fetchTimeout d q).paramsWf := by
  grind [Dev.fetchTimeout, Dev.paramsWf_upd, Dev.noteTimeout_paramsWf, Dev.setSq_paramsWf]

theorem Dev.timedOut_paramsWf (d : Dev) (op : Nat) (e : Entry) (h0 : d.paramsWf) : (Dev.timedOut d op e).paramsWf := by
  grind [Dev.timedOut, Dev.paramsWf_upd, Dev.answer_paramsWf, Dev.noteTimeout_paramsWf]

theorem Dev.bufferTimeout_paramsWf (d : Dev) (f : Form) (extra : Entry → Dev → Option Nat) (e : Entry) (h0 : d.paramsWf) :
    (Dev.bufferTimeout d f extra e).paramsWf := by
  unfold Dev.bufferTimeout; (repeat' split) <;> (try dsimp only) <;> (try simp only [h0]) <;> grind [Dev.paramsWf_upd,
      Dev.fetched_paramsWf, Dev.readBuffer_paramsWf, Dev.refused_paramsWf, Dev.setSq_paramsWf, Dev.timedOut_paramsWf]

theorem Dev.entryCheck_paramsWf (d : Dev) (opcode : Nat) (e : Entry) (h0 : d.paramsWf) : (Dev.entryCheck d opcode e).paramsWf :=
    by
  unfold Dev.entryCheck
  split
  · exact h0
  · exact Dev.hostCommand_paramsWf _ _ _ _ _ h0 (fun e d h => h)

theorem Dev.badOpcode_paramsWf (d : Dev) (opcode : Nat) (e : Entry) (h0 : d.paramsWf) : (Dev.badOpcode d opcode e).paramsWf :=
    by
  grind [Dev.badOpcode, Dev.paramsWf_upd, Dev.fetched_paramsWf, Dev.refused_paramsWf]

theorem Dev.setTherm_paramsWf (d : Dev) (g : ThermalS → ThermalS) (h0 : d.paramsWf) : (Dev.setTherm d g).paramsWf := by
  grind [Dev.setTherm, Dev.paramsWf_upd]

theorem Dev.setBaro_paramsWf (d : Dev) (g : Barometer → Barometer) (h0 : d.paramsWf) : (Dev.setBaro d g).paramsWf := by
  grind [Dev.setBaro, Dev.paramsWf_upd]

theorem Dev.thermalLog_paramsWf (d : Dev) (source : Nat) (h0 : d.paramsWf) : (Dev.thermalLog d source).paramsWf := by
  grind [Dev.thermalLog, Dev.paramsWf_upd, Dev.logOpen_paramsWf, Dev.takeFree_paramsWf]

theorem Dev.thermalEvent_paramsWf (d : Dev) (source : Nat) (h0 : d.paramsWf) : (Dev.thermalEvent d source).paramsWf := by
  grind [Dev.thermalEvent, Dev.paramsWf_upd, Dev.raise_paramsWf, Dev.thermalLog_paramsWf]

theorem Dev.holdTags_paramsWf (d : Dev) (h0 : d.paramsWf) : (Dev.holdTags d).paramsWf := by
  grind [Dev.holdTags, Dev.paramsWf_upd, Dev.setChan_paramsWf, Dev.take_paramsWf]

theorem Dev.powerDown_paramsWf (d : Dev) (h0 : d.paramsWf) : (Dev.powerDown d).paramsWf := by
  grind [Dev.powerDown, Dev.paramsWf_upd, Dev.clearRoutes_paramsWf, Dev.configDefaults_paramsWf, Dev.detachAll_paramsWf,
      Dev.dropQueues_paramsWf, Dev.forgetRun_paramsWf, Dev.holdTags_paramsWf, Dev.losePath_paramsWf, Dev.putFlag_paramsWf,
      Dev.stopLines_paramsWf, Dev.switchOff_paramsWf]

theorem Dev.trip_paramsWf (d : Dev) (h0 : d.paramsWf) : (Dev.trip d).paramsWf := by
  grind [Dev.trip, Dev.paramsWf_upd, Dev.emptyStore_paramsWf, Dev.enter_paramsWf, Dev.powerDown_paramsWf, Dev.put_paramsWf,
      Dev.putFlag_paramsWf, Dev.setTherm_paramsWf]

theorem Dev.hotOff_paramsWf (d : Dev) (h0 : d.paramsWf) : (Dev.hotOff d).paramsWf := by
  grind [Dev.hotOff, Dev.paramsWf_upd, Dev.putFlag_paramsWf, Dev.setTherm_paramsWf, Dev.thermalEvent_paramsWf]

theorem Dev.warnOff_paramsWf (d : Dev) (h0 : d.paramsWf) : (Dev.warnOff d).paramsWf := by
  grind [Dev.warnOff, Dev.paramsWf_upd, Dev.putFlag_paramsWf, Dev.setTherm_paramsWf, Dev.thermalEvent_paramsWf]

theorem Dev.judge_paramsWf (d : Dev) (h0 : d.paramsWf) : (Dev.judge d).paramsWf := by
  grind [Dev.judge, Dev.paramsWf_upd, Dev.count_paramsWf, Dev.hotOff_paramsWf, Dev.putFlag_paramsWf, Dev.setTherm_paramsWf,
      Dev.warnOff_paramsWf]

theorem Dev.leaveGust_paramsWf (d : Dev) (h0 : d.paramsWf) : (Dev.leaveGust d).paramsWf := by
  grind [Dev.leaveGust, Dev.paramsWf_upd, Dev.endRun_paramsWf, Dev.lsynWrite_paramsWf, Dev.put_paramsWf]

theorem Dev.capRate_paramsWf (d : Dev) (h0 : d.paramsWf) : (Dev.capRate d).paramsWf := by
  unfold Dev.capRate; dsimp only
  exact Dev.paramsWf_ite h0 (Dev.paramsWf_ite h0 (Dev.paramsWf_upd _ (Dev.dropAsk_paramsWf _ h0) ..))

theorem Dev.hotOn_paramsWf (d : Dev) (h0 : d.paramsWf) : (Dev.hotOn d).paramsWf := by
  grind [Dev.hotOn, Dev.paramsWf_upd, Dev.capRate_paramsWf, Dev.leaveGust_paramsWf, Dev.orBits_paramsWf, Dev.putFlag_paramsWf,
      Dev.setTherm_paramsWf, Dev.thermalEvent_paramsWf]

theorem Dev.judgeWindow_paramsWf (d : Dev) (quiet : Bool) (h0 : d.paramsWf) : (Dev.judgeWindow d quiet).paramsWf := by
  grind [Dev.judgeWindow, Dev.paramsWf_upd, Dev.putFlag_paramsWf, Dev.setTherm_paramsWf, Dev.thermalEvent_paramsWf]

theorem Dev.filterTemp_paramsWf (d : Dev) (raw : Int) (h0 : d.paramsWf) : (Dev.filterTemp d raw).paramsWf := by
  grind [Dev.filterTemp, Dev.paramsWf_upd, Dev.put_paramsWf, Dev.setTherm_paramsWf]

theorem Dev.diodeRange_paramsWf (d : Dev) (good : Bool) (h0 : d.paramsWf) : (Dev.diodeRange d good).paramsWf := by
  grind [Dev.diodeRange, Dev.paramsWf_upd, Dev.clearCause_paramsWf, Dev.judgeWindow_paramsWf, Dev.putFlag_paramsWf,
      Dev.setTherm_paramsWf, Dev.stopOn_paramsWf, Dev.thermalLog_paramsWf]

theorem Dev.diodeSample_paramsWf (d : Dev) (sample : Option Int) (h0 : d.paramsWf) : (Dev.diodeSample d sample).paramsWf := by
  unfold Dev.diodeSample; (repeat' split) <;> (try dsimp only) <;> (try simp only [h0]) <;> grind [Dev.paramsWf_upd,
      Dev.diodeRange_paramsWf, Dev.filterTemp_paramsWf, Dev.judge_paramsWf, Dev.judgeWindow_paramsWf, Dev.setTherm_paramsWf,
      Dev.trip_paramsWf]

theorem Dev.noteLog_paramsWf (d : Dev) (h0 : d.paramsWf) : (Dev.noteLog d).paramsWf := by
  grind [Dev.noteLog, Dev.paramsWf_upd, Dev.log_paramsWf, Dev.put_paramsWf]

theorem Dev.commitLog_paramsWf (d : Dev) (h0 : d.paramsWf) : (Dev.commitLog d).paramsWf := by
  grind [Dev.commitLog, Dev.paramsWf_upd, Dev.log_paramsWf, Dev.noteLog_paramsWf, Dev.setBaro_paramsWf]

theorem Dev.logCommit_paramsWf (d : Dev) (h0 : d.paramsWf) : (Dev.logCommit d).paramsWf := by
  grind [Dev.logCommit, Dev.paramsWf_upd, Dev.commitLog_paramsWf]

theorem Dev.tripCommit_paramsWf (d : Dev) (h0 : d.paramsWf) : (Dev.tripCommit d).paramsWf := by
  grind [Dev.tripCommit, Dev.paramsWf_upd, Dev.commitLog_paramsWf, Dev.log_paramsWf, Dev.logOpen_paramsWf, Dev.putFlag_paramsWf,
      Dev.raise_paramsWf, Dev.setBaro_paramsWf, Dev.setTherm_paramsWf, Dev.writeReservation_paramsWf]

theorem effThermalStatus_paramsWf (x_ : Entry) (d : Dev) (h0 : d.paramsWf) : (effThermalStatus x_ d).1.paramsWf := by
  grind [effThermalStatus, Dev.paramsWf_upd]

theorem Dev.afterRead_paramsWf (d : Dev) (page w : Nat) (h0 : d.paramsWf) : (Dev.afterRead d page w).paramsWf := by
  grind [Dev.afterRead, Dev.paramsWf_upd, Dev.put_paramsWf, Dev.setWord_paramsWf]

end Sys2Proof.Machine
end

