-- ==== Sys2Proof/Laws/ParamsHost.lean ====
section
/-!
SUPPORT. The parameter words keep their canonical form under the operations of the host commands, the flash and the power sequence.
-/

set_option Elab.async false
set_option linter.unusedVariables false

namespace Sys2Proof.Machine

theorem Dev.storeWord_paramsWf (d : Dev) (page w v : Nat) (h0 : d.paramsWf) : (Dev.storeWord d page w v).paramsWf := by
  grind [Dev.storeWord, Dev.paramsWf_upd, Dev.setChan_paramsWf, Dev.setWord_paramsWf, Dev.touch_paramsWf]

theorem Dev.clearedFlag_paramsWf (d : Dev) (f : Fld) (bit : Nat) (h0 : d.paramsWf) : (Dev.clearedFlag d f bit).paramsWf := by
  grind [Dev.clearedFlag, Dev.paramsWf_upd, Dev.clearCause_paramsWf]

theorem Dev.wordActs_paramsWf (old : Dev) (page : Nat) (d : Dev) (p : Nat × Nat) (h0 : old.paramsWf) (h1 : d.paramsWf) :
    (Dev.wordActs old page d p).paramsWf := by
  unfold Dev.wordActs; (repeat' split) <;> (try dsimp only) <;> (try simp only [h0]) <;> grind [Dev.paramsWf_upd,
      Dev.armFlip_paramsWf, Dev.calibrateGroups_paramsWf, Dev.clearedFlag_paramsWf, Dev.freeze_paramsWf, Dev.markFrame_paramsWf,
      Dev.put_paramsWf, Dev.putFlag_paramsWf, Dev.reacquire_paramsWf, Dev.setBaro_paramsWf, Dev.setTherm_paramsWf]

theorem Dev.storeWords_paramsWf (d : Dev) (page first : Nat) (ws : List Nat) (h0 : d.paramsWf) : (Dev.storeWords d page first
    ws).paramsWf := by
  grind [Dev.storeWords, Dev.paramsWf_upd, Dev.storeWord_paramsWf, Dev.wordActs_paramsWf, Dev.paramsWf_foldl,
      Dev.paramsWf_foldl1]

theorem effParamRead_paramsWf (e : Entry) (d : Dev) (h0 : d.paramsWf) : (effParamRead e d).1.paramsWf := by
  grind [effParamRead, Dev.paramsWf_upd, Dev.afterRead_paramsWf, Dev.count_paramsWf, Dev.paramsWf_foldl, Dev.paramsWf_foldl1]

theorem effParamWrite_paramsWf (e : Entry) (d : Dev) (h0 : d.paramsWf) : (effParamWrite e d).1.paramsWf := by
  grind [effParamWrite, Dev.paramsWf_upd, Dev.count_paramsWf, Dev.refuseWindow_paramsWf, Dev.storeWords_paramsWf]

theorem effParamStage_paramsWf (e : Entry) (d : Dev) (h0 : d.paramsWf) : (effParamStage e d).1.paramsWf := by
  grind [effParamStage, Dev.paramsWf_upd, Dev.storeWords_paramsWf]

theorem Dev.paramWrite_paramsWf (d : Dev) (e : Entry) (h0 : d.paramsWf) : (Dev.paramWrite d e).paramsWf :=
    Dev.hostCommand_paramsWf _ _ _ _ _ h0 (fun e d h => effParamWrite_paramsWf e d h)

theorem Dev.announce_paramsWf (d : Dev) (old new : Conf) (first : Option Nat) (h0 : d.paramsWf) : (Dev.announce d old new
    first).paramsWf := by
  grind [Dev.announce, Dev.paramsWf_upd, Dev.tellHeads_paramsWf]

theorem Dev.commit_paramsWf (d : Dev) (boundary : Nat) (h0 : d.paramsWf) : (Dev.commit d boundary).1.paramsWf := by
  have hc : ∀ g, (d.setChan g).paramsWf := fun g => Dev.setChan_paramsWf d g h0
  have hp : ∀ x, (Dev.setChan (d.setChan (fun c => { c with pend := [] })) (fun c => { c with confs := x :: c.confs })).paramsWf
      :=
    fun x => Dev.setChan_paramsWf _ _ (hc _)
  unfold Dev.commit; dsimp only
  split
  · exact Dev.announce_paramsWf _ _ _ _ (Dev.cicBoundary_paramsWf _ _ _ (hp _))
  · refine Dev.announce_paramsWf _ _ _ _ ?_
    split
    · exact Dev.markMixed_paramsWf _ (Dev.cicBoundary_paramsWf _ _ _ (hp _))
    · exact hp _

theorem Dev.tryCommit_paramsWf (d : Dev) (boundary : Nat) (h0 : d.paramsWf) : (Dev.tryCommit d boundary).1.paramsWf := by
  grind [Dev.tryCommit, Dev.paramsWf_upd, Dev.commit_paramsWf, Dev.put_paramsWf]

theorem effCommit_paramsWf (e : Entry) (d : Dev) (h0 : d.paramsWf) : (effCommit e d).1.paramsWf := by
  grind [effCommit, Dev.paramsWf_upd, Dev.tryCommit_paramsWf]

theorem effTableWrite_paramsWf (e : Entry) (d : Dev) (h0 : d.paramsWf) : (effTableWrite e d).1.paramsWf := by
  grind [effTableWrite, Dev.paramsWf_upd, Dev.setChan_paramsWf]

theorem Dev.writeRecipe_paramsWf (d : Dev) (slot : Nat) (ws : List Word) (h0 : d.paramsWf) : ∀ t, Dev.writeRecipe d slot ws =
    some t → t.paramsWf := by
  grind [Dev.writeRecipe, Dev.paramsWf_upd, Dev.setBaro_paramsWf]

theorem Dev.applyWrite_paramsWf (d : Dev) (w : TableWrite) (h0 : d.paramsWf) : (Dev.applyWrite d w).1.paramsWf := by
  grind [Dev.applyWrite, Dev.paramsWf_upd, Dev.progWrite_paramsWf, Dev.refuseWindow_paramsWf, Dev.setBaro_paramsWf,
      Dev.setChan_paramsWf, Dev.writeRecipe_paramsWf]

theorem Dev.tableApply_paramsWf (d : Dev) (h0 : d.paramsWf) : (Dev.tableApply d).paramsWf := by
  grind [Dev.tableApply, Dev.paramsWf_upd, Dev.applyWrite_paramsWf, Dev.finish_paramsWf, Dev.setChan_paramsWf]

theorem effTableRead_paramsWf (e : Entry) (d : Dev) (h0 : d.paramsWf) : (effTableRead e d).1.paramsWf := by
  grind [effTableRead, Dev.paramsWf_upd]

theorem effCalibrate_paramsWf (e : Entry) (d : Dev) (h0 : d.paramsWf) : (effCalibrate e d).1.paramsWf := by
  grind [effCalibrate, Dev.paramsWf_upd, Dev.newRun_paramsWf, Dev.put_paramsWf]

theorem Dev.calOffset_paramsWf (d : Dev) (a : CalAcc) (h0 : d.paramsWf) : (Dev.calOffset d a).1.paramsWf := by
  grind [Dev.calOffset, Dev.paramsWf_upd, Dev.takeFree_paramsWf]

theorem Dev.darkOut_paramsWf (d : Dev) (x : CalHead) (h0 : d.paramsWf) : (Dev.darkOut d x).1.paramsWf := by
  grind [Dev.darkOut, Dev.paramsWf_upd, Dev.calOffset_paramsWf, Dev.paramsWf_foldl, Dev.paramsWf_foldl1]

theorem Dev.flatOut_paramsWf (d : Dev) (k : Calib) (x : CalHead) (h0 : d.paramsWf) : (Dev.flatOut d k x).1.paramsWf := by
  grind [Dev.flatOut, Dev.paramsWf_upd, Dev.takeFree_paramsWf, Dev.paramsWf_foldl, Dev.paramsWf_foldl1]

theorem Dev.endCalibrate_paramsWf (d : Dev) (k : Calib) (r : Reply) (h0 : d.paramsWf) : (Dev.endCalibrate d k r).paramsWf := by
  grind [Dev.endCalibrate, Dev.paramsWf_upd, Dev.endRun_paramsWf, Dev.finishLong_paramsWf]

theorem Dev.keepCalibration_paramsWf (d : Dev) (k : Calib) (outs : List (Nat × CalOut)) (h0 : d.paramsWf) : (Dev.keepCalibration
    d k outs).1.paramsWf := by
  grind [Dev.keepCalibration, Dev.paramsWf_upd, Dev.refuseWindow_paramsWf, Dev.setBaro_paramsWf, Dev.setChan_paramsWf,
      Dev.tryCommit_paramsWf, Dev.paramsWf_foldl, Dev.paramsWf_foldl1]

theorem Dev.calibrateFinal_paramsWf (d : Dev) (h0 : d.paramsWf) : (Dev.calibrateFinal d).paramsWf := by
  grind [Dev.calibrateFinal, Dev.paramsWf_upd, Dev.darkOut_paramsWf, Dev.endCalibrate_paramsWf, Dev.flatOut_paramsWf,
      Dev.keepCalibration_paramsWf, Dev.paramsWf_foldl, Dev.paramsWf_foldl1]

theorem effRingAttach_paramsWf (e : Entry) (d : Dev) (h0 : d.paramsWf) : (effRingAttach e d).1.paramsWf := by
  grind [effRingAttach, Dev.paramsWf_upd, Dev.noteAttached_paramsWf, Dev.setWin_paramsWf, Dev.paramsWf_foldl,
      Dev.paramsWf_foldl1]

theorem effRingRelease_paramsWf (e : Entry) (d : Dev) (h0 : d.paramsWf) : (effRingRelease e d).1.paramsWf := by
  grind [effRingRelease, Dev.paramsWf_upd, Dev.endTaps_paramsWf, Dev.noteAttached_paramsWf, Dev.orBits_paramsWf,
      Dev.setWin_paramsWf]

theorem Dev.writeRecord_paramsWf (d : Dev) (w : Nat) (p : Placed) (h0 : d.paramsWf) : (Dev.writeRecord d w p).paramsWf := by
  grind [Dev.writeRecord, Dev.paramsWf_upd, Dev.send_paramsWf, Dev.paramsWf_foldl, Dev.paramsWf_foldl1]

theorem Dev.publish_paramsWf (d : Dev) (w : Nat) (h0 : d.paramsWf) : (Dev.publish d w).paramsWf := by
  grind [Dev.publish, Dev.paramsWf_upd, Dev.send_paramsWf, Dev.setWin_paramsWf, Dev.writeRecord_paramsWf, Dev.paramsWf_foldl,
      Dev.paramsWf_foldl1]

theorem Dev.writeRp_paramsWf (d : Dev) (w v : Nat) (h0 : d.paramsWf) : (Dev.writeRp d w v).paramsWf := by
  grind [Dev.writeRp, Dev.paramsWf_upd, Dev.orBits_paramsWf, Dev.raise_paramsWf, Dev.setWin_paramsWf]

theorem Dev.rpLo_paramsWf (d : Dev) (w lo : Nat) (h0 : d.paramsWf) : (Dev.rpLo d w lo).paramsWf := by
  grind [Dev.rpLo, Dev.paramsWf_upd, Dev.writeRp_paramsWf]

theorem Dev.readWin_paramsWf (d : Dev) (w off : Nat) (h0 : d.paramsWf) : (Dev.readWin d w off).1.paramsWf := by
  unfold Dev.readWin; (repeat' split) <;> (try dsimp only) <;> (try simp only [h0]) <;> grind [Dev.paramsWf_upd,
      Dev.setWin_paramsWf]

theorem Dev.writeWin_paramsWf (d : Dev) (w off v : Nat) (h0 : d.paramsWf) : (Dev.writeWin d w off v).paramsWf := by
  unfold Dev.writeWin; (repeat' split) <;> (try dsimp only) <;> (try simp only [h0]) <;> grind [Dev.paramsWf_upd,
      Dev.rpLo_paramsWf, Dev.setWin_paramsWf]

theorem Dev.snapshot_paramsWf (d : Dev) (h0 : d.paramsWf) : (Dev.snapshot d).paramsWf := by
  grind [Dev.snapshot, Dev.paramsWf_upd, Dev.archive_paramsWf]

theorem Dev.storeError_paramsWf (d : Dev) (corrected : Bool) (addr : Nat) (h0 : d.paramsWf) : (Dev.storeError d corrected
    addr).paramsWf := by
  grind [Dev.storeError, Dev.paramsWf_upd, Dev.count_paramsWf, Dev.orBits_paramsWf, Dev.put_paramsWf, Dev.raise_paramsWf]

theorem Dev.carriage_paramsWf (d : Dev) (path : Bool) (stage : Nat) (corrected : Bool) (h0 : d.paramsWf) : (Dev.carriage d path
    stage corrected).paramsWf := by
  grind [Dev.carriage, Dev.paramsWf_upd, Dev.count_paramsWf, Dev.orBits_paramsWf, Dev.raise_paramsWf, Dev.stopOn_paramsWf]

theorem Dev.pathErrors_paramsWf (d : Dev) (errs : List CarriageErr) (h0 : d.paramsWf) : (Dev.pathErrors d errs).paramsWf := by
  grind [Dev.pathErrors, Dev.paramsWf_upd, Dev.carriage_paramsWf, Dev.paramsWf_foldl, Dev.paramsWf_foldl1]

theorem Dev.recordError_paramsWf (d : Dev) (e : RecordErr) (h0 : d.paramsWf) : (Dev.recordError d e).paramsWf := by
  cases e with
  | carriage x => exact Dev.carriage_paramsWf _ _ _ _ h0
  | store addr corrected => exact Dev.storeError_paramsWf _ _ _ h0

theorem Dev.poisonOldest_paramsWf (d : Dev) (w : Nat) (h0 : d.paramsWf) : (Dev.poisonOldest d w).paramsWf := by
  grind [Dev.poisonOldest, Dev.paramsWf_upd, Dev.count_paramsWf, Dev.orBits_paramsWf, Dev.raise_paramsWf, Dev.setWin_paramsWf]

theorem Dev.recordErrors_paramsWf (d : Dev) (w : Nat) (errs : List RecordErr) (h0 : d.paramsWf) : (Dev.recordErrors d w
    errs).paramsWf := by
  grind [Dev.recordErrors, Dev.paramsWf_upd, Dev.poisonOldest_paramsWf, Dev.recordError_paramsWf, Dev.paramsWf_foldl,
      Dev.paramsWf_foldl1]

theorem Dev.scrub_paramsWf (d : Dev) (percent : Nat) (err : Option (Bool × Nat)) (h0 : d.paramsWf) : (Dev.scrub d percent
    err).paramsWf := by
  grind [Dev.scrub, Dev.paramsWf_upd, Dev.put_paramsWf, Dev.storeError_paramsWf]

theorem effFwStage_paramsWf (e : Entry) (d : Dev) (h0 : d.paramsWf) : (effFwStage e d).1.paramsWf := by
  grind [effFwStage, Dev.paramsWf_upd, Dev.put_paramsWf, Dev.putFlag_paramsWf, Dev.refuseWindow_paramsWf, Dev.setBaro_paramsWf]

theorem effFwVerify_paramsWf (e : Entry) (d : Dev) (h0 : d.paramsWf) : (effFwVerify e d).1.paramsWf := by
  grind [effFwVerify, Dev.paramsWf_upd, Dev.setChan_paramsWf]

theorem Dev.outcomeWith_paramsWf (d : Dev) (kind : Nat) (x : Image) (h0 : d.paramsWf) : (Dev.outcomeWith d kind x).1.paramsWf :=
    by
  grind [Dev.outcomeWith, Dev.paramsWf_upd, Dev.takeFree_paramsWf]

theorem Dev.fwVerifyDone_paramsWf (d : Dev) (h0 : d.paramsWf) : (Dev.fwVerifyDone d).paramsWf := by
  grind [Dev.fwVerifyDone, Dev.paramsWf_upd, Dev.finishLong_paramsWf, Dev.outcomeWith_paramsWf, Dev.putFlag_paramsWf]

theorem effFwActivate_paramsWf (e : Entry) (d : Dev) (h0 : d.paramsWf) : (effFwActivate e d).1.paramsWf := by
  grind [effFwActivate, Dev.paramsWf_upd, Dev.refuseWindow_paramsWf, Dev.setBaro_paramsWf, Dev.setChan_paramsWf]

theorem Dev.fwActivateDone_paramsWf (d : Dev) (h0 : d.paramsWf) : (Dev.fwActivateDone d).paramsWf := by
  grind [Dev.fwActivateDone, Dev.paramsWf_upd, Dev.finishLong_paramsWf, Dev.refuseWindow_paramsWf, Dev.setBaro_paramsWf]

theorem effUnlockUntested_paramsWf (e : Entry) (d : Dev) (h0 : d.paramsWf) : (effUnlockUntested e d).1.paramsWf := by
  grind [effUnlockUntested, Dev.paramsWf_upd, Dev.enter_paramsWf, Dev.logOpen_paramsWf, Dev.orBits_paramsWf,
      Dev.putFlag_paramsWf, Dev.raise_paramsWf]

theorem effIdentify_paramsWf (e : Entry) (d : Dev) (h0 : d.paramsWf) : (effIdentify e d).1.paramsWf := by
  grind [effIdentify, Dev.paramsWf_upd]

theorem effLogRead_paramsWf (e : Entry) (d : Dev) (h0 : d.paramsWf) : (effLogRead e d).1.paramsWf := by
  grind [effLogRead, Dev.paramsWf_upd, Dev.take_paramsWf]

theorem Dev.putPage_paramsWf (d : Dev) (s : Section) (h0 : d.paramsWf) : (Dev.putPage d s).paramsWf := by
  grind [Dev.putPage, Dev.paramsWf_upd, Dev.storeWord_paramsWf, Dev.paramsWf_foldl, Dev.paramsWf_foldl1]

theorem Dev.putTable_paramsWf (d : Dev) (s : Section) (h0 : d.paramsWf) : (Dev.putTable d s).paramsWf := by
  grind [Dev.putTable, Dev.paramsWf_upd, Dev.setChan_paramsWf, Dev.setEng_paramsWf]

theorem Dev.putSection_paramsWf (d : Dev) (s : Section) (h0 : d.paramsWf) : (Dev.putSection d s).paramsWf := by
  grind [Dev.putSection, Dev.paramsWf_upd, Dev.putPage_paramsWf, Dev.putTable_paramsWf]

theorem Dev.lsynSeen_paramsWf (d : Dev) (s : Section) (h0 : d.paramsWf) : (Dev.lsynSeen d s).paramsWf := by
  grind [Dev.lsynSeen, Dev.paramsWf_upd, Dev.put_paramsWf, Dev.putNf_paramsWf]

theorem Dev.withSections_paramsWf (d : Dev) (ss : List Section) (h0 : d.paramsWf) : (Dev.withSections d ss).paramsWf := by
  grind [Dev.withSections, Dev.paramsWf_upd, Dev.putSection_paramsWf, Dev.stopEngines_paramsWf, Dev.paramsWf_foldl,
      Dev.paramsWf_foldl1]

theorem Dev.sectionActs_paramsWf (old d : Dev) (s : Section) (h0 : old.paramsWf) (h1 : d.paramsWf) : (Dev.sectionActs old d
    s).paramsWf := by
  grind [Dev.sectionActs, Dev.paramsWf_upd, Dev.wordActs_paramsWf, Dev.paramsWf_foldl, Dev.paramsWf_foldl1]

theorem Dev.loadRecipe_paramsWf (d : Dev) (slot : Nat) (h0 : d.paramsWf) : (Dev.loadRecipe d slot).1.paramsWf := by
  grind [Dev.loadRecipe, Dev.paramsWf_upd, Dev.put_paramsWf, Dev.sectionActs_paramsWf, Dev.setChan_paramsWf,
      Dev.withSections_paramsWf, Dev.paramsWf_foldl, Dev.paramsWf_foldl1]

theorem effRecipeLoad_paramsWf (e : Entry) (d : Dev) (h0 : d.paramsWf) : (effRecipeLoad e d).1.paramsWf := by
  grind [effRecipeLoad, Dev.paramsWf_upd, Dev.abortAuto_paramsWf, Dev.loadRecipe_paramsWf]

theorem Dev.applyLsyn_paramsWf (d : Dev) (s : Section) (h0 : d.paramsWf) : (Dev.applyLsyn d s).paramsWf := by
  grind [Dev.applyLsyn, Dev.paramsWf_upd, Dev.lsynWrite_paramsWf]

theorem Dev.recipeLoadDone_paramsWf (d : Dev) (h0 : d.paramsWf) : (Dev.recipeLoadDone d).paramsWf := by
  unfold Dev.recipeLoadDone; dsimp only
  split
  · exact h0
  · refine Dev.finishLong_paramsWf _ _ _ (Dev.logOpen_paramsWf _ _ _ _ ?_)
    have ht := Dev.tryCommit_paramsWf _ 0 (Dev.paramsWf_foldl Dev.applyLsyn ((sectionsOf (rcp (d.baro.flash.recipe
        ((d.chan.longArgs.head?).getD 0)) 1 / 65536)
      ((d.baro.flash.recipe ((d.chan.longArgs.head?).getD 0)).drop 16)).getD []) d h0 (fun a x ha => Dev.applyLsyn_paramsWf a x
          ha))
    split
    · next t heq => exact Dev.startEngines_paramsWf _ _ _ _ ht _ heq
    · exact ht

theorem Dev.captureFor_paramsWf (d : Dev) (slot tries : Nat) (name : List Byte) (h0 : d.paramsWf) : (Dev.captureFor d slot tries
    name).paramsWf := by
  grind [Dev.captureFor, Dev.paramsWf_upd, Dev.setChan_paramsWf]

theorem effRecipeSave_paramsWf (e : Entry) (d : Dev) (h0 : d.paramsWf) : (effRecipeSave e d).1.paramsWf := by
  grind [effRecipeSave, Dev.paramsWf_upd, Dev.captureFor_paramsWf]

theorem Dev.recipeSaveDone_paramsWf (d : Dev) (h0 : d.paramsWf) : (Dev.recipeSaveDone d).paramsWf := by
  grind [Dev.recipeSaveDone, Dev.paramsWf_upd, Dev.captureFor_paramsWf, Dev.finishLong_paramsWf, Dev.refuseWindow_paramsWf,
      Dev.take_paramsWf, Dev.writeRecipe_paramsWf]

theorem Dev.autoLog_paramsWf (d : Dev) (opcode : Nat) (r : Reply) (h0 : d.paramsWf) : (Dev.autoLog d opcode r).paramsWf := by
  grind [Dev.autoLog, Dev.paramsWf_upd, Dev.logOpen_paramsWf]

theorem Dev.autoFail_paramsWf (d : Dev) (status : Nat) (h0 : d.paramsWf) : (Dev.autoFail d status).paramsWf := by
  grind [Dev.autoFail, Dev.paramsWf_upd, Dev.log_paramsWf, Dev.orBits_paramsWf, Dev.put_paramsWf, Dev.raise_paramsWf]

theorem Dev.autoNext_paramsWf (d : Dev) (step : Nat) (h0 : d.paramsWf) : (Dev.autoNext d step).paramsWf := by
  grind [Dev.autoNext, Dev.paramsWf_upd, Dev.put_paramsWf, Dev.setBaro_paramsWf]

theorem Dev.autoLong_paramsWf (d : Dev) (opcode : Nat) (go : Dev → Dev × Reply) (h0 : d.paramsWf) (hf0 : ∀ a0, a0.paramsWf → (go
    a0).1.paramsWf) : (Dev.autoLong d opcode go).paramsWf := by
  grind [Dev.autoLong, Dev.paramsWf_upd, Dev.autoLog_paramsWf, Dev.setBaro_paramsWf, Dev.setChan_paramsWf]

theorem Dev.autoTrain_paramsWf (d : Dev) (g : Nat) (h0 : d.paramsWf) : (Dev.autoTrain d g).1.paramsWf := by
  grind [Dev.autoTrain, Dev.paramsWf_upd, Dev.groupDown_paramsWf, Dev.trainGroup_paramsWf]

theorem Dev.autoState_paramsWf (d : Dev) (new : UState) (h0 : d.paramsWf) : (Dev.autoState d new).1.paramsWf := by
  grind [Dev.autoState, Dev.paramsWf_upd, Dev.autoLog_paramsWf, Dev.setState_paramsWf]

theorem Dev.autostart_paramsWf (d : Dev) (h0 : d.paramsWf) : (Dev.autostart d).paramsWf := by
  grind [Dev.autostart, Dev.paramsWf_upd, Dev.autoFail_paramsWf, Dev.autoLong_paramsWf, Dev.autoNext_paramsWf,
      Dev.autoState_paramsWf, Dev.autoTrain_paramsWf, Dev.loadRecipe_paramsWf, Dev.setBaro_paramsWf, Dev.takeFree_paramsWf]

theorem Dev.autoHoldEnd_paramsWf (d : Dev) (h0 : d.paramsWf) : (Dev.autoHoldEnd d).paramsWf := by
  grind [Dev.autoHoldEnd, Dev.paramsWf_upd, Dev.autoFail_paramsWf, Dev.autoNext_paramsWf, Dev.autoState_paramsWf,
      Dev.put_paramsWf]

theorem Dev.setPower_paramsWf (d : Dev) (g : Power → Power) (h0 : d.paramsWf) : (Dev.setPower d g).paramsWf := by
  grind [Dev.setPower, Dev.paramsWf_upd]

theorem Dev.testStarts_paramsWf (d : Dev) (id inst : Nat) (h0 : d.paramsWf) : (Dev.testStarts d id inst).paramsWf := by
  unfold Dev.testStarts; (repeat' split) <;> (try dsimp only) <;> (try simp only [h0]) <;> grind [Dev.paramsWf_upd,
      Dev.closeGroup_paramsWf, Dev.emptyStore_paramsWf, Dev.endRun_paramsWf, Dev.endTest_paramsWf, Dev.put_paramsWf,
      Dev.setAux_paramsWf, Dev.setPower_paramsWf, Dev.stopEngines_paramsWf]

theorem effSelftest_paramsWf (e : Entry) (d : Dev) (h0 : d.paramsWf) : (effSelftest e d).1.paramsWf := by
  grind [effSelftest, Dev.paramsWf_upd, Dev.put_paramsWf, Dev.putFlag_paramsWf, Dev.setChan_paramsWf, Dev.testStarts_paramsWf]

theorem Dev.bistOver_paramsWf (d : Dev) (h0 : d.paramsWf) : (Dev.bistOver d).paramsWf := by
  grind [Dev.bistOver, Dev.paramsWf_upd, Dev.newRun_paramsWf, Dev.setPower_paramsWf, Dev.storeDown_paramsWf]

theorem Dev.selftestDone_paramsWf (d : Dev) (pass : Bool) (code us : Nat) (h0 : d.paramsWf) : (Dev.selftestDone d pass code
    us).paramsWf := by
  grind [Dev.selftestDone, Dev.paramsWf_upd, Dev.bistOver_paramsWf, Dev.count_paramsWf, Dev.finishLong_paramsWf,
      Dev.put_paramsWf, Dev.putFlag_paramsWf, Dev.raise_paramsWf, Dev.stopEngines_paramsWf]

theorem Dev.keep_paramsWf (old new : Dev) (f : Fld) (h0 : old.paramsWf) (h1 : new.paramsWf) : (Dev.keep old new f).paramsWf :=
    by
  grind [Dev.keep, Dev.paramsWf_upd, Dev.put_paramsWf]

theorem Dev.keepAlways_paramsWf (old n : Dev) (h0 : old.paramsWf) (h1 : n.paramsWf) : (Dev.keepAlways old n).paramsWf := by
  grind [Dev.keepAlways, Dev.paramsWf_upd]

theorem Dev.keepAon_paramsWf (old n : Dev) (h0 : old.paramsWf) (h1 : n.paramsWf) : (Dev.keepAon old n).paramsWf := by
  grind [Dev.keepAon, Dev.paramsWf_upd, Dev.keep_paramsWf, Dev.put_paramsWf, Dev.paramsWf_foldl, Dev.paramsWf_foldl1]

theorem Dev.keepRunning_paramsWf (old n : Dev) (h0 : old.paramsWf) (h1 : n.paramsWf) : (Dev.keepRunning old n).paramsWf := by
  grind [Dev.keepRunning, Dev.paramsWf_upd, Dev.keep_paramsWf, Dev.put_paramsWf, Dev.paramsWf_foldl, Dev.paramsWf_foldl1]

theorem Dev.keepCauses_paramsWf (old n : Dev) (h0 : old.paramsWf) (h1 : n.paramsWf) : (Dev.keepCauses old n).paramsWf := by
  grind [Dev.keepCauses, Dev.paramsWf_upd, Dev.put_paramsWf]

theorem Dev.markReset_paramsWf (d : Dev) (rank : Nat) (h0 : d.paramsWf) : (Dev.markReset d rank).paramsWf := by
  grind [Dev.markReset, Dev.paramsWf_upd, Dev.setPower_paramsWf]

theorem Dev.bootInto_paramsWf (d : Dev) (kind : ResetKind) (h0 : d.paramsWf) : (Dev.bootInto d kind).paramsWf := by
  have ht := Dev.holdTags_paramsWf d h0
  have hc : ∀ fl, (Dev.cold fl).paramsWf := Dev.cold_paramsWf
  have ha : ((d.holdTags).keepAlways (Dev.cold d.holdTags.baro.flash)).paramsWf := Dev.keepAlways_paramsWf _ _ ht (hc _)
  unfold Dev.bootInto
  extract_lets t n code n2
  have h2 : n2.paramsWf := by
    simp only [n2]; split
    · exact Dev.put_paramsWf _ _ _ _ ha
    · exact Dev.setTherm_paramsWf _ _ (Dev.keepAon_paramsWf _ _ ht ha)
    · exact Dev.keepRunning_paramsWf _ _ ht (Dev.keepAon_paramsWf _ _ ht ha)
  clear_value n2 code
  exact Dev.markReset_paramsWf _ _ (Dev.noteLog_paramsWf _ (Dev.put_paramsWf _ _ _ _ (Dev.keepCauses_paramsWf _ _ ht h2)))

theorem Dev.firstDomains_paramsWf (d : Dev) (h0 : d.paramsWf) : (Dev.firstDomains d).paramsWf := by
  grind [Dev.firstDomains, Dev.paramsWf_upd, Dev.switchOn_paramsWf]

theorem Dev.warmReset_paramsWf (d : Dev) (kind : ResetKind) (h0 : d.paramsWf) : (Dev.warmReset d kind).paramsWf := by
  grind [Dev.warmReset, Dev.paramsWf_upd, Dev.bootInto_paramsWf, Dev.count_paramsWf, Dev.pulse_paramsWf, Dev.setPower_paramsWf]

theorem Dev.pulseEnd_paramsWf (d : Dev) (h0 : d.paramsWf) : (Dev.pulseEnd d).paramsWf := by
  grind [Dev.pulseEnd, Dev.paramsWf_upd, Dev.firstDomains_paramsWf, Dev.pulse_paramsWf, Dev.setPower_paramsWf]

theorem effResetUnit_paramsWf (e : Entry) (d : Dev) (h0 : d.paramsWf) : (effResetUnit e d).1.paramsWf := by
  grind [effResetUnit, Dev.paramsWf_upd, Dev.setPower_paramsWf]

theorem Dev.resetCheck_paramsWf (d : Dev) (h0 : d.paramsWf) : (Dev.resetCheck d).paramsWf := by
  grind [Dev.resetCheck, Dev.paramsWf_upd, Dev.warmReset_paramsWf]

theorem Dev.takeOutst_paramsWf (d : Dev) (tag code : Nat) (h0 : d.paramsWf) : (Dev.takeOutst d tag code).1.paramsWf := by
  grind [Dev.takeOutst, Dev.paramsWf_upd, Dev.setChan_paramsWf]

theorem managedOp_paramsWf (e : Entry) (a b : Form × (Entry → Dev → Dev × Reply)) (code : Nat) (ha : ∀ e d, d.paramsWf → (a.2 e
    d).1.paramsWf)
    (hb : ∀ e d, d.paramsWf → (b.2 e d).1.paramsWf) (x : Entry) (d : Dev) (h : d.paramsWf) : ((managedOp e a b code).2 x
        d).1.paramsWf := by
  unfold managedOp
  split
  all_goals try dsimp only
  all_goals with_reducible first | exact h | exact ha _ _ h | exact hb _ _ h | exact effAuxSequence_paramsWf _ _ h |
      exact effCalibrate_paramsWf _ _ h | exact effDomainSet_paramsWf _ _ h | exact effEngineLoad_paramsWf _ _ h |
      exact effFwActivate_paramsWf _ _ h | exact effFwStage_paramsWf _ _ h | exact effFwVerify_paramsWf _ _ h |
      exact effHeadControl_paramsWf _ _ h | exact effIdentify_paramsWf _ _ h | exact effLanePrbs_paramsWf _ _ h |
      exact effLinkTrain_paramsWf _ _ h | exact effLogRead_paramsWf _ _ h | exact effLsynConfig_paramsWf _ _ h |
      exact effLsynRamp_paramsWf _ _ h | exact effParamWrite_paramsWf _ _ h | exact effRecipeLoad_paramsWf _ _ h |
      exact effRecipeSave_paramsWf _ _ h | exact effResetPipeline_paramsWf _ _ h | exact effRingAttach_paramsWf _ _ h |
      exact effStateSet_paramsWf _ _ h | exact effStatsRead_paramsWf _ _ h | exact effTableRead_paramsWf _ _ h |
      exact effTableWrite_paramsWf _ _ h | exact effTapArm_paramsWf _ _ h | exact effTimebaseAlign_paramsWf _ _ h |
      exact effTimerConfig_paramsWf _ _ h | exact effUnlockUntested_paramsWf _ _ h | exact effValveTest_paramsWf _ _ h

theorem Dev.runIntake_paramsWf (d : Dev) (p : Nat × Entry) (h0 : d.paramsWf) : (Dev.runIntake d p).paramsWf := by
  have ht := Dev.takeOutst_paramsWf d p.2.tag.toNat p.1 h0
  unfold Dev.runIntake
  split
  · next heq => rw [heq] at ht; exact ht
  · next d1 x heq =>
    rw [heq] at ht
    have hr : ∀ (d : Dev) (r : Reply), d.paramsWf → Dev.paramsWf (if x.sq = lostSq then d.log 1 p.1 (r.status.code + 256 *
        r.detail) x.tag
        else d.answer x.sq x.tag p.2.bufAddr.toNat p.1 r) := by
      intro d r h
      split
      · exact Dev.log_paramsWf _ _ _ _ _ _ h
      · exact Dev.answer_paramsWf _ _ _ _ _ _ h
    dsimp only
    split
    · exact hr _ _ ht
    · have ho := managedOp_paramsWf p.2 (formSelftest, effSelftest) (formResetUnit, effResetUnit) p.1 (fun e d h =>
        effSelftest_paramsWf e d h)
        (fun e d h => effResetUnit_paramsWf e d h) p.2 _ (Dev.readBuffer_paramsWf d1
          (managedOp p.2 (formSelftest, effSelftest) (formResetUnit, effResetUnit) p.1).1 p.2 ht)
      split
      · exact Dev.setChan_paramsWf _ _ ho
      · exact hr _ _ ho

theorem Dev.resumeIntake_paramsWf (d : Dev) (k_ : Nat) (h0 : d.paramsWf) : (Dev.resumeIntake d k_).paramsWf := by
  induction k_ generalizing d with
  | zero => exact h0
  | succ k ih =>
    unfold Dev.resumeIntake; dsimp only
    split
    · exact h0
    · split
      · exact h0
      · exact ih _ (Dev.runIntake_paramsWf _ _ (Dev.setChan_paramsWf _ _ h0))

theorem Dev.resume_paramsWf (d : Dev) (h0 : d.paramsWf) : (Dev.resume d).paramsWf := by
  grind [Dev.resume, Dev.paramsWf_upd, Dev.resetCheck_paramsWf, Dev.resumeIntake_paramsWf]

theorem Dev.debuggerHalt_paramsWf (d : Dev) (halt : Bool) (h0 : d.paramsWf) : (Dev.debuggerHalt d halt).paramsWf := by
  grind [Dev.debuggerHalt, Dev.paramsWf_upd, Dev.finish_paramsWf, Dev.freezeAll_paramsWf, Dev.resume_paramsWf,
      Dev.setBaro_paramsWf, Dev.setChan_paramsWf, Dev.paramsWf_foldl, Dev.paramsWf_foldl1]

theorem Dev.deliverAborted_paramsWf (d : Dev) (h0 : d.paramsWf) : (Dev.deliverAborted d).paramsWf := by
  grind [Dev.deliverAborted, Dev.paramsWf_upd, Dev.complete_paramsWf, Dev.setChan_paramsWf, Dev.paramsWf_foldl,
      Dev.paramsWf_foldl1]

theorem Dev.coldStart_paramsWf (d : Dev) (h0 : d.paramsWf) : (Dev.coldStart d).paramsWf := by
  grind [Dev.coldStart, Dev.paramsWf_upd, Dev.bootInto_paramsWf]

theorem Dev.vinPowerOn_paramsWf (d : Dev) (h0 : d.paramsWf) : (Dev.vinPowerOn d).paramsWf := by
  grind [Dev.vinPowerOn, Dev.paramsWf_upd, Dev.bootInto_paramsWf, Dev.setPower_paramsWf]

theorem Dev.powerFail_paramsWf (d : Dev) (h0 : d.paramsWf) : (Dev.powerFail d).paramsWf := by
  grind [Dev.powerFail, Dev.paramsWf_upd, Dev.count_paramsWf, Dev.logOpen_paramsWf, Dev.markReset_paramsWf,
      Dev.powerDown_paramsWf, Dev.setPower_paramsWf, Dev.takeFree_paramsWf]

theorem Dev.vstbyLoss_paramsWf (d : Dev) (h0 : d.paramsWf) : (Dev.vstbyLoss d).paramsWf := by
  unfold Dev.vstbyLoss
  split
  · exact h0
  · exact Dev.setPower_paramsWf _ _ (Dev.put_paramsWf _ _ _ _ (Dev.put_paramsWf _ _ _ _ (Dev.keepAlways_paramsWf _ _ h0
      (Dev.cold_paramsWf _))))

theorem Dev.resetN_paramsWf (d : Dev) (ns : Nat) (h0 : d.paramsWf) : (Dev.resetN d ns).paramsWf := by
  grind [Dev.resetN, Dev.paramsWf_upd, Dev.setPower_paramsWf, Dev.warmReset_paramsWf]

theorem Dev.resetNRelease_paramsWf (d : Dev) (h0 : d.paramsWf) : (Dev.resetNRelease d).paramsWf := by
  grind [Dev.resetNRelease, Dev.paramsWf_upd, Dev.firstDomains_paramsWf, Dev.setPower_paramsWf]

theorem Dev.watchdog_paramsWf (d : Dev) (h0 : d.paramsWf) : (Dev.watchdog d).paramsWf := by
  grind [Dev.watchdog, Dev.paramsWf_upd, Dev.count_paramsWf, Dev.setBaro_paramsWf, Dev.warmReset_paramsWf]

theorem Dev.pllUp_paramsWf (d : Dev) (h0 : d.paramsWf) : (Dev.pllUp d).paramsWf := by
  grind [Dev.pllUp, Dev.paramsWf_upd, Dev.firstDomains_paramsWf, Dev.pllSettled_paramsWf]

theorem Dev.fallback_paramsWf (d : Dev) (kind slot : Nat) (h0 : d.paramsWf) : (Dev.fallback d kind slot).paramsWf := by
  grind [Dev.fallback, Dev.paramsWf_upd, Dev.orBits_paramsWf, Dev.putFlag_paramsWf, Dev.raise_paramsWf]

theorem Dev.readSubsystem_paramsWf (d : Dev) (h0 : d.paramsWf) : (Dev.readSubsystem d).paramsWf := by
  grind [Dev.readSubsystem, Dev.paramsWf_upd]

theorem Dev.loadCal_paramsWf (d : Dev) (h0 : d.paramsWf) : (Dev.loadCal d).paramsWf := by
  grind [Dev.loadCal, Dev.paramsWf_upd, Dev.applyBoard_paramsWf, Dev.autostart_paramsWf, Dev.checkBlt_paramsWf,
      Dev.put_paramsWf, Dev.readSubsystem_paramsWf, Dev.setChan_paramsWf, Dev.setWord_paramsWf, Dev.paramsWf_foldl,
      Dev.paramsWf_foldl1]

theorem Dev.bootDog_paramsWf (d : Dev) (h0 : d.paramsWf) : (Dev.bootDog d).paramsWf := by
  grind [Dev.bootDog, Dev.paramsWf_upd, Dev.logOpen_paramsWf, Dev.orBits_paramsWf, Dev.raise_paramsWf, Dev.setBaro_paramsWf]

theorem Dev.bootPair_paramsWf (d : Dev) (b : Nat × Bool) (q : Nat) (h0 : d.paramsWf) : (Dev.bootPair d b q).paramsWf := by
  grind [Dev.bootPair, Dev.paramsWf_upd, Dev.fallback_paramsWf, Dev.loadCal_paramsWf, Dev.put_paramsWf, Dev.setBaro_paramsWf,
      Dev.stopOn_paramsWf, Dev.switchOn_paramsWf, Dev.writeReservation_paramsWf]

theorem Dev.bootSelection_paramsWf (d : Dev) (h0 : d.paramsWf) : (Dev.bootSelection d).paramsWf := by
  grind [Dev.bootSelection, Dev.paramsWf_upd, Dev.bootDog_paramsWf, Dev.bootPair_paramsWf, Dev.deliverAborted_paramsWf,
      Dev.resume_paramsWf, Dev.setBaro_paramsWf]

theorem Dev.reportPast_paramsWf (d : Dev) (h0 : d.paramsWf) : (Dev.reportPast d).paramsWf := by
  grind [Dev.reportPast, Dev.paramsWf_upd, Dev.orBits_paramsWf, Dev.raise_paramsWf, Dev.setPower_paramsWf,
      Dev.setTherm_paramsWf]

theorem Dev.autoBegin_paramsWf (d : Dev) (h0 : d.paramsWf) : (Dev.autoBegin d).paramsWf := by
  grind [Dev.autoBegin, Dev.paramsWf_upd, Dev.autoNext_paramsWf, Dev.put_paramsWf]

theorem Dev.startupDone_paramsWf (d : Dev) (code : Nat) (h0 : d.paramsWf) : (Dev.startupDone d code).paramsWf := by
  grind [Dev.startupDone, Dev.paramsWf_upd, Dev.autoBegin_paramsWf, Dev.deliverAborted_paramsWf, Dev.enter_paramsWf,
      Dev.orBits_paramsWf, Dev.put_paramsWf, Dev.raise_paramsWf, Dev.reportPast_paramsWf, Dev.resume_paramsWf,
      Dev.setBaro_paramsWf, Dev.setPower_paramsWf, Dev.stopOn_paramsWf]

end Sys2Proof.Machine
end

