-- ==== Sys2Proof/Laws/ParamsCommands.lean ====
section
/-!
SUPPORT. The parameter words keep their canonical form under the operations of injections, the registers of the BAR, the test port and the shared forms of a command.
-/

set_option Elab.async false
set_option linter.unusedVariables false

namespace Sys2Proof.Machine

theorem Dev.injectGen_paramsWf (d : Dev) (f : Fld) (h : Nat) (h0 : d.paramsWf) : (Dev.injectGen d f h).paramsWf := by
  grind [Dev.injectGen, Dev.paramsWf_upd, Dev.orBits_paramsWf, Dev.setStats_paramsWf]

theorem Dev.modWin_paramsWf (d : Dev) (w : Nat) (g : Win → Win) (h0 : d.paramsWf) : (Dev.modWin d w g).paramsWf := by
  grind [Dev.modWin, Dev.paramsWf_upd, Dev.setWin_paramsWf]

theorem Dev.injectLow_paramsWf (d : Dev) (s sel : Nat) (h0 : d.paramsWf) : (Dev.injectLow d s sel).1.paramsWf := by
  unfold Dev.injectLow; (repeat' split) <;> (try dsimp only) <;> (try simp only [h0]) <;> grind [Dev.paramsWf_upd,
      Dev.count_paramsWf, Dev.injectGen_paramsWf, Dev.orBits_paramsWf, Dev.put_paramsWf]

theorem Dev.injectLanes_paramsWf (d : Dev) (s : Nat) (h0 : d.paramsWf) : (Dev.injectLanes d s).1.paramsWf := by
  grind [Dev.injectLanes, Dev.paramsWf_upd, Dev.count_paramsWf, Dev.gflag_paramsWf, Dev.putBit_paramsWf, Dev.putFlag_paramsWf,
      Dev.takeFree_paramsWf]

theorem Dev.injectPath_paramsWf (d : Dev) (s sel : Nat) (h0 : d.paramsWf) : (Dev.injectPath d s sel).1.paramsWf := by
  unfold Dev.injectPath; (repeat' split) <;> (try dsimp only) <;> (try simp only [h0]) <;> grind [Dev.paramsWf_upd,
      Dev.count_paramsWf, Dev.orBits_paramsWf, Dev.putBit_paramsWf, Dev.setHeadS_paramsWf]

theorem Dev.injectObjects_paramsWf (d : Dev) (s sel : Nat) (h0 : d.paramsWf) : (Dev.injectObjects d s sel).1.paramsWf := by
  unfold Dev.injectObjects; (repeat' split) <;> (try dsimp only) <;> (try simp only [h0]) <;> grind [Dev.paramsWf_upd,
      Dev.count_paramsWf, Dev.orBits_paramsWf]

theorem Dev.injectIo_paramsWf (d : Dev) (s sel : Nat) (h0 : d.paramsWf) : (Dev.injectIo d s sel).1.paramsWf := by
  unfold Dev.injectIo; (repeat' split) <;> (try dsimp only) <;> (try simp only [h0]) <;> grind [Dev.paramsWf_upd,
      Dev.count_paramsWf, Dev.orBits_paramsWf, Dev.setAux_paramsWf, Dev.setShort_paramsWf, Dev.setTmr_paramsWf]

theorem Dev.injectMid_paramsWf (d : Dev) (s sel : Nat) (h0 : d.paramsWf) : (Dev.injectMid d s sel).1.paramsWf := by
  unfold Dev.injectMid; (repeat' split) <;> (try dsimp only) <;> (try simp only [h0]) <;> grind [Dev.paramsWf_upd,
      Dev.count_paramsWf, Dev.modWin_paramsWf, Dev.orBits_paramsWf]

theorem Dev.dryTrip_paramsWf (d : Dev) (h0 : d.paramsWf) : (Dev.dryTrip d).1.paramsWf := by
  grind [Dev.dryTrip, Dev.paramsWf_upd, Dev.put_paramsWf, Dev.putFlag_paramsWf, Dev.setTherm_paramsWf]

theorem Dev.injectHigh_paramsWf (d : Dev) (s sel : Nat) (h0 : d.paramsWf) : (Dev.injectHigh d s sel).1.paramsWf := by
  unfold Dev.injectHigh; (repeat' split) <;> (try dsimp only) <;> (try simp only [h0]) <;> grind [Dev.paramsWf_upd,
      Dev.dryTrip_paramsWf, Dev.orBits_paramsWf]

theorem Dev.injectFlags_paramsWf (d : Dev) (s sel : Nat) (h0 : d.paramsWf) : (Dev.injectFlags d s sel).1.paramsWf := by
  grind [Dev.injectFlags, Dev.paramsWf_upd, Dev.injectHigh_paramsWf, Dev.injectIo_paramsWf, Dev.injectLanes_paramsWf,
      Dev.injectLow_paramsWf, Dev.injectMid_paramsWf, Dev.injectObjects_paramsWf, Dev.injectPath_paramsWf]

theorem Dev.openData_paramsWf (d : Dev) (items : List (Nat × Option Nat)) (h0 : d.paramsWf) : (Dev.openData d items).1.paramsWf
    := by
  grind [Dev.openData, Dev.paramsWf_upd, Dev.takeFree_paramsWf, Dev.paramsWf_foldl, Dev.paramsWf_foldl1]

theorem Dev.injectClears_paramsWf (d : Dev) (bit : Nat) (h0 : d.paramsWf) : (Dev.injectClears d bit).paramsWf := by
  grind [Dev.injectClears, Dev.paramsWf_upd, Dev.clearCause_paramsWf]

theorem Dev.inject_paramsWf (d : Dev) (s sel : Nat) (h0 : d.paramsWf) : (Dev.inject d s sel).1.paramsWf := by
  grind [Dev.inject, Dev.paramsWf_upd, Dev.injectClears_paramsWf, Dev.injectFlags_paramsWf, Dev.occur_paramsWf,
      Dev.openData_paramsWf, Dev.raise_paramsWf, Dev.stopOn_paramsWf]

theorem effInject_paramsWf (e : Entry) (d : Dev) (h0 : d.paramsWf) : (effInject e d).1.paramsWf := by
  grind [effInject, Dev.paramsWf_upd, Dev.count_paramsWf, Dev.inject_paramsWf]

theorem Dev.sendPending_paramsWf (d : Dev) (h0 : d.paramsWf) : (Dev.sendPending d).paramsWf := by
  grind [Dev.sendPending, Dev.paramsWf_upd, Dev.sendMsix_paramsWf, Dev.paramsWf_foldl, Dev.paramsWf_foldl1]

theorem Dev.writeMsix_paramsWf (d : Dev) (k v : Nat) (h0 : d.paramsWf) : (Dev.writeMsix d k v).paramsWf := by
  grind [Dev.writeMsix, Dev.paramsWf_upd, Dev.put_paramsWf, Dev.sendPending_paramsWf]

theorem Dev.writeSqTail_paramsWf (d : Dev) (n v : Nat) (h0 : d.paramsWf) : (Dev.writeSqTail d n v).paramsWf := by
  grind [Dev.writeSqTail, Dev.paramsWf_upd, Dev.setSq_paramsWf]

theorem Dev.keepCq_paramsWf (d : Dev) (n : Nat) (h0 : d.paramsWf) : (Dev.keepCq d n).paramsWf := by
  grind [Dev.keepCq, Dev.paramsWf_upd, Dev.setChan_paramsWf]

theorem Dev.writeSqCtl_paramsWf (d : Dev) (n v : Nat) (h0 : d.paramsWf) : (Dev.writeSqCtl d n v).paramsWf := by
  grind [Dev.writeSqCtl, Dev.paramsWf_upd, Dev.keepCq_paramsWf, Dev.setSq_paramsWf]

theorem Dev.drainCq_paramsWf (d : Dev) (n : Nat) (k_ : Nat) (h0 : d.paramsWf) : (Dev.drainCq d n k_).paramsWf := by
  induction k_ generalizing d with
  | zero => exact h0
  | succ k ih =>
    unfold Dev.drainCq; dsimp only
    split
    · exact h0
    · split
      · exact h0
      · exact ih _ (Dev.writeCpl_paramsWf _ _ _ (Dev.setCq_paramsWf _ _ _ h0))

theorem Dev.writeCqHead_paramsWf (d : Dev) (n v : Nat) (h0 : d.paramsWf) : (Dev.writeCqHead d n v).paramsWf := by
  unfold Dev.writeCqHead; dsimp only
  split
  · exact h0
  · split
    · exact Dev.setCq_paramsWf _ _ _ h0
    · exact Dev.evalVectors_paramsWf _ _ (Dev.drainCq_paramsWf _ _ _ (Dev.setCq_paramsWf _ _ _ h0))

theorem Dev.writeCqCtl_paramsWf (d : Dev) (n v : Nat) (h0 : d.paramsWf) : (Dev.writeCqCtl d n v).paramsWf := by
  grind [Dev.writeCqCtl, Dev.paramsWf_upd, Dev.deliverAborted_paramsWf, Dev.evalVectors_paramsWf, Dev.setCq_paramsWf]

theorem Dev.writeQueue_paramsWf (d : Dev) (n off v : Nat) (h0 : d.paramsWf) : (Dev.writeQueue d n off v).paramsWf := by
  unfold Dev.writeQueue; (repeat' split) <;> (try dsimp only) <;> (try simp only [h0]) <;> grind [Dev.paramsWf_upd,
      Dev.setCq_paramsWf, Dev.setSq_paramsWf, Dev.writeCqCtl_paramsWf, Dev.writeSqCtl_paramsWf]

theorem Dev.writeCause_paramsWf (d : Dev) (g v : Nat) (h0 : d.paramsWf) : (Dev.writeCause d g v).paramsWf := by
  grind [Dev.writeCause, Dev.paramsWf_upd, Dev.evalVectors_paramsWf, Dev.keep_paramsWf]

theorem Dev.writeMask_paramsWf (d : Dev) (g v : Nat) (h0 : d.paramsWf) : (Dev.writeMask d g v).paramsWf := by
  grind [Dev.writeMask, Dev.paramsWf_upd, Dev.evalVectors_paramsWf, Dev.keep_paramsWf]

theorem Dev.replay_paramsWf (d : Dev) (s : Nat) (h0 : d.paramsWf) : (Dev.replay d s).paramsWf := by
  grind [Dev.replay, Dev.paramsWf_upd, Dev.count_paramsWf, Dev.toRing_paramsWf, raiseDeep_paramsWf]

theorem Dev.writeRoute_paramsWf (d : Dev) (s v : Nat) (h0 : d.paramsWf) : (Dev.writeRoute d s v).paramsWf := by
  grind [Dev.writeRoute, Dev.paramsWf_upd, Dev.evalVectors_paramsWf, Dev.put_paramsWf, Dev.replay_paramsWf]

theorem Dev.writeEvrCtl_paramsWf (d : Dev) (v : Nat) (h0 : d.paramsWf) : (Dev.writeEvrCtl d v).paramsWf := by
  grind [Dev.writeEvrCtl, Dev.paramsWf_upd]

theorem Dev.writeEvrHead_paramsWf (d : Dev) (v : Nat) (h0 : d.paramsWf) : (Dev.writeEvrHead d v).paramsWf := by
  grind [Dev.writeEvrHead, Dev.paramsWf_upd]

theorem Dev.readEvents_paramsWf (d : Dev) (off : Nat) (h0 : d.paramsWf) : (Dev.readEvents d off).1.paramsWf := by
  unfold Dev.readEvents; (repeat' split) <;> (try dsimp only) <;> (try simp only [h0]) <;> grind [Dev.paramsWf_upd]

theorem Dev.writeEvents_paramsWf (d : Dev) (off v : Nat) (h0 : d.paramsWf) : (Dev.writeEvents d off v).paramsWf := by
  unfold Dev.writeEvents; (repeat' split) <;> (try dsimp only) <;> (try simp only [h0]) <;> grind [Dev.paramsWf_upd,
      Dev.writeCause_paramsWf, Dev.writeEvrCtl_paramsWf, Dev.writeEvrHead_paramsWf, Dev.writeMask_paramsWf,
      Dev.writeRoute_paramsWf]

theorem Dev.writeHostControl_paramsWf (d : Dev) (v : Nat) (h0 : d.paramsWf) : (Dev.writeHostControl d v).paramsWf := by
  grind [Dev.writeHostControl, Dev.paramsWf_upd, Dev.deliverAborted_paramsWf]

theorem Dev.readUnit_paramsWf (d : Dev) (off : Nat) (h0 : d.paramsWf) : (Dev.readUnit d off).1.paramsWf := by
  unfold Dev.readUnit; (repeat' split) <;> (try dsimp only) <;> (try simp only [h0]) <;> grind [Dev.paramsWf_upd]

theorem Dev.readBar0_paramsWf (d : Dev) (off : Nat) (h0 : d.paramsWf) : (Dev.readBar0 d off).1.paramsWf := by
  grind [Dev.readBar0, Dev.paramsWf_upd, Dev.readEvents_paramsWf, Dev.readUnit_paramsWf, Dev.readWin_paramsWf]

theorem Dev.writeBar0_paramsWf (d : Dev) (off v : Nat) (h0 : d.paramsWf) : (Dev.writeBar0 d off v).paramsWf := by
  grind [Dev.writeBar0, Dev.paramsWf_upd, Dev.writeCqHead_paramsWf, Dev.writeEvents_paramsWf, Dev.writeHostControl_paramsWf,
      Dev.writeQueue_paramsWf, Dev.writeSqTail_paramsWf, Dev.writeWin_paramsWf]

theorem Dev.readTb_paramsWf (d : Dev) (off : Nat) (h0 : d.paramsWf) : (Dev.readTb d off).1.paramsWf := by
  unfold Dev.readTb; (repeat' split) <;> (try dsimp only) <;> (try simp only [h0]) <;> grind [Dev.paramsWf_upd]

theorem Dev.readFifo_paramsWf (d : Dev) (e off : Nat) (h0 : d.paramsWf) : (Dev.readFifo d e off).1.paramsWf := by
  unfold Dev.readFifo; (repeat' split) <;> (try dsimp only) <;> (try simp only [h0]) <;> grind [Dev.paramsWf_upd,
      Dev.pushData_paramsWf]

theorem Dev.writeFifo_paramsWf (d : Dev) (e off v : Nat) (h0 : d.paramsWf) : (Dev.writeFifo d e off v).paramsWf := by
  unfold Dev.writeFifo; (repeat' split) <;> (try dsimp only) <;> (try simp only [h0]) <;> grind [Dev.paramsWf_upd,
      Dev.pullData_paramsWf, Dev.setEng_paramsWf]

theorem Dev.readBar2_paramsWf (d : Dev) (off : Nat) (h0 : d.paramsWf) : (Dev.readBar2 d off).1.paramsWf := by
  grind [Dev.readBar2, Dev.paramsWf_upd, Dev.readFifo_paramsWf, Dev.readTb_paramsWf, Dev.readTimer_paramsWf]

theorem Dev.writeBar2_paramsWf (d : Dev) (off v : Nat) (h0 : d.paramsWf) : (Dev.writeBar2 d off v).paramsWf := by
  grind [Dev.writeBar2, Dev.paramsWf_upd, Dev.writeFifo_paramsWf, Dev.writeTimer_paramsWf]

theorem Dev.writeBar4_paramsWf (d : Dev) (off v : Nat) (h0 : d.paramsWf) : (Dev.writeBar4 d off v).paramsWf := by
  grind [Dev.writeBar4, Dev.paramsWf_upd, Dev.writeMsix_paramsWf]

theorem Dev.memoryOff_paramsWf (d : Dev) (read : Bool) (h0 : d.paramsWf) : (Dev.memoryOff d read).paramsWf := by
  grind [Dev.memoryOff, Dev.paramsWf_upd, Dev.reportAer_paramsWf, Dev.send_paramsWf]

theorem Dev.readReg_paramsWf (d : Dev) (bar off : Nat) (h0 : d.paramsWf) : (Dev.readReg d bar off).1.paramsWf := by
  unfold Dev.readReg; (repeat' split) <;> (try dsimp only) <;> (try simp only [h0]) <;> grind [Dev.paramsWf_upd,
      Dev.readBar0_paramsWf, Dev.readBar2_paramsWf]

theorem Dev.writeReg_paramsWf (d : Dev) (bar off v : Nat) (h0 : d.paramsWf) : (Dev.writeReg d bar off v).paramsWf := by
  unfold Dev.writeReg; (repeat' split) <;> (try dsimp only) <;> (try simp only [h0]) <;> grind [Dev.paramsWf_upd,
      Dev.resetCheck_paramsWf, Dev.writeBar0_paramsWf, Dev.writeBar2_paramsWf, Dev.writeBar4_paramsWf]

theorem Dev.noteBarAccess_paramsWf (d : Dev) (bar off : Nat) (h0 : d.paramsWf) : (Dev.noteBarAccess d bar off).paramsWf := by
  grind [Dev.noteBarAccess, Dev.paramsWf_upd, Dev.count_paramsWf, Dev.orBits_paramsWf, Dev.raise_paramsWf]

theorem Dev.hostWrite_paramsWf (d : Dev) (bar off size v : Nat) (h0 : d.paramsWf) : (Dev.hostWrite d bar off size v).paramsWf :=
    by
  grind [Dev.hostWrite, Dev.paramsWf_upd, Dev.memoryOff_paramsWf, Dev.noteBarAccess_paramsWf, Dev.writeReg_paramsWf]

theorem Dev.hostRead_paramsWf (d : Dev) (bar off size : Nat) (h0 : d.paramsWf) : (Dev.hostRead d bar off size).paramsWf := by
  grind [Dev.hostRead, Dev.paramsWf_upd, Dev.memoryOff_paramsWf, Dev.noteBarAccess_paramsWf, Dev.readReg_paramsWf,
      Dev.send_paramsWf]

theorem Dev.sqTail_paramsWf (d : Dev) (n v : Nat) (h0 : d.paramsWf) : (Dev.sqTail d n v).paramsWf := by
  grind [Dev.sqTail, Dev.paramsWf_upd, Dev.hostWrite_paramsWf]

theorem Dev.cqHead_paramsWf (d : Dev) (n v : Nat) (h0 : d.paramsWf) : (Dev.cqHead d n v).paramsWf := by
  grind [Dev.cqHead, Dev.paramsWf_upd, Dev.hostWrite_paramsWf]

theorem Dev.sqEnable_paramsWf (d : Dev) (n cqid size : Nat) (h0 : d.paramsWf) : (Dev.sqEnable d n cqid size).paramsWf := by
  grind [Dev.sqEnable, Dev.paramsWf_upd, Dev.hostWrite_paramsWf]

theorem Dev.sqDisable_paramsWf (d : Dev) (n : Nat) (h0 : d.paramsWf) : (Dev.sqDisable d n).paramsWf := by
  grind [Dev.sqDisable, Dev.paramsWf_upd, Dev.hostWrite_paramsWf]

theorem Dev.cqEnable_paramsWf (d : Dev) (n : Nat) (irqEn : Bool) (vector size : Nat) (h0 : d.paramsWf) : (Dev.cqEnable d n irqEn
    vector size).paramsWf := by
  grind [Dev.cqEnable, Dev.paramsWf_upd, Dev.hostWrite_paramsWf]

theorem Dev.cqDisable_paramsWf (d : Dev) (n : Nat) (h0 : d.paramsWf) : (Dev.cqDisable d n).paramsWf := by
  grind [Dev.cqDisable, Dev.paramsWf_upd, Dev.hostWrite_paramsWf]

theorem Dev.hostCause_paramsWf (d : Dev) (g v : Nat) (h0 : d.paramsWf) : (Dev.hostCause d g v).paramsWf := by
  grind [Dev.hostCause, Dev.paramsWf_upd, Dev.hostWrite_paramsWf]

theorem Dev.hostMask_paramsWf (d : Dev) (g v : Nat) (h0 : d.paramsWf) : (Dev.hostMask d g v).paramsWf := by
  grind [Dev.hostMask, Dev.paramsWf_upd, Dev.hostWrite_paramsWf]

theorem Dev.hostRoute_paramsWf (d : Dev) (s v : Nat) (h0 : d.paramsWf) : (Dev.hostRoute d s v).paramsWf := by
  grind [Dev.hostRoute, Dev.paramsWf_upd, Dev.hostWrite_paramsWf]

theorem Dev.evrEnable_paramsWf (d : Dev) (en : Bool) (size : Nat) (h0 : d.paramsWf) : (Dev.evrEnable d en size).paramsWf := by
  grind [Dev.evrEnable, Dev.paramsWf_upd, Dev.hostWrite_paramsWf]

theorem Dev.evrHead_paramsWf (d : Dev) (v : Nat) (h0 : d.paramsWf) : (Dev.evrHead d v).paramsWf := by
  grind [Dev.evrHead, Dev.paramsWf_upd, Dev.hostWrite_paramsWf]

theorem Dev.hostRp_paramsWf (d : Dev) (w : Nat) (both : Bool) (v : Nat) (h0 : d.paramsWf) : (Dev.hostRp d w both v).paramsWf :=
    by
  grind [Dev.hostRp, Dev.paramsWf_upd, Dev.hostWrite_paramsWf]

theorem Dev.hostArm_paramsWf (d : Dev) (t : Nat) (h0 : d.paramsWf) : (Dev.hostArm d t).paramsWf := by
  grind [Dev.hostArm, Dev.paramsWf_upd, Dev.hostWrite_paramsWf]

theorem Dev.hostStop_paramsWf (d : Dev) (t : Nat) (h0 : d.paramsWf) : (Dev.hostStop d t).paramsWf := by
  grind [Dev.hostStop, Dev.paramsWf_upd, Dev.hostWrite_paramsWf]

theorem Dev.hostCap_paramsWf (d : Dev) (t : Nat) (both : Bool) (h0 : d.paramsWf) : (Dev.hostCap d t both).paramsWf := by
  grind [Dev.hostCap, Dev.paramsWf_upd, Dev.hostRead_paramsWf]

theorem Dev.hostPull_paramsWf (d : Dev) (e v : Nat) (h0 : d.paramsWf) : (Dev.hostPull d e v).paramsWf := by
  grind [Dev.hostPull, Dev.paramsWf_upd, Dev.hostWrite_paramsWf]

theorem Dev.hostPush_paramsWf (d : Dev) (e : Nat) (h0 : d.paramsWf) : (Dev.hostPush d e).paramsWf := by
  grind [Dev.hostPush, Dev.paramsWf_upd, Dev.hostRead_paramsWf]

theorem Dev.msixControl_paramsWf (d : Dev) (enable mask : Bool) (h0 : d.paramsWf) : (Dev.msixControl d enable mask).paramsWf :=
    by
  grind [Dev.msixControl, Dev.paramsWf_upd, Dev.sendPending_paramsWf]

theorem Dev.msixUnmask_paramsWf (d : Dev) (vector : Option Nat) (h0 : d.paramsWf) : (Dev.msixUnmask d vector).paramsWf := by
  unfold Dev.msixUnmask; (repeat' split) <;> (try dsimp only) <;> (try simp only [h0]) <;> grind [Dev.paramsWf_upd,
      Dev.hostWrite_paramsWf, Dev.msixControl_paramsWf]

theorem Dev.configWrite_paramsWf (d : Dev) (f : ConfigField) (h0 : d.paramsWf) : (Dev.configWrite d f).paramsWf := by
  unfold Dev.configWrite; (repeat' split) <;> (try dsimp only) <;> (try simp only [h0]) <;> grind [Dev.paramsWf_upd,
      Dev.msixControl_paramsWf, Dev.send_paramsWf]

theorem Dev.setJtag_paramsWf (d : Dev) (g : Jtag → Jtag) (h0 : d.paramsWf) : (Dev.setJtag d g).paramsWf := by
  grind [Dev.setJtag, Dev.paramsWf_upd, Dev.setBaro_paramsWf]

theorem Dev.jtagLoad_paramsWf (d : Dev) (code : Nat) (h0 : d.paramsWf) : (Dev.jtagLoad d code).paramsWf := by
  grind [Dev.jtagLoad, Dev.paramsWf_upd, Dev.setJtag_paramsWf]

theorem Dev.captureCells_paramsWf (d : Dev) (n : Nat) (h0 : d.paramsWf) : (Dev.captureCells d n).1.paramsWf := by
  grind [Dev.captureCells, Dev.paramsWf_upd]

theorem Dev.scanCells_paramsWf (d : Dev) (cells : List Bool) (h0 : d.paramsWf) : (Dev.scanCells d cells).paramsWf := by
  grind [Dev.scanCells, Dev.paramsWf_upd, Dev.captureCells_paramsWf, Dev.send_paramsWf, Dev.setJtag_paramsWf]

theorem Dev.jtagDrive_paramsWf (d : Dev) (code : Nat) (cells : List Bool) (h0 : d.paramsWf) : (Dev.jtagDrive d code
    cells).paramsWf := by
  grind [Dev.jtagDrive, Dev.paramsWf_upd, Dev.jtagLoad_paramsWf, Dev.scanCells_paramsWf]

theorem Dev.jtagHold_paramsWf (d : Dev) (code : Nat) (h0 : d.paramsWf) : (Dev.jtagHold d code).paramsWf := by
  grind [Dev.jtagHold, Dev.paramsWf_upd, Dev.jtagLoad_paramsWf]

theorem Dev.jtagBypass_paramsWf (d : Dev) (h0 : d.paramsWf) : (Dev.jtagBypass d).paramsWf := by
  grind [Dev.jtagBypass, Dev.paramsWf_upd, Dev.jtagLoad_paramsWf]

theorem Dev.jtagSample_paramsWf (d : Dev) (cells : List Bool) (h0 : d.paramsWf) : (Dev.jtagSample d cells).paramsWf := by
  grind [Dev.jtagSample, Dev.paramsWf_upd, Dev.jtagLoad_paramsWf, Dev.scanCells_paramsWf]

theorem Dev.jtagIdcode_paramsWf (d : Dev) (h0 : d.paramsWf) : (Dev.jtagIdcode d).paramsWf := by
  grind [Dev.jtagIdcode, Dev.paramsWf_upd, Dev.jtagLoad_paramsWf, Dev.send_paramsWf]

theorem Dev.setDebug_paramsWf (d : Dev) (x : Debug) (h0 : d.paramsWf) : (Dev.setDebug d x).paramsWf := by
  grind [Dev.setDebug, Dev.paramsWf_upd, Dev.setBaro_paramsWf]

theorem Dev.dbgChallenge_paramsWf (d : Dev) (h0 : d.paramsWf) : (Dev.dbgChallenge d).paramsWf := by
  grind [Dev.dbgChallenge, Dev.paramsWf_upd, Dev.jtagLoad_paramsWf, Dev.send_paramsWf, Dev.setDebug_paramsWf]

theorem Dev.dbgResponse_paramsWf (d : Dev) (signature : List Byte) (h0 : d.paramsWf) : (Dev.dbgResponse d signature).paramsWf :=
    by
  grind [Dev.dbgResponse, Dev.paramsWf_upd, Dev.jtagLoad_paramsWf, Dev.logOpen_paramsWf, Dev.orBits_paramsWf,
      Dev.putFlag_paramsWf, Dev.raise_paramsWf, Dev.setDebug_paramsWf]

theorem Dev.dbgAccess_paramsWf (d : Dev) (h0 : d.paramsWf) : (Dev.dbgAccess d).paramsWf := by
  grind [Dev.dbgAccess, Dev.paramsWf_upd, Dev.jtagLoad_paramsWf, Dev.send_paramsWf, Dev.takeFree_paramsWf]

theorem effNop_paramsWf (x_ : Entry) (d : Dev) (h0 : d.paramsWf) : (effNop x_ d).1.paramsWf := by
  grind [effNop, Dev.paramsWf_upd]

theorem Dev.cplTimeout_paramsWf (d : Dev) (q : Nat) (command : Option (Nat × Entry)) (h0 : d.paramsWf) : (Dev.cplTimeout d q
    command).paramsWf := by
  unfold Dev.cplTimeout
  split
  · exact Dev.fetchTimeout_paramsWf _ _ h0
  · split
    · exact h0
    · split
      · exact h0
      · exact Dev.bufferTimeout_paramsWf _ _ _ _ h0

theorem Dev.barAccess_paramsWf (d : Dev) (bar off size : Nat) (write : Bool) (v : Nat) (h0 : d.paramsWf) : (Dev.barAccess d bar
    off size write v).paramsWf := by
  grind [Dev.barAccess, Dev.paramsWf_upd, Dev.hostRead_paramsWf, Dev.hostWrite_paramsWf]

theorem Dev.frameMarkRow_paramsWf (d : Dev) (e : Entry) (h0 : d.paramsWf) : (Dev.frameMarkRow d e).paramsWf := by
  grind [Dev.frameMarkRow, Dev.paramsWf_upd, Dev.paramWrite_paramsWf]

theorem Dev.flipRow_paramsWf (d : Dev) (e : Entry) (h0 : d.paramsWf) : (Dev.flipRow d e).paramsWf := by
  grind [Dev.flipRow, Dev.paramsWf_upd, Dev.paramWrite_paramsWf]

theorem Dev.forceStormRow_paramsWf (d : Dev) (e : Entry) (h0 : d.paramsWf) : (Dev.forceStormRow d e).paramsWf := by
  grind [Dev.forceStormRow, Dev.paramsWf_upd, Dev.paramWrite_paramsWf]

theorem Dev.autostartRow_paramsWf (d : Dev) (e : Entry) (h0 : d.paramsWf) : (Dev.autostartRow d e).paramsWf := by
  grind [Dev.autostartRow, Dev.paramsWf_upd, Dev.paramWrite_paramsWf]

theorem Dev.shortRow_paramsWf (d : Dev) (e : Entry) (h0 : d.paramsWf) : (Dev.shortRow d e).paramsWf := by
  grind [Dev.shortRow, Dev.paramsWf_upd, Dev.paramWrite_paramsWf]

theorem Dev.encoderEdge_paramsWf (d : Dev) (a b : Bool) (h0 : d.paramsWf) : (Dev.encoderEdge d a b).paramsWf := by
  grind [Dev.encoderEdge, Dev.paramsWf_upd, Dev.encEdge_paramsWf, Dev.timerEvent_paramsWf]

theorem Dev.encoderZ_paramsWf (d : Dev) (h0 : d.paramsWf) : (Dev.encoderZ d).paramsWf := by
  grind [Dev.encoderZ, Dev.paramsWf_upd, Dev.encZ_paramsWf, Dev.timerEvent_paramsWf]

theorem Dev.frameInEdge_paramsWf (d : Dev) (level : Bool) (h0 : d.paramsWf) : (Dev.frameInEdge d level).paramsWf := by
  grind [Dev.frameInEdge, Dev.paramsWf_upd, Dev.frameInLevel_paramsWf, Dev.pulse_paramsWf, Dev.timerEvent_paramsWf]

theorem Dev.foundIn_paramsWf (d : Dev) (g : Nat) (ws altered : List Nat) (x : Found) (h0 : d.paramsWf) : (Dev.foundIn d g ws
    altered x).paramsWf := by
  unfold Dev.foundIn; dsimp only
  split
  · exact Dev.noteLost_paramsWf _ _ _ (Dev.packetLost_paramsWf _ _ _ h0)
  · split
    · exact Dev.controlIn_paramsWf _ _ _ h0
    · next at' len _ =>
      have hs := Dev.segmentIn_paramsWf d g ⟨(ws.drop at').take len, altered.any (fun k => decide (at' ≤ k) && decide (k < at' +
          len))⟩ h0
      split
      · next heq => rw [heq] at hs; exact Dev.headMoved_paramsWf _ _ (Dev.ingestSegment_paramsWf _ _ hs)
      · next heq => rw [heq] at hs; exact hs

theorem Dev.linkIn_paramsWf (d : Dev) (g pos : Nat) (intervals : List (List (List Bool))) (h0 : d.paramsWf) : (Dev.linkIn d g
    pos intervals).paramsWf := by
  grind [Dev.linkIn, Dev.paramsWf_upd, Dev.foundIn_paramsWf, Dev.receiveWords_paramsWf, Dev.setLaneGroup_paramsWf,
      Dev.paramsWf_foldl, Dev.paramsWf_foldl1]

theorem anyOp_paramsWf (e : Entry) (code : Nat) (x : Entry) (d : Dev) (h : d.paramsWf) : ((anyOp e code).2 x d).1.paramsWf := by
  unfold anyOp
  split
  all_goals try dsimp only
  all_goals with_reducible first
    | exact managedOp_paramsWf _ _ _ _ (fun e d h => effSelftest_paramsWf e d h) (fun e d h => effResetUnit_paramsWf e d h) _ _
        h | exact effAuxRead_paramsWf _ _ h | exact effBankSwap_paramsWf _ _ h | exact effCommit_paramsWf _ _ h |
        exact effCountersClear_paramsWf _ _ h | exact effCountersRead_paramsWf _ _ h | exact effEjectDry_paramsWf _ _ h |
        exact effEjectLive_paramsWf _ _ h | exact effEngineStart_paramsWf _ _ h | exact effEngineStatus_paramsWf _ _ h |
        exact effEngineStop_paramsWf _ _ h | exact effInject_paramsWf _ _ h | exact effLineStart_paramsWf _ _ h |
        exact effLineStop_paramsWf _ _ h | exact effLinkStatus_paramsWf _ _ h | exact effLsynPhaseStep_paramsWf _ _ h |
        exact effNop_paramsWf _ _ h | exact effParamRead_paramsWf _ _ h | exact effParamStage_paramsWf _ _ h |
        exact effParamWrite_paramsWf _ _ h | exact effRingRelease_paramsWf _ _ h | exact effStateGet_paramsWf _ _ h |
        exact effStormClear_paramsWf _ _ h | exact effThermalStatus_paramsWf _ _ h | exact effTrackerStatus_paramsWf _ _ h

theorem Dev.unfence_paramsWf (d : Dev) (x : Fenced) (h0 : d.paramsWf) : (Dev.unfence d x).paramsWf := by
  have hs : ∀ x, (d.setSq x { d.sq x with fenced := none }).paramsWf := fun x => Dev.setSq_paramsWf _ _ _ h0
  unfold Dev.unfence; dsimp only
  split
  · exact Dev.answer_paramsWf _ _ _ _ _ _ (hs _)
  · split
    · exact Dev.timedOut_paramsWf _ _ _ (Dev.readBuffer_paramsWf _ _ _ (hs _))
    · exact Dev.dispatch_paramsWf _ _ _ _ (hs _) (fun e d h => anyOp_paramsWf x.entry x.code e d h)

theorem Dev.unfenceAll_paramsWf (d : Dev) (k_ : Nat) (h0 : d.paramsWf) : (Dev.unfenceAll d k_).paramsWf := by
  induction k_ generalizing d with
  | zero => exact h0
  | succ n ih =>
    unfold Dev.unfenceAll
    split
    · exact h0
    · exact ih _ (Dev.unfence_paramsWf _ _ h0)

theorem Dev.releaseFences_paramsWf (d : Dev) (h0 : d.paramsWf) : (Dev.releaseFences d).paramsWf := by
  grind [Dev.releaseFences, Dev.paramsWf_upd, Dev.resetCheck_paramsWf, Dev.unfenceAll_paramsWf]

theorem Dev.tick_paramsWf (d : Dev) (h0 : d.paramsWf) : (Dev.tick d).paramsWf := by
  grind [Dev.tick, Dev.paramsWf_upd, Dev.countTb_paramsWf, Dev.modulate_paramsWf, Dev.pulseEnd_paramsWf,
      Dev.releaseFences_paramsWf, Dev.runCheck_paramsWf, Dev.stormCheck_paramsWf, Dev.transmit_paramsWf]

theorem Dev.releaseGroup_paramsWf (d : Dev) (group : Nat) (h0 : d.paramsWf) : (Dev.releaseGroup d group).paramsWf := by
  grind [Dev.releaseGroup, Dev.paramsWf_upd, Dev.syncGroup_paramsWf]

end Sys2Proof.Machine
end

