-- ==== Sys2Proof/Laws/Parts.lean ====
section
/-!
SUPPORT. The same for the updates of one part of the unit: each writes that part and leaves every other field alone.
-/

namespace Sys2Proof.Machine

variable (d : Dev)

@[simp] theorem Dev.setAux_aux (g : AuxS → AuxS) : (d.setAux g).aux = g d.aux := rfl
@[simp] theorem Dev.setAux_st (g : AuxS → AuxS) : (d.setAux g).st = d.st := rfl
@[simp] theorem Dev.setAux_tb (g : AuxS → AuxS) : (d.setAux g).tb = d.tb := rfl
@[simp] theorem Dev.setAux_half (g : AuxS → AuxS) : (d.setAux g).half = d.half := rfl
@[simp] theorem Dev.setAux_params (g : AuxS → AuxS) : (d.setAux g).params = d.params := rfl
@[simp] theorem Dev.setAux_host (g : AuxS → AuxS) : (d.setAux g).host = d.host := rfl
@[simp] theorem Dev.setAux_chan (g : AuxS → AuxS) : (d.setAux g).chan = d.chan := rfl
@[simp] theorem Dev.setAux_ev (g : AuxS → AuxS) : (d.setAux g).ev = d.ev := rfl
@[simp] theorem Dev.setAux_arch (g : AuxS → AuxS) : (d.setAux g).arch = d.arch := rfl
@[simp] theorem Dev.setAux_baro (g : AuxS → AuxS) : (d.setAux g).baro = d.baro := rfl
@[simp] theorem Dev.setAux_therm (g : AuxS → AuxS) : (d.setAux g).therm = d.therm := rfl
@[simp] theorem Dev.setAux_power (g : AuxS → AuxS) : (d.setAux g).power = d.power := rfl
@[simp] theorem Dev.setAux_arr (g : AuxS → AuxS) : (d.setAux g).arr = d.arr := rfl
@[simp] theorem Dev.setAux_conv (g : AuxS → AuxS) : (d.setAux g).conv = d.conv := rfl
@[simp] theorem Dev.setAux_clk (g : AuxS → AuxS) : (d.setAux g).clk = d.clk := rfl
@[simp] theorem Dev.setAux_lane (g : AuxS → AuxS) : (d.setAux g).lane = d.lane := rfl
@[simp] theorem Dev.setAux_pipe (g : AuxS → AuxS) : (d.setAux g).pipe = d.pipe := rfl
@[simp] theorem Dev.setAux_track (g : AuxS → AuxS) : (d.setAux g).track = d.track := rfl
@[simp] theorem Dev.setAux_cls (g : AuxS → AuxS) : (d.setAux g).cls = d.cls := rfl
@[simp] theorem Dev.setAux_eject (g : AuxS → AuxS) : (d.setAux g).eject = d.eject := rfl
@[simp] theorem Dev.setAux_engine (g : AuxS → AuxS) : (d.setAux g).engine = d.engine := rfl
@[simp] theorem Dev.setAux_timers (g : AuxS → AuxS) : (d.setAux g).timers = d.timers := rfl
@[simp] theorem Dev.setAux_faultInj (g : AuxS → AuxS) : (d.setAux g).faultInj = d.faultInj := rfl
@[simp] theorem Dev.setAux_faultTb (g : AuxS → AuxS) : (d.setAux g).faultTb = d.faultTb := rfl
@[simp] theorem Dev.setAux_out (g : AuxS → AuxS) : (d.setAux g).out = d.out := rfl
@[simp] theorem Dev.setAux_free (g : AuxS → AuxS) : (d.setAux g).free = d.free := rfl

@[simp] theorem Dev.setCls_cls (g : ClassS → ClassS) : (d.setCls g).cls = g d.cls := rfl
@[simp] theorem Dev.setCls_st (g : ClassS → ClassS) : (d.setCls g).st = d.st := rfl
@[simp] theorem Dev.setCls_tb (g : ClassS → ClassS) : (d.setCls g).tb = d.tb := rfl
@[simp] theorem Dev.setCls_half (g : ClassS → ClassS) : (d.setCls g).half = d.half := rfl
@[simp] theorem Dev.setCls_params (g : ClassS → ClassS) : (d.setCls g).params = d.params := rfl
@[simp] theorem Dev.setCls_host (g : ClassS → ClassS) : (d.setCls g).host = d.host := rfl
@[simp] theorem Dev.setCls_chan (g : ClassS → ClassS) : (d.setCls g).chan = d.chan := rfl
@[simp] theorem Dev.setCls_ev (g : ClassS → ClassS) : (d.setCls g).ev = d.ev := rfl
@[simp] theorem Dev.setCls_arch (g : ClassS → ClassS) : (d.setCls g).arch = d.arch := rfl
@[simp] theorem Dev.setCls_baro (g : ClassS → ClassS) : (d.setCls g).baro = d.baro := rfl
@[simp] theorem Dev.setCls_therm (g : ClassS → ClassS) : (d.setCls g).therm = d.therm := rfl
@[simp] theorem Dev.setCls_power (g : ClassS → ClassS) : (d.setCls g).power = d.power := rfl
@[simp] theorem Dev.setCls_arr (g : ClassS → ClassS) : (d.setCls g).arr = d.arr := rfl
@[simp] theorem Dev.setCls_conv (g : ClassS → ClassS) : (d.setCls g).conv = d.conv := rfl
@[simp] theorem Dev.setCls_clk (g : ClassS → ClassS) : (d.setCls g).clk = d.clk := rfl
@[simp] theorem Dev.setCls_lane (g : ClassS → ClassS) : (d.setCls g).lane = d.lane := rfl
@[simp] theorem Dev.setCls_pipe (g : ClassS → ClassS) : (d.setCls g).pipe = d.pipe := rfl
@[simp] theorem Dev.setCls_track (g : ClassS → ClassS) : (d.setCls g).track = d.track := rfl
@[simp] theorem Dev.setCls_eject (g : ClassS → ClassS) : (d.setCls g).eject = d.eject := rfl
@[simp] theorem Dev.setCls_engine (g : ClassS → ClassS) : (d.setCls g).engine = d.engine := rfl
@[simp] theorem Dev.setCls_timers (g : ClassS → ClassS) : (d.setCls g).timers = d.timers := rfl
@[simp] theorem Dev.setCls_aux (g : ClassS → ClassS) : (d.setCls g).aux = d.aux := rfl
@[simp] theorem Dev.setCls_faultInj (g : ClassS → ClassS) : (d.setCls g).faultInj = d.faultInj := rfl
@[simp] theorem Dev.setCls_faultTb (g : ClassS → ClassS) : (d.setCls g).faultTb = d.faultTb := rfl
@[simp] theorem Dev.setCls_out (g : ClassS → ClassS) : (d.setCls g).out = d.out := rfl
@[simp] theorem Dev.setCls_free (g : ClassS → ClassS) : (d.setCls g).free = d.free := rfl

@[simp] theorem Dev.setEject_eject (g : EjectS → EjectS) : (d.setEject g).eject = g d.eject := rfl
@[simp] theorem Dev.setEject_st (g : EjectS → EjectS) : (d.setEject g).st = d.st := rfl
@[simp] theorem Dev.setEject_tb (g : EjectS → EjectS) : (d.setEject g).tb = d.tb := rfl
@[simp] theorem Dev.setEject_half (g : EjectS → EjectS) : (d.setEject g).half = d.half := rfl
@[simp] theorem Dev.setEject_params (g : EjectS → EjectS) : (d.setEject g).params = d.params := rfl
@[simp] theorem Dev.setEject_host (g : EjectS → EjectS) : (d.setEject g).host = d.host := rfl
@[simp] theorem Dev.setEject_chan (g : EjectS → EjectS) : (d.setEject g).chan = d.chan := rfl
@[simp] theorem Dev.setEject_ev (g : EjectS → EjectS) : (d.setEject g).ev = d.ev := rfl
@[simp] theorem Dev.setEject_arch (g : EjectS → EjectS) : (d.setEject g).arch = d.arch := rfl
@[simp] theorem Dev.setEject_baro (g : EjectS → EjectS) : (d.setEject g).baro = d.baro := rfl
@[simp] theorem Dev.setEject_therm (g : EjectS → EjectS) : (d.setEject g).therm = d.therm := rfl
@[simp] theorem Dev.setEject_power (g : EjectS → EjectS) : (d.setEject g).power = d.power := rfl
@[simp] theorem Dev.setEject_arr (g : EjectS → EjectS) : (d.setEject g).arr = d.arr := rfl
@[simp] theorem Dev.setEject_conv (g : EjectS → EjectS) : (d.setEject g).conv = d.conv := rfl
@[simp] theorem Dev.setEject_clk (g : EjectS → EjectS) : (d.setEject g).clk = d.clk := rfl
@[simp] theorem Dev.setEject_lane (g : EjectS → EjectS) : (d.setEject g).lane = d.lane := rfl
@[simp] theorem Dev.setEject_pipe (g : EjectS → EjectS) : (d.setEject g).pipe = d.pipe := rfl
@[simp] theorem Dev.setEject_track (g : EjectS → EjectS) : (d.setEject g).track = d.track := rfl
@[simp] theorem Dev.setEject_cls (g : EjectS → EjectS) : (d.setEject g).cls = d.cls := rfl
@[simp] theorem Dev.setEject_engine (g : EjectS → EjectS) : (d.setEject g).engine = d.engine := rfl
@[simp] theorem Dev.setEject_timers (g : EjectS → EjectS) : (d.setEject g).timers = d.timers := rfl
@[simp] theorem Dev.setEject_aux (g : EjectS → EjectS) : (d.setEject g).aux = d.aux := rfl
@[simp] theorem Dev.setEject_faultInj (g : EjectS → EjectS) : (d.setEject g).faultInj = d.faultInj := rfl
@[simp] theorem Dev.setEject_faultTb (g : EjectS → EjectS) : (d.setEject g).faultTb = d.faultTb := rfl
@[simp] theorem Dev.setEject_out (g : EjectS → EjectS) : (d.setEject g).out = d.out := rfl
@[simp] theorem Dev.setEject_free (g : EjectS → EjectS) : (d.setEject g).free = d.free := rfl

@[simp] theorem Dev.setPower_power (g : Power → Power) : (d.setPower g).power = g d.power := rfl
@[simp] theorem Dev.setPower_st (g : Power → Power) : (d.setPower g).st = d.st := rfl
@[simp] theorem Dev.setPower_tb (g : Power → Power) : (d.setPower g).tb = d.tb := rfl
@[simp] theorem Dev.setPower_half (g : Power → Power) : (d.setPower g).half = d.half := rfl
@[simp] theorem Dev.setPower_params (g : Power → Power) : (d.setPower g).params = d.params := rfl
@[simp] theorem Dev.setPower_host (g : Power → Power) : (d.setPower g).host = d.host := rfl
@[simp] theorem Dev.setPower_chan (g : Power → Power) : (d.setPower g).chan = d.chan := rfl
@[simp] theorem Dev.setPower_ev (g : Power → Power) : (d.setPower g).ev = d.ev := rfl
@[simp] theorem Dev.setPower_arch (g : Power → Power) : (d.setPower g).arch = d.arch := rfl
@[simp] theorem Dev.setPower_baro (g : Power → Power) : (d.setPower g).baro = d.baro := rfl
@[simp] theorem Dev.setPower_therm (g : Power → Power) : (d.setPower g).therm = d.therm := rfl
@[simp] theorem Dev.setPower_arr (g : Power → Power) : (d.setPower g).arr = d.arr := rfl
@[simp] theorem Dev.setPower_conv (g : Power → Power) : (d.setPower g).conv = d.conv := rfl
@[simp] theorem Dev.setPower_clk (g : Power → Power) : (d.setPower g).clk = d.clk := rfl
@[simp] theorem Dev.setPower_lane (g : Power → Power) : (d.setPower g).lane = d.lane := rfl
@[simp] theorem Dev.setPower_pipe (g : Power → Power) : (d.setPower g).pipe = d.pipe := rfl
@[simp] theorem Dev.setPower_track (g : Power → Power) : (d.setPower g).track = d.track := rfl
@[simp] theorem Dev.setPower_cls (g : Power → Power) : (d.setPower g).cls = d.cls := rfl
@[simp] theorem Dev.setPower_eject (g : Power → Power) : (d.setPower g).eject = d.eject := rfl
@[simp] theorem Dev.setPower_engine (g : Power → Power) : (d.setPower g).engine = d.engine := rfl
@[simp] theorem Dev.setPower_timers (g : Power → Power) : (d.setPower g).timers = d.timers := rfl
@[simp] theorem Dev.setPower_aux (g : Power → Power) : (d.setPower g).aux = d.aux := rfl
@[simp] theorem Dev.setPower_faultInj (g : Power → Power) : (d.setPower g).faultInj = d.faultInj := rfl
@[simp] theorem Dev.setPower_faultTb (g : Power → Power) : (d.setPower g).faultTb = d.faultTb := rfl
@[simp] theorem Dev.setPower_out (g : Power → Power) : (d.setPower g).out = d.out := rfl
@[simp] theorem Dev.setPower_free (g : Power → Power) : (d.setPower g).free = d.free := rfl

@[simp] theorem Dev.setTherm_therm (g : ThermalS → ThermalS) : (d.setTherm g).therm = g d.therm := rfl
@[simp] theorem Dev.setTherm_st (g : ThermalS → ThermalS) : (d.setTherm g).st = d.st := rfl
@[simp] theorem Dev.setTherm_tb (g : ThermalS → ThermalS) : (d.setTherm g).tb = d.tb := rfl
@[simp] theorem Dev.setTherm_half (g : ThermalS → ThermalS) : (d.setTherm g).half = d.half := rfl
@[simp] theorem Dev.setTherm_params (g : ThermalS → ThermalS) : (d.setTherm g).params = d.params := rfl
@[simp] theorem Dev.setTherm_host (g : ThermalS → ThermalS) : (d.setTherm g).host = d.host := rfl
@[simp] theorem Dev.setTherm_chan (g : ThermalS → ThermalS) : (d.setTherm g).chan = d.chan := rfl
@[simp] theorem Dev.setTherm_ev (g : ThermalS → ThermalS) : (d.setTherm g).ev = d.ev := rfl
@[simp] theorem Dev.setTherm_arch (g : ThermalS → ThermalS) : (d.setTherm g).arch = d.arch := rfl
@[simp] theorem Dev.setTherm_baro (g : ThermalS → ThermalS) : (d.setTherm g).baro = d.baro := rfl
@[simp] theorem Dev.setTherm_power (g : ThermalS → ThermalS) : (d.setTherm g).power = d.power := rfl
@[simp] theorem Dev.setTherm_arr (g : ThermalS → ThermalS) : (d.setTherm g).arr = d.arr := rfl
@[simp] theorem Dev.setTherm_conv (g : ThermalS → ThermalS) : (d.setTherm g).conv = d.conv := rfl
@[simp] theorem Dev.setTherm_clk (g : ThermalS → ThermalS) : (d.setTherm g).clk = d.clk := rfl
@[simp] theorem Dev.setTherm_lane (g : ThermalS → ThermalS) : (d.setTherm g).lane = d.lane := rfl
@[simp] theorem Dev.setTherm_pipe (g : ThermalS → ThermalS) : (d.setTherm g).pipe = d.pipe := rfl
@[simp] theorem Dev.setTherm_track (g : ThermalS → ThermalS) : (d.setTherm g).track = d.track := rfl
@[simp] theorem Dev.setTherm_cls (g : ThermalS → ThermalS) : (d.setTherm g).cls = d.cls := rfl
@[simp] theorem Dev.setTherm_eject (g : ThermalS → ThermalS) : (d.setTherm g).eject = d.eject := rfl
@[simp] theorem Dev.setTherm_engine (g : ThermalS → ThermalS) : (d.setTherm g).engine = d.engine := rfl
@[simp] theorem Dev.setTherm_timers (g : ThermalS → ThermalS) : (d.setTherm g).timers = d.timers := rfl
@[simp] theorem Dev.setTherm_aux (g : ThermalS → ThermalS) : (d.setTherm g).aux = d.aux := rfl
@[simp] theorem Dev.setTherm_faultInj (g : ThermalS → ThermalS) : (d.setTherm g).faultInj = d.faultInj := rfl
@[simp] theorem Dev.setTherm_faultTb (g : ThermalS → ThermalS) : (d.setTherm g).faultTb = d.faultTb := rfl
@[simp] theorem Dev.setTherm_out (g : ThermalS → ThermalS) : (d.setTherm g).out = d.out := rfl
@[simp] theorem Dev.setTherm_free (g : ThermalS → ThermalS) : (d.setTherm g).free = d.free := rfl

@[simp] theorem Dev.setBaro_baro (g : Barometer → Barometer) : (d.setBaro g).baro = g d.baro := rfl
@[simp] theorem Dev.setBaro_st (g : Barometer → Barometer) : (d.setBaro g).st = d.st := rfl
@[simp] theorem Dev.setBaro_tb (g : Barometer → Barometer) : (d.setBaro g).tb = d.tb := rfl
@[simp] theorem Dev.setBaro_half (g : Barometer → Barometer) : (d.setBaro g).half = d.half := rfl
@[simp] theorem Dev.setBaro_params (g : Barometer → Barometer) : (d.setBaro g).params = d.params := rfl
@[simp] theorem Dev.setBaro_host (g : Barometer → Barometer) : (d.setBaro g).host = d.host := rfl
@[simp] theorem Dev.setBaro_chan (g : Barometer → Barometer) : (d.setBaro g).chan = d.chan := rfl
@[simp] theorem Dev.setBaro_ev (g : Barometer → Barometer) : (d.setBaro g).ev = d.ev := rfl
@[simp] theorem Dev.setBaro_arch (g : Barometer → Barometer) : (d.setBaro g).arch = d.arch := rfl
@[simp] theorem Dev.setBaro_therm (g : Barometer → Barometer) : (d.setBaro g).therm = d.therm := rfl
@[simp] theorem Dev.setBaro_power (g : Barometer → Barometer) : (d.setBaro g).power = d.power := rfl
@[simp] theorem Dev.setBaro_arr (g : Barometer → Barometer) : (d.setBaro g).arr = d.arr := rfl
@[simp] theorem Dev.setBaro_conv (g : Barometer → Barometer) : (d.setBaro g).conv = d.conv := rfl
@[simp] theorem Dev.setBaro_clk (g : Barometer → Barometer) : (d.setBaro g).clk = d.clk := rfl
@[simp] theorem Dev.setBaro_lane (g : Barometer → Barometer) : (d.setBaro g).lane = d.lane := rfl
@[simp] theorem Dev.setBaro_pipe (g : Barometer → Barometer) : (d.setBaro g).pipe = d.pipe := rfl
@[simp] theorem Dev.setBaro_track (g : Barometer → Barometer) : (d.setBaro g).track = d.track := rfl
@[simp] theorem Dev.setBaro_cls (g : Barometer → Barometer) : (d.setBaro g).cls = d.cls := rfl
@[simp] theorem Dev.setBaro_eject (g : Barometer → Barometer) : (d.setBaro g).eject = d.eject := rfl
@[simp] theorem Dev.setBaro_engine (g : Barometer → Barometer) : (d.setBaro g).engine = d.engine := rfl
@[simp] theorem Dev.setBaro_timers (g : Barometer → Barometer) : (d.setBaro g).timers = d.timers := rfl
@[simp] theorem Dev.setBaro_aux (g : Barometer → Barometer) : (d.setBaro g).aux = d.aux := rfl
@[simp] theorem Dev.setBaro_faultInj (g : Barometer → Barometer) : (d.setBaro g).faultInj = d.faultInj := rfl
@[simp] theorem Dev.setBaro_faultTb (g : Barometer → Barometer) : (d.setBaro g).faultTb = d.faultTb := rfl
@[simp] theorem Dev.setBaro_out (g : Barometer → Barometer) : (d.setBaro g).out = d.out := rfl
@[simp] theorem Dev.setBaro_free (g : Barometer → Barometer) : (d.setBaro g).free = d.free := rfl

@[simp] theorem Dev.setEng_st (e : Nat) (x : Eng) : (d.setEng e x).st = d.st := rfl
@[simp] theorem Dev.setEng_tb (e : Nat) (x : Eng) : (d.setEng e x).tb = d.tb := rfl
@[simp] theorem Dev.setEng_half (e : Nat) (x : Eng) : (d.setEng e x).half = d.half := rfl
@[simp] theorem Dev.setEng_params (e : Nat) (x : Eng) : (d.setEng e x).params = d.params := rfl
@[simp] theorem Dev.setEng_host (e : Nat) (x : Eng) : (d.setEng e x).host = d.host := rfl
@[simp] theorem Dev.setEng_chan (e : Nat) (x : Eng) : (d.setEng e x).chan = d.chan := rfl
@[simp] theorem Dev.setEng_ev (e : Nat) (x : Eng) : (d.setEng e x).ev = d.ev := rfl
@[simp] theorem Dev.setEng_arch (e : Nat) (x : Eng) : (d.setEng e x).arch = d.arch := rfl
@[simp] theorem Dev.setEng_baro (e : Nat) (x : Eng) : (d.setEng e x).baro = d.baro := rfl
@[simp] theorem Dev.setEng_therm (e : Nat) (x : Eng) : (d.setEng e x).therm = d.therm := rfl
@[simp] theorem Dev.setEng_power (e : Nat) (x : Eng) : (d.setEng e x).power = d.power := rfl
@[simp] theorem Dev.setEng_arr (e : Nat) (x : Eng) : (d.setEng e x).arr = d.arr := rfl
@[simp] theorem Dev.setEng_conv (e : Nat) (x : Eng) : (d.setEng e x).conv = d.conv := rfl
@[simp] theorem Dev.setEng_clk (e : Nat) (x : Eng) : (d.setEng e x).clk = d.clk := rfl
@[simp] theorem Dev.setEng_lane (e : Nat) (x : Eng) : (d.setEng e x).lane = d.lane := rfl
@[simp] theorem Dev.setEng_pipe (e : Nat) (x : Eng) : (d.setEng e x).pipe = d.pipe := rfl
@[simp] theorem Dev.setEng_track (e : Nat) (x : Eng) : (d.setEng e x).track = d.track := rfl
@[simp] theorem Dev.setEng_cls (e : Nat) (x : Eng) : (d.setEng e x).cls = d.cls := rfl
@[simp] theorem Dev.setEng_eject (e : Nat) (x : Eng) : (d.setEng e x).eject = d.eject := rfl
@[simp] theorem Dev.setEng_timers (e : Nat) (x : Eng) : (d.setEng e x).timers = d.timers := rfl
@[simp] theorem Dev.setEng_aux (e : Nat) (x : Eng) : (d.setEng e x).aux = d.aux := rfl
@[simp] theorem Dev.setEng_faultInj (e : Nat) (x : Eng) : (d.setEng e x).faultInj = d.faultInj := rfl
@[simp] theorem Dev.setEng_faultTb (e : Nat) (x : Eng) : (d.setEng e x).faultTb = d.faultTb := rfl
@[simp] theorem Dev.setEng_out (e : Nat) (x : Eng) : (d.setEng e x).out = d.out := rfl
@[simp] theorem Dev.setEng_free (e : Nat) (x : Eng) : (d.setEng e x).free = d.free := rfl

@[simp] theorem Dev.setTmr_st (t : Nat) (x : Timer) : (d.setTmr t x).st = d.st := rfl
@[simp] theorem Dev.setTmr_tb (t : Nat) (x : Timer) : (d.setTmr t x).tb = d.tb := rfl
@[simp] theorem Dev.setTmr_half (t : Nat) (x : Timer) : (d.setTmr t x).half = d.half := rfl
@[simp] theorem Dev.setTmr_params (t : Nat) (x : Timer) : (d.setTmr t x).params = d.params := rfl
@[simp] theorem Dev.setTmr_host (t : Nat) (x : Timer) : (d.setTmr t x).host = d.host := rfl
@[simp] theorem Dev.setTmr_chan (t : Nat) (x : Timer) : (d.setTmr t x).chan = d.chan := rfl
@[simp] theorem Dev.setTmr_ev (t : Nat) (x : Timer) : (d.setTmr t x).ev = d.ev := rfl
@[simp] theorem Dev.setTmr_arch (t : Nat) (x : Timer) : (d.setTmr t x).arch = d.arch := rfl
@[simp] theorem Dev.setTmr_baro (t : Nat) (x : Timer) : (d.setTmr t x).baro = d.baro := rfl
@[simp] theorem Dev.setTmr_therm (t : Nat) (x : Timer) : (d.setTmr t x).therm = d.therm := rfl
@[simp] theorem Dev.setTmr_power (t : Nat) (x : Timer) : (d.setTmr t x).power = d.power := rfl
@[simp] theorem Dev.setTmr_arr (t : Nat) (x : Timer) : (d.setTmr t x).arr = d.arr := rfl
@[simp] theorem Dev.setTmr_conv (t : Nat) (x : Timer) : (d.setTmr t x).conv = d.conv := rfl
@[simp] theorem Dev.setTmr_clk (t : Nat) (x : Timer) : (d.setTmr t x).clk = d.clk := rfl
@[simp] theorem Dev.setTmr_lane (t : Nat) (x : Timer) : (d.setTmr t x).lane = d.lane := rfl
@[simp] theorem Dev.setTmr_pipe (t : Nat) (x : Timer) : (d.setTmr t x).pipe = d.pipe := rfl
@[simp] theorem Dev.setTmr_track (t : Nat) (x : Timer) : (d.setTmr t x).track = d.track := rfl
@[simp] theorem Dev.setTmr_cls (t : Nat) (x : Timer) : (d.setTmr t x).cls = d.cls := rfl
@[simp] theorem Dev.setTmr_eject (t : Nat) (x : Timer) : (d.setTmr t x).eject = d.eject := rfl
@[simp] theorem Dev.setTmr_engine (t : Nat) (x : Timer) : (d.setTmr t x).engine = d.engine := rfl
@[simp] theorem Dev.setTmr_aux (t : Nat) (x : Timer) : (d.setTmr t x).aux = d.aux := rfl
@[simp] theorem Dev.setTmr_faultInj (t : Nat) (x : Timer) : (d.setTmr t x).faultInj = d.faultInj := rfl
@[simp] theorem Dev.setTmr_faultTb (t : Nat) (x : Timer) : (d.setTmr t x).faultTb = d.faultTb := rfl
@[simp] theorem Dev.setTmr_out (t : Nat) (x : Timer) : (d.setTmr t x).out = d.out := rfl
@[simp] theorem Dev.setTmr_free (t : Nat) (x : Timer) : (d.setTmr t x).free = d.free := rfl

@[simp] theorem Dev.setHeadS_st (h : Nat) (x : HeadS) : (d.setHeadS h x).st = d.st := rfl
@[simp] theorem Dev.setHeadS_tb (h : Nat) (x : HeadS) : (d.setHeadS h x).tb = d.tb := rfl
@[simp] theorem Dev.setHeadS_half (h : Nat) (x : HeadS) : (d.setHeadS h x).half = d.half := rfl
@[simp] theorem Dev.setHeadS_params (h : Nat) (x : HeadS) : (d.setHeadS h x).params = d.params := rfl
@[simp] theorem Dev.setHeadS_host (h : Nat) (x : HeadS) : (d.setHeadS h x).host = d.host := rfl
@[simp] theorem Dev.setHeadS_chan (h : Nat) (x : HeadS) : (d.setHeadS h x).chan = d.chan := rfl
@[simp] theorem Dev.setHeadS_ev (h : Nat) (x : HeadS) : (d.setHeadS h x).ev = d.ev := rfl
@[simp] theorem Dev.setHeadS_arch (h : Nat) (x : HeadS) : (d.setHeadS h x).arch = d.arch := rfl
@[simp] theorem Dev.setHeadS_baro (h : Nat) (x : HeadS) : (d.setHeadS h x).baro = d.baro := rfl
@[simp] theorem Dev.setHeadS_therm (h : Nat) (x : HeadS) : (d.setHeadS h x).therm = d.therm := rfl
@[simp] theorem Dev.setHeadS_power (h : Nat) (x : HeadS) : (d.setHeadS h x).power = d.power := rfl
@[simp] theorem Dev.setHeadS_arr (h : Nat) (x : HeadS) : (d.setHeadS h x).arr = d.arr := rfl
@[simp] theorem Dev.setHeadS_conv (h : Nat) (x : HeadS) : (d.setHeadS h x).conv = d.conv := rfl
@[simp] theorem Dev.setHeadS_clk (h : Nat) (x : HeadS) : (d.setHeadS h x).clk = d.clk := rfl
@[simp] theorem Dev.setHeadS_lane (h : Nat) (x : HeadS) : (d.setHeadS h x).lane = d.lane := rfl
@[simp] theorem Dev.setHeadS_track (h : Nat) (x : HeadS) : (d.setHeadS h x).track = d.track := rfl
@[simp] theorem Dev.setHeadS_cls (h : Nat) (x : HeadS) : (d.setHeadS h x).cls = d.cls := rfl
@[simp] theorem Dev.setHeadS_eject (h : Nat) (x : HeadS) : (d.setHeadS h x).eject = d.eject := rfl
@[simp] theorem Dev.setHeadS_engine (h : Nat) (x : HeadS) : (d.setHeadS h x).engine = d.engine := rfl
@[simp] theorem Dev.setHeadS_timers (h : Nat) (x : HeadS) : (d.setHeadS h x).timers = d.timers := rfl
@[simp] theorem Dev.setHeadS_aux (h : Nat) (x : HeadS) : (d.setHeadS h x).aux = d.aux := rfl
@[simp] theorem Dev.setHeadS_faultInj (h : Nat) (x : HeadS) : (d.setHeadS h x).faultInj = d.faultInj := rfl
@[simp] theorem Dev.setHeadS_faultTb (h : Nat) (x : HeadS) : (d.setHeadS h x).faultTb = d.faultTb := rfl
@[simp] theorem Dev.setHeadS_out (h : Nat) (x : HeadS) : (d.setHeadS h x).out = d.out := rfl
@[simp] theorem Dev.setHeadS_free (h : Nat) (x : HeadS) : (d.setHeadS h x).free = d.free := rfl

@[simp] theorem Dev.setFaceS_st (f : Nat) (x : FaceS) : (d.setFaceS f x).st = d.st := rfl
@[simp] theorem Dev.setFaceS_tb (f : Nat) (x : FaceS) : (d.setFaceS f x).tb = d.tb := rfl
@[simp] theorem Dev.setFaceS_half (f : Nat) (x : FaceS) : (d.setFaceS f x).half = d.half := rfl
@[simp] theorem Dev.setFaceS_params (f : Nat) (x : FaceS) : (d.setFaceS f x).params = d.params := rfl
@[simp] theorem Dev.setFaceS_host (f : Nat) (x : FaceS) : (d.setFaceS f x).host = d.host := rfl
@[simp] theorem Dev.setFaceS_chan (f : Nat) (x : FaceS) : (d.setFaceS f x).chan = d.chan := rfl
@[simp] theorem Dev.setFaceS_ev (f : Nat) (x : FaceS) : (d.setFaceS f x).ev = d.ev := rfl
@[simp] theorem Dev.setFaceS_arch (f : Nat) (x : FaceS) : (d.setFaceS f x).arch = d.arch := rfl
@[simp] theorem Dev.setFaceS_baro (f : Nat) (x : FaceS) : (d.setFaceS f x).baro = d.baro := rfl
@[simp] theorem Dev.setFaceS_therm (f : Nat) (x : FaceS) : (d.setFaceS f x).therm = d.therm := rfl
@[simp] theorem Dev.setFaceS_power (f : Nat) (x : FaceS) : (d.setFaceS f x).power = d.power := rfl
@[simp] theorem Dev.setFaceS_arr (f : Nat) (x : FaceS) : (d.setFaceS f x).arr = d.arr := rfl
@[simp] theorem Dev.setFaceS_conv (f : Nat) (x : FaceS) : (d.setFaceS f x).conv = d.conv := rfl
@[simp] theorem Dev.setFaceS_clk (f : Nat) (x : FaceS) : (d.setFaceS f x).clk = d.clk := rfl
@[simp] theorem Dev.setFaceS_lane (f : Nat) (x : FaceS) : (d.setFaceS f x).lane = d.lane := rfl
@[simp] theorem Dev.setFaceS_pipe (f : Nat) (x : FaceS) : (d.setFaceS f x).pipe = d.pipe := rfl
@[simp] theorem Dev.setFaceS_cls (f : Nat) (x : FaceS) : (d.setFaceS f x).cls = d.cls := rfl
@[simp] theorem Dev.setFaceS_eject (f : Nat) (x : FaceS) : (d.setFaceS f x).eject = d.eject := rfl
@[simp] theorem Dev.setFaceS_engine (f : Nat) (x : FaceS) : (d.setFaceS f x).engine = d.engine := rfl
@[simp] theorem Dev.setFaceS_timers (f : Nat) (x : FaceS) : (d.setFaceS f x).timers = d.timers := rfl
@[simp] theorem Dev.setFaceS_aux (f : Nat) (x : FaceS) : (d.setFaceS f x).aux = d.aux := rfl
@[simp] theorem Dev.setFaceS_faultInj (f : Nat) (x : FaceS) : (d.setFaceS f x).faultInj = d.faultInj := rfl
@[simp] theorem Dev.setFaceS_faultTb (f : Nat) (x : FaceS) : (d.setFaceS f x).faultTb = d.faultTb := rfl
@[simp] theorem Dev.setFaceS_out (f : Nat) (x : FaceS) : (d.setFaceS f x).out = d.out := rfl
@[simp] theorem Dev.setFaceS_free (f : Nat) (x : FaceS) : (d.setFaceS f x).free = d.free := rfl

@[simp] theorem Dev.setWin_st (w : Nat) (x : Win) : (d.setWin w x).st = d.st := rfl
@[simp] theorem Dev.setWin_tb (w : Nat) (x : Win) : (d.setWin w x).tb = d.tb := rfl
@[simp] theorem Dev.setWin_half (w : Nat) (x : Win) : (d.setWin w x).half = d.half := rfl
@[simp] theorem Dev.setWin_params (w : Nat) (x : Win) : (d.setWin w x).params = d.params := rfl
@[simp] theorem Dev.setWin_host (w : Nat) (x : Win) : (d.setWin w x).host = d.host := rfl
@[simp] theorem Dev.setWin_chan (w : Nat) (x : Win) : (d.setWin w x).chan = d.chan := rfl
@[simp] theorem Dev.setWin_ev (w : Nat) (x : Win) : (d.setWin w x).ev = d.ev := rfl
@[simp] theorem Dev.setWin_baro (w : Nat) (x : Win) : (d.setWin w x).baro = d.baro := rfl
@[simp] theorem Dev.setWin_therm (w : Nat) (x : Win) : (d.setWin w x).therm = d.therm := rfl
@[simp] theorem Dev.setWin_power (w : Nat) (x : Win) : (d.setWin w x).power = d.power := rfl
@[simp] theorem Dev.setWin_arr (w : Nat) (x : Win) : (d.setWin w x).arr = d.arr := rfl
@[simp] theorem Dev.setWin_conv (w : Nat) (x : Win) : (d.setWin w x).conv = d.conv := rfl
@[simp] theorem Dev.setWin_clk (w : Nat) (x : Win) : (d.setWin w x).clk = d.clk := rfl
@[simp] theorem Dev.setWin_lane (w : Nat) (x : Win) : (d.setWin w x).lane = d.lane := rfl
@[simp] theorem Dev.setWin_pipe (w : Nat) (x : Win) : (d.setWin w x).pipe = d.pipe := rfl
@[simp] theorem Dev.setWin_track (w : Nat) (x : Win) : (d.setWin w x).track = d.track := rfl
@[simp] theorem Dev.setWin_cls (w : Nat) (x : Win) : (d.setWin w x).cls = d.cls := rfl
@[simp] theorem Dev.setWin_eject (w : Nat) (x : Win) : (d.setWin w x).eject = d.eject := rfl
@[simp] theorem Dev.setWin_engine (w : Nat) (x : Win) : (d.setWin w x).engine = d.engine := rfl
@[simp] theorem Dev.setWin_timers (w : Nat) (x : Win) : (d.setWin w x).timers = d.timers := rfl
@[simp] theorem Dev.setWin_aux (w : Nat) (x : Win) : (d.setWin w x).aux = d.aux := rfl
@[simp] theorem Dev.setWin_faultInj (w : Nat) (x : Win) : (d.setWin w x).faultInj = d.faultInj := rfl
@[simp] theorem Dev.setWin_faultTb (w : Nat) (x : Win) : (d.setWin w x).faultTb = d.faultTb := rfl
@[simp] theorem Dev.setWin_out (w : Nat) (x : Win) : (d.setWin w x).out = d.out := rfl
@[simp] theorem Dev.setWin_free (w : Nat) (x : Win) : (d.setWin w x).free = d.free := rfl

@[simp] theorem Dev.setRxLane_st (n : Nat) (x : Lane) : (d.setRxLane n x).st = d.st := rfl
@[simp] theorem Dev.setRxLane_tb (n : Nat) (x : Lane) : (d.setRxLane n x).tb = d.tb := rfl
@[simp] theorem Dev.setRxLane_half (n : Nat) (x : Lane) : (d.setRxLane n x).half = d.half := rfl
@[simp] theorem Dev.setRxLane_params (n : Nat) (x : Lane) : (d.setRxLane n x).params = d.params := rfl
@[simp] theorem Dev.setRxLane_host (n : Nat) (x : Lane) : (d.setRxLane n x).host = d.host := rfl
@[simp] theorem Dev.setRxLane_chan (n : Nat) (x : Lane) : (d.setRxLane n x).chan = d.chan := rfl
@[simp] theorem Dev.setRxLane_ev (n : Nat) (x : Lane) : (d.setRxLane n x).ev = d.ev := rfl
@[simp] theorem Dev.setRxLane_arch (n : Nat) (x : Lane) : (d.setRxLane n x).arch = d.arch := rfl
@[simp] theorem Dev.setRxLane_baro (n : Nat) (x : Lane) : (d.setRxLane n x).baro = d.baro := rfl
@[simp] theorem Dev.setRxLane_therm (n : Nat) (x : Lane) : (d.setRxLane n x).therm = d.therm := rfl
@[simp] theorem Dev.setRxLane_power (n : Nat) (x : Lane) : (d.setRxLane n x).power = d.power := rfl
@[simp] theorem Dev.setRxLane_arr (n : Nat) (x : Lane) : (d.setRxLane n x).arr = d.arr := rfl
@[simp] theorem Dev.setRxLane_conv (n : Nat) (x : Lane) : (d.setRxLane n x).conv = d.conv := rfl
@[simp] theorem Dev.setRxLane_clk (n : Nat) (x : Lane) : (d.setRxLane n x).clk = d.clk := rfl
@[simp] theorem Dev.setRxLane_pipe (n : Nat) (x : Lane) : (d.setRxLane n x).pipe = d.pipe := rfl
@[simp] theorem Dev.setRxLane_track (n : Nat) (x : Lane) : (d.setRxLane n x).track = d.track := rfl
@[simp] theorem Dev.setRxLane_cls (n : Nat) (x : Lane) : (d.setRxLane n x).cls = d.cls := rfl
@[simp] theorem Dev.setRxLane_eject (n : Nat) (x : Lane) : (d.setRxLane n x).eject = d.eject := rfl
@[simp] theorem Dev.setRxLane_engine (n : Nat) (x : Lane) : (d.setRxLane n x).engine = d.engine := rfl
@[simp] theorem Dev.setRxLane_timers (n : Nat) (x : Lane) : (d.setRxLane n x).timers = d.timers := rfl
@[simp] theorem Dev.setRxLane_aux (n : Nat) (x : Lane) : (d.setRxLane n x).aux = d.aux := rfl
@[simp] theorem Dev.setRxLane_faultInj (n : Nat) (x : Lane) : (d.setRxLane n x).faultInj = d.faultInj := rfl
@[simp] theorem Dev.setRxLane_faultTb (n : Nat) (x : Lane) : (d.setRxLane n x).faultTb = d.faultTb := rfl
@[simp] theorem Dev.setRxLane_out (n : Nat) (x : Lane) : (d.setRxLane n x).out = d.out := rfl
@[simp] theorem Dev.setRxLane_free (n : Nat) (x : Lane) : (d.setRxLane n x).free = d.free := rfl

@[simp] theorem Dev.setLaneGroup_st (g : Nat) (x : LaneGroup) : (d.setLaneGroup g x).st = d.st := rfl
@[simp] theorem Dev.setLaneGroup_tb (g : Nat) (x : LaneGroup) : (d.setLaneGroup g x).tb = d.tb := rfl
@[simp] theorem Dev.setLaneGroup_half (g : Nat) (x : LaneGroup) : (d.setLaneGroup g x).half = d.half := rfl
@[simp] theorem Dev.setLaneGroup_params (g : Nat) (x : LaneGroup) : (d.setLaneGroup g x).params = d.params := rfl
@[simp] theorem Dev.setLaneGroup_host (g : Nat) (x : LaneGroup) : (d.setLaneGroup g x).host = d.host := rfl
@[simp] theorem Dev.setLaneGroup_chan (g : Nat) (x : LaneGroup) : (d.setLaneGroup g x).chan = d.chan := rfl
@[simp] theorem Dev.setLaneGroup_ev (g : Nat) (x : LaneGroup) : (d.setLaneGroup g x).ev = d.ev := rfl
@[simp] theorem Dev.setLaneGroup_arch (g : Nat) (x : LaneGroup) : (d.setLaneGroup g x).arch = d.arch := rfl
@[simp] theorem Dev.setLaneGroup_baro (g : Nat) (x : LaneGroup) : (d.setLaneGroup g x).baro = d.baro := rfl
@[simp] theorem Dev.setLaneGroup_therm (g : Nat) (x : LaneGroup) : (d.setLaneGroup g x).therm = d.therm := rfl
@[simp] theorem Dev.setLaneGroup_power (g : Nat) (x : LaneGroup) : (d.setLaneGroup g x).power = d.power := rfl
@[simp] theorem Dev.setLaneGroup_arr (g : Nat) (x : LaneGroup) : (d.setLaneGroup g x).arr = d.arr := rfl
@[simp] theorem Dev.setLaneGroup_conv (g : Nat) (x : LaneGroup) : (d.setLaneGroup g x).conv = d.conv := rfl
@[simp] theorem Dev.setLaneGroup_clk (g : Nat) (x : LaneGroup) : (d.setLaneGroup g x).clk = d.clk := rfl
@[simp] theorem Dev.setLaneGroup_pipe (g : Nat) (x : LaneGroup) : (d.setLaneGroup g x).pipe = d.pipe := rfl
@[simp] theorem Dev.setLaneGroup_track (g : Nat) (x : LaneGroup) : (d.setLaneGroup g x).track = d.track := rfl
@[simp] theorem Dev.setLaneGroup_cls (g : Nat) (x : LaneGroup) : (d.setLaneGroup g x).cls = d.cls := rfl
@[simp] theorem Dev.setLaneGroup_eject (g : Nat) (x : LaneGroup) : (d.setLaneGroup g x).eject = d.eject := rfl
@[simp] theorem Dev.setLaneGroup_engine (g : Nat) (x : LaneGroup) : (d.setLaneGroup g x).engine = d.engine := rfl
@[simp] theorem Dev.setLaneGroup_timers (g : Nat) (x : LaneGroup) : (d.setLaneGroup g x).timers = d.timers := rfl
@[simp] theorem Dev.setLaneGroup_aux (g : Nat) (x : LaneGroup) : (d.setLaneGroup g x).aux = d.aux := rfl
@[simp] theorem Dev.setLaneGroup_faultInj (g : Nat) (x : LaneGroup) : (d.setLaneGroup g x).faultInj = d.faultInj := rfl
@[simp] theorem Dev.setLaneGroup_faultTb (g : Nat) (x : LaneGroup) : (d.setLaneGroup g x).faultTb = d.faultTb := rfl
@[simp] theorem Dev.setLaneGroup_out (g : Nat) (x : LaneGroup) : (d.setLaneGroup g x).out = d.out := rfl
@[simp] theorem Dev.setLaneGroup_free (g : Nat) (x : LaneGroup) : (d.setLaneGroup g x).free = d.free := rfl

end Sys2Proof.Machine
end

