-- ==== Sys2Proof/Tests/Slice0.lean ====
section
/-!
SUPPORT. Tests on small states: the well-formedness smoke, single steps whose results the spec gives, and for each statement with
hypotheses a state and operands that meet them.
-/

namespace Sys2Proof.Tests

open Sys2Proof.Machine

set_option Elab.async false

/-! States and entries. -/

/-- An entry of SQ0 with tag 1, its ENTRY_CRC right. `inl` holds the inline bytes from byte 12 on, the lowest first. -/
def entryOf (opcode sel addr inl : Nat) (buf : List Byte) (len : Nat) : Entry :=
  let e : Entry :=
    { sq := 0, tag := 1, rsv := 0, fence := false, selector := BitVec.ofNat 16 sel, unit := 0, address := BitVec.ofNat 32 addr
      inline := Vector.ofFn (fun i : Fin 36 => BitVec.ofNat 8 (inl >>> (8 * i.val)))
      bufAddr := 0x1000, bufLen := BitVec.ofNat 32 len, crc := 0, buf := buf }
  { e with crc := BitVec.ofNat 32 (crc32c (e.bytes opcode)) }

/-- An entry without selector, address or buffer. -/
def plain (opcode inl : Nat) : Entry := entryOf opcode 0 0 inl [] 0

/-- NOP with FENCE, its ENTRY_CRC right. -/
def fenceNop : Entry :=
  let e := { plain 0x0100 0 with fence := true, crc := 0 }
  { e with crc := BitVec.ofNat 32 (crc32c (e.bytes 0x0100)) }

def cold : Dev := Dev.cold Flash.shipped

/-- A unit that has started up, in a state, with one entry waiting in SQ0 and room in CQ0. -/
def unitIn (st : UState) : Dev :=
  let d := { cold with st := st, power := { cold.power with starting := false } }
  (d.setSq 0 { Sq.zero with enable := true, ready := true, size := 15, tail := 1 }).setCq 0
    { Cq.zero with enable := true, ready := true, size := 15, phase := true }

/-- The same with every power domain on and ready. -/
def live (st : UState) : Dev := ((unitIn st).put Reg.DOMAIN_ON 0x1FFFFFF).put Reg.DOMAIN_READY 0x1FFFFFF

/-- An inline value at a byte of the entry. -/
def at' (byte v : Nat) : Nat := v <<< (8 * (byte - 12))

/-- The same with a data buffer, whose CRC stands at an inline byte. -/
def dataEntry (opcode sel addr crcAt inl : Nat) (buf : List Byte) : Entry :=
  entryOf opcode sel addr (inl ||| at' crcAt (crc32c buf)) buf buf.length

/-- A unit whose generation in effect has these tables. -/
def withTables (d : Dev) (tables : Store) : Dev :=
  d.setChan (fun c => { c with confs := [⟨0, false, false, none, [], tables, none⟩] })

/-- A unit with one TABLE_WRITE at work. -/
def writing (d : Dev) (w : TableWrite) : Dev := d.setChan (fun c => { c with writes := [w] })

/-- A unit in IDLE, one in HOLD, and one in ARMED in a run whose newest line is FFFFFFFEh. -/
def idle : Dev := live .idle
def inHold : Dev := live .hold

/-- A run in progress that has no line yet, or has lines. -/
def running (d : Dev) (lines : List LineInfo) : Dev :=
  { d with arr := { d.arr with running := true, begun := !lines.isEmpty, lines := lines } }

/-- A line of a number, triggered at timebase 1000, without exposures. -/
def lineOf (num : Nat) : LineInfo :=
  { num := num, tb := 1000, gen := 0, frame := 0, offset := 0, kept := true, windows := [], bus := 1000, stopBus := 2000, doneBus := 3000
    period := 4000, skipped := false, tracked := false }

def armed : Dev := running (live .armed) [lineOf 0xFFFFFFFE]

/-- The machine with a unit and no command waiting. -/
def st (d : Dev) : State := ⟨[], d⟩

/-! For each statement with hypotheses, a state and operands that meet them: witness_<Statement>, or one for each clause, with the
clause's name after it. -/

theorem witness_QueriesAnswer :
    (unitIn .idle).Accepts formNop noCheck (plain 0x0100 0) ∧
    (unitIn .boot).Accepts formStateGet noCheck (plain 0x0103 0) ∧
    (unitIn .fault).Accepts formIdentify checkIdentify (entryOf 0x0101 0 0 0 [] 64) ∧
    (unitIn .sorting).Accepts formLinkStatus checkGroup (entryOf 0x0402 5 0 0 [] 0) ∧
    (unitIn .idle).Accepts formEngineStatus noCheck (entryOf 0x0804 15 0 0 [] 0) ∧
    (unitIn .fault).Accepts formThermalStatus noCheck (plain 0x0E01 0) := by
  refine ⟨?_, ?_, ?_, ?_, ?_, ?_⟩ <;> exact Dev.accepts_of_now (by decide +kernel)


/-- A closed block of head 11. -/
def blockOf (frame : Nat) : Stats :=
  { head := 11, frame := frame, gen := 0, mixed := false, genLag := false, genLead := false, short := false, marked := false
    injected := false, slip := false, missing := false, firstLine := 0, lineCount := 0, tb := 0, mode := 0, missingLines := 0
    padSamples := 0, defSamples := 0, dark := [], planes := [] }

theorem witness_ReadsAnswer :
    let d := live .idle
    let s := { d with arr := { d.arr with closed := [blockOf 0xFFFFFFFF] } }
    (let e := entryOf 0x0201 0 0x01000001 0 [] 0
     d.Accepts formParamRead checkParamRead e ∧ e.count = 1 ∧ e.bufLen = 0 ∧ ¬ (e.page = 0 ∧ e.word = 4)) ∧
    (let e := entryOf 0x0201 1 0x02000001 0 [] 0
     d.Accepts formParamRead checkParamRead e ∧ e.count = 1 ∧ e.bufLen = 0 ∧ ¬ (e.page = 0 ∧ e.word = 4)) ∧
    d.Accepts formTableRead checkTable (entryOf 0x0206 0 0x0F0003FF 0 [] 4) ∧
    (let e := entryOf 0x0D05 0 0 0 [] 32
     d.Accepts formLogRead checkLogRead e ∧ (e.inl 16 1).testBit 0 = false) ∧
    (let e := entryOf 0x0902 23 0 0 [] 0
     d.Accepts formAuxRead checkAuxRead e ∧ d.auxOn = true ∧ e.bufLen = 0) ∧
    (let e := entryOf 0x0902 0 0 0 [] 384
     d.Accepts formAuxRead checkAuxRead e ∧ d.auxOn = true ∧ e.bufLen ≠ 0) ∧
    (let e := entryOf 0x0303 11 0 (at' 12 0xFFFFFFFF) [] 256
     s.Accepts formStatsRead checkStatsRead e ∧ (e.inl 16 1).testBit 0 = false ∧
       ((s.begun formStatsRead e).arr.closed.filter (fun x => x.head == e.sel 3 0)).find? (fun x => x.frame == e.inl 12 4) =
         some (blockOf 0xFFFFFFFF)) ∧
    (let e := entryOf 0x0303 11 0 (at' 16 1) [] 256
     s.Accepts formStatsRead checkStatsRead e ∧ (e.inl 16 1).testBit 0 = true ∧
       ((s.begun formStatsRead e).arr.closed.filter (fun x => x.head == e.sel 3 0)).head? = some (blockOf 0xFFFFFFFF)) ∧
    (let e := entryOf 0x0501 0 0 0 [] 0
     d.Accepts formTrackerStatus checkTrackerStatus e ∧ e.bufLen = 0 ∧ (e.inl 12 1).testBit 0 = false) ∧
    (let e := entryOf 0x0501 0 0 1 [] 0
     d.Accepts formTrackerStatus checkTrackerStatus e ∧ e.bufLen = 0 ∧ (e.inl 12 1).testBit 0 = true) ∧
    (let e := entryOf 0x0601 0 0 0 [] 0
     d.Accepts formCountersRead checkCountersRead e ∧ e.bufLen = 0 ∧ (e.inl 12 1).testBit 0 = false) := by
  refine ⟨?_, ?_, ?_, ?_, ?_, ?_, ?_, ?_, ?_, ?_, ?_⟩ <;>
    first
      | exact Dev.accepts_of_now (by decide +kernel)
      | exact ⟨Dev.accepts_of_now (by decide +kernel), by decide +kernel⟩

theorem witness_StateRequestsAct :
    let c := unitIn .hold
    let d := { live .idle with arr := { (live .idle).arr with encPos := 0 } }
    (let e := entryOf 0x0102 0 0 5 [] 0
     (unitIn .idle).Accepts formStateSet checkStateSet e ∧ UState.hold = stateOf (e.inl 12 1) ∧
       (unitIn .idle).st.reaches .hold = true ∧ UState.hold ≠ .sorting) ∧
    (let e := entryOf 0x0102 0 0 5 [] 0
     c.Accepts formStateSet checkStateSet e ∧ c.st = stateOf (e.inl 12 1)) ∧
    ((unitIn .armed).Accepts formEjectLive noCheck (plain 0x0702 0) ∧ (unitIn .armed).st ≠ .sorting ∧
      ((unitIn .armed).begun formEjectLive (plain 0x0702 0)).abortAuto.liveAllowed = true) ∧
    (c.Accepts formEjectDry noCheck (plain 0x0703 0) ∧ c.st ≠ .armed) ∧
    (d.Accepts formLineStart noCheck (plain 0x0301 0) ∧ d.runOn = false) ∧
    ((running d []).Accepts formLineStart noCheck (plain 0x0301 0) ∧ (running d []).runOn = true) ∧
    ((running d [lineOf 0xFFFFFFFF]).Accepts formLineStop noCheck (plain 0x0302 0) ∧
      (running d [lineOf 0xFFFFFFFF]).runOn = true ∧ (running d [lineOf 0xFFFFFFFF]).arr.pendingRun = none ∧
      (running d [lineOf 0xFFFFFFFF]).arr.begun = true) ∧
    (let e := entryOf 0x0E02 0 0 (at' 12 (2 ^ 24)) [] 0
     let t := ((d.begun formDomainSet e).switchOff (e.inl 16 4)).switchOn (e.inl 12 4)
     d.Accepts formDomainSet checkDomainSet e ∧ (bitsOf 25 (e.inl 16 4)).all (d.begun formDomainSet e).mayStop = true ∧
       (bitsOf 25 (e.inl 12 4)).any (fun n => !(d.begun formDomainSet e).domainOn n &&
           (d.begun formDomainSet e).bitOf Reg.DOMAIN_FAULT n) = false ∧
       (bitsOf 25 (e.inl 12 4)).all t.domainReady = true) ∧
    (let e := entryOf 0x0E02 0 0 (at' 12 (2 ^ 24)) [] 0
     let t := ((c.begun formDomainSet e).switchOff (e.inl 16 4)).switchOn (e.inl 12 4)
     c.Accepts formDomainSet checkDomainSet e ∧ (bitsOf 25 (e.inl 16 4)).all (c.begun formDomainSet e).mayStop = true ∧
       (bitsOf 25 (e.inl 12 4)).any (fun n => !(c.begun formDomainSet e).domainOn n &&
           (c.begun formDomainSet e).bitOf Reg.DOMAIN_FAULT n) = false ∧
       (bitsOf 25 (e.inl 12 4)).all t.domainReady = false) := by
  refine ⟨?_, ?_, ?_, ?_, ?_, ?_, ?_, ?_, ?_⟩ <;>
    exact ⟨Dev.accepts_of_now (by decide +kernel), by decide +kernel⟩

/-- A recipe image without sections. -/
def image : List Word := ([0x31504352, 0, 68].map (BitVec.ofNat 32)) ++ List.replicate 13 0 ++ [0x706ECE39]

theorem witness_SettingsAreWritten_write :
    let e := entryOf 0x0202 0 0x02000301 0 [] 0
    idle.Accepts (formParamWrite e) checkParamWrite e ∧ (idle.begun (formParamWrite e) e).wordsBad false e = none ∧
      ∀ i, i < e.count → (idle.begun (formParamWrite e) e).lockedWord e.page (e.word + i) = none :=
  ⟨Dev.accepts_of_now (by decide +kernel), by decide +kernel⟩

theorem witness_SettingsAreWritten_stage :
    let e := entryOf 0x0203 0 0x02000201 (at' 12 65536) [] 0
    idle.Accepts (formParamStage e) checkParamStage e ∧ (idle.begun (formParamStage e) e).wordsBad true e = none :=
  ⟨Dev.accepts_of_now (by decide +kernel), by decide +kernel⟩

theorem witness_SettingsAreWritten_commit :
    let d := idle.begun formCommit (plain 0x0204 2)
    idle.Accepts formCommit checkCommit (plain 0x0204 2) ∧ d.genPending < 4 ∧ d.mapsBad d.nextConf = (none, none) :=
  ⟨Dev.accepts_of_now (by decide +kernel), by decide +kernel⟩

theorem witness_SettingsAreWritten_table03 :
    let e := dataEntry 0x0205 11 0x03000000 12 0 [1, 2, 3, 4]
    idle.Accepts (formTableWrite e) checkTable e ∧ crc32c e.data = e.inl 12 4 ∧ e.table = 3 ∧ e.inst = 11 ∧
      (idle.begun (formTableWrite e) e).calibrates e.inst = false :=
  ⟨Dev.accepts_of_now (by decide +kernel), by decide +kernel⟩

theorem witness_SettingsAreWritten_table0A :
    let e := dataEntry 0x0205 0 0x0A00000F 12 0 [4, 0, 0, 0]
    idle.Accepts (formTableWrite e) checkTable e ∧ crc32c e.data = e.inl 12 4 ∧ e.table = 0x0A ∧
      leWords e.data = [4] :=
  ⟨Dev.accepts_of_now (by decide +kernel), by decide +kernel⟩

theorem witness_SettingsAreWritten_table0D :
    let e := dataEntry 0x0205 0 0x0D000032 12 0 [0, 0, 0, 0]
    idle.Accepts (formTableWrite e) checkTable e ∧ crc32c e.data = e.inl 12 4 ∧ e.table = 0x0D ∧
        (idle.begun (formTableWrite e) e).st = .idle :=
  ⟨Dev.accepts_of_now (by decide +kernel), by decide +kernel⟩

theorem witness_SettingsAreWritten_recipeErase :
    let e := dataEntry 0x0205 63 0x11000000 12 0 [0, 0, 0, 0]
    idle.Accepts (formTableWrite e) checkTable e ∧ crc32c e.data = e.inl 12 4 ∧ e.table = 0x11 ∧ e.offset = 0 ∧
      leWords e.data = [0] :=
  ⟨Dev.accepts_of_now (by decide +kernel), by decide +kernel⟩

theorem witness_SettingsAreWritten_recipe :
    let e := dataEntry 0x0205 0 0x11000000 12 0 (wordBytes image)
    idle.Accepts (formTableWrite e) checkTable e ∧ crc32c e.data = e.inl 12 4 ∧ e.table = 0x11 ∧ e.offset = 0 :=
  ⟨Dev.accepts_of_now (by decide +kernel), by decide +kernel⟩

theorem witness_SettingsAreWritten_image :
    imageLength image = 68 ∧ imageGood image = true := by
  decide +kernel

theorem witness_SettingsAreWritten_swapAtLine :
    let e := entryOf 0x0207 0x800 0 (at' 12 4096) [] 0
    armed.Accepts formBankSwap checkBankSwap e ∧ armed.pipe.fade = none ∧ (armed.arr.running && armed.arr.begun) = true ∧
      (e.inl 14 1).testBit 0 = false :=
  ⟨Dev.accepts_of_now (by decide +kernel), by decide +kernel⟩

theorem witness_SettingsAreWritten_swapAtFrame :
    let e := entryOf 0x0207 0x001 0 (at' 14 1) [] 0
    armed.Accepts formBankSwap checkBankSwap e ∧ armed.pipe.fade = none ∧ (armed.arr.running && armed.arr.begun) = true ∧
      (e.inl 14 1).testBit 0 = true :=
  ⟨Dev.accepts_of_now (by decide +kernel), by decide +kernel⟩

theorem witness_SettingsAreWritten_swapNow :
    idle.Accepts formBankSwap checkBankSwap (entryOf 0x0207 0xFFF 0 0 [] 0) ∧ idle.pipe.fade = none ∧
      (idle.arr.running && idle.arr.begun) = false :=
  ⟨Dev.accepts_of_now (by decide +kernel), by decide +kernel⟩

theorem witness_TableWritesApply_shadow :
    let w : TableWrite := ⟨0, 1, 0x0F, 0, 1023, [0xFFF]⟩
    let s := writing idle w
    s.baro.halted = false ∧ s.chan.writes = [w] ∧ w.table ∉ [0x04, 0x05, 0x0D, 0x10, 0x11] := by
  decide +kernel

theorem witness_TableWritesApply_bankA :
    let w : TableWrite := ⟨0, 1, 4, 11, 263, [1]⟩
    let s := writing (idle.put Reg.ACTIVE_BANK 0x800) w
    s.baro.halted = false ∧ s.chan.writes = [w] ∧ s.bitOf Reg.ACTIVE_BANK w.inst = decide (w.table = 4) ∧ s.pipe.fade = none := by
  decide +kernel

theorem witness_TableWritesApply_bankB :
    let w : TableWrite := ⟨0, 1, 5, 0, 0, [1]⟩
    let s := writing (idle.put Reg.ACTIVE_BANK 0xFFE) w
    s.baro.halted = false ∧ s.chan.writes = [w] ∧ s.bitOf Reg.ACTIVE_BANK w.inst = decide (w.table = 4) ∧ s.pipe.fade = none := by
  decide +kernel

theorem witness_TableWritesApply_lanes :
    let w : TableWrite := ⟨0, 1, 0x0D, 0, 50, [1]⟩
    let s := writing (idle.putFlag Reg.WINDOW_OPEN true) w
    s.baro.halted = false ∧ s.chan.writes = [w] ∧ s.windowOpen = true := by
  decide +kernel

theorem witness_TableWritesApply_program :
    let w : TableWrite := ⟨0, 1, 0x10, 15, 31, [0x70007001]⟩
    let s := writing idle w
    s.baro.halted = false ∧ s.chan.writes = [w] ∧ (s.eng w.inst).running = false ∧
      instrIllegal 0x7001 = false ∧ instrIllegal 0x7000 = false := by
  decide +kernel

theorem witness_TableWritesApply_recipe :
    let s := writing (idle.putFlag Reg.WINDOW_OPEN true) ⟨0, 1, 0x11, 63, 0, image⟩
    s.baro.halted = false ∧ s.windowOpen = true ∧ ((s.setChan (fun c => { c with writes := [] })).writeRecipe 63 image).isSome = true := by
  decide +kernel

theorem witness_RegisterRowsWriteParams_frameMark :
    let e := entryOf 0x0202 0 0x02000301 0 [] 0
    idle.Accepts (formParamWrite e) checkParamWrite e ∧ (idle.begun (formParamWrite e) e).wordsBad false e = none ∧
      (idle.begun (formParamWrite e) e).lockedWord 0x0200 3 = none ∧ e.names 0x0200 (· == 0x03) = true :=
  ⟨Dev.accepts_of_now (by decide +kernel), by decide +kernel⟩

theorem witness_RegisterRowsWriteParams_flip :
    let e := entryOf 0x0202 0 0x03005A01 7 [] 0
    idle.Accepts (formParamWrite e) checkParamWrite e ∧ (idle.begun (formParamWrite e) e).wordsBad false e = none ∧
      (idle.begun (formParamWrite e) e).lockedWord 0x0300 0x5A = none ∧ e.names 0x0300 (fun w => decide (w < 0x60) && w % 16 == 0x0A) = true :=
  ⟨Dev.accepts_of_now (by decide +kernel), by decide +kernel⟩

theorem witness_RegisterRowsWriteParams_forceStorm :
    let e := entryOf 0x0202 0 0x06000601 0 [] 0
    inHold.Accepts (formParamWrite e) checkParamWrite e ∧ (inHold.begun (formParamWrite e) e).wordsBad false e = none ∧
      (inHold.begun (formParamWrite e) e).lockedWord 0x0600 6 = none ∧ e.names 0x0600 (· == 0x06) = true :=
  ⟨Dev.accepts_of_now (by decide +kernel), by decide +kernel⟩

theorem witness_RegisterRowsWriteParams_autostart :
    let d := idle.putFlag Reg.WINDOW_OPEN true
    let e := entryOf 0x0202 0 0x0D001001 0 [] 0
    d.Accepts (formParamWrite e) checkParamWrite e ∧ (d.begun (formParamWrite e) e).wordsBad false e = none ∧
      (d.begun (formParamWrite e) e).lockedWord 0x0D00 0x10 = none ∧ e.names 0x0D00 (· == 0x10) = true :=
  ⟨Dev.accepts_of_now (by decide +kernel), by decide +kernel⟩

theorem witness_RegisterRowsWriteParams_shorts :
    let e := entryOf 0x0202 0 0x09008101 0xFFFFFFFF [] 0
    idle.Accepts (formParamWrite e) checkParamWrite e ∧ (idle.begun (formParamWrite e) e).wordsBad false e = none ∧
      (idle.begun (formParamWrite e) e).lockedWord 0x0900 0x81 = none ∧ e.names 0x0900 (fun w => w == 0x80 || w == 0x81) = true :=
  ⟨Dev.accepts_of_now (by decide +kernel), by decide +kernel⟩

/-- Window 63 of a unit in IDLE attached, 64 KB from 1000h. -/
def attached : Dev := idle.setWin 63 { idle.win 63 with attached := true, base := 0x1000, size := 0x10000 }

/-- A unit in HOLD with valve 1023 mapped, and one with a ramp profile of one segment and its synthesizer settled. -/
def valved : Dev := withTables inHold [(tableKey 0x0B 0 4092, 0x80000000)]
def settled : Dev :=
  withTables (((idle.putFlag Reg.LSYN_EN true).putFlag Reg.LSYN_SETTLED true))
    [(tableKey 0x0E 0 0, 1), (tableKey 0x0E 0 1, 1), (tableKey 0x0E 0 2, 1)]

theorem witness_PathCommandsAct_resetInRun :
    armed.Accepts formResetPipeline noCheck (plain 0x0105 0) ∧ (armed.begun formResetPipeline (plain 0x0105 0)).testing 0x20 = false ∧
      (armed.arr.running && armed.arr.begun) = true :=
  ⟨Dev.accepts_of_now (by decide +kernel), by decide +kernel⟩

theorem witness_PathCommandsAct_resetIdle :
    idle.Accepts formResetPipeline noCheck (plain 0x0105 0) ∧ (idle.begun formResetPipeline (plain 0x0105 0)).testing 0x20 = false ∧
      (idle.arr.running && idle.arr.begun) = false :=
  ⟨Dev.accepts_of_now (by decide +kernel), by decide +kernel⟩

theorem witness_PathCommandsAct_stormClear :
    inHold.Accepts formStormClear noCheck (plain 0x0502 0x0FFF0FFF) :=
  Dev.accepts_of_now (by decide +kernel)

theorem witness_PathCommandsAct_countersClear :
    let e := plain 0x0602 7
    idle.Accepts formCountersClear noCheck e ∧ e.inl 12 1 ≠ 0 :=
  ⟨Dev.accepts_of_now (by decide +kernel), by decide +kernel⟩

theorem witness_PathCommandsAct_valveTest :
    let e := plain 0x0701 (at' 14 1023 + at' 16 10)
    let d := valved.begun formValveTest e
    valved.Accepts formValveTest noCheck e ∧ 10 ≤ e.inl 16 2 ∧ e.inl 12 2 ≤ e.inl 14 2 ∧ valved.liveAllowed = true ∧
      (d.conf.valves.filter (fun v => e.inl 12 2 ≤ v.id && v.id ≤ e.inl 14 2)).map (·.id) = [1023] ∧ d.eject.wins = [] :=
  ⟨Dev.accepts_of_now (by decide +kernel), by decide +kernel⟩

theorem witness_PathCommandsAct_tap :
    let e := entryOf 0x0A03 3 0 (at' 12 0x14 + at' 13 1 + at' 14 63) [] 0
    attached.Accepts formTapArm checkTapArm e ∧ (e.inl 12 1).testBit 3 = false ∧
      ((attached.begun formTapArm e).win (e.inl 14 1)).attached = true ∧
      attached.pipe.taps.find? (fun t => t.channel == e.sel 1 0 && t.stop.isNone) = none :=
  ⟨Dev.accepts_of_now (by decide +kernel), by decide +kernel⟩

theorem witness_PathCommandsAct_attach :
    let e := entryOf 0x0A01 63 0 (at' 12 0x100000 + at' 20 (2 ^ 42) + at' 28 7) [] 0
    idle.Accepts formRingAttach checkRingAttach e ∧ (idle.win (e.sel 5 0)).attached = false ∧
      (idle.begun formRingAttach e).attachedWins.any (fun x => decide (x.base < e.inl 12 8 + e.inl 20 8) &&
          decide (e.inl 12 8 < x.base + x.size)) =
        false ∧ ((idle.begun formRingAttach e).attachedWins.map (·.size)).foldl (· + ·) (e.inl 20 8) ≤ 2 ^ 42 :=
  ⟨Dev.accepts_of_now (by decide +kernel), by decide +kernel⟩

theorem witness_PathCommandsAct_release :
    let e := entryOf 0x0A02 63 0 0 [] 0
    attached.Accepts formRingRelease noCheck e ∧ (attached.win (e.sel 5 0)).attached = true :=
  ⟨Dev.accepts_of_now (by decide +kernel), by decide +kernel⟩

theorem witness_PathCommandsAct_calibrate :
    let e := entryOf 0x0C02 1 0 (at' 13 64) [] 0
    idle.Accepts formCalibrate checkCalibrate e ∧ idle.st ≠ .armed ∧ idle.st ≠ .sorting ∧
      (bitsOf 12 (e.sel 11 0)).all (idle.begun formCalibrate e).expects = true :=
  ⟨Dev.accepts_of_now (by decide +kernel), by decide +kernel⟩

theorem witness_EngineCommandsAct_load :
    let e := dataEntry 0x0801 15 0 16 (at' 12 1) [0x3F, 0x70]
    idle.Accepts formEngineLoad checkEngineLoad e ∧ crc32c e.data = e.inl 16 4 ∧ (idle.eng (e.sel 3 0)).running = false ∧
      ∀ i ∈ (List.range (e.inl 12 1)).map (fun i => leAt e.data (2 * i) 2), instrIllegal i = false :=
  ⟨Dev.accepts_of_now (by decide +kernel), by decide +kernel⟩

theorem witness_EngineCommandsAct_start :
    let e := plain 0x0802 (at' 12 0xFFFF + at' 14 3)
    idle.Accepts formEngineStart noCheck e ∧ e.inl 12 2 ≠ 0 ∧ idle.ejectOn = true ∧
      ((idle.begun formEngineStart e).startEngines (e.inl 12 2) ((e.inl 14 1).testBit 0) ((e.inl 14 1).testBit 1)).isLeft = true :=
  ⟨Dev.accepts_of_now (by decide +kernel), by decide +kernel⟩

theorem witness_EngineCommandsAct_stop :
    idle.Accepts formEngineStop noCheck (plain 0x0803 0xFFFF) :=
  Dev.accepts_of_now (by decide +kernel)

theorem witness_EngineCommandsAct_timers :
    let e := plain 0x0805 (at' 12 0xFFFFFFFF)
    idle.Accepts formTimerConfig checkTimerConfig e ∧ e.inl 24 1 = 0 :=
  ⟨Dev.accepts_of_now (by decide +kernel), by decide +kernel⟩

theorem witness_EngineCommandsAct_timerArm :
    let e := plain 0x0805 (at' 12 1 + at' 24 1)
    idle.Accepts formTimerConfig checkTimerConfig e ∧ e.inl 24 1 = 1 :=
  ⟨Dev.accepts_of_now (by decide +kernel), by decide +kernel⟩

theorem witness_EngineCommandsAct_auxStart :
    let e := plain 0x0901 (at' 12 5 + at' 13 32)
    idle.Accepts formAuxSequence checkAuxSequence e ∧ idle.auxOn = true ∧ (e.inl 12 1).testBit 0 = true ∧
      ∀ i, i < auxSteps e → auxStepCheck ((idle.begun formAuxSequence e).flag Reg.AUX_LP)
        ((((List.range (auxSteps e)).map (fun j => (idle.begun formAuxSequence e).word (Reg.CHAN.key 0 + j)))[i]?).getD 0) = none :=
  ⟨Dev.accepts_of_now (by decide +kernel), by decide +kernel⟩

theorem witness_EngineCommandsAct_auxStop :
    let e := plain 0x0901 2
    idle.Accepts formAuxSequence checkAuxSequence e ∧ idle.auxOn = true ∧ (e.inl 12 1).testBit 0 = false ∧
      (e.inl 12 1).testBit 1 = true :=
  ⟨Dev.accepts_of_now (by decide +kernel), by decide +kernel⟩

theorem witness_ClockCommandsAct_config :
    let e := plain 0x0B01 (at' 12 5 + at' 16 2000000)
    let o := e.inl 12 1
    idle.Accepts formLsynConfig checkLsynConfig e ∧ idle.runOn = false ∧
      ((idle.begun formLsynConfig e).lsynCheck ⟨o.testBit 0, o.testBit 1, o.testBit 2, e.inl 16 4, e.inl 24 1 * 2 ^ 24 + e.inl 20 3,
          e.inl 26 2,
        e.inl 28 4⟩).toOption.isSome = true :=
  ⟨Dev.accepts_of_now (by decide +kernel), by decide +kernel⟩

theorem witness_ClockCommandsAct_ramp :
    let e := plain 0x0B02 1
    settled.Accepts formLsynRamp checkLsynRamp e ∧ settled.flag Reg.LSYN_EN = true ∧ settled.flag Reg.LSYN_SETTLED = true ∧
      (e.inl 12 1).testBit 0 = true ∧
      (settled.begun formLsynRamp e).rampProfile = some [(1, 1)] ∧
          (settled.begun formLsynRamp e).rampFault (settled.begun formLsynRamp e).nf 0 [(1, 1)] = none :=
  ⟨Dev.accepts_of_now (by decide +kernel), by decide +kernel⟩

theorem witness_ClockCommandsAct_rampStop :
    let e := plain 0x0B02 2
    settled.Accepts formLsynRamp checkLsynRamp e ∧ settled.flag Reg.LSYN_EN = true ∧ settled.flag Reg.LSYN_SETTLED = true ∧
      (e.inl 12 1).testBit 0 = false :=
  ⟨Dev.accepts_of_now (by decide +kernel), by decide +kernel⟩

theorem witness_ClockCommandsAct_phase :
    let e := plain 0x0B03 (at' 12 2097151)
    let left := (settled.begun formLsynPhaseStep e).pstepLeft + signed 32 (e.inl 12 4)
    settled.Accepts formLsynPhaseStep noCheck e ∧ settled.flag Reg.LSYN_EN = true ∧ settled.flag Reg.LSYN_SETTLED = true ∧
      left ≤ 2097151 ∧ -2097152 ≤ left ∧ signed 32 (e.inl 12 4) ≤ 2097151 ∧ -2097152 ≤ signed 32 (e.inl 12 4) :=
  ⟨Dev.accepts_of_now (by decide +kernel), by decide +kernel⟩

theorem witness_ClockCommandsAct_read :
    let e := plain 0x0B04 0
    idle.Accepts formTimebaseAlign noCheck e ∧ e.inl 12 1 % 4 = 0 :=
  ⟨Dev.accepts_of_now (by decide +kernel), by decide +kernel⟩

theorem witness_ClockCommandsAct_set :
    let e := plain 0x0B04 (1 + at' 16 (2 ^ 64 - 1))
    idle.Accepts formTimebaseAlign noCheck e ∧ e.inl 12 1 % 4 = 1 ∧ idle.runOn = false :=
  ⟨Dev.accepts_of_now (by decide +kernel), by decide +kernel⟩

theorem witness_ClockCommandsAct_add :
    let e := plain 0x0B04 (2 + at' 16 65536)
    armed.Accepts formTimebaseAlign noCheck e ∧ e.inl 12 1 % 4 = 2 ∧ armed.runOn = true ∧ (signed 64 (e.inl 16 8)).natAbs ≤ 65536 :=
  ⟨Dev.accepts_of_now (by decide +kernel), by decide +kernel⟩

/-- A unit in IDLE with a long operation of an opcode outstanding, its operands held, and the flash window open. -/
def longOp (opcode : Nat) (args : List Nat) : Dev :=
  (idle.putFlag Reg.WINDOW_OPEN true).setChan (fun c => { c with outst := [⟨0, 1, opcode, true⟩], longArgs := args })

/-- The shipped flash with the shipped images in the second slots too, and a recipe in slot 63. -/
def fullFlash : Flash :=
  { Flash.shipped with
    slots := ⟨#[shippedImage 0, shippedImage 0, shippedImage 1, shippedImage 1], rfl⟩
    factory := Vector.replicate 4 true
    recipes := [(63, image)] }

def Dev.withFlash (d : Dev) : Dev := d.setBaro (fun b => { b with flash := fullFlash })

/-- Group 5 up with head 11, whose mailbox holds one message. -/
def linked : Dev :=
  let d := (idle.putFlag Reg.GROUP_UP true 5).put Reg.HEADS_IN_LINK 0x800 5
  { d with lane := { d.lane with mail := [⟨11, 0xC0, 0, [1]⟩] } }

theorem witness_LongCommandsBegin_recipeLoad :
    let d := Dev.withFlash idle
    let e := entryOf 0x0106 63 0 0 [] 0
    let a := (d.begun formRecipeLoad e).abortAuto
    let ws := a.baro.flash.recipe (e.sel 5 0)
    d.Accepts formRecipeLoad noCheck e ∧ d.runOn = false ∧ ws ≠ [] ∧ imageGood ws = true ∧ rcp ws 1 % 65536 = a.get Reg.BFW_IFACE ∧
      sectionsOf (rcp ws 1 / 65536) (ws.drop 16) = some [] ∧ (a.withSections []).recipeFails (rcp ws 3 / 65536) [] = none :=
  ⟨Dev.accepts_of_now (by decide +kernel), by decide +kernel⟩

theorem witness_LongCommandsBegin_recipeSave :
    idle.Accepts formRecipeSave noCheck (entryOf 0x0107 63 0 (at' 31 0x41) [] 0) :=
  Dev.accepts_of_now (by decide +kernel)

theorem witness_LongCommandsBegin_bist :
    let e := entryOf 0x0C01 0x20 0 0 [] 0
    inHold.Accepts formSelftest checkSelftest e ∧
      (inHold.begun formSelftest e).testRefuses (e.sel 7 0) (e.sel 11 8) ((e.inl 12 1).testBit 0) = none ∧ e.sel 7 0 ≠ 2 :=
  ⟨Dev.accepts_of_now (by decide +kernel), by decide +kernel⟩

theorem witness_LongCommandsBegin_flashScrub :
    let e := entryOf 0x0C01 2 0 0 [] 0
    inHold.Accepts formSelftest checkSelftest e ∧
      (inHold.begun formSelftest e).testRefuses (e.sel 7 0) (e.sel 11 8) ((e.inl 12 1).testBit 0) = none ∧ e.sel 7 0 = 2 :=
  ⟨Dev.accepts_of_now (by decide +kernel), by decide +kernel⟩

theorem witness_LongCommandsBegin_inject :
    idle.Accepts formInject checkInject (plain 0x0C03 64) :=
  Dev.accepts_of_now (by decide +kernel)

theorem witness_LongCommandsBegin_resetUnit :
    idle.Accepts formResetUnit noCheck (plain 0x0104 0) :=
  Dev.accepts_of_now (by decide +kernel)

theorem witness_FirmwareCommandsAct_stage :
    let d := idle.putFlag Reg.WINDOW_OPEN true
    let e := dataEntry 0x0D01 1 0 20 (at' 16 1) [1, 2, 3, 4]
    d.Accepts formFwStage checkFwStage e ∧
      ((d.begun formFwStage e).longOp.all (fun o => o.opcode != 0x0D02 && o.opcode != 0x0D03)) = true ∧
      e.inl 12 4 = (if (e.inl 16 1).testBit 0 then 0 else (d.begun formFwStage e).get (stagedReg (e.sel 0 0))) ∧
      e.inl 12 4 + e.bufLen.toNat ≤ slotSize (e.sel 0 0) ∧ crc32c e.data = e.inl 20 4 ∧ d.windowOpen = true :=
  ⟨Dev.accepts_of_now (by decide +kernel), by decide +kernel⟩

theorem witness_FirmwareCommandsAct_verify :
    idle.Accepts formFwVerify noCheck (entryOf 0x0D02 1 0 0 [] 0) :=
  Dev.accepts_of_now (by decide +kernel)

theorem witness_FirmwareCommandsAct_activate :
    let d := (Dev.withFlash idle).putFlag Reg.WINDOW_OPEN true |>.putFlag Reg.BFW_VERIFIED true
    let e := plain 0x0D03 5
    let o := e.inl 12 1
    d.Accepts formFwActivate checkFwActivate e ∧ o.testBit 0 = true ∧ (d.begun formFwActivate e).flag Reg.BFW_VERIFIED = true ∧
      o.testBit 1 = false ∧ (d.begun formFwActivate e).wouldBoot o ≠ some 2 ∧ o.testBit 2 = true ∧ d.windowOpen = true :=
  ⟨Dev.accepts_of_now (by decide +kernel), by decide +kernel⟩

theorem witness_FirmwareCommandsAct_unlock :
    let d := (live .restricted).put Reg.PAIRING 1
    let e := plain 0x0D04 (3 + at' 24 (d.get Reg.STEPPING))
    let t := d.begun formUnlockUntested e
    d.Accepts formUnlockUntested checkUnlockUntested e ∧ t.get Reg.PAIRING = 1 ∧ e.inl 16 4 = t.get Reg.BFW_VERSION ∧
      e.inl 20 4 = t.get Reg.SQM_VERSION ∧ e.inl 24 1 = t.get Reg.STEPPING :=
  ⟨Dev.accepts_of_now (by decide +kernel), by decide +kernel⟩

theorem witness_LongOperationsEnd_verify :
    let d := Dev.withFlash (longOp 0x0D02 [1])
    d.baro.halted = false ∧ d.longIs 0x0D02 = true ∧ d.chan.longArgs = [1] ∧
      (d.baro.flash.image 1 (d.stageSlot 1)).fits 1 = true ∧ d.signed 1 (d.stageSlot 1) = true := by
  decide +kernel

theorem witness_LongOperationsEnd_activate :
    let d := longOp 0x0D03 [5]
    d.baro.halted = false ∧ d.longOp = some ⟨0, 1, 0x0D03, true⟩ ∧ d.chan.longArgs = [5] ∧ d.windowOpen = true ∧
      (5).testBit 3 = false := by
  decide +kernel

theorem witness_LongOperationsEnd_activateRefused :
    let d := (longOp 0x0D03 [5]).putFlag Reg.WINDOW_OPEN false
    d.baro.halted = false ∧ d.longIs 0x0D03 = true ∧ d.chan.longArgs = [5] ∧ d.windowOpen = false := by
  decide +kernel

theorem witness_LongOperationsEnd_recipeSave :
    let d := (longOp 0x0107 [63, 0, 0]).setChan (fun c => { c with longBytes := wordBytes (image.take 16), touched := false })
    d.baro.halted = false ∧ d.longIs 0x0107 = true ∧ d.chan.longArgs = [63, 0, 0] ∧ d.windowOpen = true ∧ d.chan.touched = false ∧
      d.conf.gen = 0 ∧ (d.writeRecipe 63 (withCheck (leWords d.chan.longBytes))).isSome = true := by
  decide +kernel

theorem witness_LongOperationsEnd_recipeAgain :
    let d := (longOp 0x0107 [63, 2, 0]).setChan (fun c => { c with touched := true })
    d.baro.halted = false ∧ d.longIs 0x0107 = true ∧ d.chan.longArgs = [63, 2, 0] ∧ 2 < 3 ∧ d.chan.touched = true := by
  decide +kernel

theorem witness_LongOperationsEnd_recipeLoad :
    let d := Dev.withFlash (longOp 0x0106 [63, 0])
    let ws := d.baro.flash.recipe 63
    let ss := (sectionsOf (rcp ws 1 / 65536) (ws.drop 16)).getD []
    d.baro.halted = false ∧ d.longIs 0x0106 = true ∧ d.chan.longArgs = [63, 0] ∧ ss = [] := by
  decide +kernel

theorem witness_LongOperationsEnd_commit :
    let t := (Dev.withFlash (longOp 0x0106 [63, 0])).tryCommit 0
    t.2.status = .ok ∧ (t.1.startEngines 0 true true).isLeft = true := by
  decide +kernel

theorem witness_LongOperationsEnd_selftest :
    let d := longOp 0x0C01 [1, 0]
    d.baro.halted = false ∧ d.longIs 0x0C01 = true ∧ d.chan.longArgs = [1, 0] := by
  decide +kernel

/-- A dark calibration of head 0 at 64 blocks, its own run begun at BUSCLK cycle 0. -/
def calibrating (blocks bus : Nat) : Dev × Calib :=
  let k : Calib := ⟨false, false, false, false, 64, 0, 0, [⟨0, 0, blocks, 0xF, []⟩], true, 0⟩
  ({ idle.setChan (fun c => { c with shadow := [(tableKey 1 0 0, 5)] }) with
    pipe := { idle.pipe with calib := some k }, clk := { idle.clk with bus := bus } }, k)

theorem witness_LongOperationsEnd_calTimeout :
    let d := (calibrating 63 20000001).1
    d.baro.halted = false ∧ d.pipe.calib = some (calibrating 63 20000001).2 ∧
      ((calibrating 63 20000001).2.heads.any (fun x => decide (x.blocks < 64 ∧
          max 0 (d.headS x.head).lastTb + 20000000 < d.clk.bus))) = true := by
  decide +kernel

theorem witness_LongOperationsEnd_calibrate :
    let d := (calibrating 64 0).1
    let k := (calibrating 64 0).2
    let m := k.heads.foldl (fun (acc : Dev × List (Nat × CalOut)) x =>
      let o := if k.flat then acc.1.flatOut k x else acc.1.darkOut x
      (o.1, acc.2 ++ [(x.head, o.2)])) (d, [])
    d.baro.halted = false ∧ d.pipe.calib = some k ∧ k.heads.all (fun x => decide (k.blocks ≤ x.blocks)) = true ∧
      k.flat = false ∧ k.heads.all (fun x => !x.bright) = true ∧ m.2.all (fun o => !m.1.defectsOver k o) = true := by
  decide +kernel

theorem witness_LaneCommandsAct_train :
    let e := entryOf 0x0401 5 0 0 [] 0
    idle.Accepts formLinkTrain checkGroup e ∧ (idle.begun formLinkTrain e).trainRefuses (e.sel 2 0) = none :=
  ⟨Dev.accepts_of_now (by decide +kernel), by decide +kernel⟩

theorem witness_LaneCommandsAct_prbs :
    let e := entryOf 0x0403 5 0 (at' 12 0x85 + at' 13 0xF) [] 0
    armed.Accepts formLanePrbs checkGroup e ∧ armed.st.imaging = true ∧ (e.inl 12 1).testBit 7 = true :=
  ⟨Dev.accepts_of_now (by decide +kernel), by decide +kernel⟩

theorem witness_LaneCommandsAct_send :
    let e := entryOf 0x0404 11 0 (at' 13 0x7F) [1, 2, 3, 4, 5, 6, 7, 8] 8
    linked.Accepts formHeadControl checkHeadControl e ∧ e.selector.getLsbD 15 = false ∧
      (linked.begun formHeadControl e).groupOf (e.sel 3 0) = some 5 ∧ e.inl 12 1 = 0 :=
  ⟨Dev.accepts_of_now (by decide +kernel), by decide +kernel⟩

theorem witness_LaneCommandsAct_take :
    let e := entryOf 0x0404 11 0 (at' 12 1) [] 8
    linked.Accepts formHeadControl checkHeadControl e ∧ e.selector.getLsbD 15 = false ∧
      (linked.begun formHeadControl e).groupOf (e.sel 3 0) = some 5 ∧ e.inl 12 1 ≠ 0 ∧
      (linked.begun formHeadControl e).lane.mail.filter (fun (x : MailMsg) => x.box == e.sel 3 0) = [⟨11, 0xC0, 0, [1]⟩] ∧
          8 ≤ e.bufLen.toNat :=
  ⟨Dev.accepts_of_now (by decide +kernel), by decide +kernel⟩

theorem witness_LaneCommandsAct_complete :
    let o : Outst := ⟨0, 1, 0x0401, true⟩
    let d := linked.setLaneGroup 5 { linked.laneGroup 5 with training := some (0, o), timeoutMs := 100, heads := [11] }
    (d.laneGroup 5).training = some (0, o) ∧ d.trained 5 = true := by
  decide +kernel

theorem witness_LaneCommandsAct_timeout :
    let o : Outst := ⟨0, 1, 0x0401, true⟩
    let d := idle.setLaneGroup 5 { idle.laneGroup 5 with training := some (0, o), timeoutMs := 100 }
    let t := { d with clk := { d.clk with bus := 20000000 } }
    (t.laneGroup 5).training = some (0, o) ∧ 0 + (t.laneGroup 5).timeoutMs * 200000 ≤ t.clk.bus := by
  decide +kernel

theorem witness_EntriesThatDoNotExecute_check :
    let e := { plain 0x0100 0 with crc := 0 }
    idle.nextSq = some e.sq.val ∧ e.crcGood 0x0100 = false := by
  decide +kernel

theorem witness_EntriesThatDoNotExecute_opcode :
    let e := plain 0xFFFF 0
    idle.nextSq = some e.sq.val ∧ e.crcGood 0xFFFF = true ∧ 0xFFFF ∉ opcodes ∧ e.tag.toNat ∉ (idle.fetched 0).tagsOut := by
  decide +kernel

theorem witness_EntriesThatDoNotExecute_buffer :
    let e := dataEntry 0x0205 11 0x03000000 12 0 [1, 2, 3, 4]
    idle.Accepts (formTableWrite e) checkTable e ∧ ((bufferForm 0x0205 e).map (·.1)) = some (formTableWrite e) ∧
      (formTableWrite e).buf = true ∧ e.bufLen ≠ 0 :=
  ⟨Dev.accepts_of_now (by decide +kernel), by decide +kernel⟩

theorem witness_EntriesThatDoNotExecute_fence :
    let e := fenceNop
    let d := idle.setChan (fun c => { c with outst := [⟨0, 2, 0x0401, true⟩] })
    d.nextSq = some e.sq.val ∧ (d.fetched e.sq).refuses formNop noCheck e = none ∧ e.fence = true ∧ d.busySq e.sq = true := by
  decide +kernel

theorem witness_EntriesThatDoNotExecute_timeout :
    idle.nextSq = some 0 := by
  decide +kernel

theorem witness_EntriesThatDoNotExecute_empty :
    cold.nextSq ≠ some (plain 0x0100 0).sq.val := by
  decide +kernel

/-- A unit that answers memory requests, with queues 1 and 63 in use, window 63 attached and the event ring on. -/
def hosted : Dev :=
  let d := { attached with
    host := { attached.host with funcReady := true, memSpace := true }
    ev := { attached.ev with ringEnable := true, ringReady := true, ringSize := 15, ringPhase := true } }
  let d := d.setSq 63 { Sq.zero with enable := true, ready := true, size := 15, cqid := 1 }
  let d := d.setCq 1 { Cq.zero with enable := true, ready := true, size := 15, phase := true }
  let d := d.setCq 2 { Cq.zero with enable := true, ready := true, size := 15, phase := true }
  d.setWin 63 { d.win 63 with wp := 2 ^ 33, rp := 64 }

theorem witness_RegisterRowsAct_memory :
    hosted.memoryOn = true ∧ hosted.power.resetAsk = none := by
  decide +kernel

theorem witness_RegisterRowsAct_tail :
    (hosted.sq 63).enable = true ∧ (15 : Word).toNat % 4096 ≤ (hosted.sq 63).size := by
  decide +kernel

theorem witness_RegisterRowsAct_tailBeyond :
    (hosted.sq 63).enable = true ∧ (hosted.sq 63).size < (16 : Word).toNat % 4096 := by
  decide +kernel

theorem witness_RegisterRowsAct_head :
    (hosted.cq 1).enable = true ∧ (15 : Word).toNat % 4096 ≤ (hosted.cq 1).size := by
  decide +kernel

theorem witness_RegisterRowsAct_sqEnable :
    (hosted.sq 62).enable = false ∧ (4095 : BitVec 12) ≠ 0 ∧ (hosted.cq 2).ready = true := by
  decide +kernel

theorem witness_RegisterRowsAct_sqDisable :
    (hosted.sq 63).enable = true ∧ (hosted.sq 63).size < 4096 ∧ (hosted.sq 63).cqid < 64 := by
  decide +kernel

theorem witness_RegisterRowsAct_cqEnable :
    (hosted.cq 63).enable = false ∧ (4095 : BitVec 12) ≠ 0 := by
  decide +kernel

theorem witness_RegisterRowsAct_cqDisable :
    (hosted.cq 2).enable = true ∧ hosted.cqInUse 2 = false ∧ (hosted.cq 2).size < 4096 ∧ (hosted.cq 2).vector < 64 := by
  decide +kernel

theorem witness_RegisterRowsAct_route :
    isSource 64 = true ∧ ((hosted.route 64).getLsbD 0 || !(1 : Word).getLsbD 0 || !hosted.ev.cause.getLsbD 64) = true := by
  decide +kernel

theorem witness_RegisterRowsAct_replay :
    let d := { hosted with ev := { hosted.ev with cause := 1 <<< 64 } }
    isSource 64 = true ∧ (d.route 64).getLsbD 0 = false ∧ (1 : Word).getLsbD 0 = true ∧ d.ev.cause.getLsbD 64 = true ∧
      d.memoryOn = true := by
  decide +kernel

theorem witness_RegisterRowsAct_ringOn :
    let d := { hosted with ev := { hosted.ev with ringEnable := false } }
    d.ev.ringEnable = false ∧ (1 : BitVec 12) ≠ 0 ∧ d.memoryOn = true := by
  decide +kernel

theorem witness_RegisterRowsAct_ring :
    hosted.ev.ringEnable = true ∧ (15 : Word).toNat % 4096 ≤ hosted.ev.ringSize := by
  decide +kernel

theorem witness_RegisterRowsAct_pointer :
    (hosted.win 63).attached = true ∧ (hosted.win 63).rpHeld = 0 ∧ (hosted.win 63).rp ≤ (64 : BitVec 64).toNat % 2 ^ 32 ∧
      (64 : BitVec 64).toNat % 2 ^ 32 ≤ (hosted.win 63).wp := by
  decide +kernel

theorem witness_RegisterRowsAct_pointer64 :
    hosted.power.resetAsk = none ∧ (hosted.win 63).attached = true ∧ (hosted.win 63).rp ≤ (0x200000000 : BitVec 64).toNat ∧
      (0x200000000 : BitVec 64).toNat ≤ (hosted.win 63).wp := by
  decide +kernel

/-- The same unit with timer 31 running from cycle 0, its PERIOD and compares as given. -/
def timed (period a b : Nat) : Dev :=
  hosted.setTmr 31 { Timer.zero with running := true, held := none, period := period, cmpA := a, cmpB := b }

/-- Engine 15 with a running program of one instruction at its first tick, at BUSCLK cycle `bus`. -/
def engined (instr bus : Nat) : Dev :=
  let d := hosted.setEng 15 { Eng.zero with running := true, drives := true, outs := 0xFF }
  let d := (d.put Reg.DIV 65536 15).put Reg.ROLE_W7 1 15
  { d with engine := { d.engine with prog := [(tableKey 0x10 15 0, BitVec.ofNat 32 instr)] }, clk := { d.clk with bus := bus } }

theorem witness_RegisterRowsAct_timerStop :
    let d := timed 1 0 0
    (d.tmr 31).running = true ∧ d.endDue d.clk.bus 31 = false ∧ d.matchDue d.clk.bus 31 false = false ∧
      d.matchDue d.clk.bus 31 true = false ∧ d.memoryOn = true := by
  decide +kernel

theorem witness_RegisterRowsAct_pull :
    hosted.valveEngine 15 = false ∧ (hosted.eng 15).pull.length < 8 := by
  decide +kernel

theorem witness_RegisterRowsAct_pullFull :
    let d := hosted.setEng 15 { Eng.zero with pull := List.replicate 8 1 }
    d.valveEngine 15 = false ∧ 8 ≤ (d.eng 15).pull.length ∧ d.memoryOn = true := by
  decide +kernel

theorem witness_RegisterRowsAct_push :
    let d := hosted.setEng 15 { Eng.zero with push := [1] }
    d.valveEngine 15 = false ∧ (d.eng 15).push = 1 :: [] ∧ d.memoryOn = true := by
  decide +kernel

theorem witness_RegisterRowsAct_pushEmpty :
    hosted.valveEngine 15 = false ∧ (hosted.eng 15).push = [] := by
  decide +kernel

theorem witness_RegisterRowsAct_capture :
    (hosted.tmr 31).capNext = none ∧ hosted.host.funcReady = true := by
  decide +kernel

theorem witness_AccessesAct_write32 :
    hosted.memoryOn = true ∧ (4 : Fin 17).val = 4 ∧ (0xFFFFC : BitVec 20).toNat % 4 = 0 ∧
      (0xFFFFC : BitVec 20).toNat + (4 : Fin 17).val ≤ barSize (0 : Fin 8) := by
  decide +kernel

theorem witness_AccessesAct_write64 :
    (0x1FF8 : BitVec 20).toNat % 8 = 0 ∧ (0x1FF8 : BitVec 20).toNat + (8 : Fin 17).val ≤ barSize (4 : Fin 8) := by
  decide +kernel

theorem witness_AccessesAct_misaligned :
    ¬ ((8 : Fin 17).val = 4 ∧ (0x1004 : BitVec 20).toNat % 4 = 0) ∧ ¬ ((8 : Fin 17).val = 8 ∧ (0x1004 : BitVec 20).toNat % 8 = 0) ∧
      (0x1004 : BitVec 20).toNat + (8 : Fin 17).val ≤ barSize (2 : Fin 8) := by
  decide +kernel

theorem witness_AccessesAct_readByte :
    (3 : BitVec 20).toNat % 4 + (1 : Fin 17).val ≤ 4 ∧ (3 : BitVec 20).toNat + (1 : Fin 17).val ≤ barSize (0 : Fin 8) := by
  decide +kernel

theorem witness_AccessesAct_readAcross :
    4 < (3 : BitVec 20).toNat % 4 + (2 : Fin 17).val ∧ ¬ ((2 : Fin 17).val = 8 ∧ (3 : BitVec 20).toNat % 8 = 0) ∧
      (3 : BitVec 20).toNat + (2 : Fin 17).val ≤ barSize (0 : Fin 8) := by
  decide +kernel

theorem witness_ConfigurationWritesAct :
    hosted.domainReady 17 = true ∧ hosted.host.funcReady = true ∧ (512 = 128 ∨ 512 = 256 ∨ (512 : Nat) = 512) ∧ 4096 ∈ [128, 256, 512,
        1024, 2048, 4096] ∧
      50 ≤ 64000000 ∧ 64000000 ≤ 64000000 := by
  decide +kernel

theorem witness_ConfigurationWritesAct_early :
    idle.domainReady 17 = true ∧ idle.host.funcReady = false ∧ ConfigField.memorySpace true ≠ .d0 := by
  decide +kernel

theorem witness_SuppliesAndResetsAct_cold :
    ({ cold with power := { cold.power with vstby := false } } : Dev).power.vstby = false := by
  decide +kernel

theorem witness_SuppliesAndResetsAct_vin :
    let d := { cold with power := { cold.power with vin := false } }
    d.power.vin = false ∧ d.power.vstby = true := by
  decide +kernel

theorem witness_SuppliesAndResetsAct_fail :
    idle.power.vin = true ∧ idle.power.vstby = true ∧ idle.baro.halted = false ∧ idle.power.resetLow = false ∧ 1000 ≤ 1000 ∧
      idle.outranked 3 = false := by
  decide +kernel

theorem witness_SuppliesAndResetsAct_release :
    ({ idle with power := { idle.power with resetLow := true } } : Dev).power.resetLow = true := by
  decide +kernel

theorem witness_LinkHappeningsAct :
    idle.domainOn 17 = true ∧ idle.domainReady 17 = true ∧ idle.host.d3hot = false ∧ idle.host.inReset = false ∧
      idle.host.funcReady = false ∧ idle.outranked 5 = false ∧ 16 ∈ [1, 4, 8, 16] ∧ (4 : Fin 5).val ≠ 0 := by
  decide +kernel

theorem witness_LinkHappeningsAct_reset :
    let d := { idle with host := { idle.host with inReset := true } }
    d.domainOn 17 = true ∧ d.domainReady 17 = true ∧ d.host.d3hot = false ∧ d.host.inReset = true := by
  decide +kernel

/-- A unit in BOOT whose PLL has settled, and one whose firmware runs too and whose domains are ready. -/
def booting : Dev := ({ cold with baro := { cold.baro with dogPending := false } }).putFlag Reg.SYSPLL_SETTLED true
def started : Dev := ({ live .boot with power := { cold.power with starting := true } }).setBaro (fun b => { b with booted := true })

theorem witness_StartUpGoesOn_boot :
    booting.power.starting = true ∧ booting.inPulse = false ∧ booting.flag Reg.SYSPLL_SETTLED = true ∧
      booting.baro.booted = false ∧ booting.baro.inRom = false ∧ booting.bootDog.bootBfw.isSome = true ∧
      booting.bootDog.bootSlot 1 (booting.bootDog.namedSlot 1) = some 0 := by
  decide +kernel

theorem witness_StartUpGoesOn_done :
    started.power.starting = true ∧ started.baro.booted = true ∧ started.get Reg.DOMAIN_READY = started.get Reg.DOMAIN_ON ∧
      started.therm.tripRec = none ∧ started.st = .boot := by
  decide +kernel

theorem witness_StartUpGoesOn_autostart :
    let d := ((idle.put Reg.AS_RESULT 1).put Reg.AS_STEP 3).putFlag Reg.LSYN_SETTLED true
    d.get Reg.AS_RESULT = 1 ∧ d.baro.halted = false ∧ d.autoBusy = false ∧ d.get Reg.AS_STEP = 3 ∧ d.flag Reg.LSYN_SETTLED = true := by
  decide +kernel

theorem witness_StartUpGoesOn_holdEnd :
    let d := { (idle.put Reg.AS_RESULT 1).put Reg.AS_STEP 5 with clk := { idle.clk with bus := 200000 * idle.get Reg.AUTOSTART_HOLD_MS } }
    d.get Reg.AS_RESULT = 1 ∧ d.baro.halted = false ∧ d.get Reg.AS_STEP = 5 ∧
      d.baro.autoSince + 200000 * d.get Reg.AUTOSTART_HOLD_MS ≤ d.clk.bus ∧ d.flag Reg.AUTOSTART_LIVE = false := by
  decide +kernel

theorem witness_StartUpGoesOn_holdEndLive :
    let d := { (armed.put Reg.AS_RESULT 1).put Reg.AS_STEP 5 with clk := { armed.clk with bus := 200000 * armed.get Reg.AUTOSTART_HOLD_MS } }
    let x := d.putFlag Reg.AUTOSTART_LIVE true
    x.get Reg.AS_RESULT = 1 ∧ x.baro.halted = false ∧ x.get Reg.AS_STEP = 5 ∧
      x.baro.autoSince + 200000 * x.get Reg.AUTOSTART_HOLD_MS ≤ x.clk.bus ∧ x.flag Reg.AUTOSTART_LIVE = true ∧
      ((x.autoNext 6).autoState .sorting).2 = none := by
  decide +kernel

theorem witness_StartUpGoesOn_holdEndFails :
    let d := { (idle.put Reg.AS_RESULT 1).put Reg.AS_STEP 5 with clk := { idle.clk with bus := 200000 * idle.get Reg.AUTOSTART_HOLD_MS } }
    let x := d.putFlag Reg.AUTOSTART_LIVE true
    x.get Reg.AS_RESULT = 1 ∧ x.baro.halted = false ∧ x.get Reg.AS_STEP = 5 ∧
      x.baro.autoSince + 200000 * x.get Reg.AUTOSTART_HOLD_MS ≤ x.clk.bus ∧ x.flag Reg.AUTOSTART_LIVE = true ∧
      ((x.autoNext 6).autoState .sorting).2.isSome = true := by
  decide +kernel

theorem witness_StartUpGoesOn_ready :
    let d := { idle.putBit Reg.DOMAIN_READY 24 false with clk := { idle.clk with bus := 4000000 } }
    2 < (24 : Fin 25).val ∧ d.domainOn 24 = true ∧ d.domainReady 24 = false ∧ d.aux.fgCal = false ∧
      d.power.onAt[24] + readyTime 24 ≤ d.clk.bus := by
  decide +kernel

theorem witness_StartUpGoesOn_readyColumns :
    let d := { idle.putBit Reg.DOMAIN_READY 5 false with clk := { idle.clk with bus := 400000 } }
    d.domainOn 5 = true ∧ d.domainReady 5 = false ∧ d.conv.fgMask.testBit 5 = false ∧ d.power.onAt[5] + readyTime 5 ≤ d.clk.bus := by
  decide +kernel

theorem witness_StartUpGoesOn_fault :
    (24 : Fin 25).val ≠ 0 ∧ idle.domainOn 24 = true ∧ (24 : Fin 25).val ∉ runDomains ∧ (24 : Fin 25).val ≠ 13 ∧
      idle.domainOn 3 = true ∧ (3 : Fin 25).val ∈ runDomains := by
  decide +kernel

theorem witness_ClockHappeningsAct_loss :
    let d := idle.putFlag Reg.SYSPLL_SETTLED true
    d.flag Reg.HOLDOVER = false ∧ d.flag Reg.SYSPLL_SETTLED = true := by
  decide +kernel

theorem witness_ClockHappeningsAct_return :
    (idle.putFlag Reg.HOLDOVER true).flag Reg.HOLDOVER = true := by
  decide +kernel

theorem witness_ClockHappeningsAct_pll :
    cold.flag Reg.SYSPLL_SETTLED = false ∧ cold.power.starting = true ∧ cold.power.vin = true ∧ cold.power.vstby = true ∧
      cold.therm.tripLatch = false ∧ cold.pllSettled.flag Reg.SYSPLL_SETTLED = true := by
  decide +kernel

theorem witness_ClockHappeningsAct_lsyn :
    let d := { idle.putFlag Reg.LSYN_EN true with clk := { idle.clk with bus := 51200 } }
    d.flag Reg.LSYN_EN = true ∧ d.domainOn 2 = true ∧ d.flag Reg.LSYN_SETTLED = false ∧ d.clk.settleFrom + 51200 ≤ d.clk.bus ∧
      d.arr.rerun = none := by
  decide +kernel

theorem witness_ClockHappeningsAct_edge :
    let d := running settled []
    d.flag Reg.LSYN_EN = true ∧ d.flag Reg.LSYN_SETTLED = true ∧ d.clk.ask = none ∧ d.clk.ramp = none ∧ d.clk.pstep = 0 ∧
      d.arr.running = true ∧ d.arr.stopping = false ∧ d.trigSrc = 0 := by
  decide +kernel

theorem witness_ClockHappeningsAct_syncin :
    idle.get Reg.TB_ROLE ≠ 1 := by
  decide +kernel

/-- A follower at timebase 2^20, its CABLE_COMP 0. -/
def follower : Dev := { ((idle.put Reg.TB_ROLE 1).put Reg.LOCK_TOL 1) with tb := 2 ^ 20 }

theorem witness_ClockHappeningsAct_follow :
    let log := max 16 follower.clk.syncLog
    let t : Int := (follower.tb * 16 + 1 : Nat) - signed 16 (follower.get Reg.CABLE_COMP)
    let grid : Int := (2 ^ (log + 4) : Nat)
    let e := t - (t + grid / 2) / grid * grid
    follower.get Reg.TB_ROLE = 1 ∧ follower.clk.acquired = false ∧ e = 1 ∧
      e.natAbs ≤ follower.get Reg.JUMP_LIMIT * 16 ∧ e.natAbs ≤ follower.get Reg.LOCK_TOL ∧ follower.clk.lockRun < 7 := by
  decide +kernel

theorem witness_ClockHappeningsAct_miss :
    let d := { idle.put Reg.TB_ROLE 1 with tb := 2 ^ 20 + 2 ^ 16 + 1 }
    let log := max 16 d.clk.syncLog
    let due := (d.tb - (2 ^ (log - 4) + 1)) / 2 ^ log * 2 ^ log
    d.get Reg.TB_ROLE = 1 ∧ d.clk.lastE < due ∧ d.clk.missRun < 3 := by
  decide +kernel

theorem witness_ClockHappeningsAct_syncout :
    let d := { idle.putFlag Reg.SYNCOUT_EN true with tb := 2 ^ 20 }
    let log := max 16 d.clk.syncLog
    d.clk.lastOut < d.tb / 2 ^ log * 2 ^ log ∧ d.get Reg.TB_ROLE = 0 ∧ d.flag Reg.SYNCOUT_EN = true := by
  decide +kernel

theorem witness_TestPortActs :
    idle.power.vstby = true ∧ idle.runOn = false ∧ armed.power.vstby = true ∧ armed.runOn = true ∧
      idle.baro.dbg.refusedUntil ≤ idle.clk.bus ∧ idle.flag Reg.DEBUG_OPEN = false ∧
      (idle.putFlag Reg.DEBUG_OPEN true).flag Reg.DEBUG_OPEN = true ∧ idle.responseGood (List.replicate 96 0) = false := by
  decide +kernel

/-- A response is good where its signature is: whether it is, is a free value (Config.signatureGood). -/
theorem witness_TestPortActs_response (d : Dev) (sig : List Byte) (h : sig.length = 96) (r : Nat) (bus : d.clk.bus = 0)
    (good : Config.signatureGood 3 (d.challengeBytes r) sig = true) :
    (d.setDebug ⟨some (r, 0), 0⟩).responseGood sig = true := by
  have hc : (d.setDebug ⟨some (r, 0), 0⟩).challengeBytes r = d.challengeBytes r := rfl
  show (decide (d.clk.bus ≤ 0 + 12000000000) && decide (sig.length = 96) &&
    Config.signatureGood 3 ((d.setDebug ⟨some (r, 0), 0⟩).challengeBytes r) sig) = true
  rw [hc, good, bus, h]
  rfl

/-- The auxiliary sequencer of a unit in IDLE at its first step. -/
def measuring (phase : AuxPhase) (left : Nat) : Dev :=
  idle.setAux (fun a => { a with running := true, steps := 1, phase := phase, left := left })

theorem witness_TimersAndAuxGoOn_matchA :
    let d := { timed 2 1 0 with clk := { (timed 2 1 0).clk with bus := 1 } }
    d.matchDue d.clk.bus 31 false = true := by
  decide +kernel

theorem witness_TimersAndAuxGoOn_matchB :
    let d := { timed 2 2 1 with clk := { (timed 2 2 1).clk with bus := 2 } }
    d.matchDue d.clk.bus 31 true = true ∧ (d.tmr 31).cmpB < (d.tmr 31).cmpA := by
  decide +kernel

theorem witness_TimersAndAuxGoOn_done :
    let d := { timed 2 0 0 with clk := { (timed 2 0 0).clk with bus := 2 } }
    d.endDue d.clk.bus 31 = true ∧ d.matchDue d.clk.bus 31 false = false ∧ d.matchDue d.clk.bus 31 true = false := by
  decide +kernel

theorem witness_TimersAndAuxGoOn_step :
    let d := measuring .waiting 0
    d.aux.running = true ∧ d.aux.phase = .waiting ∧ d.aux.fgCal = false ∧ d.auxOn = true ∧ d.get Reg.STEP_TRIG d.aux.step = 0 := by
  decide +kernel

theorem witness_TimersAndAuxGoOn_result :
    let d := measuring .converting 2
    d.aux.running = true ∧ d.aux.phase = .converting ∧ d.aux.due ≤ d.clk.bus ∧ 1 < d.aux.left ∧
      d.auxFlagsOf d.aux.step d.auxChan (auxClamp 0) false = [] ∧ d.aux.inject.filter (fun p => p.1 == d.auxChan) = [] := by
  decide +kernel

theorem witness_TimersAndAuxGoOn_openGood :
    let d := (measuring .openCheck 1).put Reg.OPEN_PCT 10
    d.aux.running = true ∧ d.aux.due ≤ d.clk.bus ∧ d.aux.phase = .openCheck ∧
      100 * (auxClamp 0 - d.auxLast d.auxChan).natAbs < d.get Reg.OPEN_PCT * 8388608 := by
  decide +kernel

theorem witness_TimersAndAuxGoOn_openBad :
    let d := (measuring .openCheck 1).put Reg.OPEN_PCT 10
    d.aux.running = true ∧ d.aux.due ≤ d.clk.bus ∧ d.aux.phase = .openCheck ∧
        d.get Reg.OPEN_PCT * 8388608 ≤ 100 * (auxClamp 8388608 - d.auxLast d.auxChan).natAbs := by
  decide +kernel

theorem witness_TimersAndAuxGoOn_foreground :
    (idle.setAux (fun a => { a with fgCal := true })).aux.fgCal = true ∧ 200 * (41943 : Int).natAbs ≤ 8388608 ∧
      (10000 : Int).natAbs ≤ 10000 ∧ 8388608 < 200 * (-41944 : Int).natAbs := by
  decide +kernel

theorem witness_TimersAndAuxGoOn_background :
    let d := idle.setAux (fun a => { a with calNow := true })
    d.auxOn = true ∧ d.aux.fgCal = false ∧ d.aux.running = false ∧ d.aux.calNow = true ∧ 200 * (41943 : Int).natAbs ≤ 8388608 ∧
      200 * (-41943 : Int).natAbs ≤ 8388608 := by
  decide +kernel

/-- A log entry of a kind, not yet committed. -/
def logged (kind : Nat) : LogEntry := ⟨0, 0, kind, 0, 0, 0, 0, 0, 0⟩

/-- A unit in IDLE with the flash window open and so many log entries held. -/
def holding (n : Nat) : Dev := (idle.putFlag Reg.WINDOW_OPEN true).setBaro (fun b => { b with logHeld := List.replicate n (logged 1) })

theorem witness_BarometerGoesOn_sample :
    let d := idle.setTherm (fun t => { t with sampled := true })
    d.power.vstby = true ∧ d.therm.sampled = true ∧ (-880 : Int) ≤ -880 ∧ (1919 : Int) < 1920 := by
  decide +kernel

theorem witness_BarometerGoesOn_warn :
    let d := (idle.setTherm (fun t => { t with warnDue := true })).setBaro (fun b => { b with booted := true })
    d.baro.halted = false ∧ d.baro.booted = true ∧ d.therm.warnDue = true ∧ d.therm.hotDue = false := by
  decide +kernel

theorem witness_BarometerGoesOn_commit :
    (holding 16).canCommit = true ∧ (holding 16).therm.tripRec = none ∧ 16 ≤ (holding 16).baro.logHeld.length := by
  decide +kernel

theorem witness_BarometerGoesOn_trip :
    let d := { ((holding 0).setTherm (fun t => { t with tripRec := some (logged 7) })) with st := .tripped }
    d.canCommit = true ∧ d.therm.tripRec = some (logged 7) ∧ d.st = .tripped := by
  decide +kernel

theorem witness_BarometerGoesOn_hot :
    let d := ((idle.putFlag Reg.HOT true).setTherm (fun t => { t with hotDue := true })).setBaro (fun b => { b with booted := true })
    d.paramsWf ∧ d.baro.halted = false ∧ d.baro.booted = true ∧ d.therm.warnDue = false ∧ d.therm.hotDue = true ∧
      d.flag Reg.HOT = true :=
  ⟨by unfold Dev.paramsWf; decide +kernel, by decide +kernel⟩

theorem witness_BarometerGoesOn_debugger :
    let d := idle.putFlag Reg.DEBUG_OPEN true
    d.baro.halted = false ∧ d.flag Reg.DEBUG_OPEN = true ∧ (idle.setBaro (fun b => { b with halted := true })).baro.halted = true := by
  decide +kernel

/-- A run of a trigger source: 0 PERIODIC, 1 ENC, 2 SYNC. -/
def triggered (src : Nat) : Dev := running (idle.put Reg.TRIG_SRC src) [lineOf 0xFFFFFFFF]

theorem witness_LinesAreTriggered_edge :
    ¬ (true = idle.arr.encA ∧ false = idle.arr.encB) ∧ ¬ (idle.arr.running = true ∧ idle.arr.stopping = false) := by
  decide +kernel

theorem witness_LinesAreTriggered_count :
    let d := (triggered 1).putFlag Reg.ENC_DIR true
    let pos := d.arr.encPos + quadStep (d.flag Reg.ENC_DIR) d.arr.encA d.arr.encB true false
    ¬ (true = d.arr.encA ∧ false = d.arr.encB) ∧ d.arr.running = true ∧ d.arr.stopping = false ∧ d.trigSrc = 1 ∧
      (d.arr.encBase + (max 1 (d.get Reg.ENC_DIV) : Nat) ≤ pos ∨
        d.arr.encBase + (max 1 (d.get Reg.ENC_DIV) : Nat) ≤ d.arr.encPos + quadStep (d.flag Reg.ENC_DIR) d.arr.encA d.arr.encB false true) := by
  decide +kernel

theorem witness_LinesAreTriggered_index :
    (idle.putFlag Reg.ENC_ZRST true).flag Reg.ENC_ZRST = true ∧ idle.flag Reg.ENC_ZRST = false := by
  decide +kernel

theorem witness_LinesAreTriggered_accepted :
    let d := { triggered 0 with arr := { (triggered 0).arr with due := true }, clk := { idle.clk with bus := 2000 } }
    d.half = false ∧ d.arr.running = true ∧ d.arr.stopping = false ∧ d.arr.begun = true ∧ d.trigSrc ≠ 2 ∧ d.arr.due = true ∧
        d.arr.held = none ∧ d.mayAccept = true := by
  decide +kernel

theorem witness_LinesAreTriggered_held :
    let d := { triggered 0 with arr := { (triggered 0).arr with due := true, lastAccept := some 0 }, clk := { idle.clk with bus := 1999 } }
    d.half = false ∧ d.arr.running = true ∧ d.arr.stopping = false ∧ d.arr.begun = true ∧ d.trigSrc ≠ 2 ∧ d.arr.due = true ∧
        d.arr.held = none ∧ d.mayAccept = false := by
  decide +kernel

theorem witness_LinesAreTriggered_overrun :
    let d := { triggered 0 with arr := { (triggered 0).arr with due := true, held := some 0 } }
    d.half = false ∧ d.arr.running = true ∧ d.arr.stopping = false ∧ d.arr.begun = true ∧ d.trigSrc ≠ 2 ∧ d.arr.due = true ∧
        d.arr.held ≠ none := by
  decide +kernel

theorem witness_LinesAreTriggered_sync :
    let d := { (triggered 2).put Reg.SYNC_PERIOD 4000 with tb := 4000, clk := { idle.clk with bus := 4000 } }
    d.half = false ∧ d.arr.running = true ∧ d.arr.stopping = false ∧ d.arr.begun = true ∧ d.trigSrc = 2 ∧
        d.syncTrigger d.arr.syncNext ≤ d.tb ∧ d.arr.held = none ∧
      d.mayAccept = true := by
  decide +kernel

theorem witness_LinesAreTriggered_release :
    let d := { triggered 0 with arr := { (triggered 0).arr with held := some 0 }, clk := { idle.clk with bus := 2000 } }
    d.half = false ∧ d.arr.running = true ∧ d.arr.held = some 0 ∧ d.mayAccept = true := by
  decide +kernel

theorem witness_LinesAreTriggered_frameIn :
    let d := { (triggered 0).put Reg.FRAME_SRC 1 with arr := { (triggered 0).arr with frameOff := 64 } }
    d.arr.frameIn ≠ true ∧ true ≠ d.flag Reg.FRAME_IN_EDGE ∧ d.get Reg.FRAME_SRC = 1 ∧ d.arr.running = true ∧ d.arr.begun = true ∧
      64 ≤ d.arr.frameOff := by
  decide +kernel

theorem witness_LinesAreTriggered_frameInBack :
    let d := { idle with arr := { idle.arr with frameIn := true } }
    d.arr.frameIn ≠ false ∧ false = d.flag Reg.FRAME_IN_EDGE := by
  decide +kernel

theorem witness_LinesAreTriggered_stall :
    let d := { (triggered 1).put Reg.LINE_TIMEOUT 1 with clk := { idle.clk with bus := 200000 } }
    d.arr.running = true ∧ d.arr.stopping = false ∧ d.arr.stalled = false ∧ d.trigSrc ≠ 0 ∧ d.get Reg.LINE_TIMEOUT ≠ 0 ∧
      d.arr.waitSince + d.get Reg.LINE_TIMEOUT * 200000 ≤ d.clk.bus := by
  decide +kernel

theorem witness_LinesAreTriggered_calibrated :
    let d := { idle with conv := { idle.conv with fgMask := 16 } }
    let gs := groupsOfMask d.conv.fgMask
    let a := gs.foldl (fun x g => Dev.groupCalibrated x [] g)
      { d with conv := { d.conv with bad := d.conv.bad.filter (fun g => !gs.contains g) } }
    d.conv.fgMask ≠ 0 ∧ a.conv.bad = [] := by
  decide +kernel

theorem witness_LinesAreTriggered_calibrationFails :
    let d := { idle with conv := { idle.conv with fgMask := 16 } }
    let gs := groupsOfMask d.conv.fgMask
    let bad : List SliceCal := [⟨gs.head?.getD 0, 0, 513, 0, 0⟩, ⟨gs.head?.getD 0, 64, 0, 0, 65⟩]
    let a := gs.foldl (fun x g => Dev.groupCalibrated x bad g)
      { d with conv := { d.conv with bad := d.conv.bad.filter (fun g => !gs.contains g) } }
    d.conv.fgMask ≠ 0 ∧ a.conv.bad = [gs.head?.getD 0] := by
  decide +kernel

/-- A run whose head 0 has delivered line FFFFFFFFh and whose line 0 is converted. -/
def converted : Dev :=
  let d := { running idle [lineOf 0, lineOf 0xFFFFFFFF] with clk := { idle.clk with bus := 3000 } }
  d.setHeadS 0 { d.headS 0 with last := some 0xFFFFFFFF }

/-- Lane 23 of a group that is up or down: locked, and aligned or not, its last marker of SEQ FFFEh. -/
def laned (up aligned : Bool) : Dev :=
  let d := (idle.putFlag Reg.GROUP_UP up 5).setRxLane 23
    { Lane.zero 23 with locked := true, aligned := aligned, seq := if aligned then some 0xFFFE else none }
  d.setLaneGroup 5 { d.laneGroup 5 with trained := true }

/-- The marker of lane 3, group 5 and SEQ FFFFh. -/
def marker : BitVec 64 := 0xC69A0305FFFF30C6

theorem witness_Head0Delivers :
    converted.ingestOn = true ∧ converted.nextHead0 = some (lineOf 0) := by
  decide +kernel

theorem witness_LanesAct_marker :
    let d := laned true true
    let x := d.rxLane 23
    readMarker (BitVec.toNat marker) = some (false, 3, 5, 0xFFFF) ∧ x.aligned = true ∧ x.seq = some ((0xFFFF + 65535) % 65536) ∧
      (d.laneGroup 5).recovering = none ∧ d.flag Reg.GROUP_UP 5 = true ∧ d.lanesOn (23 / 4) = true ∧ d.boardInverts 5 3 = false := by
  decide +kernel

theorem witness_LanesAct_markerDown :
    let d := laned false true
    (d.rxLane 23).aligned = true ∧ (d.rxLane 23).seq = some ((0xFFFF + 65535) % 65536) ∧ d.flag Reg.GROUP_UP 5 = false ∧
      (d.laneGroup 5).fault = false ∧ (d.laneGroup 5).recovering = none := by
  decide +kernel

theorem witness_LanesAct_first :
    let d := laned false false
    let x := d.rxLane 23
    x.aligned = false ∧ x.locked = true ∧ (d.laneGroup 5).pattern = 0 ∧ (d.laneGroup 5).trained = true ∧ x.good = 0 := by
  decide +kernel

theorem witness_LanesAct_second :
    let d := laned false false
    let d := d.setRxLane 23 { d.rxLane 23 with good := 1, seq := some 0xFFFE }
    let x := d.rxLane 23
    x.aligned = false ∧ x.locked = true ∧ (d.laneGroup 5).pattern = 0 ∧ (d.laneGroup 5).trained = true ∧ x.good ≠ 0 ∧
      x.seq = some ((0xFFFF + 65535) % 65536) := by
  decide +kernel

theorem witness_LanesAct_bad :
    let d := laned true true
    let e := d.setRxLane 23 { d.rxLane 23 with bad := 2 }
    (d.rxLane 23).aligned = true ∧ (d.laneGroup 5).recovering = none ∧ (d.rxLane 23).bad < 2 ∧ 2 ≤ (e.rxLane 23).bad ∧
      ((laned true false).rxLane 23).aligned = false := by
  decide +kernel

theorem witness_LanesAct_losses :
    let d := laned true true
    let e := d.setLaneGroup 5 { d.laneGroup 5 with parity := true }
    (d.rxLane 23).noSignal = false ∧ (d.rxLane 23).noLock = false ∧ (d.laneGroup 5).wanderPpm < 201 ∧ e.flag Reg.GROUP_UP 5 = true ∧
      (e.laneGroup 5).parity = true ∧ (e.rxLane 23).aligned = true := by
  decide +kernel

theorem witness_LanesAct_pattern :
    let d := idle.setLaneGroup 5 { idle.laneGroup 5 with pattern := 3, patternUse := 2, patternLanes := 15 }
    let y := d.laneGroup 5
    y.pattern ≠ 0 ∧ y.patternUse.testBit 1 = true ∧ y.patternLanes.testBit 3 = true := by
  decide +kernel

/-- A run in which group 5 is up with head 11 in link, its last line FFFFFFFEh, and that line's deadlines long past. -/
def receiving : Dev :=
  let d := (idle.putFlag Reg.GROUP_UP true 5).put Reg.HEADS_IN_LINK 0x800 5
  let d := { running d [lineOf 0, lineOf 0xFFFFFFFF, lineOf 0xFFFFFFFE] with tb := 10000000 }
  let d := (laneNumbers 5).foldl (fun d n =>
    d.setRxLane n { Lane.zero n with locked := true, aligned := true, logical := n % 4, gid := 5, seq := some 7 }) d
  d.setHeadS 11 { d.headS 11 with last := some 0xFFFFFFFE }

/-- R135 to R142: the line bits of four words on the lanes of group 5 after the markers of SEQ 7, and what the group receives. -/
def lineBits (ws : List Nat) : List (Vector (List Bool) 4) := [Vector.ofFn (fun i => laneLine i 5 7 [(ws[i.val]?).getD 0])]

def heard (ws : List Nat) : Dev × List Nat × List Nat := receiving.receiveWords 5 0 ((lineBits ws).map Vector.toList)

/-- What the scan of it finds, and the unit after it. -/
def foundIn (ws : List Nat) : List Found × Bool :=
  scan ((heard ws).2.1.length + 1) 0 ((heard ws).1.laneGroup 5).hunting (heard ws).2.1

def scanned (ws : List Nat) : Dev :=
  (heard ws).1.setLaneGroup 5 { (heard ws).1.laneGroup 5 with hunting := (foundIn ws).2 }

/-- LINE_SEGMENT packets of head 11 and line FFFFFFFFh, good and with a SEG_CRC that fails; a hello and a user message of it. -/
def segment : List Nat := [0x5CB20F00FFFFFFFF, 0x10000, 0x9895762E49EB0000, 0x123456789]
def badSegment : List Nat := [0x5CB20F00FFFFFFFF, 0x10000, 0x9895762F49EB0000, 0x123456789]
def hello : List Nat := [0xC3B0810000010000, 0, 0xD4FB5CB7C4080000, 0x80000F]
def message : List Nat := [0xC3B0C00000010007, 0, 0xEC623F6D300B0000, 0x63]

theorem witness_PacketsAct_segment :
    let u := scanned segment
    receiving.flag Reg.GROUP_UP 5 = true ∧ (foundIn segment).1 = [.packet 0 4] ∧ (heard segment).2.1.take 4 = segment ∧
      hfield segment 0 63 56 ≠ 0xC3 ∧ (u.laneGroup 5).peer = false ∧ (segHead segment).head = 11 ∧
      (u.groupHeads 5).contains 11 = true ∧ u.ingestOn = true ∧ bodyGood segment = true := by
  decide +kernel

theorem witness_PacketsAct_badSegment :
    let u := scanned badSegment
    (foundIn badSegment).1 = [.packet 0 4] ∧ (heard badSegment).2.1.take 4 = badSegment ∧ hfield badSegment 0 63 56 ≠ 0xC3 ∧
      (u.laneGroup 5).peer = false ∧ (u.groupHeads 5).contains (segHead badSegment).head = true ∧ u.ingestOn = true ∧
      bodyGood badSegment = false := by
  decide +kernel

theorem witness_PacketsAct_hello :
    (foundIn hello).1 = [.packet 0 4] ∧ (heard hello).2.1.take 4 = hello ∧ hfield hello 0 63 56 = 0xC3 ∧ bodyGood hello = true ∧
      hfield hello 0 47 40 = 0x81 ∧ ((scanned hello).laneGroup 5).peer = false := by
  decide +kernel

theorem witness_PacketsAct_message :
    let u := scanned message
    (foundIn message).1 = [.packet 0 4] ∧ (heard message).2.1.take 4 = message ∧ hfield message 0 63 56 = 0xC3 ∧
      bodyGood message = true ∧ 0xC0 ≤ hfield message 0 47 40 ∧ (u.laneGroup 5).peer = false ∧
      (u.groupHeads 5).contains (hfield message 0 55 52) = true := by
  decide +kernel

theorem witness_PacketsAct_missing :
    let d := receiving
    d.ingestOn = true ∧ d.expects 11 = true ∧ (d.headS 11).last = some 0xFFFFFFFE ∧
      ((d.deadline (lineAdd 0xFFFFFFFE 1)).any (fun t => decide (t < d.tb))) = true := by
  decide +kernel

/-- An evaluation of object 1 that waits or runs, for its verdict or a forecast. -/
def evalOf (verdict running : Bool) : Eval :=
  { seq := 1, face := 0, verdict := verdict, ready := 0, line := 0, gen := 0, words := List.replicate 64 0, running := running
    inj := false }

/-- A unit with one evaluation, and with object 1 open. -/
def evaluating (verdict running : Bool) : Dev := idle.setCls (fun c => { c with evals := [evalOf verdict running] })

theorem witness_ObjectsGoOn_face :
    converted.nextFaceLine 1 = some (lineOf 0xFFFFFFFF) ∧ converted.faceReady 1 (lineOf 0xFFFFFFFF) = true ∧
      (lineOf 0xFFFFFFFF).tracked = false := by
  decide +kernel

theorem witness_ObjectsGoOn_trackedFace :
    let l := { lineOf 0xFFFFFFFF with tracked := true }
    let d := running idle [l]
    d.nextFaceLine 1 = some l ∧ d.faceReady 1 l = true ∧ l.tracked = true := by
  decide +kernel

theorem witness_ObjectsGoOn_start :
    let d := evaluating true false
    d.cls.evals.find? (fun y => !y.running && y.verdict && !y.late d.cycle) = some (evalOf true false) := by
  decide +kernel

theorem witness_ObjectsGoOn_overload :
    let d := { evaluating true false with clk := { idle.clk with bus := 2000 } }
    d.cls.evals.find? (fun y => y.verdict && !y.running && y.late d.cycle) = some (evalOf true false) := by
  decide +kernel

theorem witness_ObjectsGoOn_verdict :
    (evaluating true true).cls.evals.find? (fun y => y.running && y.verdict) = some (evalOf true true) := by
  decide +kernel

theorem witness_ObjectsGoOn_frame :
    let k := idle.frameNow
    let a := idle.compose k
    let vs := (List.range 16).filter a.valveEngine
    let l := a.linkChecks k vs
    idle.half = false ∧ idle.ejectOn = true ∧ idle.eject.frame ≠ some idle.frameNow ∧ vs = [] ∧ l.2 = [] ∧
      vs.filter (fun e => (l.1.eng e).late) = [] := by
  decide +kernel

theorem witness_ObjectsGoOn_retraction :
    let r : Retraction := ⟨0, []⟩
    let d := (idle.setCls (fun c => { c with retractions := [r] })).setEject (fun e => { e with frame := some 1 })
    d.cls.retractions.find? (fun y => d.latched y.frame) = some r := by
  decide +kernel

theorem witness_ArchiveGoesOn_publish :
    let p : Placed := ⟨0, 64, List.replicate 64 0, false⟩
    let d := attached.setWin 63 { attached.win 63 with placed := [p] }
    d.winOpen 63 = true ∧ nextPlaced (d.win 63).placed = some ([p], []) := by
  decide +kernel

theorem witness_ArchiveGoesOn_snapshot :
    let r : SnapReq := ⟨0, 0, 0, 0, 0⟩
    let d := { idle with arch := { idle.arch with snaps := [r] } }
    d.arch.snaps = [r] ∧ d.flag Reg.SNAP_EN = false ∧ (d.putFlag Reg.SNAP_EN true).flag Reg.SNAP_EN = true := by
  decide +kernel

/-- A held record of FRONT that is due, its chip wanted: of line 0 in the ring or of none; and the unit that stages it in window 63
of a size, with so many tokens. -/
def heldRec : HeldRec := ⟨1, idle.arr.runNum, 0, List.replicate 64 0, 0, List.replicate 128 0, some 0, true, false⟩

def staging (ring : List RingLine) (size : Nat) (tokens : Int) : Dev :=
  let d := ((attached.putFlag Reg.CHIP_EN true).put Reg.CHIP_WINDOW 63).setWin 63 { attached.win 63 with size := size }
  let d := { d with host := { d.host with tokens := Vector.replicate 5 tokens } }
  let d := { d with track := { d.track with faces := d.track.faces.set 0 { d.track.faces[0] with ring := ring } } }
  d.setCls (fun c => { c with held := [heldRec] })

/-- The lines that its chip takes, as the ring holds them. -/
def ringed : List RingLine := ((idle.chipLines heldRec).map (fun n => ⟨n, 0, 1000, [], [], false⟩)).reverse

/-- Its chip, and what is left once the object record that tells of it is out. -/
def chipOf (d : Dev) : Dev × Option (List Byte) := ((d.heldDigest heldRec).1.dropHeld heldRec).chip heldRec 0

def streamed (d : Dev) : Bool :=
  (((chipOf d).1.objRecord (heldRec.bytes 0 1)).stream .chip 63 ((chipOf d).2.getD [])).2

theorem witness_ArchiveGoesOn_noChip :
    let d := staging [] 0x10000 65536
    d.cls.held.find? (fun y => y.chip && d.chipDue y) = some heldRec ∧ (d.heldDigest heldRec).2 = some 0 ∧ (chipOf d).2 = none := by
  decide +kernel

theorem witness_ArchiveGoesOn_chip :
    let d := staging ringed 0x10000 65536
    let a := chipOf d
    d.cls.held.find? (fun y => y.chip && d.chipDue y) = some heldRec ∧ (d.heldDigest heldRec).2 = some 0 ∧ a.2.isSome = true ∧
      a.1.flag Reg.CHIP_EN = true ∧ a.1.get Reg.CHIP_WINDOW = 63 ∧ a.1.winOpen 63 = true ∧ a.1.therm.noChips = false ∧
      a.1.affords .chip (a.2.getD []).length = true ∧ streamed d = true := by
  decide +kernel

theorem witness_ArchiveGoesOn_chipRefused :
    let d := staging ringed 0x10000 0
    let e := staging ringed 64 65536
    (chipOf d).1.affords .chip ((chipOf d).2.getD []).length = false ∧
      (chipOf e).1.affords .chip ((chipOf e).2.getD []).length = true ∧ streamed e = false := by
  decide +kernel

theorem witness_ArchiveGoesOn_scrub :
    idle.domainReady 15 = true ∧ idle.domainReady 16 = true ∧ idle.therm.scrubPaused = false := by
  decide +kernel

/-- The same engine with a part of its state replaced. -/
def engineWith (instr bus : Nat) (g : Eng → Eng) : Dev := (engined instr bus).setEng 15 (g ((engined instr bus).eng 15))

/-- The instruction at which engine 15 stands. -/
def standsAt (d : Dev) : Nat := d.instr 15 (d.eng 15).pc

/-- Object 1 open on FRONT, with a forecast. -/
def opened : Dev :=
  let f : Forecast := ⟨1, 0, 0, 0, 0, 0, 0, false, false, false, false, false⟩
  let d := evaluating false true
  { d with track := { d.track with objs := [⟨1, 0, 0, 0, 0, 1, Acc64.zero, none, none, some f, [], false⟩] } }

theorem witness_ObjectsGoOn_provisional :
    let x := evalOf false true
    let d := evaluating false true
    let o := fun (f : Option Forecast) => (⟨1, 0, 0, 0, 0, 1, Acc64.zero, none, none, f, [], false⟩ : Obj)
    let n := withTables { opened with track := { opened.track with objs := [o none] } } [(tableKey 0x0A 0 0, 0x100)]
    let rule := (n.confOf x.gen).rule (judge ((n.confOf x.gen).evaluate x.words).1).1
    (d.cls.evals.find? (fun y => y.running && !y.verdict) = some x ∧ d.obj? x.seq = none) ∧
      ((opened.obj? x.seq).any (fun o => decide (o.forecast ≠ none))) = true ∧
      n.cls.evals.find? (fun y => y.running && !y.verdict) = some x ∧ n.obj? x.seq = some (o none) ∧ rule.testBit 8 = true ∧
        rule / 2 ^ 16 % 256 = 0 := by
  decide +kernel

theorem witness_EngineInstructionsAct_clock :
    let d := engined 0x0001 7
    let x := d.eng 15
    d.role 15 7 = 1 ∧ x.outs.getLsbD 7 = true ∧ d.windowLevel 15 7 = false ∧
      (engined 0x0001 8).windowLevel 15 7 = true := by
  decide +kernel

theorem witness_EngineInstructionsAct_atStart :
    let d := engined 0x0001 15
    let x := d.eng 15
    d.ejectOn = true ∧ x.running = true ∧ x.pos / 4096 ≤ d.clk.bus ∧ d.tickOver x = false ∧ instrOp (standsAt d) = 0 ∧
      instrOp (standsAt (engined 0x4011 15)) = 4 := by
  decide +kernel

theorem witness_EngineInstructionsAct_out :
    let d := engined 0x0001 16
    let e := engined 0x0002 16
    d.ejectOn = true ∧ d.tickOver (d.eng 15) = true ∧ instrOp (standsAt d) = 0 ∧
      bitsCount (standsAt d) ≤ (d.eng 15).bitCount + d.outWidth 15 ∧
      e.tickOver (e.eng 15) = true ∧ (e.eng 15).bitCount + e.outWidth 15 < bitsCount (standsAt e) := by
  decide +kernel

theorem witness_EngineInstructionsAct_in :
    let d := engined 0x1001 16
    let e := engined 0x1000 16
    d.tickOver (d.eng 15) = true ∧ instrOp (standsAt d) = 1 ∧ bitsCount (standsAt d) ≤ (d.eng 15).bitCount + d.inWidth 15 ∧
      instrOp (standsAt e) = 1 ∧ (e.eng 15).bitCount + e.inWidth 15 < bitsCount (standsAt e) := by
  decide +kernel

theorem witness_EngineInstructionsAct_pull :
    let d := engineWith 0x2000 16 (fun x => { x with pull := [1] })
    let e := engined 0x2000 16
    d.tickOver (d.eng 15) = true ∧ instrOp (standsAt d) = 2 ∧ (d.eng 15).pull = 1 :: [] ∧
      e.tickOver (e.eng 15) = true ∧ instrOp (standsAt e) = 2 ∧ (e.eng 15).pull = [] := by
  decide +kernel

theorem witness_EngineInstructionsAct_push :
    let d := engineWith 0x3000 16 (fun x => { x with push := List.replicate 7 0 })
    let e := engineWith 0x3000 16 (fun x => { x with push := List.replicate 8 0 })
    d.tickOver (d.eng 15) = true ∧ instrOp (standsAt d) = 3 ∧ (d.eng 15).push.length < 8 ∧
      e.tickOver (e.eng 15) = true ∧ instrOp (standsAt e) = 3 ∧ 8 ≤ (e.eng 15).push.length := by
  decide +kernel

theorem witness_EngineInstructionsAct_set :
    let d := engined 0x4011 16
    d.tickOver (d.eng 15) = true ∧ instrOp (standsAt d) = 4 := by
  decide +kernel

theorem witness_EngineInstructionsAct_jump :
    let d := engined 0x703F 16
    let e := engined 0x707F 16
    d.tickOver (d.eng 15) = true ∧ instrOp (standsAt d) = 7 ∧ standsAt d / 64 % 8 = 0 ∧
      e.tickOver (e.eng 15) = true ∧ instrOp (standsAt e) = 7 ∧ standsAt e / 64 % 8 = 1 ∧ (e.eng 15).flag = false := by
  decide +kernel

theorem witness_EngineInstructionsAct_delay :
    let d := engineWith 0x8001 16 (fun x => { x with delay := 1 })
    let e := engineWith 0x83FF 16 (fun x => { x with delay := 1024 })
    let k := fun (u : Dev) => min (u.eng 15).delay (if (u.eng 15).div = u.get Reg.DIV 15 then u.ticksOver (u.eng 15) else 1)
    d.tickOver (d.eng 15) = true ∧ instrOp (standsAt d) = 8 ∧ (d.eng 15).delay ≤ k d ∧
      e.tickOver (e.eng 15) = true ∧ instrOp (standsAt e) = 8 ∧ k e < (e.eng 15).delay := by
  decide +kernel

theorem witness_EnginesMeet_compare :
    let d := engined 0x6000 16
    d.ejectOn = true ∧ d.tickOver (d.eng 15) = true ∧ instrOp (standsAt d) = 6 ∧ standsAt d % 4 = 0 ∧
      standsAt (engined 0x6001 16) % 4 = 1 := by
  decide +kernel

theorem witness_EnginesMeet_compareBit :
    let hit := fun (d : Dev) => if (standsAt d).testBit 2
      then (d.get Reg.CMPVAL 15).testBit (16 * (standsAt d / 8 % 2) + (d.eng 15).reg.toNat % 16)
      else ((d.eng 15).reg.toNat ^^^ d.get Reg.CMPVAL 15) &&& d.get Reg.CMP_MASK 15 == 0
    let zero := (engined 0x6006 16).put Reg.CMPVAL 0 15
    let one := (engined 0x6006 16).put Reg.CMPVAL 1 15
    standsAt zero % 4 = 2 ∧ hit zero = false ∧ hit one = true ∧ instrOp (standsAt one) = 6 ∧
      standsAt (engined 0x6007 16) % 4 = 3 := by
  decide +kernel

theorem witness_EnginesMeet_event :
    let d := engined 0x9000 16
    d.tickOver (d.eng 15) = true ∧ instrOp (standsAt d) = 9 := by
  decide +kernel

theorem witness_EnginesMeet_wait :
    let d := engineWith 0x5200 16 (fun x => { x with wait := some ⟨none, false⟩ })
    d.ejectOn = true ∧ (d.eng 15).running = true ∧ (d.eng 15).wait = some ⟨none, false⟩ := by
  decide +kernel

theorem witness_EnginesMeet_sync :
    let d := (engineWith 0xA000 16 (fun x => { x with sync := true })).put Reg.SYNC_GROUP 3 15
    (d.eng 15).running = true ∧ (d.eng 15).sync = true ∧ d.get Reg.SYNC_SRC 15 = 0 ∧ d.get Reg.SYNC_GROUP 15 = 3 ∧
      d.half = false ∧ (List.range 16).all (fun e => !((d.eng e).running && d.get Reg.SYNC_GROUP e == 3) || (d.eng e).sync) = true := by
  decide +kernel

theorem witness_EnginesMeet_short :
    let d := engined 0x703F 16
    d.pinLevel (d.enginePin 15 7) ≠ none ∧ d.driver (d.enginePin 15 7) = some 15 ∧ d.valveEngine 15 = false := by
  decide +kernel

/-! Statements about every step, and frames. A command answers a next state in every unit, so a frame's premise is met. -/

theorem exec_next (c : Instr) (s : State) : ∃ t, exec c s = .next t := by
  cases c <;> exact ⟨_, rfl⟩

theorem step_next (s : State) : ∃ t, step s = .next t := by
  obtain ⟨pending, d⟩ := s
  cases pending with
  | nil => exact ⟨_, rfl⟩
  | cons c rest => exact exec_next c ⟨rest, d⟩

theorem witness_StepRunsTheFrontCommand :
    (⟨[.idcode, .frameIn true], idle⟩ : State).pending = .idcode :: [.frameIn true] := by
  decide +kernel

theorem witness_IdleStepsAreCycles :
    let d := idle.putFlag Reg.SYSPLL_SETTLED true
    let off := { idle with power := { idle.power with vstby := false } }
    ((st idle).pending = [] ∧ off.power.vstby = false ∧ idle.power.vstby = true) ∧ idle.power.pulse = none ∧
      idle.arr.stopping = false ∧ idle.arr.pendingRun = none ∧ idle.track.storms = [] ∧
      idle.chan.sqs.toList.all (fun q => q.fenced.isNone) = true ∧
      idle.half = false ∧ ({ d with half := true } : Dev).half = true ∧ d.flag Reg.SYSPLL_SETTLED = true ∧
      idle.flag Reg.SYSPLL_SETTLED = false ∧ d.clk.slew = 0 ∧ d.clk.frac = 0 ∧ d.get Reg.TB_RATE_PPB = 0 := by
  decide +kernel

theorem witness_QueueStaysWellFormed :
    (⟨[.recordPublish ⟨63, []⟩, .backgroundScrub 100 none], idle⟩ : State).queueWf ∧
      ∃ t, step ⟨[.recordPublish ⟨63, []⟩, .backgroundScrub 100 none], idle⟩ = .next t :=
  ⟨by unfold State.queueWf; decide +kernel, step_next _⟩

/-- The parameter words of the unit in IDLE stand in their one form, and some differ from their reset values. -/
theorem idle_paramsWf : idle.paramsWf := by unfold Dev.paramsWf; decide +kernel

theorem witness_ParamsStayCanonical : (st idle).paramsWf ∧ idle.params ≠ [] ∧ ∃ t, step (st idle) = .next t :=
  ⟨idle_paramsWf, by decide +kernel, step_next _⟩

theorem witness_WordsReadAsWritten : idle.paramsWf ∧ Reg.DOMAIN_ON.key 0 ≠ Reg.DOMAIN_READY.key 0 := ⟨idle_paramsWf, by decide⟩

theorem witness_WritesFollowTheAccessCodes : idle.paramsWf ∧ isStaged 0x0200 3 = false ∧ isStaged 0x0200 2 = true :=
  ⟨idle_paramsWf, by decide +kernel, by decide +kernel⟩

theorem witness_EventsOnlyReport : idle.paramsWf ∧ (64 < 1024) ∧ (({ idle.ev with cause := 1 } : EventS).cause.getLsbD 0 = true) :=
  ⟨idle_paramsWf, by decide, by decide +kernel⟩

theorem witness_CompletionsAreWritten :
    idle.paramsWf ∧ (idle.cq 1).ready = false ∧ (idle.cq 0).ready = true ∧ (idle.cq 0).waiting = [] ∧ (idle.cq 0).full = false ∧
      ({ idle.cq 0 with tail := 15, head := 0 } : Cq).full = true :=
  ⟨idle_paramsWf, by decide +kernel⟩

theorem witness_QueriesKeepTheUnit :
    (st idle).paramsWf ∧ ((plain 0x0501 0).inl 12 1).testBit 0 = false ∧ ∃ t, exec (.trackerStatus (plain 0x0501 0)) (st idle) = .next t :=
  ⟨idle_paramsWf, by decide +kernel, exec_next _ _⟩

theorem witness_StagingKeepsTheUnit :
    (st idle).paramsWf ∧ ∃ t, exec (.paramStage (entryOf 0x0203 0 0x02000201 (at' 12 65536) [] 0)) (st idle) = .next t :=
  ⟨idle_paramsWf, exec_next _ _⟩

theorem witness_RegisterRowsKeepTheUnit :
    ((st idle).paramsWf ∧ idle.memoryOn = false ∧ idle.power.resetAsk = none) ∧
      ((st hosted).paramsWf ∧ hosted.memoryOn = true ∧ hosted.power.resetAsk = none) ∧
      (∀ c, ∃ t, exec c (st idle) = .next t) ∧ ∀ c, ∃ t, exec c (st hosted) = .next t :=
  ⟨⟨idle_paramsWf, by decide +kernel⟩, ⟨by unfold State.paramsWf Dev.paramsWf; decide +kernel, by decide +kernel⟩,
    fun c => exec_next c _, fun c => exec_next c _⟩

theorem witness_ConfigurationWritesKeepTheUnit (f : ConfigField) : ∃ t, exec (.configurationWrite f) (st hosted) = .next t :=
  exec_next _ _

theorem witness_EngineInstructionsKeepTheUnit :
    (st idle).paramsWf ∧ Reg.DIV.key 15 ≠ Reg.LOOPS.key 15 ∧ ∀ v, ∃ t, exec (.engOut 15 v) (st idle) = .next t :=
  ⟨idle_paramsWf, by decide, fun _ => exec_next _ _⟩

theorem witness_TestPortKeepsTheUnit (cells : List Bool) : ∃ t, exec (.extest cells) (st idle) = .next t := exec_next _ _

theorem witness_PublicationKeepsTheUnit : ∃ t, exec (.recordPublish ⟨63, []⟩) (st attached) = .next t := exec_next _ _

theorem witness_LineNumbersAreOrdered : 0xFFFFFFFF < 2 ^ 32 ∧ 0 < 2 ^ 32 ∧ lineAfter 0 0xFFFFFFFF = true ∧ lineAfter 0x80000000 0 = false :=
  by decide +kernel

theorem witness_BudgetFollowsTheLink :
    (st idle).paramsWf ∧ idle.domainOn 17 = true ∧ 16 ∈ [1, 4, 8, 16] ∧ (4 : Fin 5).val ≠ 0 ∧
      ((4 : Fin 5).val, 1000) ∈ [(4, 1000), (3, 500), (2, 254), (1, 127)] ∧ ∃ t, exec (.linkRetrain 16 4) (st idle) = .next t :=
  ⟨idle_paramsWf, by decide +kernel, by decide, by decide, by decide, exec_next _ _⟩

theorem witness_StopHaltsTheTimer :
    let d := timed 1 0 0
    d.memoryOn = true ∧ d.power.resetAsk = none ∧ (d.tmr 31).running = true ∧ d.endDue d.clk.bus 31 = false ∧
        d.matchDue d.clk.bus 31 false = false ∧
      d.matchDue d.clk.bus 31 true = false ∧ (d.tmr 0).running = false := by
  decide +kernel

theorem witness_DoorbellsFollowTheirQueues :
    hosted.memoryOn = true ∧ hosted.power.resetAsk = none ∧ (hosted.cq 3).enable = false ∧ (hosted.cq 1).enable = true ∧
      (hosted.cq 1).size < (16 : Word).toNat % 4096 ∧ (15 : Word).toNat % 4096 ≤ (hosted.cq 1).size ∧
          (hosted.sq 63).head = (hosted.sq 63).tail := by
  decide +kernel

theorem witness_FenceHoldsItsQueue :
    let e := fenceNop
    let x : Fenced := ⟨0x0100, e, false⟩
    let d := idle.setChan (fun c => { c with outst := [⟨0, 2, 0x0401, true⟩] })
    let f := idle.setSq 0 { idle.sq 0 with fenced := some x }
    (d.nextSq = some e.sq.val ∧ e.fence = true ∧ d.busySq e.sq = true ∧ (d.fetched e.sq).refuses formNop noCheck e = none) ∧
      (f.sq 0).fenced.isSome = true ∧ f.busySq 0 = false ∧ 0 % 64 ≠ 63 % 64 ∧ d.canFetch 0 = true ∧
      x.timesOut = false ∧ f.refusesNow (anyOp x.entry x.code).1 = none := by
  decide +kernel

theorem witness_StallsAreReported :
    let d := { (triggered 1).put Reg.LINE_TIMEOUT 1 with clk := { idle.clk with bus := 200000 } }
    d.paramsWf ∧ d.arr.running = true ∧ d.arr.stalled = false ∧ d.trigSrc ≠ 0 ∧ d.get Reg.LINE_TIMEOUT ≠ 0 ∧
      d.arr.waitSince + d.get Reg.LINE_TIMEOUT * 200000 ≤ d.clk.bus ∧ d.arr.stopping = false ∧ (triggered 1).get Reg.LINE_TIMEOUT = 0 :=
  ⟨by unfold Dev.paramsWf; decide +kernel, by decide +kernel⟩

theorem witness_EngineStopKeepsState :
    let d := engined 0x703F 0
    let e := plain 0x0803 (at' 12 0x8000 + at' 14 1)
    d.paramsWf ∧ d.Accepts formEngineStop noCheck e ∧ (e.inl 14 1).testBit 0 = true ∧ (e.inl 12 2).testBit 15 = true ∧
      (d.eng 15).running = true ∧ (e.inl 12 2).testBit 14 = false :=
  ⟨by unfold Dev.paramsWf; decide +kernel, Dev.accepts_of_now (by decide +kernel), by decide +kernel⟩

theorem witness_ProgramsLoadIntoStoppedEngines_running :
    let e := dataEntry 0x0801 15 0 16 (at' 12 1) [0x3F, 0x70]
    let d := engined 0x703F 0
    d.Accepts formEngineLoad checkEngineLoad e ∧ crc32c e.data = e.inl 16 4 ∧ (d.eng (e.sel 3 0)).running = true :=
  ⟨Dev.accepts_of_now (by decide +kernel), by decide +kernel⟩

theorem witness_ProgramsLoadIntoStoppedEngines_illegal :
    let e := dataEntry 0x0801 15 0 16 (at' 12 2) [0x3F, 0x70, 0, 0xB0]
    let code := (List.range (e.inl 12 1)).map (fun i => leAt e.data (2 * i) 2)
    idle.Accepts formEngineLoad checkEngineLoad e ∧ crc32c e.data = e.inl 16 4 ∧ (idle.eng (e.sel 3 0)).running = false ∧
      1 < e.inl 12 1 ∧ instrIllegal (code[1]?.getD 0) = true ∧ instrIllegal (code[0]?.getD 0) = false :=
  ⟨Dev.accepts_of_now (by decide +kernel), by decide +kernel⟩

theorem witness_ProgramsLoadIntoStoppedEngines_table :
    let w : TableWrite := ⟨0, 1, 0x10, 15, 0, [0xB0007000]⟩
    let d := writing (engined 0x703F 0) w
    let code := w.words.flatMap (fun v => [v.toNat % 65536, v.toNat / 65536])
    d.baro.halted = false ∧ d.chan.writes = [w] ∧ (d.eng w.inst).running = true ∧ (idle.eng w.inst).running = false ∧
      1 < code.length ∧ instrIllegal (code[1]?.getD 0) = true ∧ instrIllegal (code[0]?.getD 0) = false := by
  decide +kernel

theorem witness_ThermalStatusAnswers :
    inHold.Accepts formThermalStatus noCheck (plain 0x0E01 0) :=
  Dev.accepts_of_now (by decide +kernel)

theorem witness_ThermalStatusAnswers_reserved :
    let e := entryOf 0x0E01 1 0 0 [] 0
    let i := plain 0x0E01 (at' 47 0x80)
    idle.nextSq = some e.sq.val ∧ e.crcGood 0x0E01 = true ∧ e.tag.toNat ∉ (idle.fetched 0).tagsOut ∧
      e.unit.toNat = (idle.fetched 0).get Reg.UNIT_ID ∧ e.selector ≠ 0 ∧ i.inl 47 1 ≠ 0 ∧ i.crcGood 0x0E01 = true := by
  decide +kernel

/-! Well-formedness refuses an ill-formed command for each check. -/

theorem test_wf_buffer : (Instr.nop { plain 0x0100 0 with buf := [0] }).wf = false ∧ (Instr.nop (plain 0x0100 0)).wf = true := by
  decide +kernel

theorem test_wf_link : (Instr.linkRetrain 2 4).wf = false ∧ (Instr.linkRetrain 16 0).wf = false ∧ (Instr.linkRetrain 16 4).wf = true := by
  decide +kernel

theorem test_wf_packet :
    (Instr.lineSegment 0 1024 (Vector.replicate 4 []) []).wf = false ∧ (Instr.lineSegment 0 1023 (Vector.replicate 4 []) []).wf = true ∧
      (Instr.control 0 0 (Vector.replicate 4 []) [Vector.replicate 4 (List.replicate 17036 false)]).wf = false := by
  decide +kernel

theorem test_wf_calibrations :
    (Instr.lineTrigger [⟨516, 0, 0, 0, 0⟩]).wf = false ∧ (Instr.heldTriggerAccept [⟨0, 65, 0, 0, 0⟩]).wf = false ∧
      (Instr.fgCal [⟨0, 65, 0, 0, 0⟩]).wf = false ∧ (Instr.fgCal [⟨515, 64, 0, 0, 0⟩]).wf = true := by
  decide +kernel

theorem test_wf_stages :
    (Instr.faceAssembly ⟨0, [⟨0, true⟩]⟩).wf = false ∧ (Instr.faceAssembly ⟨0, [⟨13, true⟩]⟩).wf = false ∧
      (Instr.recordPublish ⟨0, [.carriage ⟨12, true⟩]⟩).wf = false ∧ (Instr.recordPublish ⟨0, [.carriage ⟨256, true⟩]⟩).wf = false ∧
      (Instr.faceAssembly ⟨0, [⟨12, true⟩]⟩).wf = true := by
  decide +kernel

theorem test_wf_exposures :
    (Instr.head0LineDelivery (List.replicate 9 []) []).wf = false ∧ (Instr.head0LineDelivery [] [(8, 0)]).wf = false := by decide +kernel

theorem test_wf_signature : (Instr.dbgResponse []).wf = false ∧ (Instr.dbgResponse (List.replicate 96 0)).wf = true := by decide +kernel

theorem test_wf_scrub : (Instr.backgroundScrub 101 none).wf = false := by decide +kernel

theorem test_wf_timeout : (Instr.cplTimeout 0 (some (0x0100, { plain 0x0100 0 with buf := [0] }))).wf = false := by decide +kernel

/-! Single steps. -/

/-- R6: the check value of CRC-32C over the nine digits. -/
theorem test_crc32c : crc32c (([0x31, 0x32, 0x33, 0x34, 0x35, 0x36, 0x37, 0x38, 0x39] : List Nat).map (BitVec.ofNat 8)) = 0xE3069283 := by
  decide +kernel

/-- R140: the check value of its CRC over the nine digits. -/
theorem test_crc16 : crc16 (([0x31, 0x32, 0x33, 0x34, 0x35, 0x36, 0x37, 0x38, 0x39] : List Nat).map (BitVec.ofNat 8)) = 0x29B1 := by
  decide +kernel

/-- R57: NOP completes OK at the first entry of CQ0, in the first phase. -/
theorem test_nop : (idle.after (.nop (plain 0x0100 0))).out = [.cqe 0 0 ⟨0, 1, .ok, 0, 0, 0⟩ 1 true, .requests [(0,
    64)]] := by decide +kernel

/-- R65: an opcode that R66 does not list completes with BAD_OPCODE. -/
theorem test_badOpcode : (idle.after (.badOpcode 0xFFFF (plain 0xFFFF 0))).out = [.cqe 0 0 ⟨0, 1, .badOpcode, 0, 0, 0⟩ 1 true,
    .requests [(0, 64)]] := by
  decide +kernel

/-- R51: a tail above the queue's size only sets DB_ERR. -/
theorem test_tail :
    ((hosted.after (.sqTail 63 16)).sq 63).tail = 0 ∧ ((hosted.after (.sqTail 63 16)).sq 63).dbErr = true ∧
      ((hosted.after (.sqTail 63 15)).sq 63).tail = 15 := by
  decide +kernel

/-- R29, R321: EJECT_DRY leaves HOLD for ARMED, and LINE_START is legal in IDLE alone. -/
theorem test_states :
    (inHold.after (.ejectDry (plain 0x0703 0))).st = .armed ∧ (inHold.after (.lineStart (plain 0x0301 0))).arr.running = false ∧
      (idle.after (.lineStart (plain 0x0301 0))).arr.running = true := by
  decide +kernel

/-- R97, R98: a trigger that is due adds a line, and line numbers wrap. -/
theorem test_trigger :
    let d := { triggered 0 with arr := { (triggered 0).arr with due := true }, clk := { idle.clk with bus := 5000 } }
    (d.after (.lineTrigger [])).arr.lines.map (·.num) = [0, 0xFFFFFFFF] ∧ (d.after (.lineTrigger [])).arr.due = false := by
  decide +kernel

/-- R346: a timer of PERIOD 2 has counted when its end comes, and sets DONE. -/
theorem test_timer :
    let d := { timed 2 0 0 with clk := { (timed 2 0 0).clk with bus := 2 } }
    ((d.after (.timerDone 31)).tmr 31).running = false ∧ ((d.after (.timerDone 31)).tmr 31).done = true := by
  decide +kernel

/-- R533: the shipped unit's reset state starts in BOOT with one selector copy valid. -/
theorem test_reset : State.reset.dev.st = .boot ∧ State.reset.dev.baro.flash.sel[0].valid = true ∧ State.reset.pending = [] := by
  decide +kernel

/-- R530: the instruction register holds IDCODE, and the low bit of what comes out is 1. -/
theorem test_idcode : ((idle.after .idcode).out.head?.any (fun o => match o with | .tdo v => v % 4096 == 0x1A7 | _ => false)) = true := by
  decide +kernel
end Sys2Proof.Tests
end

section
/-!
PROOFS. The commands and the canonical form of the parameter words: a command acts on the unit alone, and every step keeps the form.
-/

namespace Sys2Proof.Machine

/-! A command acts on the unit alone. -/

/-- The next state of a command: the unit after it, and the queue as it was. -/
theorem exec_eq_after (c : Instr) (s : State) : exec c s = .next (s.to (s.dev.after c)) := by
  cases c with
  | fgCal cals => simp only [exec, execFgCal, Dev.after, State.to]
  | _ => rfl

theorem Dev.after_fgCal (d : Dev) (cals : List SliceCal) : d.after (.fgCal cals) = d.fgCal cals := by
  simp only [Dev.after, exec, execFgCal]

theorem step_of_pending_nil {s : State} (h : s.pending = []) : step s = .next (s.to s.dev.tick) := by
  simp only [step, h, State.to]

theorem step_of_pending_cons {s : State} {c : Instr} {rest : List Instr} (h : s.pending = c :: rest) :
    step s = exec c { s with pending := rest } := by
  simp only [step, h]

/-! The parameter words keep their canonical form. -/

/-- Every command keeps the canonical form of the parameter words: each by the lemma about its operation. -/
theorem Dev.after_paramsWf {d : Dev} (h : d.paramsWf) (c : Instr) : (d.after c).paramsWf := by
  cases c with
  | nop _ => exact Dev.hostCommand_paramsWf _ _ _ _ _ h effNop_paramsWf
  | identify _ => exact Dev.hostCommand_paramsWf _ _ _ _ _ h effIdentify_paramsWf
  | stateSet _ => exact Dev.hostCommand_paramsWf _ _ _ _ _ h effStateSet_paramsWf
  | stateGet _ => exact Dev.hostCommand_paramsWf _ _ _ _ _ h effStateGet_paramsWf
  | resetUnit _ => exact Dev.resetCheck_paramsWf _ (Dev.hostCommand_paramsWf _ _ _ _ _ h effResetUnit_paramsWf)
  | resetPipeline _ => exact Dev.hostCommand_paramsWf _ _ _ _ _ h effResetPipeline_paramsWf
  | recipeLoad _ => exact Dev.hostCommand_paramsWf _ _ _ _ _ h effRecipeLoad_paramsWf
  | recipeSave _ => exact Dev.hostCommand_paramsWf _ _ _ _ _ h effRecipeSave_paramsWf
  | paramRead _ => exact Dev.hostCommand_paramsWf _ _ _ _ _ h effParamRead_paramsWf
  | paramWrite _ => exact Dev.hostCommand_paramsWf _ _ _ _ _ h effParamWrite_paramsWf
  | paramStage _ => exact Dev.hostCommand_paramsWf _ _ _ _ _ h effParamStage_paramsWf
  | commit _ => exact Dev.hostCommand_paramsWf _ _ _ _ _ h effCommit_paramsWf
  | tableWrite _ => exact Dev.hostCommand_paramsWf _ _ _ _ _ h effTableWrite_paramsWf
  | tableRead _ => exact Dev.hostCommand_paramsWf _ _ _ _ _ h effTableRead_paramsWf
  | bankSwap _ => exact Dev.hostCommand_paramsWf _ _ _ _ _ h effBankSwap_paramsWf
  | lineStart _ => exact Dev.hostCommand_paramsWf _ _ _ _ _ h effLineStart_paramsWf
  | lineStop _ => exact Dev.hostCommand_paramsWf _ _ _ _ _ h effLineStop_paramsWf
  | statsRead _ => exact Dev.hostCommand_paramsWf _ _ _ _ _ h effStatsRead_paramsWf
  | linkTrain _ => exact Dev.hostCommand_paramsWf _ _ _ _ _ h effLinkTrain_paramsWf
  | linkTrainComplete _ => exact Dev.trainDone_paramsWf _ _ h
  | linkStatus _ => exact Dev.hostCommand_paramsWf _ _ _ _ _ h effLinkStatus_paramsWf
  | lanePrbs _ => exact Dev.hostCommand_paramsWf _ _ _ _ _ h effLanePrbs_paramsWf
  | headControl _ => exact Dev.hostCommand_paramsWf _ _ _ _ _ h effHeadControl_paramsWf
  | trackerStatus _ => exact Dev.hostCommand_paramsWf _ _ _ _ _ h effTrackerStatus_paramsWf
  | stormClear _ => exact Dev.hostCommand_paramsWf _ _ _ _ _ h effStormClear_paramsWf
  | countersRead _ => exact Dev.hostCommand_paramsWf _ _ _ _ _ h effCountersRead_paramsWf
  | countersClear _ => exact Dev.hostCommand_paramsWf _ _ _ _ _ h effCountersClear_paramsWf
  | valveTest _ => exact Dev.hostCommand_paramsWf _ _ _ _ _ h effValveTest_paramsWf
  | ejectLive _ => exact Dev.hostCommand_paramsWf _ _ _ _ _ h effEjectLive_paramsWf
  | ejectDry _ => exact Dev.hostCommand_paramsWf _ _ _ _ _ h effEjectDry_paramsWf
  | engineLoad _ => exact Dev.hostCommand_paramsWf _ _ _ _ _ h effEngineLoad_paramsWf
  | engineStart _ => exact Dev.hostCommand_paramsWf _ _ _ _ _ h effEngineStart_paramsWf
  | engineStop _ => exact Dev.hostCommand_paramsWf _ _ _ _ _ h effEngineStop_paramsWf
  | engineStatus _ => exact Dev.hostCommand_paramsWf _ _ _ _ _ h effEngineStatus_paramsWf
  | timerConfig _ => exact Dev.hostCommand_paramsWf _ _ _ _ _ h effTimerConfig_paramsWf
  | auxSequence _ => exact Dev.hostCommand_paramsWf _ _ _ _ _ h effAuxSequence_paramsWf
  | auxRead _ => exact Dev.hostCommand_paramsWf _ _ _ _ _ h effAuxRead_paramsWf
  | ringAttach _ => exact Dev.hostCommand_paramsWf _ _ _ _ _ h effRingAttach_paramsWf
  | ringRelease _ => exact Dev.hostCommand_paramsWf _ _ _ _ _ h effRingRelease_paramsWf
  | tapArm _ => exact Dev.hostCommand_paramsWf _ _ _ _ _ h effTapArm_paramsWf
  | lsynConfig _ => exact Dev.hostCommand_paramsWf _ _ _ _ _ h effLsynConfig_paramsWf
  | lsynRamp _ => exact Dev.hostCommand_paramsWf _ _ _ _ _ h effLsynRamp_paramsWf
  | lsynPhaseStep _ => exact Dev.hostCommand_paramsWf _ _ _ _ _ h effLsynPhaseStep_paramsWf
  | timebaseAlign _ => exact Dev.hostCommand_paramsWf _ _ _ _ _ h effTimebaseAlign_paramsWf
  | selftest _ => exact Dev.hostCommand_paramsWf _ _ _ _ _ h effSelftest_paramsWf
  | selftestDone _ _ _ => exact Dev.selftestDone_paramsWf _ _ _ _ h
  | calibrate _ => exact Dev.hostCommand_paramsWf _ _ _ _ _ h effCalibrate_paramsWf
  | calibrateFinalStep => exact Dev.calibrateFinal_paramsWf _ h
  | inject _ => exact Dev.hostCommand_paramsWf _ _ _ _ _ h effInject_paramsWf
  | fwStage _ => exact Dev.hostCommand_paramsWf _ _ _ _ _ h effFwStage_paramsWf
  | fwVerify _ => exact Dev.hostCommand_paramsWf _ _ _ _ _ h effFwVerify_paramsWf
  | fwActivate _ => exact Dev.hostCommand_paramsWf _ _ _ _ _ h effFwActivate_paramsWf
  | unlockUntested _ => exact Dev.hostCommand_paramsWf _ _ _ _ _ h effUnlockUntested_paramsWf
  | logRead _ => exact Dev.hostCommand_paramsWf _ _ _ _ _ h effLogRead_paramsWf
  | thermalStatus _ => exact Dev.hostCommand_paramsWf _ _ _ _ _ h effThermalStatus_paramsWf
  | domainSet _ => exact Dev.hostCommand_paramsWf _ _ _ _ _ h effDomainSet_paramsWf
  | entryCheck _ _ => exact Dev.entryCheck_paramsWf _ _ _ h
  | badOpcode _ _ => exact Dev.badOpcode_paramsWf _ _ _ h
  | cplTimeout _ _ => exact Dev.cplTimeout_paramsWf _ _ _ h
  | sqTail _ _ => exact Dev.sqTail_paramsWf _ _ _ h
  | cqHead _ _ => exact Dev.cqHead_paramsWf _ _ _ h
  | sqEnable _ _ _ => exact Dev.sqEnable_paramsWf _ _ _ _ h
  | sqDisable _ => exact Dev.sqDisable_paramsWf _ _ h
  | cqEnable _ _ _ _ => exact Dev.cqEnable_paramsWf _ _ _ _ _ h
  | cqDisable _ => exact Dev.cqDisable_paramsWf _ _ h
  | causeWrite _ _ => exact Dev.hostCause_paramsWf _ _ _ h
  | maskWrite _ _ => exact Dev.hostMask_paramsWf _ _ _ h
  | routeWrite _ _ => exact Dev.hostRoute_paramsWf _ _ _ h
  | evrEnable _ _ => exact Dev.evrEnable_paramsWf _ _ _ h
  | evrHead _ => exact Dev.evrHead_paramsWf _ _ h
  | rpLo _ _ _ => exact Dev.hostRp_paramsWf _ _ _ _ h
  | timerArm _ => exact Dev.hostArm_paramsWf _ _ h
  | timerStop _ => exact Dev.hostStop_paramsWf _ _ h
  | capLo _ _ => exact Dev.hostCap_paramsWf _ _ _ h
  | pullData _ _ => exact Dev.hostPull_paramsWf _ _ _ h
  | pushData _ => exact Dev.hostPush_paramsWf _ _ h
  | frameMark _ => exact Dev.frameMarkRow_paramsWf _ _ h
  | flip _ => exact Dev.flipRow_paramsWf _ _ h
  | forceStorm _ => exact Dev.forceStormRow_paramsWf _ _ h
  | autostartSettingsWrite _ => exact Dev.autostartRow_paramsWf _ _ h
  | shortClear _ => exact Dev.shortRow_paramsWf _ _ h
  | msixUnmask _ => exact Dev.msixUnmask_paramsWf _ _ h
  | barAccess _ _ _ _ _ => exact Dev.barAccess_paramsWf _ _ _ _ _ _ h
  | registerWrite _ _ _ _ => exact Dev.hostWrite_paramsWf _ _ _ _ _ h
  | coldStart => exact Dev.coldStart_paramsWf _ h
  | vinPowerOn => exact Dev.vinPowerOn_paramsWf _ h
  | powerFail => exact Dev.powerFail_paramsWf _ h
  | vstbyLoss => exact Dev.vstbyLoss_paramsWf _ h
  | resetN _ => exact Dev.resetN_paramsWf _ _ h
  | watchdog => exact Dev.watchdog_paramsWf _ h
  | hostLinkReset _ => exact Dev.resetCheck_paramsWf _ (Dev.hostReset_paramsWf _ _ h)
  | functionReady => exact Dev.functionReady_paramsWf _ h
  | linkRetrain _ _ => exact Dev.linkRetrain_paramsWf _ _ _ h
  | bootSelection => exact Dev.bootSelection_paramsWf _ h
  | startupDone _ => exact Dev.resetCheck_paramsWf _ (Dev.startupDone_paramsWf _ _ h)
  | autostart => exact Dev.autostart_paramsWf _ h
  | domainReady _ => exact Dev.readyNow_paramsWf _ _ h
  | domainFault _ => exact Dev.domainFails_paramsWf _ _ h
  | refLoss => exact Dev.refLoss_paramsWf _ h
  | refReturn => exact Dev.refReturn_paramsWf _ h
  | sysPllSettled => exact Dev.pllUp_paramsWf _ h
  | lsynSettled => exact Dev.lsynSettled_paramsWf _ h
  | lineEdge => exact Dev.lineEdge_paramsWf _ h
  | encEdge _ _ => exact Dev.encoderEdge_paramsWf _ _ _ h
  | encZ => exact Dev.encoderZ_paramsWf _ h
  | lineTrigger _ => exact Dev.onEdge_paramsWf _ (fun a => (a.lineTrigger _).afterTrigger a) h fun a ha =>
      Dev.afterTrigger_paramsWf _ _ (Dev.lineTrigger_paramsWf _ _ ha) ha
  | heldTriggerAccept _ => exact Dev.onEdge_paramsWf _ (fun a => (a.acceptHeld _).afterTrigger a) h fun a ha =>
      Dev.afterTrigger_paramsWf _ _ (Dev.acceptHeld_paramsWf _ _ ha) ha
  | frameIn _ => exact Dev.frameInEdge_paramsWf _ _ h
  | trigStall => exact Dev.trigStall_paramsWf _ h
  | fgCal cals => rw [Dev.after_fgCal]; exact Dev.fgCal_paramsWf _ _ h
  | head0LineDelivery _ _ => exact Dev.headMoved_paramsWf _ _ (Dev.head0Line_paramsWf _ _ _ h)
  | marker _ _ _ => exact Dev.marker_paramsWf _ _ _ _ h
  | los _ => exact Dev.los_paramsWf _ _ _ h
  | wander _ => exact Dev.wander_paramsWf _ _ _ h
  | lineSegment _ _ _ _ => exact Dev.linkIn_paramsWf _ _ _ _ h
  | control _ _ _ _ => exact Dev.linkIn_paramsWf _ _ _ _ h
  | missingLine _ => exact Dev.headMoved_paramsWf _ _ (Dev.missingLine_paramsWf _ _ h)
  | faceAssembly _ => exact Dev.faceAssembly_paramsWf _ _ (Dev.pathErrors_paramsWf _ _ h)
  | evaluationStart => exact Dev.startEval_paramsWf _ h
  | classOverload => exact Dev.classOverload_paramsWf _ h
  | verdict => exact Dev.verdictDone_paramsWf _ h
  | provisionalResult => exact Dev.provisionalResult_paramsWf _ h
  | valveFrame => exact Dev.onEdge_paramsWf _ (·.valveFrame) h fun a ha => Dev.valveFrame_paramsWf _ ha
  | retractionRecord => exact Dev.placeRetraction_paramsWf _ h
  | chipStaging => exact Dev.stageChip_paramsWf _ h
  | recordPublish _ => exact Dev.publish_paramsWf _ _ (Dev.recordErrors_paramsWf _ _ _ h)
  | tokenBucketRefill => exact Dev.refillTokens_paramsWf _ h
  | snapshot => exact Dev.snapshot_paramsWf _ h
  | engOut _ _ => exact Dev.opOut_paramsWf _ _ _ h
  | engIn _ _ => exact Dev.opIn_paramsWf _ _ _ h
  | engPull _ => exact Dev.opPull_paramsWf _ _ h
  | engPush _ => exact Dev.opPush_paramsWf _ _ h
  | engSet _ => exact Dev.opSet_paramsWf _ _ h
  | engWait _ _ => exact Dev.opWait_paramsWf _ _ _ h
  | engWaitRelease _ _ => exact Dev.waitRelease_paramsWf _ _ _ h
  | engCmp _ => exact Dev.engineRaised_paramsWf _ _ (Dev.opCmp_paramsWf _ _ h)
  | engJmp _ _ => exact Dev.opJmp_paramsWf _ _ _ h
  | engDelay _ => exact Dev.opDelay_paramsWf _ _ h
  | engEvent _ => exact Dev.engineRaised_paramsWf _ _ (Dev.opEvent_paramsWf _ _ h)
  | engSync _ => exact Dev.opSync_paramsWf _ _ h
  | syncRelease _ => exact Dev.onEdge_paramsWf _ (·.releaseGroup _) h fun a ha => Dev.releaseGroup_paramsWf _ _ ha
  | pinShort _ => exact Dev.pinShort_paramsWf _ _ h
  | timerMatch _ _ => exact Dev.timerMatch_paramsWf _ _ _ h
  | timerDone _ => exact Dev.timerDone_paramsWf _ _ h
  | auxStepStart => exact Dev.auxStart_paramsWf _ h
  | auxResult _ _ => exact Dev.auxResult_paramsWf _ _ _ h
  | auxCheckConversion _ => exact Dev.auxCheck_paramsWf _ _ h
  | auxForegroundCal _ => exact Dev.auxForeground_paramsWf _ _ h
  | auxBackgroundCal _ _ => exact Dev.auxBackground_paramsWf _ _ _ h
  | syncinEdge _ => exact Dev.syncinEdge_paramsWf _ _ h
  | syncMiss => exact Dev.syncMiss_paramsWf _ h
  | syncout => exact Dev.syncout_paramsWf _ h
  | diodeSample _ => exact Dev.diodeSample_paramsWf _ _ h
  | hotOn => exact Dev.hotOn_paramsWf _ h
  | tripCommit => exact Dev.tripCommit_paramsWf _ h
  | logCommit => exact Dev.logCommit_paramsWf _ h
  | debuggerHalt _ => exact Dev.resetCheck_paramsWf _ (Dev.debuggerHalt_paramsWf _ _ h)
  | extest _ => exact Dev.jtagDrive_paramsWf _ _ _ h
  | idcode => exact Dev.jtagIdcode_paramsWf _ h
  | samplePreload _ => exact Dev.jtagSample_paramsWf _ _ h
  | clamp => exact Dev.jtagHold_paramsWf _ _ h
  | highz => exact Dev.jtagHold_paramsWf _ _ h
  | extestPulse _ => exact Dev.jtagDrive_paramsWf _ _ _ h
  | extestTrain _ => exact Dev.jtagDrive_paramsWf _ _ _ h
  | dbgChallenge => exact Dev.dbgChallenge_paramsWf _ h
  | dbgResponse _ => exact Dev.dbgResponse_paramsWf _ _ h
  | dbgAccess => exact Dev.dbgAccess_paramsWf _ h
  | bypass => exact Dev.jtagBypass_paramsWf _ h
  | clockRecoveryLock _ => exact Dev.laneLock_paramsWf _ _ h
  | phaseDetectorRange _ => exact Dev.phaseOut_paramsWf _ _ h
  | prbsBitError _ => exact Dev.prbsIn_paramsWf _ _ _ h
  | tableWriteApply => exact Dev.tableApply_paramsWf _ h
  | fwVerifyDone => exact Dev.fwVerifyDone_paramsWf _ h
  | fwActivateDone => exact Dev.resetCheck_paramsWf _ (Dev.fwActivateDone_paramsWf _ h)
  | recipeLoadDone => exact Dev.recipeLoadDone_paramsWf _ h
  | recipeSaveDone => exact Dev.recipeSaveDone_paramsWf _ h
  | autostartHoldEnd => exact Dev.autoHoldEnd_paramsWf _ h
  | backgroundScrub _ _ => exact Dev.scrub_paramsWf _ _ _ h
  | resetNRelease => exact Dev.resetNRelease_paramsWf _ h
  | configurationWrite _ => exact Dev.configWrite_paramsWf _ _ h

/-- Settles O38: an idle step is a cycle, every other step the command at the front, and both keep the form. -/
theorem paramsStayCanonical : Obligations.ParamsStayCanonical := by
  intro s t h hs
  cases hq : s.pending with
  | nil =>
    rw [step_of_pending_nil hq] at hs
    cases hs
    exact s.dev.tick_paramsWf h
  | cons c rest =>
    rw [step_of_pending_cons hq, exec_eq_after] at hs
    cases hs
    exact Dev.after_paramsWf h c

/-- Settles O39: the words of the shipped unit are those a cold start leaves, and no command waits. -/
theorem resetIsCanonical : Obligations.ResetIsCanonical := ⟨Dev.cold_paramsWf _, rfl⟩

/-- Settles O33: the queue is not empty, so the step is the command in front. -/
theorem stepRunsTheFrontCommand : Obligations.StepRunsTheFrontCommand := fun _ _ _ h => step_of_pending_cons h

end Sys2Proof.Machine
end

section
/-!
PROOFS. The order of line numbers (R14), and what the writes of parameter words leave (R7, R69).
-/

namespace Sys2Proof.Machine

/-! Line numbers. -/

theorem lineDistance_toNat {a b : Nat} (ha : a < 2 ^ 32) (hb : b < 2 ^ 32) :
    (BitVec.ofNat 32 a - BitVec.ofNat 32 b).toNat = (a + 2 ^ 32 - b) % 2 ^ 32 := by
  simp only [BitVec.toNat_sub, BitVec.toNat_ofNat]
  omega

theorem lineAfter_iff {a b : Nat} (ha : a < 2 ^ 32) (hb : b < 2 ^ 32) :
    lineAfter a b = true ↔ 1 ≤ (a + 2 ^ 32 - b) % 2 ^ 32 ∧ (a + 2 ^ 32 - b) % 2 ^ 32 < 2 ^ 31 := by
  simp only [lineAfter, lineDistance_toNat ha hb, Bool.and_eq_true, decide_eq_true_eq]

theorem lineFrom_iff {a b : Nat} (ha : a < 2 ^ 32) (hb : b < 2 ^ 32) :
    lineFrom a b = true ↔ a = b ∨ lineAfter a b = true := by
  simp only [lineFrom, Bool.or_eq_true, beq_iff_eq, Nat.mod_eq_of_lt ha, Nat.mod_eq_of_lt hb]

theorem lineSub_lineAdd {a n : Nat} (ha : a < 2 ^ 32) (hn : n < 2 ^ 32) : lineSub (lineAdd a n) a = n := by
  rw [lineSub, lineAdd, lineDistance_toNat (Nat.mod_lt _ (by decide)) ha]
  omega

/-- Settles O52: all four by the distance modulo 2^32. -/
theorem lineNumbersAreOrdered : Obligations.LineNumbersAreOrdered := by
  intro a b ha hb x
  have hx : x = (a + 2 ^ 32 - b) % 2 ^ 32 := rfl
  have hafter := lineAfter_iff ha hb
  have hfrom := lineFrom_iff ha hb
  rw [← hx] at hafter
  refine ⟨?_, ?_, ?_, fun n hn => ⟨Nat.mod_lt _ (by decide), lineSub_lineAdd ha hn⟩⟩
  · rw [hafter]; omega
  · rw [← Bool.not_eq_true, hfrom, hafter]; omega
  · rw [← Bool.not_eq_true, hfrom, hafter]; omega

/-! Stored words. -/

/-- Settles O41, by what a word reads after a write to it or to another. -/
theorem wordsReadAsWritten : Obligations.WordsReadAsWritten := fun d k j w h =>
  ⟨by simp only [d.setWord_word k j w h, eq_comm (a := k)], d.setWord_paramsWf k w h⟩

/-- R7: the word that a write leaves in an immediate word. -/
def wordWritten (page w v : Nat) (old : Word) : Word :=
  ((old &&& ~~~BitVec.ofNat 32 (bitsWhere (fun f => f.acc == .rw) page w)) |||
    (BitVec.ofNat 32 v &&& BitVec.ofNat 32 (bitsWhere (fun f => f.acc == .rw) page w))) &&&
    ~~~(BitVec.ofNat 32 (bitsWhere (fun f => f.acc == .w1c) page w) &&& BitVec.ofNat 32 v)

theorem wordWritten_getLsbD (page w v : Nat) (old : Word) {b : Nat} (hb : b < 32) :
    (wordWritten page w v old).getLsbD b =
      ((if (bitsWhere (fun f => f.acc == .rw) page w).testBit b then v.testBit b else old.getLsbD b) &&
        !((bitsWhere (fun f => f.acc == .w1c) page w).testBit b && v.testBit b)) := by
  simp only [wordWritten, BitVec.getLsbD_and, BitVec.getLsbD_or, BitVec.getLsbD_not, BitVec.getLsbD_ofNat, hb, decide_true,
    Bool.true_and]
  cases (bitsWhere (fun f => f.acc == .rw) page w).testBit b <;> simp

theorem Dev.storeWord_of_immediate {d : Dev} {page w : Nat} (v : Nat) (h : isStaged page w = false) :
    d.storeWord page w v = d.touch.setWord (paramKey page w) (wordWritten page w v (d.word (paramKey page w))) := by
  simp only [Dev.storeWord, h, Bool.false_eq_true, if_false]; rfl

theorem Dev.storeWord_of_staged {d : Dev} {page w : Nat} (v : Nat) (h : isStaged page w = true) :
    d.storeWord page w v = d.setChan (fun c => { c with
      pend := Store.insert c.pend (paramKey page w) (BitVec.ofNat 32 (v &&& bitsWhere (fun f => f.acc == .st) page w)) }) := by
  simp only [Dev.storeWord, h, if_true]

theorem Dev.storeWord_word {d : Dev} {page w : Nat} (v k : Nat) (hw : d.paramsWf) (h : isStaged page w = false) :
    (d.storeWord page w v).word k =
      if paramKey page w = k then wordWritten page w v (d.word (paramKey page w)) else d.word k := by
  rw [d.storeWord_of_immediate v h, Dev.setWord_word _ _ _ _ (d.touch_paramsWf hw)]; rfl

/-- Settles O42: an immediate word by what the write leaves in it, a staged word by its pending value alone. -/
theorem writesFollowTheAccessCodes : Obligations.WritesFollowTheAccessCodes := by
  intro d page w v hw t
  refine ⟨fun h => ⟨fun b hb => ?_, fun k hk => ?_⟩, fun h => ⟨fun k => ?_, d.storeWord_of_staged v h⟩⟩
  · rw [d.storeWord_word v _ hw h, if_pos rfl]
    exact wordWritten_getLsbD page w v _ hb
  · rw [d.storeWord_word v k hw h, if_neg hk.symm]
  · rw [show t = _ from d.storeWord_of_staged v h]; rfl

end Sys2Proof.Machine
end

section
/-!
PROOFS. Idle steps (R534). What raising events, completing commands and sending on the lanes leaves alone, and a cycle of a unit in
which nothing waits for time to pass.
-/

namespace Sys2Proof.Machine

/-! Reports and the command channel. -/

@[simp] theorem Dev.sendMsix_chan (d : Dev) (v : Nat) : (d.sendMsix v).chan = d.chan := rfl

@[simp] theorem Dev.vecEdge_chan (d : Dev) (v : Nat) : (d.vecEdge v).chan = d.chan := by
  unfold Dev.vecEdge; split <;> rfl

@[simp] theorem Dev.evalVectors_chan (d : Dev) (l : List Nat) : (d.evalVectors l).chan = d.chan := by
  unfold Dev.evalVectors; dsimp only; split
  · rfl
  · exact Dev.foldl_keeps Dev.chan _ Dev.vecEdge_chan _ _

@[simp] theorem Dev.occur_chan (d : Dev) (o : Occ) : (d.occur o).1.chan = d.chan := by
  unfold Dev.occur; dsimp only; split <;> rfl

@[simp] theorem Dev.lostRecord_chan (d : Dev) (w : Nat) : (d.lostRecord w).chan = d.chan := by
  unfold Dev.lostRecord; split <;> rfl

section
variable {raise : Occ → Dev → Dev} (hr : ∀ o d, (raise o d).chan = d.chan)
include hr

theorem Dev.holdLog_chan (kind flags source code data : Nat) (d : Dev) :
    (d.holdLog raise kind flags source code data).chan = d.chan := by
  unfold Dev.holdLog; dsimp only
  split
  · split
    · rw [Dev.count_chan]
    · rw [hr, Dev.orBits_chan, Dev.count_chan]
  · rw [Dev.put_chan, Dev.put_chan]

theorem Dev.toRing_chan (r : EvRec) (d : Dev) : (d.toRing raise r).chan = d.chan := by
  have hw : (d.ringWrite r).chan = d.chan := rfl
  unfold Dev.toRing
  simp only [apply_ite Dev.chan, hr, hw, Dev.orBits_chan, ite_self]

theorem Dev.toLog_chan (r : EvRec) (d : Dev) : (d.toLog raise r).chan = d.chan := by
  unfold Dev.toLog
  simp only [apply_ite Dev.chan, Dev.count_chan, Dev.holdLog_chan hr, ite_self]

theorem Dev.placeRecord_chan (w : Nat) (bytes : List Byte) (d : Dev) : (d.placeRecord raise w bytes).1.chan = d.chan := by
  unfold Dev.placeRecord
  split
  · exact d.lostRecord_chan w
  · dsimp only
    split <;> simp only [apply_ite Dev.chan, hr, Dev.count_chan, Dev.orBits_chan, Dev.setWin_chan, ite_self]

theorem Dev.overQueue_chan (c : ArchClass) (w : Nat) (bytes : List Byte) (d : Dev) :
    (d.overQueue raise c w bytes).chan = d.chan := by
  have hl : ∀ d : Dev, d.lostBudget.chan = d.chan := fun _ => rfl
  unfold Dev.overQueue
  simp only [apply_ite Dev.chan, hr, Dev.orBits_chan, hl, Dev.setWin_chan, ite_self]

theorem Dev.submit_chan (c : ArchClass) (w : Nat) (bytes : List Byte) (d : Dev) :
    (d.submit raise c w bytes).chan = d.chan := by
  have hc : (d.charge c bytes.length).chan = d.chan := rfl
  unfold Dev.submit
  simp only [apply_ite Dev.chan, Dev.lostRecord_chan, Dev.placeRecord_chan hr, Dev.overQueue_chan hr, hc, ite_self]

theorem Dev.toCopy_chan (r : EvRec) (d : Dev) : (d.toCopy raise r).chan = d.chan := by
  unfold Dev.toCopy
  simp only [apply_ite Dev.chan, Dev.submit_chan hr, ite_self]

end

theorem raiseDeep_chan (n : Nat) (o : Occ) (d : Dev) : (raiseDeep n o d).chan = d.chan := by
  induction n generalizing o d with
  | zero => rfl
  | succ n ih =>
    have ho := d.occur_chan o
    unfold raiseDeep
    split
    · next e heq => rw [heq] at ho; rw [Dev.evalVectors_chan]; exact ho
    · next e r heq =>
      rw [heq] at ho
      rw [Dev.evalVectors_chan]
      exact (Dev.toCopy_chan ih r _).trans ((Dev.toLog_chan ih r _).trans ((Dev.toRing_chan ih r e).trans ho))

/-- R491: raising an event leaves the command channel alone. -/
@[simp] theorem Dev.raise_chan (d : Dev) (o : Occ) : (d.raise o).chan = d.chan := raiseDeep_chan 8 o d

@[simp] theorem Dev.log_chan (d : Dev) (kind source code data flags : Nat) :
    (d.log kind source code data flags).chan = d.chan := Dev.holdLog_chan (raiseDeep_chan 8) _ _ _ _ _ d

/-! Completions and the submission queues. -/

@[simp] theorem Dev.setCq_sqs (d : Dev) (q : Nat) (x : Cq) : (d.setCq q x).chan.sqs = d.chan.sqs := rfl

@[simp] theorem Dev.writeCpl_sqs (d : Dev) (q : Nat) (x : Cpl) : (d.writeCpl q x).chan.sqs = d.chan.sqs := by
  simp only [Dev.writeCpl, Dev.evalVectors_chan, Dev.setCq_sqs, Dev.send_chan]

/-- R53: a completion leaves the submission queues alone. -/
@[simp] theorem Dev.complete_sqs (d : Dev) (x : Cpl) (cq : Nat) : (d.complete x cq).chan.sqs = d.chan.sqs := by
  simp only [Dev.complete, apply_ite Dev.chan, apply_ite Channel.sqs, Dev.count_chan, Dev.writeCpl_sqs, Dev.raise_chan,
    Dev.orBits_chan, Dev.setCq_sqs, ite_self]

@[simp] theorem Dev.writeBuffer_chan (d : Dev) (addr : Nat) (bytes : List Byte) : (d.writeBuffer addr bytes).chan = d.chan :=
  Dev.foldl_keeps Dev.chan (fun d (p : Nat × List Byte) => d.send (.buffer p.1 p.2)) (fun _ _ => rfl) _ d

/-- R57: an answer leaves the submission queues alone. -/
@[simp] theorem Dev.answer_sqs (d : Dev) (sq tag addr op : Nat) (r : Reply) :
    (d.answer sq tag addr op r).chan.sqs = d.chan.sqs := by
  simp only [Dev.answer, Dev.complete_sqs, Dev.setChan_chan, Dev.writeBuffer_chan]

/-! What the transmit lanes send. -/

/-- What time waits for: the counts of the clocks, the reset pulse, the runs, the storms and the submission queues. -/
def Dev.awaited (d : Dev) := ((d.clk, d.tb, d.half, d.power), (d.arr, d.track, d.chan.sqs))

/-- A change of nothing that time waits for, and of no parameter word but those that count and flag reports. -/
structure Dev.Unawaited (d t : Dev) : Prop where
  awaited : t.awaited = d.awaited
  words : d.paramsWf → t.paramsWf ∧ ∀ k, (∀ f ∈ reportFields, f.key 0 ≠ k) → t.word k = d.word k

theorem Dev.Unawaited.refl (d : Dev) : d.Unawaited d := ⟨rfl, fun h => ⟨h, fun _ _ => rfl⟩⟩

theorem Dev.Unawaited.trans {a b c : Dev} (h : a.Unawaited b) (h' : b.Unawaited c) : a.Unawaited c where
  awaited := h'.awaited.trans h.awaited
  words ha :=
    have ⟨hb, hab⟩ := h.words ha
    have ⟨hc, hbc⟩ := h'.words hb
    ⟨hc, fun k hk => (hbc k hk).trans (hab k hk)⟩

theorem Dev.Unawaited.of_eq {d t : Dev} (h : t.awaited = d.awaited) (hp : t.params = d.params) : d.Unawaited t :=
  ⟨h, fun hd => ⟨by unfold Dev.paramsWf; rw [hp]; exact hd, fun k _ => by unfold Dev.word; rw [hp]⟩⟩

/-- Reports that leave the submission queues alone. -/
theorem Dev.Unawaited.of_tells {d t : Dev} (h : d.Tells t) (hs : t.chan.sqs = d.chan.sqs) : d.Unawaited t where
  awaited := by
    have hstill := h.1
    simp only [Dev.still, Prod.mk.injEq] at hstill
    simp only [Dev.awaited, hstill, hs]
  words hd :=
    have ⟨ht, hr⟩ := h.2 hd
    ⟨ht, hr.words⟩

theorem Dev.Unawaited.foldl {α : Type} (f : Dev → α → Dev) (hf : ∀ (d : Dev) a, d.Unawaited (f d a)) (l : List α) (d : Dev) :
    d.Unawaited (l.foldl f d) := by
  induction l generalizing d with
  | nil => exact .refl d
  | cons x xs ih => exact (hf d x).trans (ih _)

theorem Dev.log_unawaited (d : Dev) (kind source code data : Nat) : d.Unawaited (d.log kind source code data) :=
  .of_tells (d.log_tells _ _ _ _ _) (congrArg Channel.sqs (d.log_chan _ _ _ _ _))

theorem Dev.logOpen_unawaited (d : Dev) (kind source code : Nat) : d.Unawaited (d.logOpen kind source code) :=
  .trans (b := d.takeFree.1) (.of_eq rfl rfl) (Dev.log_unawaited _ _ _ _ _)

theorem Dev.answer_unawaited (d : Dev) (sq tag addr op : Nat) (r : Reply) : d.Unawaited (d.answer sq tag addr op r) :=
  .of_tells (d.answer_tells _ _ _ _ _) (d.answer_sqs _ _ _ _ _)

/-- R56: the completion of an outstanding command. -/
theorem Dev.finish_unawaited (d : Dev) (o : Outst) (r : Reply) : d.Unawaited (d.finish o r) := by
  unfold Dev.finish; split
  · exact .refl d
  · next x _ =>
    split
    · exact .of_eq rfl rfl
    · refine .trans (b := d.setChan (fun c => { c with outst := c.outst.erase x })) (.of_eq rfl rfl) ?_
      generalize d.setChan (fun c => { c with outst := c.outst.erase x }) = e
      dsimp only
      split
      · refine .trans ?_ (Dev.logOpen_unawaited _ _ _ _)
        exact .of_eq rfl rfl
      · split
        · exact e.log_unawaited _ _ _ _
        · exact e.answer_unawaited _ _ _ _ _

/-- R157: the next interval on a group. -/
theorem Dev.sendInterval_unawaited (d : Dev) (g : Nat) : d.Unawaited (d.sendInterval g) :=
  (Dev.Unawaited.foldl _ (fun d _ => d.finish_unawaited _ _) _ d).trans (.of_eq rfl rfl)

/-- R159: the bits of a test pattern. -/
theorem Dev.sendPattern_unawaited (d : Dev) (g n : Nat) : d.Unawaited (d.sendPattern g n) := by
  unfold Dev.sendPattern; dsimp only
  refine .trans ?_ (Dev.Unawaited.foldl _ (fun d p => ?_) _ _)
  · exact .of_eq rfl rfl
  · exact .of_eq rfl rfl

theorem Dev.sendLanes_unawaited (d : Dev) (g : Nat) : d.Unawaited (d.sendLanes g) := by
  unfold Dev.sendLanes; dsimp only
  split
  · exact .refl d
  · split
    · split
      · exact d.sendPattern_unawaited _ _
      · exact .refl d
    · split
      · exact .refl d
      · split
        · exact (d.sendInterval_unawaited g).trans (.of_eq rfl rfl)
        · exact .of_eq rfl rfl

theorem Dev.transmit_unawaited (d : Dev) : d.Unawaited d.transmit := Dev.Unawaited.foldl _ Dev.sendLanes_unawaited _ d

/-! A cycle with nothing to wait for. -/

/-- Nothing waits for time to pass: no reset pulse, no run that ends or begins, no storm that STORM_CLEAR ends, no FENCE. -/
structure Dev.Quiet (d : Dev) : Prop where
  pulse : d.power.pulse = none
  stopping : d.arr.stopping = false
  pendingRun : d.arr.pendingRun = none
  storms : ∀ x ∈ d.track.storms, x.clear = none
  fences : ∀ q, (d.sq q).fenced = none

theorem Dev.Quiet.pulseEnd {d : Dev} (h : d.Quiet) : d.pulseEnd = d := by simp only [Dev.pulseEnd, h.pulse]

theorem Dev.Quiet.stormCheck {d : Dev} (h : d.Quiet) : d.stormCheck = d := by
  have hnone : d.track.storms.filter d.clearDue = [] :=
    List.filter_eq_nil_iff.2 fun x hx => by simp [Dev.clearDue, h.storms x hx]
  rw [Dev.stormCheck, hnone, List.foldl_nil]

theorem Dev.Quiet.runCheck {d : Dev} (h : d.Quiet) : d.runCheck = d := by
  simp [Dev.runCheck, h.stopping, h.pendingRun]

theorem Dev.Quiet.releaseFences {d : Dev} (h : d.Quiet) : d.releaseFences = d := by
  have hnone : d.fenceOver = none := List.findSome?_eq_none_iff.2 fun q _ => by simp [h.fences q]
  simp [Dev.releaseFences, hnone]

/-- Nothing follows a cycle of a quiet unit. -/
theorem Dev.Quiet.checks {d : Dev} (h : d.Quiet) : d.stormCheck.runCheck.releaseFences = d := by
  rw [h.stormCheck, h.runCheck, h.releaseFences]

theorem Dev.Quiet.of_eq {d t : Dev} (h : d.Quiet) (hp : t.power = d.power) (ha : t.arr = d.arr) (ht : t.track = d.track)
    (hs : t.chan.sqs = d.chan.sqs) : t.Quiet where
  pulse := hp ▸ h.pulse
  stopping := ha ▸ h.stopping
  pendingRun := ha ▸ h.pendingRun
  storms := ht ▸ h.storms
  fences q := by simpa only [Dev.sq, hs] using h.fences q

theorem Dev.tick_of_off {d : Dev} (h : d.power.vstby = false) : d.tick = d := by simp [Dev.tick, h]

theorem Dev.Quiet.tick_first {d : Dev} (h : d.Quiet) (hv : d.power.vstby = true) (hh : d.half = false) :
    d.tick = { d with half := true } := by
  have hq : Dev.Quiet { d with half := true } := h.of_eq rfl rfl rfl rfl
  simp only [Dev.tick, hv, hh, Bool.not_true, Bool.not_false, Bool.false_eq_true, if_false, if_true]
  exact hq.checks

/-- The unit at the end of a BUSCLK period, before the timebase counts (R534). -/
def Dev.periodOver (d : Dev) : Dev :=
  ({ d with half := false, clk := { d.clk with bus := d.clk.bus + 1 } } : Dev).transmit.modulate

theorem Dev.modulate_eq (d : Dev) : ∃ m, d.modulate = d.setMash m := by
  unfold Dev.modulate; split
  · exact ⟨_, rfl⟩
  · exact ⟨d.clk.mash, rfl⟩

/-- A BUSCLK period ends: the clocks but for the modulator, what waits for time, and the words outside reports. -/
theorem Dev.periodOver_keeps (d : Dev) (hw : d.paramsWf) :
    (∃ m, d.periodOver.clk = { d.clk with bus := d.clk.bus + 1, mash := m }) ∧ d.periodOver.tb = d.tb ∧
      d.periodOver.half = false ∧ (d.Quiet → d.periodOver.Quiet) ∧
      ∀ k, (∀ f ∈ reportFields, f.key 0 ≠ k) → d.periodOver.word k = d.word k := by
  have hsent := Dev.transmit_unawaited { d with half := false, clk := { d.clk with bus := d.clk.bus + 1 } }
  have hkept := hsent.awaited
  have hwords := (hsent.words hw).2
  obtain ⟨m, hm⟩ := Dev.modulate_eq (Dev.transmit { d with half := false, clk := { d.clk with bus := d.clk.bus + 1 } })
  simp only [Dev.awaited, Prod.mk.injEq] at hkept
  obtain ⟨⟨hclk, htb, hhalf, hpower⟩, harr, htrack, hsqs⟩ := hkept
  rw [Dev.periodOver, hm]
  exact ⟨⟨m, by simp only [Dev.setMash, hclk]⟩, htb, hhalf, fun h => h.of_eq hpower harr htrack hsqs, hwords⟩

/-- R397: a count changes the timebase and the clocks alone, and of the clocks not the BUSCLK count. -/
theorem Dev.countTb_eq (d : Dev) : ∃ v c, d.countTb = { d with tb := v, clk := c } ∧ c.bus = d.clk.bus := by
  unfold Dev.countTb; dsimp only
  split
  · exact ⟨_, _, rfl, rfl⟩
  · exact ⟨_, _, rfl, rfl⟩

/-- R397: a timebase that is not slewed counts one. -/
theorem Dev.countTb_tb {d : Dev} (hs : d.clk.slew = 0) (hf : d.clk.frac = 0) (hr : d.get Reg.TB_RATE_PPB = 0) :
    d.countTb.tb = (d.tb + 1) % 2 ^ 64 := by
  simp [Dev.countTb, hr, hs, hf]

theorem Dev.Quiet.tick_second {d : Dev} (h : d.Quiet) (hw : d.paramsWf) (hv : d.power.vstby = true) (hh : d.half = true) :
    d.tick = if d.periodOver.flag Reg.SYSPLL_SETTLED then d.periodOver.countTb else d.periodOver := by
  obtain ⟨-, -, -, hquiet, -⟩ := d.periodOver_keeps hw
  have hq := hquiet h
  obtain ⟨v, c, hc, -⟩ := d.periodOver.countTb_eq
  have hq' : Dev.Quiet (if d.periodOver.flag Reg.SYSPLL_SETTLED then d.periodOver.countTb else d.periodOver) := by
    split
    · rw [hc]; exact hq.of_eq rfl rfl rfl rfl
    · exact hq
  calc d.tick
    _ = (if d.periodOver.flag Reg.SYSPLL_SETTLED then d.periodOver.countTb
          else d.periodOver).pulseEnd.stormCheck.runCheck.releaseFences := by
      simp only [Dev.tick, hv, hh, Bool.not_true, Bool.false_eq_true, if_false]; rfl
    _ = _ := by rw [hq'.pulseEnd, hq'.checks]

/-- Settles O34: the first cycle of a BUSCLK period only passes; the second ends the period, and the timebase counts with it. -/
theorem idleStepsAreCycles : Obligations.IdleStepsAreCycles := by
  intro s hw hp
  have hstep : step s = .next (s.to s.dev.tick) := step_of_pending_nil hp
  refine ⟨fun hv => ?_, fun hv hpulse hstop hrun hstorms hfences => ?_⟩
  · rw [hstep, Dev.tick_of_off hv]; rfl
  have hq : s.dev.Quiet := ⟨hpulse, hstop, hrun, hstorms, hfences⟩
  refine ⟨fun hh => ?_, fun hh => ⟨_, hstep, hp, ?_⟩⟩
  · rw [hstep, hq.tick_first hv hh]; rfl
  obtain ⟨⟨m, hclk⟩, htb, hhalf, -, hwords⟩ := s.dev.periodOver_keeps hw
  have hget : ∀ f : Fld, (∀ g ∈ reportFields, g.key 0 ≠ f.key 0) → s.dev.periodOver.get f = s.dev.get f := fun f hf => by
    rw [Dev.get, hwords _ hf, Dev.get]
  have hsettled : s.dev.periodOver.flag Reg.SYSPLL_SETTLED = s.dev.flag Reg.SYSPLL_SETTLED := by
    rw [Dev.flag, hget _ (by decide), Dev.flag]
  rw [State.to_dev, hq.tick_second hw hv hh, hsettled]
  cases s.dev.flag Reg.SYSPLL_SETTLED with
  | false => exact ⟨hhalf, by simp [hclk], fun _ => htb, nofun⟩
  | true =>
    obtain ⟨v, c, hcount, hbus⟩ := s.dev.periodOver.countTb_eq
    refine ⟨by simp [hcount, hhalf], by simp [hcount, hbus, hclk], nofun, fun _ hs hf hr => ?_⟩
    rw [if_pos rfl, Dev.countTb_tb (by simpa [hclk] using hs) (by simpa [hclk] using hf) ((hget _ (by decide)).trans hr), htb]

end Sys2Proof.Machine
end

section
/-!
PROOFS. What the unit is at power-on (R29, R49, R330, R356, R423), and what accepted requests for a state, LINE_START, LINE_STOP and
DOMAIN_SET do (R29, R103, R321, R477, R535).
-/

namespace Sys2Proof.Machine

/-! The parts of a unit after a cold start. -/

@[simp] theorem Dev.cold_sq (fl : Flash) (q : Nat) : (Dev.cold fl).sq q = Sq.zero := Vector.getElem_replicate _

@[simp] theorem Dev.cold_cq (fl : Flash) (q : Nat) : (Dev.cold fl).cq q = Cq.zero := Vector.getElem_replicate _

@[simp] theorem Dev.cold_win (fl : Flash) (w : Nat) : (Dev.cold fl).win w = Win.zero := Vector.getElem_replicate _

@[simp] theorem Dev.cold_eng (fl : Flash) (e : Nat) : (Dev.cold fl).eng e = Eng.zero := Vector.getElem_replicate _

@[simp] theorem Dev.cold_tmr (fl : Flash) (t : Nat) : (Dev.cold fl).tmr t = Timer.zero := Vector.getElem_replicate _

/-- Settles O40: each queue, window, engine and timer is the one its part starts from. -/
theorem resetLeaves : Obligations.ResetLeaves :=
  ⟨rfl, rfl, fun n => ⟨congrArg Sq.enable (Dev.cold_sq _ n), congrArg Cq.enable (Dev.cold_cq _ n)⟩, rfl, rfl,
    fun w => congrArg Win.attached (Dev.cold_win _ w), fun e => congrArg Eng.running (Dev.cold_eng _ e),
    fun t => congrArg Timer.running (Dev.cold_tmr _ t), rfl⟩

/-! What comes before a command's effect. -/

@[simp] theorem Dev.begun_st (d : Dev) (f : Form) (e : Entry) : (d.begun f e).st = d.st := by
  obtain ⟨c, o, h⟩ := d.begun_eq f e; rw [h]

@[simp] theorem Dev.begun_arr (d : Dev) (f : Form) (e : Entry) : (d.begun f e).arr = d.arr := by
  obtain ⟨c, o, h⟩ := d.begun_eq f e; rw [h]

@[simp] theorem Dev.begun_runOn (d : Dev) (f : Form) (e : Entry) : (d.begun f e).runOn = d.runOn := by
  rw [Dev.runOn, Dev.begun_arr, Dev.runOn]

@[simp] theorem Dev.abortAuto_st (d : Dev) : d.abortAuto.st = d.st := by
  rw [Dev.abortAuto, apply_ite Dev.st, Dev.put_st, ite_self]

/-! Requests for a state. -/

/-- R29: no transition leads back to its own state. -/
theorem UState.reaches_irrefl (u : UState) : u.reaches u = false := by
  cases u <;> rfl

theorem UState.ne_of_reaches {u v : UState} (h : u.reaches v = true) : u ≠ v := by
  rintro rfl
  rw [u.reaches_irrefl] at h
  exact Bool.false_ne_true h

/-- R28, R29: each imaging state reaches each of the others. -/
theorem UState.reaches_of_imaging {u v : UState} (hu : u ∈ stASH) (hv : v ∈ stASH) (hne : u ≠ v) : u.reaches v = true := by
  have hall : ∀ u ∈ stASH, ∀ v ∈ stASH, u ≠ v → u.reaches v = true := by decide
  exact hall u hu v hv hne

/-- R535: a request for the present state changes nothing. -/
theorem Dev.setState_of_eq {d : Dev} {new : UState} (why : Nat) (h : d.st = new) :
    d.setState new why = (d, { result := d.st.code }) := by
  simp only [Dev.setState, h, if_true]

/-- R29, R535: a request that makes a transition answers the state it left the unit in. -/
theorem Dev.setState_of_reaches {d : Dev} {new : UState} (why : Nat) (h : d.st.reaches new = true)
    (hlive : new = .sorting → d.liveAllowed = true) :
    d.setState new why = (d.moveTo new why,
      { result := (d.moveTo new why).st.code + (d.moveTo new why).liveFrame d.st % 2 ^ 32 * 2 ^ 32 }) := by
  have hguard : (decide (new = .sorting) && true && !d.liveAllowed) = false := by
    by_cases hs : new = .sorting
    · simp [hlive hs]
    · simp [hs]
  simp only [Dev.setState, if_neg (UState.ne_of_reaches h), h, hguard, Bool.false_eq_true, if_false, if_true]

/-- R29, R321, R535: an accepted command whose effect is a request for a state makes the transition. -/
theorem Dev.hostCommand_moves {d : Dev} {f : Form} {check : Entry → Dev → Option Nat} {e : Entry} {new : UState} {why : Nat}
    (eff : Entry → Dev → Dev × Reply) (ha : d.Accepts f check e)
    (heff : eff e (d.begun f e) = (d.begun f e).abortAuto.setState new why) (h : d.st.reaches new = true)
    (hlive : new = .sorting → (d.begun f e).abortAuto.liveAllowed = true) :
    d.hostCommand f check eff e =
      let t := (d.begun f e).abortAuto.moveTo new why
      t.reply f e { result := t.st.code + t.liveFrame d.st % 2 ^ 32 * 2 ^ 32 } := by
  have hst : (d.begun f e).abortAuto.st = d.st := by simp only [Dev.abortAuto_st, Dev.begun_st]
  refine Dev.hostCommand_answers eff ha (heff.trans ?_) rfl
  rw [Dev.setState_of_reaches why (hst ▸ h) hlive, hst]

/-! Runs by command. -/

theorem effLineStart_of_idle {d : Dev} (e : Entry) (h : d.runOn = false) :
    effLineStart e d = (d.newRun true, { result := (d.newRun true).firstNumber }) := by
  simp only [effLineStart, h, Bool.false_eq_true, if_false]

theorem effLineStart_of_run {d : Dev} (e : Entry) (h : d.runOn = true) :
    effLineStart e d = (d, { result := d.firstNumber + 2 ^ 32 }) := by
  simp only [effLineStart, h, if_true]

theorem effLineStop_of_begun {d : Dev} (e : Entry) (hrun : d.runOn = true) (hpend : d.arr.pendingRun = none)
    (hbegun : d.arr.begun = true) : effLineStop e d = (d.endRun, { result := d.newestLine }) := by
  simp [effLineStop, hrun, hpend, hbegun]

/-! Domains. -/

/-- R477: DOMAIN_SET's switching, of the domains its masks name. -/
def Dev.switched (d : Dev) (e : Entry) : Dev := (d.switchOff (e.inl 16 4)).switchOn (e.inl 12 4)

section
variable {d : Dev} {e : Entry} (hoff : (bitsOf 25 (e.inl 16 4)).all d.mayStop = true)
  (hon : (bitsOf 25 (e.inl 12 4)).any (fun n => !d.domainOn n && d.bitOf Reg.DOMAIN_FAULT n) = false)
include hoff hon

/-- R477: domains that are ready at once are answered at once. -/
theorem effDomainSet_of_ready (h : (bitsOf 25 (e.inl 12 4)).all (d.switched e).domainReady = true) :
    effDomainSet e d =
      (d.switched e, { result := (d.switched e).get Reg.DOMAIN_ON + (d.switched e).get Reg.DOMAIN_READY * 2 ^ 32 }) := by
  rw [Dev.switched] at h ⊢
  simp only [effDomainSet, hoff, hon, h, Bool.not_true, Bool.or_self, Bool.false_eq_true, if_false, if_true]

/-- R477: domains that are not ready yet are waited for. -/
theorem effDomainSet_of_waiting (h : (bitsOf 25 (e.inl 12 4)).all (d.switched e).domainReady = false) :
    effDomainSet e d =
      ({ d.switched e with power := { (d.switched e).power with
          waits := (d.switched e).power.waits ++ [(e.inl 12 4, ⟨e.sq, e.tag.toNat, 0x0E02, false⟩)] } }, { held := true }) := by
  rw [Dev.switched] at h ⊢
  simp only [effDomainSet, hoff, hon, h, Bool.not_true, Bool.or_self, Bool.false_eq_true, if_false]

end

/-! The commands. -/

/-- A command that leads the unit alone to `d` leads the machine to the same queue with `d`. -/
theorem next_to_congr (s : State) {d d' : Dev} (h : d = d') :
    Host.Outcome.next (φ := Fault) (ρ := Refusal) (s.to d) = .next (s.to d') := by rw [h]

/-- Settles O3: each command by its effect under the statement's hypotheses, which the fetch before it leaves as they are. -/
theorem stateRequestsAct : Obligations.StateRequestsAct := by
  intro s e begun moved
  refine ⟨?stateSet, ?same, ?ejectLive, ?ejectDry, ?lineStart, ?lineStarted, ?lineStop, ?domainSet⟩
  case stateSet =>
    rintro new rfl ha hr hlive
    exact next_to_congr s (Dev.hostCommand_moves effStateSet ha rfl hr hlive)
  case same =>
    intro ha hsame
    have hst : (begun formStateSet).st = s.dev.st := by simp only [begun, Dev.abortAuto_st, Dev.begun_st]
    have heff := Dev.setState_of_eq 0x0102 (hst.trans hsame)
    rw [hst] at heff
    exact next_to_congr s (Dev.hostCommand_answers effStateSet ha heff rfl)
  case ejectLive =>
    intro ha hne hlive
    have hreach := UState.reaches_of_imaging ha.state (by decide) hne
    exact next_to_congr s (Dev.hostCommand_moves effEjectLive ha rfl hreach fun _ => hlive)
  case ejectDry =>
    intro ha hne
    have hreach := UState.reaches_of_imaging ha.state (by decide) hne
    exact next_to_congr s (Dev.hostCommand_moves effEjectDry ha rfl hreach nofun)
  case lineStart =>
    intro ha hrun
    exact next_to_congr s (Dev.hostCommand_answers effLineStart ha (effLineStart_of_idle e (by simpa using hrun)) rfl)
  case lineStarted =>
    intro ha hrun
    exact next_to_congr s (Dev.hostCommand_answers effLineStart ha (effLineStart_of_run e (by simpa using hrun)) rfl)
  case lineStop =>
    intro ha hrun hpend hbegun
    exact next_to_congr s (Dev.hostCommand_answers effLineStop ha
      (effLineStop_of_begun e (by simpa using hrun) (by simpa using hpend) (by simpa using hbegun)) rfl)
  case domainSet =>
    intro ha d hoff hon t
    refine ⟨fun h => next_to_congr s ?_, fun h => next_to_congr s ?_⟩
    · exact Dev.hostCommand_answers effDomainSet ha (effDomainSet_of_ready hoff hon h) rfl
    · exact Dev.hostCommand_holds effDomainSet ha (effDomainSet_of_waiting hoff hon h) rfl

end Sys2Proof.Machine
end

section
/-!
PROOFS. What accepted commands that only answer, and those that read, give (R66, R71, R78, R112, R160, R266, R290, R341, R377, R449 to
R451, R469), and the frame of the commands that only answer.
-/

namespace Sys2Proof.Machine

/-! Commands that only answer. -/

theorem effStateGet_eq (e : Entry) (d : Dev) :
    effStateGet e d = (d, { result := d.st.code + (if d.get Reg.FAULT_CAUSE = 0 then 0 else 16) }) := by
  by_cases h : d.get Reg.FAULT_CAUSE = 0 <;> simp [effStateGet, b2n, h]

theorem effEngineStatus_eq (e : Entry) (d : Dev) :
    effEngineStatus e d =
      (d, { result := (d.eng (e.sel 3 0)).status + 2 ^ 32 * (d.eng (e.sel 3 0)).reg.toNat }) := by
  simp only [effEngineStatus, Nat.mul_comm]

/-- R469: the flags of THERMAL_STATUS, from WARN in bit 32 to CAP_SHORT in bit 37. -/
theorem effThermalStatus_eq (e : Entry) (d : Dev) :
    effThermalStatus e d =
      (d, { result := d.get Reg.TEMP_FILT + 2 ^ 16 * d.get Reg.TEMP_RAW + 2 ^ 32 *
              (d.get Reg.WARN + 2 * d.get Reg.HOT + 4 * d.get Reg.WINDOW_OPEN + 8 * d.get Reg.THROTTLED
                + 16 * d.get Reg.DIODE_FAULT + 32 * d.get Reg.CAP_SHORT) }) := by
  simp only [effThermalStatus, List.map_cons, List.map_nil, List.foldr_cons, List.foldr_nil, Prod.mk.injEq, Reply.mk.injEq,
    true_and, and_true]
  omega

/-- Settles O1: each command answers at once with what its effect gives and leaves the unit as the fetch left it. -/
theorem queriesAnswer : Obligations.QueriesAnswer := fun s e =>
  ⟨fun ha => next_to_congr s (Dev.hostCommand_answers effNop ha rfl rfl),
    fun ha => next_to_congr s (Dev.hostCommand_answers effStateGet ha (effStateGet_eq e _) rfl),
    fun ha => next_to_congr s (Dev.hostCommand_answers effIdentify ha rfl rfl),
    fun ha => next_to_congr s (Dev.hostCommand_answers effLinkStatus ha rfl rfl),
    fun ha => next_to_congr s (Dev.hostCommand_answers effEngineStatus ha (effEngineStatus_eq e _) rfl),
    fun ha => next_to_congr s (Dev.hostCommand_answers effThermalStatus ha (effThermalStatus_eq e _) rfl)⟩

/-! Commands that read. -/

/-- R71: PARAM_READ of one word into RESULT. Word 04h of page 0000h alone counts the command that reads it. -/
theorem effParamRead_of_one {e : Entry} (d : Dev) (hcount : e.count = 1) (hbuf : e.bufLen = 0) (hw : ¬ (e.page = 0 ∧ e.word = 4)) :
    effParamRead e d = (d.afterRead e.page e.word,
      { result := (if e.sel 0 0 = 1 then d.readPending e.page e.word else d.readWord e.page e.word).toNat }) := by
  simp [effParamRead, hcount, hbuf, hw]

/-- R78: SELECTOR bit 15 chooses the shadow. -/
theorem effTableRead_eq (e : Entry) (d : Dev) :
    let n := e.bufLen.toNat / 4
    let ws := (List.range n).map (fun i => d.tableWord (e.selector.getLsbD 15) e.table e.inst (e.offset + i))
    effTableRead e d = (d, { result := n + crc32c (wordBytes ws) * 2 ^ 32, out := wordBytes ws }) := by
  have hsel : (e.sel 15 15 == 1) = e.selector.getLsbD 15 := by
    simp only [Entry.sel, BitVec.getLsbD, Nat.testBit_eq_decide_div_mod_eq, Nat.shiftRight_eq_div_pow]
    rfl
  simp only [effTableRead, hsel]

theorem effLogRead_of_first {e : Entry} (d : Dev) (h : (e.inl 16 1).testBit 0 = false) :
    let got := (d.logEntries.filter (fun x => lineFrom x.seq (e.inl 12 4))).take (e.bufLen.toNat / 32)
    effLogRead e d =
      (d, { result := got.length + (match got.getLast? with | some x => (x.seq + 1) % 2 ^ 32 | none => e.inl 12 4) * 2 ^ 32
            out := got.flatMap LogEntry.bytes }) := by
  unfold effLogRead
  rw [h]
  rfl

theorem effAuxRead_of_result {e : Entry} {d : Dev} (hon : d.auxOn = true) (hbuf : e.bufLen = 0) :
    let r := d.aux.results[e.sel 4 0 % 24]'(Nat.mod_lt _ (by decide))
    effAuxRead e d = (d, { result := r.code + 2 ^ 32 * r.flags + 2 ^ 48 * r.count }) := by
  simp only [effAuxRead, hon, hbuf, Bool.not_true, Bool.false_eq_true, if_false, if_true, Nat.mul_comm]

theorem effAuxRead_of_buffer {e : Entry} {d : Dev} (hon : d.auxOn = true) (hbuf : e.bufLen ≠ 0) :
    effAuxRead e d = (d, { out := d.aux.results.toList.flatMap (fun r =>
      pack [(4, r.code), (2, r.flags), (2, r.count), (8, r.tb)]) }) := by
  simp only [effAuxRead, hon, hbuf, Bool.not_true, Bool.false_eq_true, if_false]

theorem effStatsRead_of_some {e : Entry} {d : Dev} {b : Stats}
    (h : (if (e.inl 16 1).testBit 0 then (d.arr.closed.filter (fun x => x.head == e.sel 3 0)).head?
      else (d.arr.closed.filter (fun x => x.head == e.sel 3 0)).find? (fun x => x.frame == e.inl 12 4)) = some b) :
    effStatsRead e d = (d, { result := b.frame + 2 ^ 32 * b.gen + (if b.mixed then 2 ^ 48 else 0), out := b.bytes }) := by
  simp only [effStatsRead, h]
  cases b.mixed <;> rfl

theorem effTrackerStatus_of_result {e : Entry} (d : Dev) (hbuf : e.bufLen = 0) :
    effTrackerStatus e d =
      (if (e.inl 12 1).testBit 0 then { d with track := { d.track with peak := d.openNow } } else d,
        { result := d.openNow + 2 ^ 12 * d.track.peak + 2 ^ 24 * d.stormZones 0 + 2 ^ 36 * d.stormZones 1 + 2 ^ 48 * d.freeSlots }) := by
  simp only [effTrackerStatus, hbuf, if_true, Nat.mul_comm]

theorem effCountersRead_of_result {e : Entry} (d : Dev) (hbuf : e.bufLen = 0) (h : (e.inl 12 1).testBit 0 = false) :
    effCountersRead e d = (d, { result := d.cls.yields[0] % 2 ^ 32 + 2 ^ 32 * (d.cls.yields[1] % 2 ^ 32) }) := by
  simp only [effCountersRead, hbuf, h, Bool.false_eq_true, if_false, if_true]

@[simp] theorem Dev.begun_get (d : Dev) (f : Form) (e : Entry) (g : Fld) (i : Nat) : (d.begun f e).get g i = d.get g i := by
  obtain ⟨c, o, h⟩ := d.begun_eq f e; rw [h]; rfl

@[simp] theorem Dev.begun_auxOn (d : Dev) (f : Form) (e : Entry) : (d.begun f e).auxOn = d.auxOn := by
  simp only [Dev.auxOn, Dev.domainOn, Dev.bitOf, Dev.begun_get]

/-- Settles O2: each command answers at once with what its effect gives of the values that stand there. -/
theorem readsAnswer : Obligations.ReadsAnswer := by
  intro s e
  refine ⟨?paramRead, ?tableRead, ?logRead, ?auxResult, ?auxBuffer, ?statsRead, ?tracker, ?trackerClear, ?counters⟩
  case paramRead =>
    intro ha d hcount hbuf hw
    exact next_to_congr s (Dev.hostCommand_answers effParamRead ha (effParamRead_of_one _ hcount hbuf hw) rfl)
  case tableRead =>
    intro ha
    exact next_to_congr s (Dev.hostCommand_answers effTableRead ha (effTableRead_eq e _) rfl)
  case logRead =>
    intro ha d hfirst
    exact next_to_congr s (Dev.hostCommand_answers effLogRead ha (effLogRead_of_first _ hfirst) rfl)
  case auxResult =>
    intro ha d hon hbuf
    exact next_to_congr s (Dev.hostCommand_answers effAuxRead ha (effAuxRead_of_result (by simpa using hon) hbuf) rfl)
  case auxBuffer =>
    intro ha d hon hbuf
    exact next_to_congr s (Dev.hostCommand_answers effAuxRead ha (effAuxRead_of_buffer (by simpa using hon) hbuf) rfl)
  case statsRead =>
    intro b ha d hb
    exact next_to_congr s (Dev.hostCommand_answers effStatsRead ha (effStatsRead_of_some hb) rfl)
  case tracker =>
    intro ha d hbuf hkeep
    have heff := effTrackerStatus_of_result d hbuf
    rw [hkeep] at heff
    exact next_to_congr s (Dev.hostCommand_answers effTrackerStatus ha heff rfl)
  case trackerClear =>
    intro ha d hbuf hclear
    have heff := effTrackerStatus_of_result d hbuf
    rw [hclear] at heff
    exact next_to_congr s (Dev.hostCommand_answers effTrackerStatus ha heff rfl)
  case counters =>
    intro ha d hbuf hkeep
    exact next_to_congr s (Dev.hostCommand_answers effCountersRead ha (effCountersRead_of_result _ hbuf hkeep) rfl)

/-! The frame of the commands that only answer. -/

theorem Dev.hostCommand_congr {eff eff' : Entry → Dev → Dev × Reply} {e : Entry} (h : ∀ d, eff e d = eff' e d) (d : Dev) (f : Form)
    (extra : Entry → Dev → Option Nat) : d.hostCommand f extra eff e = d.hostCommand f extra eff' e := by
  simp only [Dev.hostCommand, Dev.dispatch, Dev.execute, h]

/-- A command whose effect on this entry leaves the unit as it is changes the command channel and reports alone. -/
theorem Dev.hostCommand_tells_of_answers {eff : Entry → Dev → Dev × Reply} {e : Entry} (h : ∀ d, (eff e d).1 = d) (d : Dev) (f : Form)
    (extra : Entry → Dev → Option Nat) : d.Tells (d.hostCommand f extra eff e) := by
  rw [Dev.hostCommand_congr (eff' := fun e d => (d, (eff e d).2)) (fun d => Prod.ext (h d) rfl)]
  exact Dev.hostCommand_tells (fun _ d => .refl d) _ _ _ _

theorem effAuxRead_fst (e : Entry) (d : Dev) : (effAuxRead e d).1 = d := by
  simp only [effAuxRead, apply_ite Prod.fst, ite_self]

theorem effStatsRead_fst (e : Entry) (d : Dev) : (effStatsRead e d).1 = d := by
  unfold effStatsRead; dsimp only
  split <;> rfl

theorem effTrackerStatus_fst {e : Entry} (h : (e.inl 12 1).testBit 0 = false) (d : Dev) : (effTrackerStatus e d).1 = d := by
  simp only [effTrackerStatus, h, Bool.false_eq_true, if_false]

theorem effCountersRead_fst {e : Entry} (h : (e.inl 12 1).testBit 0 = false) (d : Dev) : (effCountersRead e d).1 = d := by
  simp only [effCountersRead, h, Bool.false_eq_true, if_false]

/-- Settles O45: each effect leaves the unit as it is, so that what remains is the fetch, the answer and their reports. -/
theorem queriesKeepTheUnit : Obligations.QueriesKeepTheUnit := by
  intro s t e c hw hc hnext
  have answers {f extra eff} (h : ∀ d, (eff e d).1 = d) : s.dev.Tells (s.dev.hostCommand f extra eff e) :=
    Dev.hostCommand_tells_of_answers h _ _ _
  have htells : s.dev.Tells (s.dev.after c) := by
    simp only [List.mem_cons, List.not_mem_nil, or_false] at hc
    rcases hc with (rfl | rfl | rfl | rfl | rfl | rfl | rfl | rfl | rfl | rfl) | ⟨hkeep, rfl | rfl⟩
    · exact answers fun _ => rfl
    · exact answers fun _ => rfl
    · exact answers fun _ => rfl
    · exact answers fun _ => rfl
    · exact answers fun _ => rfl
    · exact answers fun _ => rfl
    · exact answers fun _ => rfl
    · exact answers fun _ => rfl
    · exact answers (effAuxRead_fst e)
    · exact answers (effStatsRead_fst e)
    · exact answers (effTrackerStatus_fst hkeep)
    · exact answers (effCountersRead_fst hkeep)
  rw [exec_eq_after] at hnext
  cases hnext
  exact ⟨(htells.2 hw).2, rfl⟩

end Sys2Proof.Machine
end

section
/-!
PROOFS. The command channel's queues: completions (R53, R57), doorbells (R51), and what a FENCE holds back (R52, R62).
-/

namespace Sys2Proof.Machine

/-! A queue after a write to one of its kind. -/

theorem Dev.setSq_sq (d : Dev) (q m : Nat) (x : Sq) : (d.setSq q x).sq m = if q % 64 = m % 64 then x else d.sq m := by
  simp only [Dev.setSq, Dev.sq, Vector.getElem_set]

theorem Dev.setCq_cq (d : Dev) (q m : Nat) (x : Cq) : (d.setCq q x).cq m = if q % 64 = m % 64 then x else d.cq m := by
  simp only [Dev.setCq, Dev.cq, Vector.getElem_set]

@[simp] theorem Dev.setCq_cq_same (d : Dev) (q : Nat) (x : Cq) : (d.setCq q x).cq q = x := by rw [Dev.setCq_cq, if_pos rfl]

@[simp] theorem Dev.setSq_cq (d : Dev) (q m : Nat) (x : Sq) : (d.setSq q x).cq m = d.cq m := rfl

theorem Dev.cq_of_chan {d t : Dev} (h : t.chan = d.chan) (q : Nat) : t.cq q = d.cq q := by rw [Dev.cq, h, Dev.cq]

theorem Dev.sq_of_chan {d t : Dev} (h : t.chan = d.chan) (q : Nat) : t.sq q = d.sq q := by rw [Dev.sq, h, Dev.sq]

@[simp] theorem Dev.evalVectors_cq (d : Dev) (l : List Nat) (q : Nat) : (d.evalVectors l).cq q = d.cq q :=
  Dev.cq_of_chan (d.evalVectors_chan l) q

/-! What evaluating vectors sends comes on top of what was sent. -/

theorem Dev.mem_out_vecEdge {o : Outbound} {d : Dev} (h : o ∈ d.out) (v : Nat) : o ∈ (d.vecEdge v).out := by
  unfold Dev.vecEdge
  split
  · exact h
  · exact List.mem_cons_of_mem _ h

theorem Dev.mem_out_evalVectors {o : Outbound} {d : Dev} (h : o ∈ d.out) (l : List Nat) : o ∈ (d.evalVectors l).out := by
  unfold Dev.evalVectors; dsimp only
  split
  · exact h
  · exact List.foldlRecOn (motive := fun d : Dev => o ∈ d.out) _ _ h fun _ hd v _ => Dev.mem_out_vecEdge hd v

/-! Completions (R53). -/

/-- R53: the queue after an entry at its tail: the tail wraps past the last index, and the phase turns with it. -/
def Cq.written (c : Cq) : Cq :=
  { c with tail := if c.tail = c.size then 0 else c.tail + 1, phase := c.phase != decide (c.tail = c.size) }

theorem Dev.writeCpl_cq (d : Dev) (q m : Nat) (x : Cpl) :
    (d.writeCpl q x).cq m = if q % 64 = m % 64 then (d.cq q).written else d.cq m := by
  have hphase : (if (d.cq q).tail = (d.cq q).size then !(d.cq q).phase else (d.cq q).phase) =
      ((d.cq q).phase != decide ((d.cq q).tail = (d.cq q).size)) := by
    split <;> simp [*]
  simp only [Dev.writeCpl, Dev.evalVectors_cq, Dev.setCq_cq, Cq.written, hphase]
  rfl

theorem Dev.mem_out_writeCpl (d : Dev) (q : Nat) (x : Cpl) :
    .cqe q (d.cq q).tail x (d.sq x.sq).head (d.cq q).phase ∈ (d.writeCpl q x).out :=
  Dev.mem_out_evalVectors (List.mem_cons_self ..) []

/-- What a completion counts before it goes out. -/
def Dev.counted (d : Dev) (x : Cpl) : Dev :=
  let d := if x.status = .ok then d else d.count Reg.REJECTS
  if x.status = .checkFail && x.detail = 1 then d.count Reg.ENTRY_CHECK_FAILS else d

@[simp] theorem Dev.counted_chan (d : Dev) (x : Cpl) : (d.counted x).chan = d.chan := by
  simp only [Dev.counted, apply_ite Dev.chan, Dev.count_chan, ite_self]

@[simp] theorem Dev.counted_cq (d : Dev) (x : Cpl) (q : Nat) : (d.counted x).cq q = d.cq q := Dev.cq_of_chan (d.counted_chan x) q

@[simp] theorem Dev.counted_sq (d : Dev) (x : Cpl) (q : Nat) : (d.counted x).sq q = d.sq q := Dev.sq_of_chan (d.counted_chan x) q

/-- R53: what becomes of a completion, by its queue. -/
theorem Dev.complete_eq (d : Dev) (x : Cpl) (q : Nat) :
    d.complete x q =
      let waits := (d.counted x).setCq q { d.cq q with waiting := (d.cq q).waiting ++ [x] }
      if (d.cq q).ready = false then d.counted x
      else if ((d.cq q).waiting.isEmpty && !(d.cq q).full) = true then (d.counted x).writeCpl q x
      else if (d.cq q).waiting.isEmpty = true then (waits.orBits Reg.CQ_STALL 1).raise { source := 5, data := [(1, q)] }
      else waits := by
  rw [← d.counted_cq x]
  simp only [← Bool.not_eq_true']
  rfl

theorem Dev.complete_of_room {d : Dev} {q : Nat} (x : Cpl) (hr : (d.cq q).ready = true) (hw : (d.cq q).waiting = [])
    (hf : (d.cq q).full = false) : d.complete x q = (d.counted x).writeCpl q x := by
  rw [d.complete_eq, if_neg (by simp [hr]), if_pos (by simp [hw, hf])]

/-- R53: a completion that finds its queue full, or others waiting for it, waits as the last. -/
theorem Dev.complete_cq_of_full {d : Dev} {q : Nat} (x : Cpl) (hr : (d.cq q).ready = true)
    (hfull : (d.cq q).waiting ≠ [] ∨ (d.cq q).full = true) :
    (d.complete x q).cq q = { d.cq q with waiting := (d.cq q).waiting ++ [x] } := by
  have hroom : ¬ ((d.cq q).waiting.isEmpty && !(d.cq q).full) = true := by
    rcases hfull with h | h <;> simp [h]
  have hstall (t : Dev) (o : Occ) : ((t.orBits Reg.CQ_STALL 1).raise o).cq q = t.cq q := Dev.cq_of_chan (by simp) q
  rw [d.complete_eq, if_neg (by simp [hr]), if_neg hroom, apply_ite (Dev.cq · q), hstall, ite_self, Dev.setCq_cq_same]

/-- Settles O44: nothing but reports in every case; the queue by whether it is ready and has room. -/
theorem completionsAreWritten : Obligations.CompletionsAreWritten := by
  intro d x q hw
  refine ⟨((d.complete_tells x q).2 hw).2, fun hr => ?unready, fun hr hnone hfull => ⟨?tail, ?sent⟩, fun hr hfull => ?full⟩
  case unready => rw [d.complete_eq, if_pos hr, Dev.counted_cq]
  case tail =>
    rw [Dev.complete_of_room x hr hnone hfull, Dev.writeCpl_cq, if_pos rfl, Dev.counted_cq]
    rfl
  case sent =>
    rw [Dev.complete_of_room x hr hnone hfull]
    simpa only [Dev.counted_cq, Dev.counted_sq] using (d.counted x).mem_out_writeCpl q x
  case full => exact Dev.complete_cq_of_full x hr hfull

/-! The queue that is fetched from next (R52). -/

/-- R52: what is fetched from next can be fetched from. -/
theorem Dev.canFetch_of_nextSq {d : Dev} {q : Nat} (h : d.nextSq = some q) : d.canFetch q = true := by
  unfold Dev.nextSq at h
  split at h
  case isTrue h0 => cases h; exact h0
  split at h
  case isTrue => cases h
  split at h
  case isTrue hturn =>
    cases h
    simp only [Bool.and_eq_true] at hturn
    exact hturn.2
  · have := List.find?_some h
    simp only [Bool.and_eq_true] at this
    exact this.2

theorem Dev.nextSq_ne_of_not_canFetch {d : Dev} {q : Nat} (h : d.canFetch q = false) : d.nextSq ≠ some q := fun hn => by
  rw [Dev.canFetch_of_nextSq hn] at h
  exact Bool.false_ne_true h.symm

/-- R51: an empty queue. -/
theorem Dev.not_canFetch_of_empty {d : Dev} {q : Nat} (h : (d.sq q).head = (d.sq q).tail) : d.canFetch q = false := by
  simp [Dev.canFetch, h]

/-- R62: a queue whose FENCE waits. -/
theorem Dev.not_canFetch_of_fenced {d : Dev} {q : Nat} (h : (d.sq q).fenced.isSome = true) : d.canFetch q = false := by
  simp [Dev.canFetch, Option.isNone_eq_false_iff.2 h]

/-- The turns of R52 come to every queue. -/
theorem mem_turns {turn q : Nat} (h : q < 64) : q ∈ (List.range 64).map (fun i => (turn + 1 + i) % 64) :=
  List.mem_map.2 ⟨(q + 64 - (turn + 1) % 64) % 64, List.mem_range.2 (Nat.mod_lt _ (by decide)), by omega⟩

/-- R52: as long as SQ0 does not hold the others up, some queue is fetched from where one can be. -/
theorem Dev.nextSq_isSome {d : Dev} {q : Nat} (hq : q < 64) (h : d.canFetch q = true)
    (h0 : d.canFetch 0 = true ∨ d.sq0Holds = false) : d.nextSq.isSome = true := by
  unfold Dev.nextSq
  split
  · rfl
  · next hnot =>
    rw [if_neg (by simpa [hnot] using h0)]
    split
    · rfl
    · have hne : q ≠ 0 := by rintro rfl; exact hnot h
      exact List.find?_isSome.2 ⟨q, mem_turns hq, by simp [hne, h]⟩

/-! FENCE (R62). -/

theorem Dev.cqOf_of_sqs {d t : Dev} {q : Nat} (h : t.sq q = d.sq q) : t.cqOf q = d.cqOf q := by rw [Dev.cqOf, h, Dev.cqOf]

theorem Dev.setSq_canFetch_of_ne {d : Dev} {q r : Nat} (x : Sq) (h : q % 64 ≠ r % 64) : (d.setSq q x).canFetch r = d.canFetch r := by
  have hs : (d.setSq q x).sq r = d.sq r := by rw [Dev.setSq_sq, if_neg h]
  simp only [Dev.canFetch, hs, Dev.cqOf_of_sqs hs, Dev.setSq_cq]

/-- R62: a FENCE that is over is found. -/
theorem Dev.fenceOver_of_free {d : Dev} {q : Nat} (hq : q < 64) (hf : (d.sq q).fenced.isSome = true) (hb : d.busySq q = false) :
    ∃ x r, d.fenceOver = some x ∧ (d.sq r).fenced = some x ∧ d.busySq r = false := by
  have hsome : d.fenceOver.isSome = true :=
    List.findSome?_isSome_iff.2 ⟨q, List.mem_range.2 hq, by simpa [hb] using hf⟩
  obtain ⟨x, hx⟩ := Option.isSome_iff_exists.1 hsome
  obtain ⟨r, -, hr⟩ := List.exists_of_findSome?_eq_some hx
  split at hr
  · cases hr
  · next hfree => exact ⟨x, r, hx, hr, by simpa using hfree⟩

/-- R62: an entry with FENCE that passes its checks waits behind the commands fetched before it. -/
theorem Dev.hostCommand_of_fence {d : Dev} {f : Form} {check : Entry → Dev → Option Nat} {e : Entry} (eff : Entry → Dev → Dev × Reply)
    (hnext : d.nextSq = some e.sq.val) (hfence : e.fence = true) (hbusy : d.busySq e.sq = true)
    (hpass : (d.fetched e.sq).refuses f check e = none) :
    d.hostCommand f check eff e =
      (d.fetched e.sq).setSq e.sq { (d.fetched e.sq).sq e.sq with fenced := some ⟨f.code, e, false⟩ } := by
  simp only [Dev.hostCommand, hnext, hpass, hfence, Dev.fetched_busySq, hbusy, ne_eq, not_true_eq_false, Bool.and_self, if_false, if_true]

theorem Dev.setSq_refusesNow (d : Dev) (q : Nat) (x : Sq) (f : Form) : (d.setSq q x).refusesNow f = d.refusesNow f := rfl

/-- Settles O56: the fetch and checks of a fenced entry, what can be fetched while it waits, and its dispatch. -/
theorem fenceHoldsItsQueue : Obligations.FenceHoldsItsQueue := by
  intro d
  refine ⟨?waits, fun q hf => Dev.nextSq_ne_of_not_canFetch (Dev.not_canFetch_of_fenced hf),
    fun q r x hne => Dev.setSq_canFetch_of_ne _ hne, fun q hq hc h0 => ?others, fun q hq hf hb => Dev.fenceOver_of_free hq hf hb,
    ?dispatched⟩
  case waits =>
    intro f check eff e hnext hfence hbusy n hpass
    exact Dev.hostCommand_of_fence eff hnext hfence hbusy hpass
  case others =>
    obtain ⟨r, hr⟩ := Option.isSome_iff_exists.1 (Dev.nextSq_isSome hq hc h0)
    exact ⟨r, hr, Dev.canFetch_of_nextSq hr⟩
  case dispatched =>
    intro x htime hpass
    simp only [Dev.unfence, Dev.setSq_refusesNow, hpass, htime, Bool.false_eq_true, if_false]

/-! Writes of one register (R36, R47). -/

theorem Dev.resetCheck_of_none {d : Dev} (h : d.power.resetAsk = none) : d.resetCheck = d := by simp only [Dev.resetCheck, h]

/-- R36: an aligned write of one word in BAR0. -/
theorem Dev.hostWrite_bar0 {d : Dev} {off : Nat} (v : Nat) (hon : d.memoryOn = true) (halign : off % 4 = 0)
    (hin : off + 4 ≤ 2 ^ 20) : d.hostWrite 0 off 4 v = (d.writeBar0 off (v % 2 ^ 32)).resetCheck := by
  have hsize : ¬ barSize 0 < off + 4 := Nat.not_lt.2 hin
  simp [Dev.hostWrite, Dev.writeReg, hsize, hon, halign]

theorem Dev.writeBar0_sqTail (d : Dev) {n : Nat} (v : Nat) (h : n < 64) : d.writeBar0 (0x1000 + 16 * n) v = d.writeSqTail n v := by
  have hn : (0x1000 + 16 * n - 0x1000) / 16 = n := by omega
  have hoff : (0x1000 + 16 * n) % 16 = 0 := by omega
  rw [Dev.writeBar0, if_neg (by omega), if_pos (by simp; omega)]
  simp only [hn, hoff]

theorem Dev.writeBar0_cqHead (d : Dev) {n : Nat} (v : Nat) (h : n < 64) : d.writeBar0 (0x1008 + 16 * n) v = d.writeCqHead n v := by
  have hn : (0x1008 + 16 * n - 0x1000) / 16 = n := by omega
  have hoff : (0x1008 + 16 * n) % 16 = 8 := by omega
  rw [Dev.writeBar0, if_neg (by omega), if_pos (by simp; omega)]
  simp only [hn, hoff]

/-! Doorbells (R51). -/

/-- R51: a tail doorbell, by the queue's state and size. -/
theorem Dev.writeSqTail_eq (d : Dev) (n v : Nat) :
    d.writeSqTail n v =
      if (d.sq n).enable = false then d else if (d.sq n).size < v % 4096 then d.setSq n { d.sq n with dbErr := true }
      else d.setSq n { d.sq n with tail := v % 4096 } := by
  simp only [Dev.writeSqTail, Bool.not_eq_true']

theorem Dev.writeSqTail_power (d : Dev) (n v : Nat) : (d.writeSqTail n v).power = d.power := by
  rw [d.writeSqTail_eq]
  simp only [apply_ite Dev.power, Dev.setSq_power, ite_self]

/-- R53: completions that leave the waiting list move the tail and the phase, and no other field of their queue. -/
theorem Dev.drainCq_cq_same (d : Dev) (n k : Nat) :
    ((d.drainCq n k).cq n).head = (d.cq n).head ∧ ((d.drainCq n k).cq n).dbErr = (d.cq n).dbErr := by
  induction k generalizing d with
  | zero => exact ⟨rfl, rfl⟩
  | succ k ih =>
    unfold Dev.drainCq; dsimp only
    split
    · exact ⟨rfl, rfl⟩
    · next x rest _ =>
      split
      · exact ⟨rfl, rfl⟩
      · obtain ⟨hhead, herr⟩ := ih (((d.setCq n { d.cq n with waiting := rest })).writeCpl n x)
        rw [Dev.writeCpl_cq, if_pos rfl, Dev.setCq_cq_same] at hhead herr
        exact ⟨hhead, herr⟩

/-- R51: a head doorbell, by the queue's state and size. -/
theorem Dev.writeCqHead_eq (d : Dev) (n v : Nat) :
    d.writeCqHead n v =
      if (d.cq n).enable = false then d else if (d.cq n).size < v % 4096 then d.setCq n { d.cq n with dbErr := true }
      else ((d.setCq n { d.cq n with head := v % 4096 }).drainCq n (d.cq n).waiting.length).evalVectors
        (if (d.cq n).irqEn then [(d.cq n).vector] else []) := by
  simp only [Dev.writeCqHead, Bool.not_eq_true']

theorem Dev.setCq_tells (d : Dev) (q : Nat) (x : Cq) : d.Tells (d.setCq q x) := .of_eq rfl rfl

theorem Dev.drainCq_tells (d : Dev) (n k : Nat) : d.Tells (d.drainCq n k) := by
  induction k generalizing d with
  | zero => exact .refl d
  | succ k ih =>
    unfold Dev.drainCq; dsimp only
    split
    · exact .refl d
    · split
      · exact .refl d
      · exact ((d.setCq_tells _ _).trans (Dev.writeCpl_tells _ _ _)).trans (ih _)

theorem Dev.writeCqHead_tells (d : Dev) (n v : Nat) : d.Tells (d.writeCqHead n v) := by
  rw [d.writeCqHead_eq]
  exact .ite (.refl d) (.ite (d.setCq_tells _ _)
    (((d.setCq_tells _ _).trans (Dev.drainCq_tells _ _ _)).trans (Dev.evalVectors_tells _ _)))

theorem Dev.still_power {d t : Dev} (h : t.still = d.still) : t.power = d.power := congrArg (·.1.2.2.2.2.2.2.1) h

/-- R51: a head doorbell that its queue takes. -/
theorem Dev.writeCqHead_cq_same {d : Dev} {n v : Nat} (he : (d.cq n).enable = true) (hv : v % 4096 ≤ (d.cq n).size) :
    ((d.writeCqHead n v).cq n).head = v % 4096 ∧ ((d.writeCqHead n v).cq n).dbErr = (d.cq n).dbErr := by
  have hkept := (d.setCq n { d.cq n with head := v % 4096 }).drainCq_cq_same n (d.cq n).waiting.length
  rw [Dev.setCq_cq_same] at hkept
  rw [d.writeCqHead_eq, if_neg (by simp [he]), if_neg (Nat.not_lt.2 hv), Dev.evalVectors_cq]
  exact hkept

section
variable {d : Dev} (hon : d.memoryOn = true) (hreset : d.power.resetAsk = none) (n : Fin 64) (v : Word)
include hon hreset

theorem Dev.sqTail_eq : d.sqTail n v.toNat = d.writeSqTail n v.toNat := by
  have hpower := d.writeSqTail_power n v.toNat
  rw [Dev.sqTail, Dev.hostWrite_bar0 _ hon (by omega) (by omega), Nat.mod_eq_of_lt v.isLt, d.writeBar0_sqTail _ n.isLt,
    Dev.resetCheck_of_none (by rw [hpower, hreset])]

theorem Dev.cqHead_eq : d.cqHead n v.toNat = d.writeCqHead n v.toNat := by
  have hpower := Dev.still_power (d.writeCqHead_tells n v.toNat).1
  rw [Dev.cqHead, Dev.hostWrite_bar0 _ hon (by omega) (by omega), Nat.mod_eq_of_lt v.isLt, d.writeBar0_cqHead _ n.isLt,
    Dev.resetCheck_of_none (by rw [hpower, hreset])]

end

theorem Dev.readBar0_sqTail (d : Dev) {n : Nat} (h : n < 64) : (d.readReg 0 (0x1000 + 16 * n)).2 = (d.sq n).tail := by
  have hn : (0x1000 + 16 * n - 0x1000) / 16 = n := by omega
  have hoff : (0x1000 + 16 * n) % 16 = 0 := by omega
  rw [Dev.readReg, Dev.readBar0, if_neg (by omega), if_pos (by simp; omega)]
  simp only [hn, hoff]

theorem Dev.readBar0_cqHead (d : Dev) {n : Nat} (h : n < 64) : (d.readReg 0 (0x1008 + 16 * n)).2 = (d.cq n).head := by
  have hn : (0x1008 + 16 * n - 0x1000) / 16 = n := by omega
  have hoff : (0x1008 + 16 * n) % 16 = 8 := by omega
  rw [Dev.readReg, Dev.readBar0, if_neg (by omega), if_pos (by simp; omega)]
  simp only [hn, hoff]

/-- R36: a 32-bit REGISTER_WRITE is the host's write of that word. -/
theorem exec_registerWrite_bar0 (s : State) {off : Nat} (v : Word) (h : off < 2 ^ 20) :
    exec (.registerWrite 0 (BitVec.ofNat 20 off) false (v.setWidth 64)) s = .next (s.to (s.dev.hostWrite 0 off 4 v.toNat)) := by
  have hoff : (BitVec.ofNat 20 off).toNat = off := by rw [BitVec.toNat_ofNat, Nat.mod_eq_of_lt h]
  have hv : (v.setWidth 64).toNat = v.toNat := BitVec.toNat_setWidth_of_le (by decide)
  simp only [exec, execRegisterWrite, hoff, hv, State.to]
  rfl

/-- Settles O55: the two writes of a queue's doorbells, by its state and its size. -/
theorem doorbellsFollowTheirQueues : Obligations.DoorbellsFollowTheirQueues := by
  intro s n v hon hreset d x sqOff cqOff q c
  have hn := n.isLt
  have htail : exec (.sqTail n v) s = .next (s.to (d.writeSqTail n v.toNat)) := next_to_congr s (Dev.sqTail_eq hon hreset n v)
  have hhead : exec (.cqHead n v) s = .next (s.to (d.writeCqHead n v.toNat)) := next_to_congr s (Dev.cqHead_eq hon hreset n v)
  refine ⟨exec_registerWrite_bar0 s v (by omega), exec_registerWrite_bar0 s v (by omega), ?tail, fun he => ?disabled, fun he hv => ?above,
    fun he hv t ht => ?moved, d.readBar0_sqTail hn, d.readBar0_cqHead hn,
    fun h => Dev.nextSq_ne_of_not_canFetch (Dev.not_canFetch_of_empty h)⟩
  case tail => rw [htail, Dev.writeSqTail_eq]
  case disabled => rw [hhead, Dev.writeCqHead_eq, if_pos he]; rfl
  case above => rw [hhead, Dev.writeCqHead_eq, if_neg (by rw [show (d.cq n).enable = true from he]; decide), if_pos hv]
  case moved =>
    rw [hhead] at ht
    cases ht
    exact Dev.writeCqHead_cq_same he hv

end Sys2Proof.Machine
end

section
/-!
PROOFS. The frame of PARAM_STAGE and TABLE_WRITE (R70, R72, R79): they reach neither a word in effect nor a shadow table.
-/

namespace Sys2Proof.Machine

/-! What a host command leaves of the generations and the shadow tables. -/

/-- The tables and generations of the command channel: the shadow copies, and what is in effect or waits for its boundary. -/
def Channel.settings (c : Channel) : Store × List Conf := (c.shadow, c.confs)

@[simp] theorem Dev.writeCpl_settings (d : Dev) (q : Nat) (x : Cpl) : (d.writeCpl q x).chan.settings = d.chan.settings := by
  simp only [Dev.writeCpl, Dev.evalVectors_chan]
  rfl

@[simp] theorem Dev.setCq_settings (d : Dev) (q : Nat) (x : Cq) : (d.setCq q x).chan.settings = d.chan.settings := rfl

@[simp] theorem Dev.complete_settings (d : Dev) (x : Cpl) (q : Nat) : (d.complete x q).chan.settings = d.chan.settings := by
  simp only [d.complete_eq, apply_ite Dev.chan, apply_ite Channel.settings, Dev.writeCpl_settings, Dev.raise_chan, Dev.orBits_chan,
    Dev.setCq_settings, Dev.counted_chan, ite_self]

@[simp] theorem Dev.answer_settings (d : Dev) (sq tag addr op : Nat) (r : Reply) :
    (d.answer sq tag addr op r).chan.settings = d.chan.settings := by
  simp only [Dev.answer, Dev.complete_settings, Dev.setChan_chan, Dev.writeBuffer_chan]
  rfl

@[simp] theorem Dev.refused_settings (d : Dev) (op : Nat) (e : Entry) (r : Reply) :
    (d.refused op e r).chan.settings = d.chan.settings := by
  simp only [Dev.refused, Dev.turnAway, Dev.complete_settings, apply_ite Dev.chan, Dev.noteEntryCheck, Dev.raise_chan, ite_self]

theorem turnTaken_settings (q : Nat) (c : Channel) :
    (if c.turn = q && decide (0 < c.turnLeft) then { c with turnLeft := c.turnLeft - 1 } else { c with turn := q, turnLeft := 7 }).settings =
      c.settings := by
  split <;> rfl

@[simp] theorem Dev.fetched_settings (d : Dev) (q : Nat) : (d.fetched q).chan.settings = d.chan.settings := by
  obtain ⟨o, h⟩ := d.readHost_eq ((d.sq q).baseLo + 2 ^ 32 * (d.sq q).baseHi + 64 * (d.sq q).head) 64
  simp only [Dev.fetched, h]
  split
  · rfl
  · exact turnTaken_settings q _

@[simp] theorem Dev.readBuffer_chan (d : Dev) (f : Form) (e : Entry) : (d.readBuffer f e).chan = d.chan := by
  obtain ⟨o, h⟩ := d.readBuffer_eq f e; rw [h]

/-- R55: a host command leaves the generations and the shadow tables as its effect does. -/
theorem Dev.hostCommand_settings {eff : Entry → Dev → Dev × Reply} (he : ∀ e d, (eff e d).1.chan.settings = d.chan.settings) (d : Dev)
    (f : Form) (extra : Entry → Dev → Option Nat) (e : Entry) : (d.hostCommand f extra eff e).chan.settings = d.chan.settings := by
  have hexec (d : Dev) : (d.execute f eff e).chan.settings = d.chan.settings := by
    unfold Dev.execute
    split
    · exact d.answer_settings _ _ _ _ _
    · have heff := (he e (d.readBuffer f e)).trans (congrArg Channel.settings (d.readBuffer_chan f e))
      dsimp only
      split
      · exact heff
      · exact (Dev.answer_settings _ _ _ _ _ _).trans heff
  unfold Dev.hostCommand Dev.dispatch
  split
  · rfl
  · refine Eq.trans ?_ (d.fetched_settings e.sq)
    dsimp only
    split
    · exact Dev.refused_settings _ _ _ _
    · split
      · rfl
      · split
        · rfl
        · exact hexec _

/-! Staged words. -/

/-- The words whose writing sets something going, by page. -/
def actsOn (page w : Nat) : Bool :=
  match page with
  | 0x0100 => w == 0x10
  | 0x0200 => w == 3
  | 0x0280 => w == 0
  | 0x0300 => decide (w < 0x60) && w % 16 == 0x0A
  | 0x0600 => w == 6
  | 0x0800 => w == 0x2C
  | 0x0900 => w == 0x80 || w == 0x81
  | 0x0980 => decide (w < 64)
  | 0x0B00 => w == 0x10
  | 0x0D00 => w == 0x10
  | 0x0E00 => w == 2 || w == 3 || w == 0x22 || w == 0x27
  | _ => false

theorem Dev.wordActs_of_inert {page w : Nat} (h : actsOn page w = false) (old d : Dev) (v : Nat) :
    Dev.wordActs old page d (w, v) = d := by
  unfold Dev.wordActs
  unfold actsOn at h
  dsimp only
  split <;> simp only [Bool.or_eq_false_iff, Bool.and_eq_false_imp, beq_eq_false_iff_ne, decide_eq_false_iff_not,
    decide_eq_true_eq, ne_eq] at h
  · exact if_pos h
  · simp only [h, decide_false, Bool.false_and, Bool.false_eq_true, if_false]
  · simp only [h, decide_false, Bool.false_and, Bool.false_eq_true, if_false]
  · refine if_neg fun hc => ?_
    simp only [Bool.and_eq_true, decide_eq_true_eq] at hc
    exact h hc.1.1 hc.1.2
  · exact if_pos h
  · exact if_neg h
  · simp only [h.1, h.2, decide_false, Bool.or_false, Bool.false_eq_true, if_false]
  · exact if_neg h
  · exact if_neg h
  · exact if_neg h
  · obtain ⟨⟨⟨hwarn, hhyst⟩, hdiode⟩, hcap⟩ := h
    split
    · exact absurd rfl hwarn
    · exact absurd rfl hhyst
    · exact absurd rfl hdiode
    · exact absurd rfl hcap
    · rfl
  · rfl

/-- R69: no staged word sets anything going. -/
theorem not_isStaged_of_actsOn {page w : Nat} (h : actsOn page w = true) : isStaged page w = false := by
  have flips : ∀ w < 0x60, w % 16 = 0x0A → isStaged 0x0300 w = false := by decide
  have codes : ∀ w < 64, isStaged 0x0980 w = false := by decide
  unfold actsOn at h
  split at h <;> simp only [Bool.and_eq_true, Bool.or_eq_true, beq_iff_eq, decide_eq_true_eq, Bool.false_eq_true] at h
  · subst h; decide
  · subst h; decide
  · subst h; decide
  · exact flips w h.1 h.2
  · subst h; decide
  · subst h; decide
  · rcases h with rfl | rfl <;> decide
  · exact codes w h
  · subst h; decide
  · subst h; decide
  · rcases h with ((rfl | rfl) | rfl) | rfl <;> decide

theorem Dev.wordActs_of_staged {page : Nat} {p : Nat × Nat} (h : isStaged page p.1 = true) (old d : Dev) :
    Dev.wordActs old page d p = d :=
  Dev.wordActs_of_inert (by rw [← Bool.not_eq_true]; exact fun ha => by rw [not_isStaged_of_actsOn ha] at h; cases h) old d p.2

/-- Pending values alone. -/
def Dev.Staged (d t : Dev) : Prop := ∃ p, t = d.setChan fun c => { c with pend := p }

theorem Dev.Staged.refl (d : Dev) : d.Staged d := ⟨d.chan.pend, rfl⟩

theorem Dev.Staged.trans {a b c : Dev} (h : a.Staged b) (h' : b.Staged c) : a.Staged c := by
  obtain ⟨p, rfl⟩ := h
  obtain ⟨q, rfl⟩ := h'
  exact ⟨q, rfl⟩

theorem Dev.Staged.tells {d t : Dev} (h : d.Staged t) : d.Tells t := by
  obtain ⟨p, rfl⟩ := h; exact .of_eq rfl rfl

theorem Dev.Staged.settings {d t : Dev} (h : d.Staged t) : t.chan.settings = d.chan.settings := by
  obtain ⟨p, rfl⟩ := h; rfl

theorem Dev.storeWord_staged {page w : Nat} (d : Dev) (v : Nat) (h : isStaged page w = true) : d.Staged (d.storeWord page w v) :=
  ⟨_, d.storeWord_of_staged v h⟩

/-- R69: staged words that are stored together join the pending values, and set nothing going. -/
theorem Dev.storeWords_staged {page first : Nat} {ws : List Nat} (d : Dev)
    (h : ∀ i < ws.length, isStaged page (first + i) = true) : d.Staged (d.storeWords page first ws) := by
  have hps : ∀ p ∈ (List.range ws.length).map (fun i => (first + i, (ws[i]?).getD 0)), isStaged page p.1 = true := by
    simpa using h
  unfold Dev.storeWords
  revert hps
  generalize (List.range ws.length).map (fun i => (first + i, (ws[i]?).getD 0)) = ps
  intro hps
  have hstore : d.Staged (ps.foldl (fun d p => d.storeWord page p.1 p.2) d) :=
    List.foldlRecOn (motive := d.Staged) ps _ (.refl d) fun t ht p hp => ht.trans (t.storeWord_staged p.2 (hps p hp))
  exact List.foldlRecOn (motive := d.Staged) ps _ hstore fun t ht p hp => by
    rw [Dev.wordActs_of_staged (hps p hp)]; exact ht

/-- R69: PARAM_STAGE stages words alone. -/
theorem Dev.isStaged_of_wordsBad {d : Dev} {e : Entry} (h : d.wordsBad true e = none) {i : Nat} (hi : i < e.params.length) :
    isStaged e.page (e.word + i) = true := by
  unfold Dev.wordsBad at h
  dsimp only at h
  split at h
  · cases h
  · next hall =>
    simp only [List.any_eq_true, not_exists, not_and, List.mem_range] at hall
    simpa using (by simpa using hall i hi : _ ∧ _).2

theorem effParamStage_staged (e : Entry) (d : Dev) : d.Staged (effParamStage e d).1 := by
  unfold effParamStage
  split
  · exact .refl d
  · next hgood => exact d.storeWords_staged fun i hi => Dev.isStaged_of_wordsBad hgood hi

theorem refused_or {c : Prop} [Decidable c] {rep : Reply} {r : Dev × Reply} {d a : Dev} (h : r.1 = d ∨ r.1 = a) :
    (if c then (d, rep) else r).1 = d ∨ (if c then (d, rep) else r).1 = a := by
  split
  · exact .inl rfl
  · exact h

/-- R79: a TABLE_WRITE that passes its checks is at work; one that fails them is not. -/
theorem effTableWrite_cases (e : Entry) (d : Dev) :
    (effTableWrite e d).1 = d ∨
      (effTableWrite e d).1 = d.setChan (fun c => { c with
        writes := c.writes ++ [⟨e.sq, e.tag.toNat, e.table, e.inst, e.offset, leWords e.data⟩] }) := by
  dsimp only [effTableWrite]
  iterate 6 refine refused_or ?_
  exact .inr rfl

theorem effTableWrite_tells (e : Entry) (d : Dev) : d.Tells (effTableWrite e d).1 := by
  obtain h | h := effTableWrite_cases e d <;> rw [h]
  · exact .refl d
  · exact .of_eq rfl rfl

theorem effTableWrite_settings (e : Entry) (d : Dev) : (effTableWrite e d).1.chan.settings = d.chan.settings := by
  obtain h | h := effTableWrite_cases e d <;> rw [h]
  rfl

/-- Settles O46: staged words join the pending values, a table write the writes at work, and the answer only reports. -/
theorem stagingKeepsTheUnit : Obligations.StagingKeepsTheUnit := by
  intro s t e c hw hc hnext
  have hkept : s.dev.Tells (s.dev.after c) ∧ (s.dev.after c).chan.settings = s.dev.chan.settings := by
    simp only [List.mem_cons, List.not_mem_nil, or_false] at hc
    rcases hc with rfl | rfl
    · exact ⟨Dev.hostCommand_tells (fun e d => (effParamStage_staged e d).tells) _ _ _ _,
        Dev.hostCommand_settings (fun e d => (effParamStage_staged e d).settings) _ _ _ _⟩
    · exact ⟨Dev.hostCommand_tells effTableWrite_tells _ _ _ _, Dev.hostCommand_settings effTableWrite_settings _ _ _ _⟩
  obtain ⟨htells, hsettings⟩ := hkept
  simp only [Channel.settings, Prod.mk.injEq] at hsettings
  rw [exec_eq_after] at hnext
  cases hnext
  exact ⟨(htells.2 hw).2, rfl, hsettings⟩

end Sys2Proof.Machine
end

section
/-!
PROOFS. What accepted commands that bring settings write (R69 to R79, R197), where the last step of a table write puts its words (R77,
R196, R338, R444), and how long commands begin (R60, R445, R446, R486, R503).
-/

namespace Sys2Proof.Machine

/-! What comes before an effect leaves. -/

@[simp] theorem Dev.begun_pipe (d : Dev) (f : Form) (e : Entry) : (d.begun f e).pipe = d.pipe := by
  obtain ⟨c, o, h⟩ := d.begun_eq f e; rw [h]

@[simp] theorem Dev.abortAuto_runOn (d : Dev) : d.abortAuto.runOn = d.runOn := by
  simp only [Dev.runOn, Dev.abortAuto, apply_ite Dev.arr, Dev.put_arr, ite_self]

/-! Parameter words, generations and banks. -/

/-- R70, R71: a PARAM_WRITE whose words pass, none of them locked. -/
theorem effParamWrite_of_good {e : Entry} {d : Dev} (h : d.wordsBad false e = none)
    (hfree : ∀ i, i < e.count → d.lockedWord e.page (e.word + i) = none) :
    effParamWrite e d = (d.storeWords e.page e.word e.params, {}) := by
  have hnone : (List.range e.count).findSome? (fun i => d.lockedWord e.page (e.word + i)) = none :=
    List.findSome?_eq_none_iff.2 fun i hi => hfree i (List.mem_range.1 hi)
  simp only [effParamWrite, h, hnone]

/-- R69, R73: a PARAM_STAGE whose words pass. -/
theorem effParamStage_of_good {e : Entry} {d : Dev} (h : d.wordsBad true e = none) :
    effParamStage e d = (d.storeWords e.page e.word e.params, { result := (d.genNewest + 1) % 2 ^ 16 }) := by
  simp only [effParamStage, h]

/-- R75: a COMMIT with room for its generation, whose maps pass their checks. -/
theorem effCommit_of_good {e : Entry} {d : Dev} (hroom : d.genPending < 4) (hmaps : d.mapsBad d.nextConf = (none, none)) :
    effCommit e d = ((d.commit (e.inl 12 1 % 4)).1,
      { detail := if d.shadowBusy then 1 else 0, result := (d.commit (e.inl 12 1 % 4)).2 }) := by
  simp only [effCommit, Dev.tryCommit, if_neg (Nat.not_le.2 hroom), hmaps]
  rfl

/-- R78: what a TABLE_WRITE's words must meet, by their table. -/
structure TableWordsPass (e : Entry) (d : Dev) : Prop where
  crc : crc32c e.data = e.inl 12 4
  calibration : 1 ≤ e.table → e.table ≤ 3 → d.calibrates e.inst = false
  order : e.table = 0x0A → ∀ w ∈ leWords e.data, w.toNat % 8 ≤ 4
  lanes : e.table = 0x0D → d.st = .idle
  recipe : e.table = 0x11 → e.offset = 0 ∧
    (leWords e.data = [0] ∨ (imageLength (leWords e.data) = e.bufLen.toNat ∧ imageGood (leWords e.data) = true))

/-- R79: a TABLE_WRITE whose words pass is at work. -/
theorem effTableWrite_of_pass {e : Entry} {d : Dev} (h : TableWordsPass e d) :
    effTableWrite e d = (d.setChan (fun c => { c with
      writes := c.writes ++ [⟨e.sq, e.tag.toNat, e.table, e.inst, e.offset, leWords e.data⟩] }), { held := true }) := by
  have hcal : ¬ (decide (1 ≤ e.table) && decide (e.table ≤ 3) && d.calibrates e.inst) = true := by
    simp only [Bool.and_eq_true, decide_eq_true_eq, not_and, Bool.not_eq_true]
    exact fun hids => h.calibration hids.1 hids.2
  have horder : ¬ (decide (e.table = 0x0A) && (leWords e.data).any (fun w => decide (4 < w.toNat % 8))) = true := by
    simp only [Bool.and_eq_true, decide_eq_true_eq, List.any_eq_true, not_and, not_exists, Nat.not_lt]
    exact h.order
  have hlanes : ¬ (decide (e.table = 0x0D) && decide (d.st ≠ .idle)) = true := by
    simpa using h.lanes
  have hlength : ¬ (decide (e.table = 0x11) &&
      !(e.offset == 0 && (leWords e.data == [0] || imageLength (leWords e.data) == e.bufLen.toNat))) = true := by
    simp only [Bool.and_eq_true, decide_eq_true_eq, Bool.not_eq_true', not_and, Bool.not_eq_false, beq_iff_eq, Bool.or_eq_true]
    exact fun hid => ⟨(h.recipe hid).1, (h.recipe hid).2.imp_right And.left⟩
  have himage : ¬ (decide (e.table = 0x11) && decide (leWords e.data ≠ [0]) && !imageGood (leWords e.data)) = true := by
    simp only [Bool.and_eq_true, decide_eq_true_eq, Bool.not_eq_true', not_and, Bool.not_eq_false]
    exact fun hids => ((h.recipe hids.1).2.resolve_left hids.2).2
  unfold effTableWrite
  dsimp only
  rw [if_neg (not_not_intro h.crc), if_neg hcal, if_neg horder, if_neg hlanes, if_neg hlength, if_neg himage]

/-- Settles O4: each command by its effect once the checks that the statement names have passed. -/
theorem settingsAreWritten : Obligations.SettingsAreWritten := by
  intro s e
  refine ⟨?paramWrite, ?paramStage, ?commit, ?tableWrite, ?fade, ?swap⟩
  case paramWrite =>
    intro ha d hgood hfree
    exact next_to_congr s (Dev.hostCommand_answers effParamWrite ha (effParamWrite_of_good hgood hfree) rfl)
  case paramStage =>
    intro ha d hgood
    exact next_to_congr s (Dev.hostCommand_answers effParamStage ha (effParamStage_of_good hgood) rfl)
  case commit =>
    intro ha d hroom hmaps
    exact next_to_congr s (Dev.hostCommand_answers effCommit ha (effCommit_of_good hroom hmaps) rfl)
  case tableWrite =>
    intro ha d hcrc hcal horder hlanes hrecipe
    have hpass : TableWordsPass e d := ⟨hcrc, hcal, horder, hlanes, hrecipe⟩
    exact next_to_congr s (Dev.hostCommand_holds effTableWrite ha (effTableWrite_of_pass hpass) rfl)
  case fade =>
    intro ha d hfade hrun atFrame start stop fade
    have hidle : ¬ d.pipe.fade.isSome = true := by rw [Dev.begun_pipe, hfade]; decide
    have hon : ¬ (!(d.arr.running && d.arr.begun)) = true := by rw [Dev.begun_arr, hrun]; decide
    exact next_to_congr s (Dev.hostCommand_answers effBankSwap ha ((if_neg hidle).trans (if_neg hon)) rfl)
  case swap =>
    intro ha d hfade hrun a t
    have hidle : ¬ d.pipe.fade.isSome = true := by rw [Dev.begun_pipe, hfade]; decide
    have hoff : (!(d.arr.running && d.arr.begun)) = true := by rw [Dev.begun_arr, hrun]; decide
    exact next_to_congr s (Dev.hostCommand_answers effBankSwap ha ((if_neg hidle).trans (if_pos hoff)) rfl)

/-! The last step of a table write. -/

/-- R196: the oldest TABLE_WRITE at work reaches its last step. -/
theorem exec_tableWriteApply {s : State} {w : TableWrite} {rest : List TableWrite} {t : Dev} {r : Reply}
    (hrun : s.dev.baro.halted = false) (hw : s.dev.chan.writes = w :: rest)
    (happly : (s.dev.setChan (fun c => { c with writes := rest })).applyWrite w = (t, r)) :
    exec .tableWriteApply s = .next (s.to (t.finish ⟨w.sq, w.tag, 0x0205, false⟩ r)) := by
  refine next_to_congr s (d := s.dev.tableApply) ?_
  simp only [Dev.tableApply, hrun, hw, happly, Bool.false_eq_true, if_false]

section
variable {d : Dev} {w : TableWrite}

/-- R77: a shadow table. -/
theorem Dev.applyWrite_of_shadow (h : w.table ∉ [0x04, 0x05, 0x0D, 0x10, 0x11]) :
    d.applyWrite w = (d.setChan (fun c => { c with
      shadow := Store.putAll tableDefault c.shadow (tableKey w.table w.inst w.offset) (tableWords w.table w.offset w.words) }),
      { result := w.words.length }) := by
  simp only [List.mem_cons, List.not_mem_nil, or_false, not_or] at h
  obtain ⟨h4, h5, hd, h10, h11⟩ := h
  simp [Dev.applyWrite, h4, h5, hd, h10, h11]

/-- R196: the bank of a head that is not in effect, with no fade of that head. -/
theorem Dev.applyWrite_of_bank (h : w.table = 4 ∨ w.table = 5) (hidle : d.bitOf Reg.ACTIVE_BANK w.inst = decide (w.table = 4))
    (hfade : ∀ f, d.pipe.fade = some f → f.heads.testBit w.inst = false) :
    d.applyWrite w = ({ d with pipe := { d.pipe with
      banks := Store.putAll tableDefault d.pipe.banks (tableKey w.table w.inst w.offset) (tableWords w.table w.offset w.words) } },
      { result := w.words.length }) := by
  have hno : (match d.pipe.fade with | some f => f.heads.testBit w.inst | none => false) = false := by
    split
    · next f hf => exact hfade f hf
    · rfl
  have hactive : (d.bitOf Reg.ACTIVE_BANK w.inst == (w.table == 5)) = false := by
    rw [hidle]; rcases h with h | h <;> rw [h] <;> rfl
  unfold Dev.applyWrite; dsimp only
  rw [if_pos (by simpa using h), if_neg (by rw [Bool.not_eq_true]; exact hno), if_neg (by rw [hactive]; decide)]

/-- R77: the lane table in flash, while the window is open. -/
theorem Dev.applyWrite_of_lanes (h : w.table = 0x0D) (hopen : d.windowOpen = true) :
    d.applyWrite w = (d.setBaro (fun b => { b with flash := { b.flash with
      laneTable := Store.putAll (fun _ => 0) b.flash.laneTable w.offset w.words } }), { result := w.words.length }) := by
  simp [Dev.applyWrite, h, hopen]

/-- R338: a program of legal instructions goes into a stopped engine. -/
theorem Dev.progWrite_of_legal {e off : Nat} {ws : List Word} (hstop : (d.eng e).running = false)
    (hlegal : ∀ v ∈ ws, instrIllegal (v.toNat % 65536) = false ∧ instrIllegal (v.toNat / 65536) = false) :
    let t := { d.touch with engine := { d.engine with prog := Store.putAll tableDefault d.engine.prog (tableKey 0x10 e off) ws } }
    d.progWrite e off ws = (t.setEng e { t.eng e with loaded := true }, {}) := by
  have hhalves : ∀ x ∈ ws.flatMap (fun w => [w.toNat % 65536, w.toNat / 65536]), instrIllegal x = false := by
    intro x hx
    obtain ⟨v, hv, hx⟩ := List.mem_flatMap.1 hx
    obtain ⟨hlow, hhigh⟩ := hlegal v hv
    simp only [List.mem_cons, List.not_mem_nil, or_false] at hx
    rcases hx with rfl | rfl
    · exact hlow
    · exact hhigh
  intro t
  unfold Dev.progWrite
  rw [if_neg (by simp [hstop])]
  dsimp only
  split
  · next i hi =>
    have hlt : i < _ := List.mem_range.1 (List.mem_of_find?_eq_some hi)
    have hbad := List.find?_some hi
    rw [List.getElem?_eq_getElem hlt, Option.getD_some, hhalves _ (List.getElem_mem hlt)] at hbad
    cases hbad
  · rfl

/-- R338: a program table. -/
theorem Dev.applyWrite_of_program (h : w.table = 0x10) (hstop : (d.eng w.inst).running = false)
    (hlegal : ∀ v ∈ w.words, instrIllegal (v.toNat % 65536) = false ∧ instrIllegal (v.toNat / 65536) = false) :
    let t := { d.touch with engine := { d.engine with
      prog := Store.putAll tableDefault d.engine.prog (tableKey w.table w.inst w.offset) w.words } }
    d.applyWrite w = (t.setEng w.inst { t.eng w.inst with loaded := true }, { result := w.words.length }) := by
  simp [Dev.applyWrite, h, Dev.progWrite_of_legal hstop hlegal]

/-- R444: a recipe image that the store has room for, while the window is open. -/
theorem Dev.applyWrite_of_recipe {t : Dev} (h : w.table = 0x11) (hopen : d.windowOpen = true)
    (hroom : d.writeRecipe w.inst (if w.words = [0] then [] else w.words) = some t) :
    d.applyWrite w = (t, { result := w.words.length }) := by
  unfold Dev.applyWrite
  simp only [h, hopen, hroom]
  rfl

end

/-- Settles O5: the oldest write at work, by the kind of its table. -/
theorem tableWritesApply : Obligations.TableWritesApply := by
  intro s w rest hrun hw d key done
  have applied {t : Dev} (h : d.applyWrite w = (t, { result := w.words.length })) : done t := exec_tableWriteApply hrun hw h
  exact ⟨fun h => applied (Dev.applyWrite_of_shadow h),
    fun h hidle hfade => applied (Dev.applyWrite_of_bank h hidle hfade),
    fun h hopen => applied (Dev.applyWrite_of_lanes h hopen),
    fun h hstop hlegal => applied (Dev.applyWrite_of_program h hstop hlegal),
    fun t h hopen hroom => applied (Dev.applyWrite_of_recipe h hopen hroom)⟩

/-! Long commands. -/

/-- R445: a recipe whose image, versions and sections pass has its sections in place, and waits for its commit. -/
theorem Dev.loadRecipe_of_good {d : Dev} {slot : Nat} {ws : List Word} {ss : List Section} (hslot : d.baro.flash.recipe slot = ws)
    (hrun : d.runOn = false) (hne : ws ≠ []) (himage : imageGood ws = true) (hiface : rcp ws 1 % 65536 = d.get Reg.BFW_IFACE)
    (hss : sectionsOf (rcp ws 1 / 65536) (ws.drop 16) = some ss)
    (hpass : (d.withSections ss).recipeFails (rcp ws 3 / 65536) ss = none) :
    d.loadRecipe slot =
      ((((ss.foldl (Dev.sectionActs d) (d.withSections ss)).put Reg.CHECK_SECTION 0).put Reg.CHECK_CODE_0D00 0).setChan
        (fun c => { c with longArgs := [slot, rcp ws 3 / 65536] }), { held := true }) := by
  subst hslot
  unfold Dev.loadRecipe; dsimp only
  rw [if_neg (by rw [hrun]; decide), if_neg (by simpa using hne), if_neg (by rw [himage]; decide), if_neg (not_not_intro hiface)]
  simp only [hss, hpass]

/-- R486: a test that may run and does not complete at once. -/
theorem effSelftest_of_long {e : Entry} {d : Dev}
    (hmay : d.testRefuses (e.sel 7 0) (e.sel 11 8) ((e.inl 12 1).testBit 0) = none) (hid : e.sel 7 0 ≠ 2) :
    effSelftest e d = (((d.put Reg.ST_ID (e.sel 7 0)).testStarts (e.sel 7 0) (e.sel 11 8)).setChan (fun c => { c with
      longArgs := [e.sel 7 0, e.sel 11 8] }), { held := true }) := by
  simp only [effSelftest, hmay, if_neg hid]

/-- R487: SCRUB_NOW completes at once. -/
theorem effSelftest_of_scrub {e : Entry} {d : Dev}
    (hmay : d.testRefuses (e.sel 7 0) (e.sel 11 8) ((e.inl 12 1).testBit 0) = none) (hid : e.sel 7 0 = 2) :
    effSelftest e d = ((((d.put Reg.ST_ID 2).put Reg.SCRUB_PASS 0).putFlag Reg.ST_PASS true).put Reg.ST_CODE 0, { result := 1 }) := by
  rw [hid] at hmay
  simp only [effSelftest, hid, hmay, if_true, Dev.testStarts]

/-- R503: INJECT answers the SEQ of the injected record, and whether the unit went to FAULT. -/
theorem effInject_eq (e : Entry) (d : Dev) :
    let t := (d.count Reg.INJECTS).inject (e.inl 12 2) e.selector.toNat
    effInject e d =
      (t.1, { result := t.2.getD 0xFFFFFFFF + (if t.1.st = .fault ∧ d.st ≠ .fault then 2 ^ 32 else 0) }) := by
  have hfault (u v : UState) : 2 ^ 32 * b2n (u == .fault && v != .fault) = if u = .fault ∧ v ≠ .fault then 2 ^ 32 else 0 := by
    cases u <;> cases v <;> rfl
  simp only [effInject, hfault]

/-- Settles O10: each command by its effect; those that last are held, the others answered. -/
theorem longCommandsBegin : Obligations.LongCommandsBegin := by
  intro s e
  refine ⟨?recipeLoad, ?recipeSave, ?selftest, ?scrub, ?inject, ?resetUnit⟩
  case recipeLoad =>
    intro ss ha d hrun a ws new hws himage hiface hss hpass t
    have hrun' : a.runOn = false := by rw [Dev.abortAuto_runOn, Dev.begun_runOn, hrun]
    exact next_to_congr s (Dev.hostCommand_holds effRecipeLoad ha
      (Dev.loadRecipe_of_good rfl hrun' hws himage hiface hss hpass) rfl)
  case recipeSave =>
    intro ha
    exact next_to_congr s (Dev.hostCommand_holds effRecipeSave ha rfl rfl)
  case selftest =>
    intro ha d hmay hid
    exact next_to_congr s (Dev.hostCommand_holds effSelftest ha (effSelftest_of_long hmay hid) rfl)
  case scrub =>
    intro ha d hmay hid
    exact next_to_congr s (Dev.hostCommand_answers effSelftest ha (effSelftest_of_scrub hmay hid) rfl)
  case inject =>
    intro ha d t
    exact next_to_congr s (Dev.hostCommand_answers effInject ha (effInject_eq e d) rfl)
  case resetUnit =>
    intro ha d
    exact next_to_congr s (congrArg Dev.resetCheck (Dev.hostCommand_answers effResetUnit ha rfl rfl))

end Sys2Proof.Machine
end

section
/-!
PROOFS. The frame of the register rows of queues, events and windows (R36, R47, R50, R51, R408, R494 to R497).
-/

namespace Sys2Proof.Machine

/-! What goes to the host link alone. -/

/-- Only the host link has changed, and what is sent. -/
def Dev.Signalled (d t : Dev) : Prop := ∃ h o, t = { d with host := h, out := o }

theorem Dev.Signalled.refl (d : Dev) : d.Signalled d := ⟨d.host, d.out, rfl⟩

theorem Dev.Signalled.trans {a b c : Dev} (h : a.Signalled b) (h' : b.Signalled c) : a.Signalled c := by
  obtain ⟨x, o, rfl⟩ := h
  obtain ⟨y, p, rfl⟩ := h'
  exact ⟨y, p, rfl⟩

theorem Dev.Signalled.eq {d t : Dev} (h : d.Signalled t) : t = { d with host := t.host, out := t.out } := by
  obtain ⟨x, o, rfl⟩ := h; rfl

theorem Dev.Signalled.ev {d t : Dev} (h : d.Signalled t) : t.ev = d.ev := by
  obtain ⟨x, o, rfl⟩ := h; rfl

theorem Dev.Signalled.arch {d t : Dev} (h : d.Signalled t) : t.arch = d.arch := by
  obtain ⟨x, o, rfl⟩ := h; rfl

theorem Dev.vecEdge_signalled (d : Dev) (v : Nat) : d.Signalled (d.vecEdge v) := by
  unfold Dev.vecEdge
  split
  · exact ⟨_, _, rfl⟩
  · exact ⟨_, _, rfl⟩

theorem Dev.evalVectors_signalled (d : Dev) (l : List Nat) : d.Signalled (d.evalVectors l) := by
  unfold Dev.evalVectors; dsimp only
  split
  · exact ⟨_, _, rfl⟩
  · exact List.foldlRecOn (motive := d.Signalled) _ _ ⟨_, _, rfl⟩ fun t ht v _ => ht.trans (t.vecEdge_signalled v)

/-- R47: a write that the function does not take. -/
theorem Dev.hostWrite_signalled_of_off {d : Dev} (h : d.memoryOn = false) (bar off size v : Nat) :
    d.Signalled (d.hostWrite bar off size v) := by
  unfold Dev.hostWrite
  split
  · exact .refl d
  · rw [if_pos (by rw [h]; rfl)]
    unfold Dev.memoryOff
    split
    · exact .refl d
    · exact ⟨_, _, rfl⟩

/-! The registers of BAR0 by offset (R36, R49, R423, R497, R506). -/

section
variable (d : Dev) {n : Nat} (v : Nat)

theorem Dev.writeBar0_sqCtl (h : n < 64) : d.writeBar0 (0x2008 + 64 * n) v = d.writeSqCtl n v := by
  have hn : (0x2008 + 64 * n - 0x2000) / 64 = n := by omega
  have hoff : (0x2008 + 64 * n) % 64 = 8 := by omega
  rw [Dev.writeBar0, if_neg (by omega), if_neg (by simp; omega), if_pos (by simp; omega), hn, hoff]
  rfl

theorem Dev.writeBar0_events {off : Nat} (hlo : 0x4000 ≤ off) (hhi : off < 0x8000) : d.writeBar0 off v = d.writeEvents off v := by
  rw [Dev.writeBar0, if_neg (by omega), if_neg (by simp; omega), if_neg (by simp; omega), if_pos (by simp; omega)]

theorem Dev.writeEvents_cause (h : n < 32) : d.writeEvents (0x4000 + 32 * n) v = d.writeCause n v := by
  have hn : (0x4000 + 32 * n - 0x4000) / 32 = n := by omega
  have hoff : (0x4000 + 32 * n - 0x4000) % 32 = 0 := by omega
  unfold Dev.writeEvents
  rw [if_pos (by omega)]
  simp only [hn, hoff]

theorem Dev.writeEvents_mask (h : n < 32) : d.writeEvents (0x4004 + 32 * n) v = d.writeMask n v := by
  have hn : (0x4004 + 32 * n - 0x4000) / 32 = n := by omega
  have hoff : (0x4004 + 32 * n - 0x4000) % 32 = 4 := by omega
  unfold Dev.writeEvents
  rw [if_pos (by omega)]
  simp only [hn, hoff]

theorem Dev.writeEvents_route (h : n < 1024) : d.writeEvents (0x5000 + 4 * n) v = d.writeRoute n v := by
  have hn : (0x5000 + 4 * n - 0x5000) / 4 = n := by omega
  unfold Dev.writeEvents
  rw [if_neg (by omega), if_pos (by simp; omega), hn]

theorem Dev.writeBar0_win {off : Nat} (h : n < 64) (hoff : off < 64) :
    d.writeBar0 (0x8000 + 64 * n + off) v = d.writeWin n off v := by
  have hn : (0x8000 + 64 * n + off - 0x8000) / 64 = n := by omega
  have hmod : (0x8000 + 64 * n + off) % 64 = off := by omega
  rw [Dev.writeBar0, if_neg (by omega), if_neg (by simp; omega), if_neg (by simp; omega), if_neg (by simp; omega),
    if_pos (by simp; omega), hn, hmod]

end

/-! Submission queues (R50, R51). -/

/-- Of the unit only the command channel has changed, of that no completion queue, and no submission queue but this one. -/
structure Dev.SqWritten (n : Nat) (d t : Dev) : Prop where
  chan : t = { d with chan := t.chan }
  cqs : t.chan.cqs = d.chan.cqs
  others : ∀ m, m % 64 ≠ n → t.sq m = d.sq m

theorem Dev.SqWritten.refl (n : Nat) (d : Dev) : Dev.SqWritten n d d := ⟨rfl, rfl, fun _ _ => rfl⟩

theorem Dev.SqWritten.power {n : Nat} {d t : Dev} (h : Dev.SqWritten n d t) : t.power = d.power := by rw [h.chan]

theorem Dev.SqWritten.setSq {n : Nat} {d t : Dev} (h : Dev.SqWritten n d t) (hn : n < 64) (x : Sq) : Dev.SqWritten n d (t.setSq n x) where
  chan := by rw [h.chan]; rfl
  cqs := h.cqs
  others m hm := by rw [Dev.setSq_sq, if_neg (by omega), h.others m hm]

theorem Dev.writeSqTail_written (d : Dev) {n : Nat} (hn : n < 64) (v : Nat) : Dev.SqWritten n d (d.writeSqTail n v) := by
  rw [d.writeSqTail_eq]
  split
  · exact .refl n d
  · split
    · exact (Dev.SqWritten.refl n d).setSq hn _
    · exact (Dev.SqWritten.refl n d).setSq hn _

theorem Dev.keepCq_written (n : Nat) (d : Dev) : Dev.SqWritten n d (d.keepCq n) := ⟨rfl, rfl, fun _ _ => rfl⟩

theorem Dev.writeSqCtl_written (d : Dev) {n : Nat} (hn : n < 64) (v : Nat) : Dev.SqWritten n d (d.writeSqCtl n v) := by
  unfold Dev.writeSqCtl; dsimp only
  generalize (if n % 64 = 0 then 0 else v / 2 ^ 16 % 64) = cqid
  have hkept : Dev.SqWritten n d (if cqid = d.cqOf n then d else d.keepCq n) := by
    split
    · exact .refl n d
    · exact d.keepCq_written n
  revert hkept
  generalize (if cqid = d.cqOf n then d else d.keepCq n) = a
  intro hkept
  split
  · split
    · exact .refl n d
    · exact (Dev.SqWritten.refl n d).setSq hn _
  · split
    · exact hkept.setSq hn _
    · split
      · exact hkept.setSq hn _
      · split
        · exact hkept.setSq hn _
        · exact hkept.setSq hn _

/-! Completion queues (R51, R53). -/

theorem Dev.drainCq_sqs (d : Dev) (n k : Nat) : (d.drainCq n k).chan.sqs = d.chan.sqs := by
  induction k generalizing d with
  | zero => rfl
  | succ k ih =>
    unfold Dev.drainCq; dsimp only
    split
    · rfl
    · split
      · rfl
      · rw [ih, Dev.writeCpl_sqs, Dev.setCq_sqs]

theorem Dev.drainCq_cq_of_ne (d : Dev) {n m : Nat} (k : Nat) (h : n % 64 ≠ m % 64) : (d.drainCq n k).cq m = d.cq m := by
  induction k generalizing d with
  | zero => rfl
  | succ k ih =>
    unfold Dev.drainCq; dsimp only
    split
    · rfl
    · split
      · rfl
      · rw [ih, Dev.writeCpl_cq, if_neg h, Dev.setCq_cq, if_neg h]

theorem Dev.writeCqHead_sqs (d : Dev) (n v : Nat) : (d.writeCqHead n v).chan.sqs = d.chan.sqs := by
  rw [d.writeCqHead_eq]
  split
  · rfl
  · split
    · rfl
    · rw [Dev.evalVectors_chan, Dev.drainCq_sqs, Dev.setCq_sqs]

theorem Dev.writeCqHead_cq_of_ne (d : Dev) {n m : Nat} (v : Nat) (h : n % 64 ≠ m % 64) : (d.writeCqHead n v).cq m = d.cq m := by
  rw [d.writeCqHead_eq]
  split
  · rfl
  · split
    · rw [Dev.setCq_cq, if_neg h]
    · rw [Dev.evalVectors_cq, Dev.drainCq_cq_of_ne _ _ h, Dev.setCq_cq, if_neg h]

/-! What an event leaves of masks and windows. -/

/-- The masks, and each window's read pointer and whether it is attached. -/
def Dev.marks (d : Dev) : BitVec 1024 × (Nat → Nat × Bool) := (d.ev.mask, fun w => ((d.win w).rp, (d.win w).attached))

@[simp] theorem Dev.put_marks (d : Dev) (f : Fld) (v i : Nat) : (d.put f v i).marks = d.marks := rfl

@[simp] theorem Dev.count_marks (d : Dev) (f : Fld) (n i : Nat) : (d.count f n i).marks = d.marks := rfl

@[simp] theorem Dev.orBits_marks (d : Dev) (f : Fld) (b i : Nat) : (d.orBits f b i).marks = d.marks := rfl

theorem Dev.marks_of_eq {d t : Dev} (hm : t.ev.mask = d.ev.mask) (ha : t.arch.wins = d.arch.wins) : t.marks = d.marks := by
  simp only [Dev.marks, Dev.win, hm, ha]

theorem Dev.setWin_marks {d : Dev} {w : Nat} {x : Win} (hrp : x.rp = (d.win w).rp) (hat : x.attached = (d.win w).attached) :
    (d.setWin w x).marks = d.marks := by
  have hwin (m : Nat) : (((d.setWin w x).win m).rp, ((d.setWin w x).win m).attached) = ((d.win m).rp, (d.win m).attached) := by
    rw [Dev.setWin_win]
    split
    · next h => rw [hrp, hat, show d.win w = d.win m by simp only [Dev.win, h]]
    · rfl
  simp only [Dev.marks, hwin]
  rfl

@[simp] theorem Dev.evalVectors_marks (d : Dev) (l : List Nat) : (d.evalVectors l).marks = d.marks :=
  Dev.marks_of_eq (congrArg EventS.mask (d.evalVectors_signalled l).ev) (congrArg Archive.wins (d.evalVectors_signalled l).arch)

@[simp] theorem Dev.occur_marks (d : Dev) (o : Occ) : (d.occur o).1.marks = d.marks := by
  unfold Dev.occur; dsimp only
  split <;> rfl

@[simp] theorem Dev.lostRecord_marks (d : Dev) (w : Nat) : (d.lostRecord w).marks = d.marks := by
  unfold Dev.lostRecord; split <;> rfl

/-- The window that a placing leaves, placed or not. -/
def PlaceResult.win : PlaceResult → Win
  | .placed w => w
  | .overwrote w => w
  | .dropped w => w

/-- R406, R409: placing a record moves neither the read pointer nor the attachment. -/
theorem Win.place_marks {w : Win} {bytes : List Byte} {r : PlaceResult} (h : w.place bytes = r) :
    r.win.rp = w.rp ∧ r.win.attached = w.attached := by
  subst h
  unfold Win.place; dsimp only
  split
  · exact ⟨rfl, rfl⟩
  · split
    · exact ⟨rfl, rfl⟩
    · split
      · split
        · exact ⟨rfl, rfl⟩
        · exact ⟨rfl, rfl⟩
      · exact ⟨rfl, rfl⟩

section
variable {raise : Occ → Dev → Dev} (hr : ∀ o d, (raise o d).marks = d.marks)
include hr

theorem Dev.holdLog_marks (kind flags source code data : Nat) (d : Dev) :
    (d.holdLog raise kind flags source code data).marks = d.marks := by
  unfold Dev.holdLog; dsimp only
  split
  · simp only [apply_ite Dev.marks, hr, Dev.orBits_marks, Dev.count_marks, ite_self]
  · rw [Dev.put_marks, Dev.put_marks]; exact Dev.marks_of_eq rfl rfl

theorem Dev.toRing_marks (r : EvRec) (d : Dev) : (d.toRing raise r).marks = d.marks := by
  have hring : (d.ringWrite r).marks = d.marks := rfl
  have hlost (n : Nat) : ({ d with ev := { d.ev with ringLost := n } } : Dev).marks = d.marks := rfl
  unfold Dev.toRing
  simp only [apply_ite Dev.marks, hr, hring, hlost, Dev.orBits_marks, ite_self]

theorem Dev.toLog_marks (r : EvRec) (d : Dev) : (d.toLog raise r).marks = d.marks := by
  have hsecond (s n : Nat) : ({ d with baro := { d.baro with logSecond := s, logInSecond := n } } : Dev).marks = d.marks := rfl
  unfold Dev.toLog
  simp only [apply_ite Dev.marks, Dev.count_marks, Dev.holdLog_marks hr, hsecond, ite_self]

theorem Dev.placeRecord_marks (w : Nat) (bytes : List Byte) (d : Dev) : (d.placeRecord raise w bytes).1.marks = d.marks := by
  unfold Dev.placeRecord
  split
  · exact d.lostRecord_marks w
  · dsimp only
    split <;> next y hy =>
      obtain ⟨hrp, hat⟩ := Win.place_marks hy
      have hdrop : (d.setWin w y).marks = d.marks := Dev.setWin_marks hrp hat
      have hput : (d.setWin w { y with poisonNext := false }).marks = d.marks := Dev.setWin_marks hrp hat
      simp only [apply_ite Dev.marks, hr, Dev.orBits_marks, Dev.count_marks, hdrop, hput, ite_self]

theorem Dev.overQueue_marks (c : ArchClass) (w : Nat) (bytes : List Byte) (d : Dev) :
    (d.overQueue raise c w bytes).marks = d.marks := by
  have hbudget (d : Dev) : d.lostBudget.marks = d.marks := rfl
  have hqueue (d : Dev) (q : List _) : ({ d with arch := { d.arch with queue := q } } : Dev).marks = d.marks := rfl
  unfold Dev.overQueue; dsimp only
  split
  · rw [hr, hqueue, Dev.orBits_marks, hbudget]
    exact Dev.setWin_marks rfl rfl
  · rw [hr, Dev.orBits_marks, hbudget]
    exact Dev.setWin_marks rfl rfl

theorem Dev.submit_marks (c : ArchClass) (w : Nat) (bytes : List Byte) (d : Dev) : (d.submit raise c w bytes).marks = d.marks := by
  have hcharge : (d.charge c bytes.length).marks = d.marks := rfl
  have hqueue (q) : ({ d with arch := { d.arch with queue := q } } : Dev).marks = d.marks := rfl
  unfold Dev.submit
  simp only [apply_ite Dev.marks, Dev.lostRecord_marks, Dev.placeRecord_marks hr, Dev.overQueue_marks hr, hcharge, hqueue, ite_self]

theorem Dev.toCopy_marks (r : EvRec) (d : Dev) : (d.toCopy raise r).marks = d.marks := by
  have hseq (n : Nat) : ({ d with arch := { d.arch with copySeq := n } } : Dev).marks = d.marks := rfl
  unfold Dev.toCopy
  simp only [apply_ite Dev.marks, Dev.submit_marks hr, hseq, ite_self]

end

theorem raiseDeep_marks (n : Nat) (o : Occ) (d : Dev) : (raiseDeep n o d).marks = d.marks := by
  induction n generalizing o d with
  | zero => rfl
  | succ n ih =>
    have ho := d.occur_marks o
    unfold raiseDeep
    split
    · next e heq => rw [heq] at ho; rw [Dev.evalVectors_marks]; exact ho
    · next e r heq =>
      rw [heq] at ho
      rw [Dev.evalVectors_marks]
      exact (Dev.toCopy_marks ih r _).trans ((Dev.toLog_marks ih r _).trans ((Dev.toRing_marks ih r e).trans ho))

/-- R491: raising an event leaves the masks and the windows' read pointers alone. -/
theorem Dev.raise_marks (d : Dev) (o : Occ) : (d.raise o).marks = d.marks := raiseDeep_marks 8 o d

/-! CAUSE and MASK of a group (R495, R506). -/

/-- Bits outside a group of sources. -/
theorem groupBits_getLsbD {g n x : Nat} (hx : x < 2 ^ 32) (h : n / 32 ≠ g) :
    (BitVec.ofNat 1024 (x <<< (32 * g))).getLsbD n = false := by
  rw [BitVec.getLsbD_ofNat, Nat.testBit_shiftLeft]
  by_cases hle : 32 * g ≤ n
  · have hbig : 2 ^ 32 ≤ 2 ^ (n - 32 * g) := Nat.pow_le_pow_right (by decide) (by omega)
    rw [Nat.testBit_lt_two_pow (Nat.lt_of_lt_of_le hx hbig), Bool.and_false, Bool.and_false]
  · simp [hle]

/-- R36: a write of an event register that changes the events, and then evaluates vectors. -/
theorem Dev.evalVectors_ev_eq (d : Dev) (e : EventS) (l : List Nat) :
    let t := ({ d with ev := e } : Dev).evalVectors l
    t = { d with ev := t.ev, host := t.host, out := t.out } ∧ t.ev = e := by
  obtain ⟨x, o, h⟩ := ({ d with ev := e } : Dev).evalVectors_signalled l
  rw [h]; exact ⟨rfl, rfl⟩

theorem Dev.writeCause_keeps (d : Dev) (g v : Nat) :
    let t := d.writeCause g v
    t = { d with ev := t.ev, host := t.host, out := t.out } ∧ t.ev.mask = d.ev.mask ∧ t.ev.route = d.ev.route ∧
      ∀ n, n < 1024 → n / 32 ≠ g → t.ev.cause.getLsbD n = d.ev.cause.getLsbD n := by
  intro t
  obtain ⟨heq, hev⟩ := d.evalVectors_ev_eq
    { d.ev with
      cause := d.ev.cause &&& ~~~BitVec.ofNat 1024 ((v % 2 ^ 32) <<< (32 * g))
      injCause := d.ev.injCause &&& ~~~BitVec.ofNat 1024 ((v % 2 ^ 32) <<< (32 * g)) } (d.vectorsOf (32 * g) (32 * g + 32))
  refine ⟨heq, (congrArg EventS.mask hev).trans rfl, (congrArg EventS.route hev).trans rfl, fun n hn hg => ?_⟩
  rw [show t.ev.cause = _ from congrArg EventS.cause hev, BitVec.getLsbD_and, BitVec.getLsbD_not,
    groupBits_getLsbD (Nat.mod_lt _ (by decide)) hg]
  simp [hn]

theorem Dev.writeMask_keeps (d : Dev) (g : Nat) {v : Nat} (hv : v < 2 ^ 32) :
    let t := d.writeMask g v
    t = { d with ev := t.ev, host := t.host, out := t.out } ∧ t.ev.cause = d.ev.cause ∧ t.ev.route = d.ev.route ∧
      ∀ n, n < 1024 → n / 32 ≠ g → t.ev.mask.getLsbD n = d.ev.mask.getLsbD n := by
  intro t
  obtain ⟨heq, hev⟩ := d.evalVectors_ev_eq
    { d.ev with mask := d.ev.mask &&& ~~~BitVec.ofNat 1024 (0xFFFFFFFF <<< (32 * g)) |||
        BitVec.ofNat 1024 ((v &&& groupSources g) <<< (32 * g)) } (d.vectorsOf (32 * g) (32 * g + 32))
  refine ⟨heq, (congrArg EventS.cause hev).trans rfl, (congrArg EventS.route hev).trans rfl, fun n hn hg => ?_⟩
  rw [show t.ev.mask = _ from congrArg EventS.mask hev, BitVec.getLsbD_or, BitVec.getLsbD_and, BitVec.getLsbD_not,
    groupBits_getLsbD (by decide) hg, groupBits_getLsbD (Nat.lt_of_le_of_lt Nat.and_le_left hv) hg]
  simp [hn]

/-! ROUTE of a source (R494, R496). -/

/-- Reports that leave the command channel and the masks alone. -/
structure Dev.Routed (d t : Dev) : Prop where
  tells : d.Tells t
  chan : t.chan = d.chan
  marks : t.marks = d.marks

theorem Dev.Routed.refl (d : Dev) : d.Routed d := ⟨.refl d, rfl, rfl⟩

theorem Dev.Routed.trans {a b c : Dev} (h : a.Routed b) (h' : b.Routed c) : a.Routed c :=
  ⟨h.tells.trans h'.tells, h'.chan.trans h.chan, h'.marks.trans h.marks⟩

theorem Dev.evalVectors_routed (d : Dev) (l : List Nat) : d.Routed (d.evalVectors l) :=
  ⟨d.evalVectors_tells l, d.evalVectors_chan l, d.evalVectors_marks l⟩

theorem Dev.toRing_routed (d : Dev) (r : EvRec) : d.Routed (d.toRing (raiseDeep 8) r) :=
  ⟨Dev.toRing_tells (raiseDeep_tells 8) r d, Dev.toRing_chan (raiseDeep_chan 8) r d, Dev.toRing_marks (raiseDeep_marks 8) r d⟩

theorem Dev.replay_routed (d : Dev) (n : Nat) : d.Routed (d.replay n) := by
  unfold Dev.replay
  split
  · exact .refl d
  · refine .trans ?_ (Dev.toRing_routed _ _)
    exact ⟨.of_eq rfl rfl, rfl, rfl⟩

theorem Dev.writeRoute_routed (d : Dev) (n v : Nat) : d.Routed (d.writeRoute n v) := by
  unfold Dev.writeRoute; dsimp only
  split
  · exact .refl d
  · refine .trans ?_ (Dev.evalVectors_routed _ _)
    split
    · refine .trans ?_ (Dev.replay_routed _ _)
      exact ⟨.of_eq rfl rfl, rfl, rfl⟩
    · exact ⟨.of_eq rfl rfl, rfl, rfl⟩

/-! The event ring (R497). -/

theorem Dev.writeEvrCtl_keeps (d : Dev) (v : Nat) :
    let t := d.writeEvrCtl v
    t = { d with ev := t.ev } ∧ t.ev.cause = d.ev.cause := by
  refine ⟨rfl, ?_⟩
  unfold Dev.writeEvrCtl; dsimp only
  split
  · split <;> rfl
  · split
    · rfl
    · split <;> rfl

theorem Dev.writeEvrHead_keeps (d : Dev) (v : Nat) :
    let t := d.writeEvrHead v
    t = { d with ev := t.ev } ∧ t.ev.cause = d.ev.cause := by
  unfold Dev.writeEvrHead; dsimp only
  split <;> exact ⟨rfl, rfl⟩

/-! The read pointer of a window (R408). -/

/-- Reports that leave the command channel alone, and of the windows each other one's read pointer and attachment. -/
structure Dev.RpWritten (w : Nat) (d t : Dev) : Prop where
  tells : d.Tells t
  chan : t.chan = d.chan
  others : ∀ m, m % 64 ≠ w → t.marks.2 m = d.marks.2 m

theorem Dev.RpWritten.trans {w : Nat} {a b c : Dev} (h : Dev.RpWritten w a b) (h' : Dev.RpWritten w b c) : Dev.RpWritten w a c :=
  ⟨h.tells.trans h'.tells, h'.chan.trans h.chan, fun m hm => (h'.others m hm).trans (h.others m hm)⟩

theorem Dev.RpWritten.power {w : Nat} {d t : Dev} (h : Dev.RpWritten w d t) : t.power = d.power := Dev.still_power h.tells.1

theorem Dev.setWin_rpWritten (d : Dev) {w : Nat} (hw : w < 64) (x : Win) : Dev.RpWritten w d (d.setWin w x) where
  tells := .of_eq rfl rfl
  chan := rfl
  others m hm := by simp only [Dev.marks, Dev.setWin_win, if_neg (show ¬ w % 64 = m % 64 by omega)]

theorem Dev.writeRp_rpWritten (d : Dev) {w : Nat} (hw : w < 64) (v : Nat) : Dev.RpWritten w d (d.writeRp w v) := by
  unfold Dev.writeRp; dsimp only
  split
  · exact ⟨.refl d, rfl, fun _ _ => rfl⟩
  · split
    · exact d.setWin_rpWritten hw _
    · refine (d.setWin_rpWritten hw { d.win w with ptrErr := true }).trans ?_
      generalize d.setWin w { d.win w with ptrErr := true } = a
      exact ⟨.raise (.orBits (.refl a) (by decide)), by rw [Dev.raise_chan, Dev.orBits_chan],
        fun m _ => by rw [Dev.raise_marks, Dev.orBits_marks]⟩

/-! The rows. -/

/-- R36: an aligned write of two words in BAR0, the high one first. -/
theorem Dev.hostWrite_bar0_both {d : Dev} {off : Nat} (v : Nat) (hon : d.memoryOn = true) (halign : off % 8 = 0)
    (hin : off + 8 ≤ 2 ^ 20) :
    d.hostWrite 0 off 8 v =
      ((d.writeBar0 (off + 4) (v / 2 ^ 32 % 2 ^ 32)).resetCheck.writeBar0 off (v % 2 ^ 32)).resetCheck := by
  have hsize : ¬ barSize 0 < off + 8 := Nat.not_lt.2 hin
  simp [Dev.hostWrite, Dev.writeReg, hsize, hon, halign]

section
variable {d : Dev} (hon : d.memoryOn = true) (hreset : d.power.resetAsk = none)
include hon hreset

theorem Dev.sqDisable_written (n : Fin 64) : Dev.SqWritten n d (d.sqDisable n) := by
  have hrow := d.writeSqCtl_written n.isLt ((2 ^ 16 * d.cqOf n + (d.sq n).size) % 2 ^ 32)
  rw [Dev.sqDisable, Dev.hostWrite_bar0 _ hon (by omega) (by omega), d.writeBar0_sqCtl _ n.isLt,
    Dev.resetCheck_of_none (by rw [hrow.power, hreset])]
  exact hrow

theorem Dev.hostCause_eq (g : Fin 32) (v : Word) : d.hostCause g v.toNat = d.writeCause g v.toNat := by
  have hpower : (d.writeCause g v.toNat).power = d.power := (congrArg Dev.power (d.writeCause_keeps g v.toNat).1).trans rfl
  rw [Dev.hostCause, Dev.hostWrite_bar0 _ hon (by omega) (by omega), Nat.mod_eq_of_lt v.isLt,
    d.writeBar0_events _ (by omega) (by omega), d.writeEvents_cause _ g.isLt, Dev.resetCheck_of_none (by rw [hpower, hreset])]

theorem Dev.hostMask_eq (g : Fin 32) (v : Word) : d.hostMask g v.toNat = d.writeMask g v.toNat := by
  have hpower : (d.writeMask g v.toNat).power = d.power := (congrArg Dev.power (d.writeMask_keeps g v.isLt).1).trans rfl
  rw [Dev.hostMask, Dev.hostWrite_bar0 _ hon (by omega) (by omega), Nat.mod_eq_of_lt v.isLt,
    d.writeBar0_events _ (by omega) (by omega), d.writeEvents_mask _ g.isLt, Dev.resetCheck_of_none (by rw [hpower, hreset])]

theorem Dev.hostRoute_eq (n : Fin 1024) (v : Word) : d.hostRoute n v.toNat = d.writeRoute n v.toNat := by
  have hpower := Dev.still_power (d.writeRoute_routed n v.toNat).tells.1
  rw [Dev.hostRoute, Dev.hostWrite_bar0 _ hon (by omega) (by omega), Nat.mod_eq_of_lt v.isLt,
    d.writeBar0_events _ (by omega) (by omega), d.writeEvents_route _ n.isLt, Dev.resetCheck_of_none (by rw [hpower, hreset])]

theorem Dev.evrEnable_eq (en : Bool) (size : Nat) :
    d.evrEnable en size = d.writeEvrCtl ((2 ^ 31 * b2n en + size % 4096) % 2 ^ 32) := by
  rw [Dev.evrEnable, Dev.hostWrite_bar0 _ hon (by decide) (by decide), d.writeBar0_events _ (by decide) (by decide)]
  exact Dev.resetCheck_of_none ((congrArg (·.power.resetAsk) (d.writeEvrCtl_keeps _).1).trans hreset)

theorem Dev.evrHead_eq (v : Word) : d.evrHead v.toNat = d.writeEvrHead v.toNat := by
  rw [Dev.evrHead, Dev.hostWrite_bar0 _ hon (by decide) (by decide), Nat.mod_eq_of_lt v.isLt,
    d.writeBar0_events _ (by decide) (by decide)]
  exact Dev.resetCheck_of_none ((congrArg (·.power.resetAsk) (d.writeEvrHead_keeps _).1).trans hreset)

theorem Dev.hostRp_rpWritten (w : Fin 64) (both : Bool) (v : Nat) : Dev.RpWritten w d (d.hostRp w both v) := by
  have hw := w.isLt
  have hlow (t : Dev) (ht : t.power.resetAsk = none) (u : Nat) :
      Dev.RpWritten w t (t.writeBar0 (0x8000 + 64 * w + 8) u).resetCheck := by
    have hrow : Dev.RpWritten w t (t.rpLo w u) := t.writeRp_rpWritten hw _
    rw [t.writeBar0_win u hw (by decide), show t.writeWin w 8 u = t.rpLo w u from rfl,
      Dev.resetCheck_of_none (by rw [hrow.power, ht])]
    exact hrow
  cases both with
  | false =>
    rw [Dev.hostRp, if_neg (by decide), Dev.hostWrite_bar0 _ hon (by omega) (by omega),
      show 0x8008 + 64 * w.val = 0x8000 + 64 * w.val + 8 by omega]
    exact hlow d hreset _
  | true =>
    rw [Dev.hostRp, if_pos rfl, Dev.hostWrite_bar0_both _ hon (by omega) (by omega),
      show 0x8008 + 64 * w.val + 4 = 0x8000 + 64 * w.val + 0xC by omega,
      show 0x8008 + 64 * w.val = 0x8000 + 64 * w.val + 8 by omega, d.writeBar0_win _ hw (by decide)]
    have hhigh : Dev.RpWritten w d (d.writeWin w 0xC (v / 2 ^ 32 % 2 ^ 32)) := d.setWin_rpWritten hw _
    have hask := (congrArg Power.resetAsk hhigh.power).trans hreset
    rw [Dev.resetCheck_of_none hask]
    exact hhigh.trans (hlow _ hask _)

end

/-- Settles O47: each row by the register that it writes; while the function takes no memory requests, by R47. -/
theorem registerRowsKeepTheUnit : Obligations.RegisterRowsKeepTheUnit := by
  intro s t c hw hreset hnext
  rw [exec_eq_after] at hnext
  cases hnext
  refine ⟨fun hoff hrow => ?off, fun hon => ⟨?sqTail, ?sqDisable, ?cqHead, ?cause, ?mask, ?route, ?evrEnable, ?evrHead, ?rpLo⟩⟩
  case off =>
    have refused := Dev.hostWrite_signalled_of_off hoff 0
    have hsignalled : s.dev.Signalled (s.dev.after c) := by
      rcases hrow with ⟨n, v, rfl | rfl⟩ | ⟨n, rfl⟩ | ⟨g, v, rfl | rfl⟩ | ⟨n, v, rfl⟩ | ⟨en, size, rfl⟩ | ⟨v, rfl⟩ | ⟨w, both, v, rfl⟩
      · exact refused (0x1000 + 16 * n) 4 _
      · exact refused (0x1008 + 16 * n) 4 _
      · exact refused (0x2008 + 64 * n) 4 _
      · exact refused (0x4000 + 32 * g) 4 _
      · exact refused (0x4004 + 32 * g) 4 _
      · exact refused (0x5000 + 4 * n) 4 _
      · exact refused 0x4408 4 (2 ^ 31 * b2n en + size.toNat % 4096)
      · exact refused 0x4410 4 v.toNat
      · exact refused (0x8008 + 64 * w) (if both then 8 else 4) _
    exact congrArg s.to hsignalled.eq
  case sqTail =>
    rintro n v rfl
    have hrow : s.dev.after (.sqTail n v) = s.dev.writeSqTail n v.toNat := Dev.sqTail_eq hon hreset n v
    obtain ⟨hchan, hcqs, hothers⟩ := s.dev.writeSqTail_written n.isLt v.toNat
    rw [State.to_dev, hrow]
    exact ⟨hchan, hcqs, hothers⟩
  case sqDisable =>
    rintro n rfl
    obtain ⟨hchan, hcqs, hothers⟩ := Dev.sqDisable_written hon hreset n
    exact ⟨hchan, hcqs, hothers⟩
  case cqHead =>
    rintro n v rfl
    have hrow : s.dev.after (.cqHead n v) = s.dev.writeCqHead n v.toNat := Dev.cqHead_eq hon hreset n v
    rw [State.to_dev, hrow]
    exact ⟨((s.dev.writeCqHead_tells _ _).2 hw).2, s.dev.writeCqHead_sqs _ _,
      fun m hm => s.dev.writeCqHead_cq_of_ne _ (by have := n.isLt; omega)⟩
  case cause =>
    rintro g v rfl
    have hrow : s.dev.after (.causeWrite g v) = s.dev.writeCause g v.toNat := Dev.hostCause_eq hon hreset g v
    rw [State.to_dev, hrow]
    exact s.dev.writeCause_keeps g v.toNat
  case mask =>
    rintro g v rfl
    have hrow : s.dev.after (.maskWrite g v) = s.dev.writeMask g v.toNat := Dev.hostMask_eq hon hreset g v
    rw [State.to_dev, hrow]
    exact s.dev.writeMask_keeps g v.isLt
  case route =>
    rintro n v rfl
    have hrow : s.dev.after (.routeWrite n v) = s.dev.writeRoute n v.toNat := Dev.hostRoute_eq hon hreset n v
    obtain ⟨htells, hchan, hmarks⟩ := s.dev.writeRoute_routed n v.toNat
    rw [State.to_dev, hrow]
    exact ⟨(htells.2 hw).2, congrArg Prod.fst hmarks, hchan⟩
  case evrEnable =>
    rintro en size rfl
    have hrow : s.dev.after (.evrEnable en size) = s.dev.writeEvrCtl _ := Dev.evrEnable_eq hon hreset en size.toNat
    rw [State.to_dev, hrow]
    exact s.dev.writeEvrCtl_keeps _
  case evrHead =>
    rintro v rfl
    have hrow : s.dev.after (.evrHead v) = s.dev.writeEvrHead v.toNat := Dev.evrHead_eq hon hreset v
    rw [State.to_dev, hrow]
    exact s.dev.writeEvrHead_keeps _
  case rpLo =>
    rintro w both v rfl
    obtain ⟨htells, hchan, hothers⟩ := Dev.hostRp_rpWritten hon hreset w both v.toNat
    exact ⟨(htells.2 hw).2, hchan, fun m hm => Prod.ext_iff.1 (hothers m hm)⟩

end Sys2Proof.Machine
end

section
/-!
PROOFS. What an event leaves of CAUSE (R491, R493) and of the lines, and what a field reads after a write to it (R7).
-/

namespace Sys2Proof.Machine

/-! Latched causes. -/

/-- Every cause latched before is latched still. -/
def Dev.KeepsCauses (d t : Dev) : Prop := ∀ n, d.ev.cause.getLsbD n = true → t.ev.cause.getLsbD n = true

theorem Dev.KeepsCauses.refl (d : Dev) : d.KeepsCauses d := fun _ h => h

theorem Dev.KeepsCauses.trans {a b c : Dev} (h : a.KeepsCauses b) (h' : b.KeepsCauses c) : a.KeepsCauses c :=
  fun n hn => h' n (h n hn)

theorem Dev.KeepsCauses.of_eq {d t : Dev} (h : t.ev.cause = d.ev.cause) : d.KeepsCauses t := fun n hn => by rw [h]; exact hn

theorem Dev.KeepsCauses.ite {d a b : Dev} {c : Prop} [Decidable c] (ha : d.KeepsCauses a) (hb : d.KeepsCauses b) :
    d.KeepsCauses (if c then a else b) := by
  split <;> assumption

theorem Dev.KeepsCauses.put {d t : Dev} {f : Fld} {v : Nat} (h : d.KeepsCauses t) : d.KeepsCauses (t.put f v) :=
  h.trans (.of_eq (congrArg EventS.cause (t.put_ev f v 0)))

theorem Dev.KeepsCauses.count {d t : Dev} {f : Fld} (h : d.KeepsCauses t) : d.KeepsCauses (t.count f) := h.put

theorem Dev.KeepsCauses.orBits {d t : Dev} {f : Fld} {n : Nat} (h : d.KeepsCauses t) : d.KeepsCauses (t.orBits f n) := h.put

theorem Dev.KeepsCauses.poison {d t : Dev} {c : Prop} [Decidable c] (h : d.KeepsCauses t) :
    d.KeepsCauses (if c then (t.count Reg.POISONED).orBits Reg.POISON 1 else t) := .ite h.count.orBits h

theorem Dev.KeepsCauses.snap {d t : Dev} {c : Prop} [Decidable c] (h : d.KeepsCauses t) :
    d.KeepsCauses (if c then t.count Reg.SNAPS else t) := .ite h.count h

theorem Dev.evalVectors_keepsCauses (d : Dev) (l : List Nat) : d.KeepsCauses (d.evalVectors l) :=
  .of_eq (congrArg EventS.cause (d.evalVectors_signalled l).ev)

theorem Dev.occur_cause (d : Dev) (o : Occ) : (d.occur o).1.ev.cause = d.ev.cause ||| BitVec.ofNat 1024 (1 <<< o.source) := by
  unfold Dev.occur; dsimp only
  split <;> rfl

theorem Dev.occur_keepsCauses (d : Dev) (o : Occ) : d.KeepsCauses (d.occur o).1 := fun n hn => by
  rw [Dev.occur_cause, BitVec.getLsbD_or, hn, Bool.true_or]

/-- R491: an occurrence latches its own cause. -/
theorem Dev.occur_latches (d : Dev) {o : Occ} (h : o.source < 1024) : (d.occur o).1.ev.cause.getLsbD o.source = true := by
  rw [Dev.occur_cause, BitVec.getLsbD_or, BitVec.getLsbD_ofNat, Nat.testBit_shiftLeft]
  simp [h]

theorem Dev.lostRecord_keepsCauses (d : Dev) (w : Nat) : d.KeepsCauses (d.lostRecord w) := by
  unfold Dev.lostRecord
  exact .ite (.of_eq rfl) (.refl d)

section
variable {raise : Occ → Dev → Dev} (hr : ∀ o (d : Dev), d.KeepsCauses (raise o d))
include hr

theorem Dev.KeepsCauses.raised {d t : Dev} {o : Occ} (h : d.KeepsCauses t) : d.KeepsCauses (raise o t) := h.trans (hr o t)

theorem Dev.holdLog_keepsCauses (kind flags source code data : Nat) (d : Dev) :
    d.KeepsCauses (d.holdLog raise kind flags source code data) := by
  unfold Dev.holdLog; dsimp only
  split
  · exact .ite (.count (.refl d)) (.raised hr (.orBits (.count (.refl d))))
  · exact .put (.put (.of_eq rfl))

theorem Dev.toRing_keepsCauses (r : EvRec) (d : Dev) : d.KeepsCauses (d.toRing raise r) := by
  have hring : d.KeepsCauses (d.ringWrite r) := .of_eq rfl
  unfold Dev.toRing
  exact .ite (.refl d) (.ite (.refl d) (.ite hring (.ite (.of_eq rfl) (.raised hr (.orBits (.of_eq rfl))))))

theorem Dev.toLog_keepsCauses (r : EvRec) (d : Dev) : d.KeepsCauses (d.toLog raise r) := by
  have hsecond (s n : Nat) : d.KeepsCauses { d with baro := { d.baro with logSecond := s, logInSecond := n } } := .of_eq rfl
  unfold Dev.toLog
  exact .ite (.refl d) (.ite (.count (.refl d)) ((hsecond _ _).trans (Dev.holdLog_keepsCauses hr _ _ _ _ _ _)))

theorem Dev.placeRecord_keepsCauses (w : Nat) (bytes : List Byte) (d : Dev) : d.KeepsCauses (d.placeRecord raise w bytes).1 := by
  have hwin (x : Win) : d.KeepsCauses (d.setWin w x) := .of_eq rfl
  unfold Dev.placeRecord; dsimp only
  split
  · exact d.lostRecord_keepsCauses w
  · split
    · exact .raised hr (.orBits (hwin _))
    · exact .poison (.snap (hwin _))
    · exact .poison (.raised hr (.snap (.orBits (hwin _))))

theorem Dev.overQueue_keepsCauses (c : ArchClass) (w : Nat) (bytes : List Byte) (d : Dev) :
    d.KeepsCauses (d.overQueue raise c w bytes) := by
  have hlost (x : Win) : d.KeepsCauses ((d.setWin w x).lostBudget.orBits Reg.RING_EVENT 1) := .orBits (.of_eq rfl)
  unfold Dev.overQueue; extract_lets x oldest e
  split
  · have he : d.KeepsCauses e := hlost _
    clear_value e
    exact .raised hr (he.trans (.of_eq rfl))
  · exact .raised hr (hlost _)

theorem Dev.submit_keepsCauses (c : ArchClass) (w : Nat) (bytes : List Byte) (d : Dev) :
    d.KeepsCauses (d.submit raise c w bytes) := by
  have hcharge : d.KeepsCauses (d.charge c bytes.length) := .of_eq rfl
  unfold Dev.submit
  exact .ite (d.lostRecord_keepsCauses w) (.ite (hcharge.trans (Dev.placeRecord_keepsCauses hr _ _ _))
    (.ite (.of_eq rfl) (Dev.overQueue_keepsCauses hr _ _ _ _)))

theorem Dev.toCopy_keepsCauses (r : EvRec) (d : Dev) : d.KeepsCauses (d.toCopy raise r) := by
  have hseq (n : Nat) : d.KeepsCauses { d with arch := { d.arch with copySeq := n } } := .of_eq rfl
  unfold Dev.toCopy
  exact .ite (.refl d) ((hseq _).trans (Dev.submit_keepsCauses hr _ _ _ _))

end

/-- R491: where an occurrence's record goes takes no cause away. -/
theorem raiseDeep_succ_keepsCauses {n : Nat} (ih : ∀ o (d : Dev), d.KeepsCauses (raiseDeep n o d)) (o : Occ) (d : Dev) :
    (d.occur o).1.KeepsCauses (raiseDeep (n + 1) o d) := by
  have hseq (t : Dev) (n : Option Nat) : t.KeepsCauses { t with ev := { t.ev with lastSeq := n } } := .of_eq rfl
  rw [raiseDeep]
  split
  · next e heq => rw [heq]; exact e.evalVectors_keepsCauses _
  · next e r heq =>
    rw [heq]
    have hrouted := ((Dev.toRing_keepsCauses ih r e).trans (Dev.toLog_keepsCauses ih r _)).trans (Dev.toCopy_keepsCauses ih r _)
    exact (hrouted.trans (hseq _ _)).trans (Dev.evalVectors_keepsCauses _ _)

theorem raiseDeep_keepsCauses (n : Nat) (o : Occ) (d : Dev) : d.KeepsCauses (raiseDeep n o d) := by
  induction n generalizing o d with
  | zero => exact .refl d
  | succ n ih => exact (d.occur_keepsCauses o).trans (raiseDeep_succ_keepsCauses ih o d)

/-- R491, R493: a raised event latches its cause. -/
theorem Dev.raise_latches (d : Dev) {o : Occ} (h : o.source < 1024) : (d.raise o).ev.cause.getLsbD o.source = true :=
  raiseDeep_succ_keepsCauses (raiseDeep_keepsCauses 7) o d _ (d.occur_latches h)

/-! What an event leaves of the lines and of the other words. -/

theorem Dev.raise_arr (d : Dev) (o : Occ) : (d.raise o).arr = d.arr :=
  congrArg (fun x => x.2.1) (d.raise_tells o).1

/-- R493: a field in whose word no event is counted or flagged reads as before. -/
theorem Dev.raise_get {d : Dev} (hw : d.paramsWf) (o : Occ) {f : Fld} {i : Nat} (hf : ∀ g ∈ reportFields, g.key 0 ≠ f.key i) :
    (d.raise o).get f i = d.get f i := by
  rw [Dev.get, ((d.raise_tells o).2 hw).2.words _ hf, Dev.get]

/-! Fields written. -/

/-- The bits of a word from `lo` on, `width` of them, replaced. -/
theorem replaced_bits (a v lo width : Nat) :
    (a - a / 2 ^ lo % 2 ^ width * 2 ^ lo + v * 2 ^ lo) / 2 ^ lo % 2 ^ width = v % 2 ^ width := by
  have hlow : a = 2 ^ lo * (a / 2 ^ lo) + a % 2 ^ lo := (Nat.div_add_mod a _).symm
  have hhigh : a / 2 ^ lo = 2 ^ width * (a / 2 ^ lo / 2 ^ width) + a / 2 ^ lo % 2 ^ width := (Nat.div_add_mod _ _).symm
  have hjoin (q m r : Nat) : 2 ^ lo * q + r + m * 2 ^ lo = 2 ^ lo * (q + m) + r := by
    rw [Nat.mul_add, Nat.mul_comm m, Nat.add_right_comm]
  have hcut : a - a / 2 ^ lo % 2 ^ width * 2 ^ lo = 2 ^ lo * (2 ^ width * (a / 2 ^ lo / 2 ^ width)) + a % 2 ^ lo :=
    Nat.sub_eq_of_eq_add (by rw [hjoin, ← hhigh, ← hlow])
  rw [hcut, hjoin, Nat.mul_add_div (Nat.two_pow_pos lo), Nat.div_eq_of_lt (Nat.mod_lt _ (Nat.two_pow_pos lo)), Nat.add_zero,
    Nat.mul_add_mod]

/-- R7: a field reads as what was last written to it, cut to its bits. -/
theorem Fld.ofWord_inject {f : Fld} (hlo : f.lo ≤ f.hi) (hhi : f.hi < 32) (w : Word) (v : Nat) :
    f.ofWord (f.inject w v) = v % 2 ^ f.width := by
  have hsplit : 2 ^ 32 = 2 ^ f.lo * 2 ^ (32 - f.lo) := by
    rw [← Nat.pow_add, Nat.add_sub_cancel' (by omega)]
  have hfits : 2 ^ f.width ∣ 2 ^ (32 - f.lo) := Nat.pow_dvd_pow 2 (by unfold Fld.width; omega)
  simp only [Fld.ofWord, Fld.inject, BitVec.toNat_ofNat, Nat.shiftRight_eq_div_pow]
  rw [hsplit, Nat.mod_mul_right_div_self, Nat.mod_mod_of_dvd _ hfits, replaced_bits, Nat.mod_mod]

theorem Dev.put_get {d : Dev} (hw : d.paramsWf) {f : Fld} (hlo : f.lo ≤ f.hi) (hhi : f.hi < 32) (v i : Nat) :
    (d.put f v i).get f i = v % 2 ^ f.width := by
  rw [Dev.get, Dev.put, Dev.setWord_word _ _ _ _ hw, if_pos rfl, Fld.ofWord_inject hlo hhi]

/-- R7: a field whose lowest bit is set is set. -/
theorem Dev.orBits_one_flag {d : Dev} (hw : d.paramsWf) {f : Fld} (hlo : f.lo ≤ f.hi) (hhi : f.hi < 32) (i : Nat) :
    (d.orBits f 1 i).flag f i = true := by
  have hodd : ((d.get f i ||| 1) % 2 ^ f.width).testBit 0 = true := by
    have hpos : 0 < f.width := Nat.sub_pos_of_lt (Nat.lt_succ_of_le hlo)
    rw [Nat.testBit_mod_two_pow, Nat.testBit_or, decide_eq_true hpos, Nat.testBit_one_zero, Bool.or_true, Bool.and_true]
  have hne : (d.get f i ||| 1) % 2 ^ f.width ≠ 0 := fun h => by rw [h] at hodd; cases hodd
  rw [Dev.flag, Dev.orBits, Dev.put_get hw hlo hhi]
  exact bne_iff_ne.2 hne

end Sys2Proof.Machine
end

section
/-!
PROOFS. The rows for a PARAM_WRITE of one parameter register (R105, R162, R268, R331, R448).
-/

namespace Sys2Proof.Machine

/-- R70: an accepted PARAM_WRITE whose words pass, none of them locked, stores them and answers. -/
theorem Dev.paramWrite_of_good {d : Dev} {e : Entry} (ha : d.Accepts (formParamWrite e) checkParamWrite e)
    (hgood : (d.begun (formParamWrite e) e).wordsBad false e = none)
    (hfree : ∀ i, i < e.count → (d.begun (formParamWrite e) e).lockedWord e.page (e.word + i) = none) :
    d.paramWrite e = ((d.begun (formParamWrite e) e).storeWords e.page e.word e.params).reply (formParamWrite e) e {} :=
  Dev.hostCommand_answers effParamWrite ha (effParamWrite_of_good hgood hfree) rfl

/-- Settles O6: each row is the PARAM_WRITE of an entry that names its register. -/
theorem registerRowsWriteParams : Obligations.RegisterRowsWriteParams := by
  intro s e ha d hgood hfree done
  have hwrite := Dev.paramWrite_of_good ha hgood hfree
  exact ⟨fun hmark => next_to_congr s ((if_pos hmark).trans hwrite),
    fun hflip => next_to_congr s ((if_pos hflip).trans hwrite),
    fun hstorm => next_to_congr s ((if_pos hstorm).trans hwrite),
    fun hstart => next_to_congr s ((if_pos hstart).trans hwrite),
    fun hshort => next_to_congr s ((if_pos hshort).trans hwrite)⟩

end Sys2Proof.Machine
end

section
/-!
PROOFS. What triggers a line (R96 to R99), where a frame is marked (R105), the report of a stall (R100), and how foreground
calibration ends (R130).
-/

namespace Sys2Proof.Machine

/-! The encoder (R96, R352). -/

/-- R96: the unit with the encoder's count after its inputs have gone to new levels. -/
def Dev.encMoved (d : Dev) (a b : Bool) : Dev :=
  { d with arr := { d.arr with
      encA := a, encB := b, encPos := d.arr.encPos + quadStep (d.flag Reg.ENC_DIR) d.arr.encA d.arr.encB a b } }

/-- R96: the encoder's count reaches the next trigger of a run that it triggers. -/
structure Dev.EncReached (d : Dev) (a b : Bool) : Prop where
  running : d.arr.running = true
  stopping : d.arr.stopping = false
  source : d.trigSrc = 1
  count : d.arr.encBase + max 1 (d.get Reg.ENC_DIV : Int) ≤ (d.encMoved a b).arr.encPos

/-- R96: what an encoder edge asks before it triggers a line. -/
theorem Dev.encReached_iff {d : Dev} {a b : Bool} :
    (d.arr.running && !d.arr.stopping && d.trigSrc == 1 &&
      decide (d.arr.encBase + max 1 (d.get Reg.ENC_DIV : Int) ≤ (d.encMoved a b).arr.encPos)) = true ↔ d.EncReached a b := by
  simp only [Bool.and_eq_true, Bool.not_eq_true', beq_iff_eq, decide_eq_true_eq]
  exact ⟨fun ⟨⟨⟨hrun, hstop⟩, hsrc⟩, hcount⟩ => ⟨hrun, hstop, hsrc, hcount⟩,
    fun ⟨hrun, hstop, hsrc, hcount⟩ => ⟨⟨⟨hrun, hstop⟩, hsrc⟩, hcount⟩⟩

theorem Dev.encEdge_of_reached {d : Dev} {a b : Bool} (h : d.EncReached a b) :
    d.encEdge a b = { d.encMoved a b with arr := { (d.encMoved a b).arr with
      due := true, encBase := d.arr.encBase + max 1 (d.get Reg.ENC_DIV : Int) } } :=
  if_pos (Dev.encReached_iff.2 h)

theorem Dev.encEdge_of_not_reached {d : Dev} {a b : Bool} (h : ¬ d.EncReached a b) : d.encEdge a b = d.encMoved a b :=
  if_neg (mt Dev.encReached_iff.1 h)

/-- R96, R352: levels of which one at least is new are an edge. -/
theorem Dev.encoderEdge_of_change {d : Dev} {a b : Bool} (h : ¬ (a = d.arr.encA ∧ b = d.arr.encB)) :
    d.encoderEdge a b = (d.encEdge a b).timerEvent 4 0 :=
  if_neg (by simpa only [Bool.and_eq_true, beq_iff_eq] using h)

theorem Dev.encZ_of_reset {d : Dev} (h : d.flag Reg.ENC_ZRST = true) :
    d.encZ = { d with arr := { d.arr with encBase := d.arr.encPos } } := if_pos h

theorem Dev.encZ_of_no_reset {d : Dev} (h : d.flag Reg.ENC_ZRST = false) : d.encZ = d := if_neg (by rw [h]; decide)

/-! Triggers of a run that has begun (R97, R99). -/

theorem Dev.onEdge_of_first {d : Dev} (h : d.half = false) (f : Dev → Dev) : d.onEdge f = f d :=
  if_neg (by rw [h]; decide)

/-- R97, R99: the number of the line of a trigger in a run that has begun; `sync` is the timebase value of a SYNC trigger. -/
def Dev.triggerLine (d : Dev) (sync : Option Nat) : Nat :=
  sync.elim (lineAdd ((d.arr.lines.head?.map (·.num)).getD 0) 1) d.syncLine

section
variable {d : Dev} (hrun : d.arr.running = true) (hstop : d.arr.stopping = false)
include hrun hstop

/-- R97: a trigger that finds another held is lost. -/
theorem Dev.trigger_of_held (hbegun : d.arr.begun = true) (hheld : d.arr.held ≠ none) (sync : Option Nat) (cals : List SliceCal) :
    d.trigger sync cals = (d.count Reg.TRIG_OVERRUNS).raise { source := 64, limited := true } := by
  simp [Dev.trigger, hrun, hstop, hbegun, Option.isSome_iff_ne_none.2 hheld]

/-- R97: a trigger after which a line may follow at once starts it. -/
theorem Dev.trigger_of_ready (hbegun : d.arr.begun = true) (hheld : d.arr.held = none) (hmay : d.mayAccept = true)
    (sync : Option Nat) (cals : List SliceCal) : d.trigger sync cals = d.acceptLine (d.triggerLine sync) cals := by
  cases sync <;> simp [Dev.trigger, Dev.triggerLine, hrun, hstop, hbegun, hheld, hmay]

/-- R97: a trigger that comes too early is held. -/
theorem Dev.trigger_of_early (hbegun : d.arr.begun = true) (hheld : d.arr.held = none) (hmay : d.mayAccept = false)
    (sync : Option Nat) (cals : List SliceCal) :
    d.trigger sync cals = { d with arr := { d.arr with held := some (d.triggerLine sync) } } := by
  cases sync <;> simp [Dev.trigger, Dev.triggerLine, hrun, hstop, hbegun, hheld, hmay]

/-- R96: the trigger of LSYN or of the encoder that is due. -/
theorem Dev.lineTrigger_of_due (hsrc : d.trigSrc ≠ 2) (hdue : d.arr.due = true) (cals : List SliceCal) :
    d.lineTrigger cals = ({ d with arr := { d.arr with due := false } } : Dev).trigger none cals := by
  simp [Dev.lineTrigger, hrun, hstop, hsrc, hdue]

/-- R96, R393: the SYNC trigger that the timebase has reached. -/
theorem Dev.lineTrigger_of_sync (hsrc : d.trigSrc = 2) (ht : d.syncTrigger d.arr.syncNext ≤ d.tb) (cals : List SliceCal) :
    d.lineTrigger cals = ({ d with arr := { d.arr with syncNext := d.syncTrigger d.arr.syncNext + 1 } } : Dev).trigger
      (some (d.syncTrigger d.arr.syncNext)) cals := by
  simp [Dev.lineTrigger, hrun, hstop, hsrc, ht]

end

theorem Dev.acceptHeld_of_ready {d : Dev} {n : Nat} (hrun : d.arr.running = true) (hheld : d.arr.held = some n)
    (hmay : d.mayAccept = true) (cals : List SliceCal) :
    d.acceptHeld cals = ({ d with arr := { d.arr with held := none } } : Dev).acceptLine n cals := by
  simp [Dev.acceptHeld, hrun, hheld, hmay]

/-- A trigger that starts no line in a run that has begun has nothing follow it. -/
theorem Dev.afterTrigger_of_same_lines {d old : Dev} (hlines : d.arr.lines = old.arr.lines) (hbegun : old.arr.begun = true) :
    d.afterTrigger old = d := by
  simp [Dev.afterTrigger, hlines, hbegun]

/-- R534: a trigger is taken on an edge of BUSCLK. -/
theorem exec_lineTrigger {s : State} {cals : List SliceCal} {t : Dev} (hfirst : s.dev.half = false)
    (h : s.dev.lineTrigger cals = t) : exec (.lineTrigger cals) s = .next (s.to (t.afterTrigger s.dev)) :=
  next_to_congr s (by rw [Dev.onEdge_of_first hfirst, h])

theorem exec_heldTriggerAccept {s : State} {cals : List SliceCal} {t : Dev} (hfirst : s.dev.half = false)
    (h : s.dev.acceptHeld cals = t) : exec (.heldTriggerAccept cals) s = .next (s.to (t.afterTrigger s.dev)) :=
  next_to_congr s (by rw [Dev.onEdge_of_first hfirst, h])

/-! Marks of FRAME_IN (R105, R334, R352). -/

/-- R105: a mark at least 64 lines into the frame waits for the next accepted trigger. -/
theorem Dev.markFrame_of_late {d : Dev} (hrun : d.arr.running = true) (hbegun : d.arr.begun = true) (hlate : 64 ≤ d.arr.frameOff) :
    d.markFrame = { d with arr := { d.arr with mark := true } } := by
  simp [Dev.markFrame, hrun, hbegun, Nat.not_lt.2 hlate]

section
variable {d : Dev} {level : Bool}

theorem Dev.frameInLevel_of_mark (hnew : d.arr.frameIn ≠ level) (hedge : level ≠ d.flag Reg.FRAME_IN_EDGE)
    (hsrc : d.get Reg.FRAME_SRC = 1) :
    d.frameInLevel level = ({ d with arr := { d.arr with frameIn := level } } : Dev).markFrame :=
  if_pos (by simpa using ⟨⟨hnew, hedge⟩, hsrc⟩)

theorem Dev.frameInEdge_of_edge (hnew : d.arr.frameIn ≠ level) (hedge : level ≠ d.flag Reg.FRAME_IN_EDGE) :
    d.frameInEdge level = ((d.frameInLevel level).pulse 3).timerEvent 6 0 :=
  if_pos (by simpa using ⟨hnew, hedge⟩)

/-- R105: the edge that FRAME_IN_EDGE does not select only changes the level. -/
theorem Dev.frameInEdge_of_unselected (hedge : level = d.flag Reg.FRAME_IN_EDGE) :
    d.frameInEdge level = { d with arr := { d.arr with frameIn := level } } := by
  simp [Dev.frameInEdge, Dev.frameInLevel, ← hedge]

end

/-! Stalls (R100). -/

/-- R100: a run that waits for the encoder or the timebase has waited LINE_TIMEOUT, and has not said so. -/
structure Dev.TrigStalls (d : Dev) : Prop where
  running : d.arr.running = true
  stopping : d.arr.stopping = false
  unsaid : d.arr.stalled = false
  source : d.trigSrc ≠ 0
  checked : d.get Reg.LINE_TIMEOUT ≠ 0
  waited : d.arr.waitSince + d.get Reg.LINE_TIMEOUT * 200000 ≤ d.clk.bus

theorem Dev.trigStalls_iff {d : Dev} :
    (d.arr.running && !d.arr.stopping && !d.arr.stalled && d.trigSrc != 0 && d.get Reg.LINE_TIMEOUT != 0 &&
      decide (d.arr.waitSince + d.get Reg.LINE_TIMEOUT * 200000 ≤ d.clk.bus)) = true ↔ d.TrigStalls := by
  simp only [Bool.and_eq_true, Bool.not_eq_true', bne_iff_ne, decide_eq_true_eq]
  exact ⟨fun ⟨⟨⟨⟨⟨hrun, hstop⟩, hsaid⟩, hsrc⟩, hms⟩, hwait⟩ => ⟨hrun, hstop, hsaid, hsrc, hms, hwait⟩,
    fun ⟨hrun, hstop, hsaid, hsrc, hms, hwait⟩ => ⟨⟨⟨⟨⟨hrun, hstop⟩, hsaid⟩, hsrc⟩, hms⟩, hwait⟩⟩

theorem Dev.trigStall_of_stalls {d : Dev} (h : d.TrigStalls) :
    d.trigStall = (Dev.orBits { d with arr := { d.arr with stalled := true } } Reg.TRIG_STALL 1).raise
      { source := 65, limited := true } :=
  if_pos (Dev.trigStalls_iff.2 h)

theorem Dev.trigStall_of_not_stalls {d : Dev} (h : ¬ d.TrigStalls) : d.trigStall = d := if_neg (mt Dev.trigStalls_iff.1 h)

/-! The end of foreground calibration (R130). -/

/-- R130: the unit once the groups under foreground calibration have what their slices measured. -/
def Dev.groupsMeasured (d : Dev) (cals : List SliceCal) : Dev :=
  (groupsOfMask d.conv.fgMask).foldl (fun x g => Dev.groupCalibrated x cals g)
    { d with conv := { d.conv with bad := d.conv.bad.filter (fun g => !(groupsOfMask d.conv.fgMask).contains g) } }

/-- R130: no group is under foreground calibration any more. -/
def Dev.fgCalOver (d : Dev) : Dev := Dev.putFlag { d with conv := { d.conv with fgMask := 0 } } Reg.CONV_FG_CAL false

section
variable {d : Dev} {cals : List SliceCal} (hmask : d.conv.fgMask ≠ 0)
include hmask

theorem Dev.fgCal_of_good (h : (d.groupsMeasured cals).fgCalOver.conv.bad = []) :
    d.fgCal cals = (d.groupsMeasured cals).fgCalOver.clearCause 0 := by
  unfold Dev.fgCalOver Dev.groupsMeasured at h ⊢
  simp only [Dev.fgCal, if_neg hmask, h]

theorem Dev.fgCal_of_bad {g : Nat} {rest : List Nat} (h : (d.groupsMeasured cals).fgCalOver.conv.bad = g :: rest) :
    d.fgCal cals =
      (d.groupsMeasured cals).fgCalOver.stopOn { source := 74, inst := if g < 256 then g else 0xFF, limited := true } 0 := by
  unfold Dev.fgCalOver Dev.groupsMeasured at h ⊢
  simp only [Dev.fgCal, if_neg hmask, h]

end

theorem exec_fgCal {s : State} {cals : List SliceCal} {t : Dev} (h : s.dev.fgCal cals = t) :
    exec (.fgCal cals) s = .next (s.to t) := by
  rw [exec_eq_after, Dev.after_fgCal, h]

/-- Settles O25: each happening by what it asks of the unit, which the clause's hypotheses answer. -/
theorem linesAreTriggered : Obligations.LinesAreTriggered := by
  intro s d goes
  refine ⟨?encEdge, ?encReset, ?encIndex, ?trigger, ?sync, ?held, ?mark, ?level, ?stall, ?calibrated⟩
  case encEdge =>
    intro a b hchange pos div moved
    have hedge := Dev.encoderEdge_of_change hchange
    refine ⟨fun hno => next_to_congr s ?_, fun hrun hstop hsrc hcount => next_to_congr s ?_⟩
    · have hshort : ¬ d.EncReached a b := fun ⟨hrun, hstop, hsrc, hcount⟩ => hno ⟨hrun, hstop, hsrc, hcount⟩
      exact hedge.trans (congrArg (Dev.timerEvent · 4 0) (Dev.encEdge_of_not_reached hshort))
    · exact hedge.trans (congrArg (Dev.timerEvent · 4 0) (Dev.encEdge_of_reached ⟨hrun, hstop, hsrc, hcount⟩))
  case encReset =>
    intro hreset
    exact next_to_congr s (congrArg (Dev.timerEvent · 5 0) (Dev.encZ_of_reset hreset))
  case encIndex =>
    intro hkeep
    exact next_to_congr s (congrArg (Dev.timerEvent · 5 0) (Dev.encZ_of_no_reset hkeep))
  case trigger =>
    intro cals hfirst hrun hstop hbegun hsrc hdue num taken
    have htaken := Dev.lineTrigger_of_due hrun hstop hsrc hdue cals
    refine ⟨fun hheld hmay => ?_, fun hheld hmay => ?_, fun hheld => ?_⟩
    · exact exec_lineTrigger hfirst (htaken.trans (Dev.trigger_of_ready (d := taken) hrun hstop hbegun hheld hmay none cals))
    · have hearly := htaken.trans (Dev.trigger_of_early (d := taken) hrun hstop hbegun hheld hmay none cals)
      exact (exec_lineTrigger hfirst hearly).trans (next_to_congr s (Dev.afterTrigger_of_same_lines rfl hbegun))
    · exact exec_lineTrigger hfirst (htaken.trans (Dev.trigger_of_held (d := taken) hrun hstop hbegun hheld none cals))
  case sync =>
    intro cals hfirst hrun hstop hbegun hsrc t ht hheld hmay
    have hsync := Dev.lineTrigger_of_sync hrun hstop hsrc ht cals
    let taken : Dev := { d with arr := { d.arr with syncNext := t + 1 } }
    exact exec_lineTrigger hfirst (hsync.trans (Dev.trigger_of_ready (d := taken) hrun hstop hbegun hheld hmay (some t) cals))
  case held =>
    intro cals n hfirst hrun hheld hmay
    exact exec_heldTriggerAccept hfirst (Dev.acceptHeld_of_ready hrun hheld hmay cals)
  case mark =>
    intro level hnew hedge hsrc hrun hbegun hlate
    have hmarked := (Dev.frameInLevel_of_mark hnew hedge hsrc).trans (Dev.markFrame_of_late hrun hbegun hlate)
    exact next_to_congr s ((Dev.frameInEdge_of_edge hnew hedge).trans (congrArg (fun t => (t.pulse 3).timerEvent 6 0) hmarked))
  case level =>
    intro level _ hedge
    exact next_to_congr s (Dev.frameInEdge_of_unselected hedge)
  case stall =>
    intro hrun hstop hsaid hsrc hms hwait
    exact next_to_congr s (Dev.trigStall_of_stalls ⟨hrun, hstop, hsaid, hsrc, hms, hwait⟩)
  case calibrated =>
    intro cals hmask gs a b
    have ha : a = s.dev.groupsMeasured cals := rfl
    have hb : b = (s.dev.groupsMeasured cals).fgCalOver := congrArg Dev.fgCalOver ha
    clear_value b
    subst hb
    exact ⟨fun hgood => exec_fgCal (Dev.fgCal_of_good hmask hgood),
      fun g rest hbad => exec_fgCal (Dev.fgCal_of_bad (d := s.dev) hmask hbad)⟩

/-- Settles O57: the report latches source 65 and leaves TRIG_STALL and the lines as it found them. -/
theorem stallsAreReported : Obligations.StallsAreReported := by
  intro s hw d ms
  refine ⟨fun hrun hsaid hsrc hms hwait hstop => ?reported, fun hno => ?quiet⟩
  case reported =>
    let t : Dev := Dev.orBits { d with arr := { d.arr with stalled := true } } Reg.TRIG_STALL 1
    have hput : t.paramsWf := Dev.orBits_paramsWf _ _ _ _ hw
    have hstall := next_to_congr s (Dev.trigStall_of_stalls (d := d) ⟨hrun, hstop, hsaid, hsrc, hms, hwait⟩)
    refine ⟨_, hstall, ?_, t.raise_latches (by decide), t.raise_arr _, rfl⟩
    have hflag : t.flag Reg.TRIG_STALL = true := Dev.orBits_one_flag hw (by decide) (by decide) 0
    rw [State.to_dev, Dev.flag, Dev.raise_get hput _ (by decide)]
    exact hflag
  case quiet =>
    have hnot : ¬ d.TrigStalls := by
      rintro ⟨hrun, hstop, hsaid, hsrc, hms, hwait⟩
      rcases hno with h | h | h | h | h | h
      · exact hms h
      · exact hsrc h
      · exact Bool.false_ne_true (h.symm.trans hrun)
      · exact Bool.false_ne_true (hsaid.symm.trans h)
      · exact Bool.false_ne_true (hstop.symm.trans h)
      · exact absurd hwait (Nat.not_le.2 h)
    exact next_to_congr s (Dev.trigStall_of_not_stalls hnot)

end Sys2Proof.Machine
end

section
/-!
PROOFS. Head 0's delivery to ingest (R119, R124, R168, R176).
-/

namespace Sys2Proof.Machine

/-- Settles O26. The delivery asks twice before it acts: whether ingest has begun, and which line of head 0 is due. The hypotheses answer
both, and what is left of the delivery is the statement's unit, stage by stage: missing lines declared and trips counted, then
the dark references, the line through corrections with the words of its segment, and the dark codes in the frame's statistics. -/
theorem head0Delivers : Obligations.Head0Delivers := by
  intro s charges trips info _ (hon : s.dev.ingestOn = true) (hnext : s.dev.nextHead0 = some info)
  intros
  refine next_to_congr s (congrArg (Dev.headMoved · 0) ?delivered)
  case delivered =>
    have hbegun : ¬ (!s.dev.ingestOn) = true := by simp [hon]
    rw [Dev.head0Line, if_neg hbegun, hnext]
    rfl

end Sys2Proof.Machine
end

section
/-!
PROOFS. What accepted lane commands do, and how a training ends (R151, R157, R159, R160).
-/

namespace Sys2Proof.Machine

/-! LINK_TRAIN and LANE_PRBS. -/

/-- R151, R160: a group that may be trained begins its training. -/
theorem effLinkTrain_of_free {e : Entry} {d : Dev} (h : d.trainRefuses (e.sel 2 0) = none) :
    effLinkTrain e d = (d.trainGroup (e.sel 2 0) ⟨e.sq, e.tag.toNat, 0x0401, true⟩, { held := true }) := by
  simp only [effLinkTrain, h]

/-- R159: the unit with a group down for a pattern test and the checkers of its lanes empty. -/
def Dev.testGroup (d : Dev) (g : Nat) : Dev :=
  (laneNumbers g).foldl (fun d n => d.setRxLane n { d.rxLane n with checker := ⟨[], none⟩ }) (d.closeGroup g)

/-- R159, R160: a pattern test that GUARD permits where the unit images. -/
theorem effLanePrbs_of_allowed {e : Entry} {d : Dev} (h : d.st.imaging = true → (e.inl 12 1).testBit 7 = true) :
    let g := e.sel 2 0
    let o := e.inl 12 1
    let f := (d.testGroup g).takeFree
    effLanePrbs e d = ((f.1.setLaneGroup g { f.1.laneGroup g with
      pattern := o % 4, patternUse := o / 4 % 4, patternLanes := e.inl 13 1 % 16, patternErrors := e.inl 14 2
      patternRaised := false, patternSent := 0, patternNow := (e.inl 16 1).testBit 0
      patternState := List.replicate 4 (1 + Config.freeValue f.2 % (2 ^ (prbsTaps (o % 4)).1 - 1)) }).putFlag
        Reg.PRBS_ACTIVE (o % 4 != 0) g, {}) := by
  have hallowed : ¬ (d.st.imaging && !(e.inl 12 1).testBit 7) = true := by simpa using h
  unfold effLanePrbs Dev.testGroup
  rw [if_neg hallowed]

/-! HEAD_CONTROL. -/

/-- R157, R160: the mailbox of HEAD_CONTROL's head or peer group can be reached, by way of group `g`. -/
def Dev.Reaches (d : Dev) (e : Entry) (g : Nat) : Prop :=
  if e.selector.getLsbD 15 then (d.laneGroup g).peer = true ∧ d.flag Reg.GROUP_UP g = true ∧ g = e.sel 2 0
  else d.groupOf (e.sel 3 0) = some g

/-- R157, R160: the group through which HEAD_CONTROL goes. -/
def Dev.controlGroup (d : Dev) (e : Entry) : Option Nat :=
  if e.selector.getLsbD 15 then
    (if (d.laneGroup (e.sel 2 0)).peer && d.flag Reg.GROUP_UP (e.sel 2 0) then some (e.sel 2 0) else none)
  else d.groupOf (e.sel 3 0)

theorem Dev.Reaches.controlGroup {d : Dev} {e : Entry} {g : Nat} (h : d.Reaches e g) : d.controlGroup e = some g := by
  unfold Dev.Reaches at h
  unfold Dev.controlGroup
  split at h
  · next hpeer =>
    obtain ⟨hrole, hup, rfl⟩ := h
    rw [if_pos hpeer, if_pos (by rw [hrole, hup]; rfl)]
  · next hhead => rw [if_neg hhead, h]

section
variable {d : Dev} {e : Entry} {g : Nat} (hreach : d.Reaches e g)
include hreach

/-- R157: a user message goes to the transmitter of its group. -/
theorem effHeadControl_of_send (hsend : e.inl 12 1 = 0) :
    effHeadControl e d =
      (d.control g (if e.selector.getLsbD 15 then 0 else e.sel 3 0) (e.inl 13 1) (words64 e.data)
        (some ⟨e.sq, e.tag.toNat, 0x0404, false⟩), { held := true }) := by
  have hg := hreach.controlGroup
  unfold Dev.controlGroup at hg
  simp only [effHeadControl, hg, hsend, if_true]

/-- R160: the oldest message of a mailbox, for a buffer that holds it. -/
theorem effHeadControl_of_take {m : MailMsg} {rest : List MailMsg} (htake : e.inl 12 1 ≠ 0)
    (hbox : d.lane.mail.filter (fun x => x.box == if e.selector.getLsbD 15 then 16 + g else e.sel 3 0) = m :: rest)
    (hfits : 8 * m.words.length ≤ e.bufLen.toNat) :
    effHeadControl e d =
      ({ d with lane := { d.lane with
          mail := rest ++ d.lane.mail.filter (fun x => x.box != if e.selector.getLsbD 15 then 16 + g else e.sel 3 0) } },
        { result := m.msg + 2 ^ 16 * m.words.length + 2 ^ 32 * m.seq + (if rest = [] then 0 else 2 ^ 48)
          out := groupBytes m.words }) := by
  have hg := hreach.controlGroup
  have hmore : 2 ^ 48 * b2n (!rest.isEmpty) = if rest = [] then 0 else 2 ^ 48 := by
    cases rest <;> rfl
  unfold Dev.controlGroup at hg
  simp only [effHeadControl, hg, if_neg htake, hbox, if_neg (Nat.not_lt.2 hfits), hmore]

end

/-! LINK_TRAIN_COMPLETE. -/

/-- R151, R160: a training that has succeeded, or whose TRAIN_TIMEOUT is past, ends and answers the status of its group. -/
theorem Dev.trainDone_of_over {d : Dev} {g t0 : Nat} {cmd : Outst} (htraining : (d.laneGroup g).training = some (t0, cmd))
    (hover : d.trained g = true ∨ t0 + (d.laneGroup g).timeoutMs * 200000 ≤ d.clk.bus) :
    let t := (d.setLaneGroup g { d.laneGroup g with training := none }).putFlag Reg.TRAINING false g
    d.trainDone g = t.finish cmd
      { status := if t.flag Reg.GROUP_UP g then .ok else .timeout
        result := t.get Reg.LANE_UP g + 2 ^ 4 * t.get Reg.GROUP_UP g + 2 ^ 5 * t.get Reg.DEGRADED g
          + 2 ^ 8 * t.get Reg.RX_GID g + 2 ^ 16 * t.get Reg.HEADS_IN_LINK g + 2 ^ 32 * t.get Reg.SKEW g } := by
  have hended : ¬ (!(d.trained g || decide (t0 + (d.laneGroup g).timeoutMs * 200000 ≤ d.clk.bus))) = true := by
    rcases hover with h | h <;> simp [h]
  intro t
  unfold Dev.trainDone; dsimp only
  split
  · next hnone => rw [htraining] at hnone; cases hnone
  · next hsome =>
    rw [htraining] at hsome
    cases hsome
    exact if_neg hended

/-- Settles O13: each command by its effect under the statement's hypotheses, and a training by the way it ends. -/
theorem laneCommandsAct : Obligations.LaneCommandsAct := by
  intro s e
  refine ⟨?train, ?prbs, ?send, ?take, ?complete⟩
  case train =>
    intro ha d hfree
    exact next_to_congr s (Dev.hostCommand_holds effLinkTrain ha (effLinkTrain_of_free hfree) rfl)
  case prbs =>
    intro ha d hallowed
    have hst : d.st = s.dev.st := s.dev.begun_st _ _
    exact next_to_congr s (Dev.hostCommand_answers effLanePrbs ha (effLanePrbs_of_allowed (hst ▸ hallowed)) rfl)
  case send =>
    intro g ha d peer hreach hsend
    exact next_to_congr s (Dev.hostCommand_holds effHeadControl ha (effHeadControl_of_send hreach hsend) rfl)
  case take =>
    intro g m rest ha d peer hreach box htake hbox hfits
    exact next_to_congr s (Dev.hostCommand_answers effHeadControl ha (effHeadControl_of_take hreach htake hbox hfits) rfl)
  case complete =>
    intro g t0 cmd htraining hover
    exact next_to_congr s (Dev.trainDone_of_over htraining hover)

end Sys2Proof.Machine
end

section
/-!
PROOFS. What comes of a lane's markers, its signal and its bits under test (R140, R141, R143, R151, R152, R154, R159, R161, R164).
-/

namespace Sys2Proof.Machine

/-! Markers. -/

/-- R164: a marker's word as the unit reads it, turned where its lane is inverted on the board. -/
def Dev.turned (d : Dev) (n : Nat) (w : Nat) : Nat := if d.boardInverts (n / 4) (n % 4) then 2 ^ 64 - 1 - w % 2 ^ 64 else w

/-- R153: SKEW follows the aligned lanes of a group. -/
def Dev.skewNoted (d : Dev) (g : Nat) : Dev := d.put Reg.SKEW (min 2047 (d.laneSkew g)) g

section
variable {d : Dev} {n : Nat} (hn : n < 24) (hon : d.lanesOn (n / 4) = true)
include hn hon

/-- R134: a lane that is one of the 24 and has power is not passed over. -/
theorem Dev.not_laneless : ¬ (decide (n ≥ 24) || !d.lanesOn (n / 4)) = true := by
  rw [hon]; simpa using hn

/-- Nor is it where nothing else that a happening asks for keeps it out. -/
theorem Dev.not_laneless_or {b : Bool} (h : b = false) : ¬ (decide (n ≥ 24) || !d.lanesOn (n / 4) || b) = true := by
  rw [h, Bool.or_false]; exact Dev.not_laneless hn hon

theorem Dev.marker_of_read {w arrived : Nat} {inv : Bool} {lane gid seq : Nat}
    (h : readMarker (d.turned n w) = some (inv, lane, gid, seq)) :
    d.marker n (some w) arrived = ((d.put Reg.RX_GID gid (n / 4)).markerRead n inv lane gid seq arrived).skewNoted (n / 4) := by
  unfold Dev.turned at h
  simp only [Dev.marker, if_neg (Dev.not_laneless hn hon), Option.map_some, Option.bind_some, h, Dev.skewNoted]

theorem Dev.marker_of_missing (arrived : Nat) :
    d.marker n none arrived =
      if (d.rxLane n).aligned then d.badMarker n else d.setRxLane n { d.rxLane n with good := 0, seq := none } := by
  simp only [Dev.marker, if_neg (Dev.not_laneless hn hon), Option.map_none, Option.bind_none]

end

/-- R152: an interval's begin changes nothing in a group that does not wait for it to leave DEGRADED. -/
theorem Dev.intervalBegins_of_settled {d : Dev} {g : Nat} (h : (d.laneGroup g).recovering = none) (n : Nat) :
    d.intervalBegins g n = d := by
  simp only [Dev.intervalBegins, h]

/-- R141: the unit after one more missing or bad marker on an aligned lane: counted, and the next SEQ expected. -/
def Dev.markerMissed (d : Dev) (n : Nat) : Dev :=
  (d.setRxLane n { d.rxLane n with seq := some (((d.rxLane n).seq.getD 0 + 1) % 2 ^ 16), bad := (d.rxLane n).bad + 1 }).count
    Reg.MARKER_ERRS 1 (n / 4)

section
variable {d : Dev} {n : Nat}

theorem Dev.badMarker_of_few (h : (d.rxLane n).bad < 2) (hsettled : (d.laneGroup (n / 4)).recovering = none) :
    d.badMarker n = d.markerMissed n :=
  (if_neg (Nat.not_le.2 h)).trans (Dev.intervalBegins_of_settled (d := d.markerMissed n) hsettled n)

/-- R141, R161: the third in a row loses lock. -/
theorem Dev.badMarker_of_third (h : 2 ≤ (d.rxLane n).bad) : d.badMarker n = (d.markerMissed n).lol n := if_pos h

end

/-- What a good marker leaves of its lane before alignment is judged: its SEQ, its time of arrival, and no bad marker in a row. -/
def Lane.heard (x : Lane) (seq arrived : Nat) : Lane := { x with seq := some seq, arrived := arrived, bad := 0 }

/-- R151: the lanes of the group listen for markers: no test runs, and the group is trained or trains. -/
structure LaneGroup.Listens (y : LaneGroup) : Prop where
  untested : y.pattern = 0
  wanted : y.trained = true ∨ y.training ≠ none

@[simp] theorem Dev.put_rxLane (d : Dev) (f : Fld) (v i n : Nat) : (d.put f v i).rxLane n = d.rxLane n := by
  rw [Dev.rxLane, Dev.put_lane, Dev.rxLane]

@[simp] theorem Dev.put_laneGroup (d : Dev) (f : Fld) (v i g : Nat) : (d.put f v i).laneGroup g = d.laneGroup g := by
  rw [Dev.laneGroup, Dev.put_lane, Dev.laneGroup]

section
variable {d : Dev} {n : Nat} {x : Lane} {y : LaneGroup} {inv : Bool} {lane gid seq arrived : Nat} (hx : d.rxLane n = x)
  (hy : d.laneGroup (n / 4) = y)
include hx hy

/-- R141, R151: a marker that follows on an aligned lane. -/
theorem Dev.markerRead_of_aligned (haligned : x.aligned = true) (hfollows : x.seq = some ((seq + 65535) % 65536))
    (hsettled : y.recovering = none) :
    let t := d.setRxLane n (x.heard seq arrived)
    d.markerRead n inv lane gid seq arrived =
      if t.flag Reg.GROUP_UP (n / 4) = true ∨ y.fault = true then t else t.tryGroupUp (n / 4) := by
  subst hx hy
  intro t
  calc d.markerRead n inv lane gid seq arrived
    _ = (t.intervalBegins (n / 4) n).retryUp (n / 4) := (if_pos haligned).trans (if_pos (beq_iff_eq.2 hfollows))
    _ = t.retryUp (n / 4) := by rw [Dev.intervalBegins_of_settled (d := t) hsettled]
    _ = _ := ite_congr (propext Bool.or_eq_true_iff) (fun _ => rfl) fun _ => rfl

/-- R151: a lane that is not aligned and whose group listens goes by the good markers it has had in a row. -/
theorem Dev.markerRead_of_unaligned (haligned : x.aligned = false) (hlocked : x.locked = true) (hlistens : y.Listens) :
    d.markerRead n inv lane gid seq arrived =
      if x.good = 0 ∨ x.seq ≠ some ((seq + 65535) % 65536) then
        d.setRxLane n { x.heard seq arrived with good := 1, logical := lane, gid := gid, inverted := inv }
      else
        let t := ((d.setRxLane n { x.heard seq arrived with
          good := 0, aligned := true, suspect := false, noLock := false, logical := lane, gid := gid, inverted := inv }).putBit
            Reg.LOL (n % 4) false (n / 4)).noteLanes (n / 4)
        if t.flag Reg.GROUP_UP (n / 4) then t.rejoin (n / 4) n else t.tryGroupUp (n / 4) := by
  have hmay : (x.locked && y.pattern == 0 && (y.trained || y.training.isSome)) = true := by
    obtain ⟨huntested, hwanted⟩ := hlistens
    rw [hlocked, huntested]
    rcases hwanted with h | h
    · simp [h]
    · simp [Option.isSome_iff_ne_none.2 h]
  have hfirst : (x.good = 0 || !(x.seq == some ((seq + 65535) % 65536))) = true ↔
      x.good = 0 ∨ x.seq ≠ some ((seq + 65535) % 65536) := by simp
  subst hx hy
  unfold Dev.markerRead; dsimp only
  rw [if_neg (by rw [haligned]; decide), if_neg (by rw [hmay]; decide)]
  exact ite_congr (propext hfirst) (fun _ => rfl) fun _ => rfl

end

/-! Signal, clock recovery and bits under test. -/

/-- R159: one bit of a lane under test through its checker. -/
def Dev.bitChecked (n pattern : Nat) (d : Dev) (b : Bool) : Dev :=
  let c := (d.rxLane n).checker.take pattern b
  let t := d.setRxLane n { d.rxLane n with checker := c.1 }
  if c.2 then t.prbsError n else t

section
variable {d : Dev} {n : Nat} (hn : n < 24) (hon : d.lanesOn (n / 4) = true)
include hn hon

/-- R161: amplitude lost for 1 us on a lane that had signal. -/
theorem Dev.los_of_signal (h : (d.rxLane n).noSignal = false) :
    d.los n false =
      (((((d.setRxLane n { d.rxLane n with noSignal := true }).putBit Reg.LOS (n % 4) true (n / 4)).gflag (n / 4) 0).raise
        { source := 96 + 5 * (n / 4), inst := n / 4 }).laneOut n) :=
  (if_neg (Dev.not_laneless_or hn hon h)).trans (if_neg Bool.false_ne_true)

/-- R143: a dip on an aligned lane of a STRIPE3P group that is up makes the lane suspect. -/
theorem Dev.los_of_dip (h : (d.rxLane n).noSignal = false) (hup : d.flag Reg.GROUP_UP (n / 4) = true)
    (hparity : (d.laneGroup (n / 4)).parity = true) (haligned : (d.rxLane n).aligned = true) : d.los n true = d.laneOut n := by
  have hsuspect : (d.flag Reg.GROUP_UP (n / 4) && (d.laneGroup (n / 4)).parity && (d.rxLane n).aligned) = true := by
    rw [hup, hparity, haligned]; rfl
  exact ((if_neg (Dev.not_laneless_or hn hon h)).trans (if_pos rfl)).trans (if_pos hsuspect)

theorem Dev.wander_of_more {ppm : Nat} (h : (d.laneGroup (n / 4)).wanderPpm < ppm) :
    d.wander n ppm = (d.gflag (n / 4) 2).raise { source := 98 + 5 * (n / 4), inst := n / 4 } :=
  if_neg (Dev.not_laneless_or hn hon (decide_eq_false (Nat.not_le.2 h)))

theorem Dev.laneLock_of_on :
    d.laneLock n = (d.setRxLane n { d.rxLane n with locked := true, noSignal := false, good := 0, seq := none }).putBit
      Reg.LOS (n % 4) false (n / 4) :=
  if_neg (Dev.not_laneless hn hon)

theorem Dev.phaseOut_of_lock (h : (d.rxLane n).noLock = false) : d.phaseOut n = d.lol n :=
  if_neg (Dev.not_laneless_or hn hon h)

/-- R159: the bits of a lane whose test checks. -/
theorem Dev.prbsIn_of_checked (hpattern : (d.laneGroup (n / 4)).pattern ≠ 0)
    (hcheck : (d.laneGroup (n / 4)).patternUse.testBit 1 = true)
    (hlane : (d.laneGroup (n / 4)).patternLanes.testBit (n % 4) = true) (bits : List Bool) :
    d.prbsIn n bits = bits.foldl (Dev.bitChecked n (d.laneGroup (n / 4)).pattern) d := by
  have hacts : ¬ (decide (n ≥ 24) || !d.lanesOn (n / 4) || decide ((d.laneGroup (n / 4)).pattern = 0) ||
      !(d.laneGroup (n / 4)).patternUse.testBit 1 || !(d.laneGroup (n / 4)).patternLanes.testBit (n % 4)) = true := by
    rw [hcheck, hlane, decide_eq_false hpattern]
    simpa only [Bool.not_true, Bool.or_false] using Dev.not_laneless hn hon
  exact if_neg hacts

end

/-- R159: a bit that its checker finds wrong is counted, and the first of a test is reported. -/
theorem Dev.bitChecked_eq (n pattern : Nat) (d : Dev) (b : Bool) :
    let c := (d.rxLane n).checker.take pattern b
    let t := d.setRxLane n { d.rxLane n with checker := c.1 }
    d.bitChecked n pattern b =
      if c.2 = false then t
      else if (t.laneGroup (n / 4)).patternRaised then t.count (prbsErrs (n % 4)) 1 (n / 4)
      else (((t.count (prbsErrs (n % 4)) 1 (n / 4)).setLaneGroup (n / 4)
        { t.laneGroup (n / 4) with patternRaised := true }).gflag (n / 4) 6).raise { source := 134 + n / 4, inst := n / 4 } := by
  intro c t
  cases h : c.2 with
  | false => exact if_neg (by rw [h]; decide)
  | true => exact if_pos h

/-- Settles O27: each happening by what it asks of its lane and group, which the clause's hypotheses answer. -/
theorem lanesAct : Obligations.LanesAct := by
  intro s n hon d x g y goes skewed
  have hn : n.val < 24 := n.isLt
  refine ⟨?marker, ?missing, ?missed, ?los, ?wander, ?lock, ?phase, ?bits⟩
  case marker =>
    intro w arrived inv lane gid seq hread e z
    have hmarker : exec (.marker n (some w) arrived) s = .next (s.to ((e.markerRead n inv lane gid seq arrived).skewNoted g)) :=
      next_to_congr s (Dev.marker_of_read hn hon hread)
    have reads {t : Dev} (h : e.markerRead n inv lane gid seq arrived = t) : goes (.marker n (some w) arrived) (skewed t) :=
      hmarker.trans (next_to_congr s (congrArg (Dev.skewNoted · g) h))
    have hx : e.rxLane n = x := d.put_rxLane _ _ _ _
    have hy : e.laneGroup g = y := d.put_laneGroup _ _ _ _
    refine ⟨fun haligned hfollows hsettled => reads (Dev.markerRead_of_aligned hx hy haligned hfollows hsettled),
      fun haligned hlocked huntested hwanted => ?_⟩
    have hjudged := Dev.markerRead_of_unaligned (inv := inv) (lane := lane) (gid := gid) (seq := seq) (arrived := arrived) hx hy
      haligned hlocked ⟨huntested, hwanted⟩
    refine ⟨fun hfirst => reads (hjudged.trans (if_pos hfirst)), fun hgood hfollows => reads (hjudged.trans (if_neg ?_))⟩
    exact not_or.2 ⟨hgood, not_not_intro hfollows⟩
  case missing =>
    intro arrived haligned
    exact next_to_congr s ((Dev.marker_of_missing hn hon arrived).trans (if_neg (by rw [haligned]; decide)))
  case missed =>
    intro arrived haligned hsettled t
    have hbad : d.marker n none arrived = d.badMarker n := (Dev.marker_of_missing hn hon arrived).trans (if_pos haligned)
    exact ⟨fun hfew => next_to_congr s (hbad.trans (Dev.badMarker_of_few hfew hsettled)),
      fun hthird => next_to_congr s (hbad.trans (Dev.badMarker_of_third hthird))⟩
  case los =>
    intro hsignal
    exact ⟨next_to_congr s (Dev.los_of_signal hn hon hsignal),
      fun hup hparity haligned => next_to_congr s (Dev.los_of_dip hn hon hsignal hup hparity haligned)⟩
  case wander =>
    intro ppm hmore
    exact next_to_congr s (Dev.wander_of_more hn hon hmore)
  case lock => exact next_to_congr s (Dev.laneLock_of_on hn hon)
  case phase =>
    intro hlock
    exact next_to_congr s (Dev.phaseOut_of_lock hn hon hlock)
  case bits =>
    intro bits hpattern hcheck hlane f
    have hchecked := Dev.prbsIn_of_checked hn hon hpattern hcheck hlane bits
    have hbit := funext fun t => funext (Dev.bitChecked_eq n y.pattern t)
    exact next_to_congr s (hchecked.trans (congrArg (List.foldl · d bits) hbit))

end Sys2Proof.Machine
end

section
/-!
PROOFS. What packets on a group do, and when a line is declared missing (R135 to R149, R157, R166, R170).
-/

namespace Sys2Proof.Machine

/-! A packet on its way. -/

/-- R148, R149: a HEAD_HELLO that passes its check, on a group that is no peer's. -/
theorem Dev.controlIn_of_hello {d : Dev} {g : Nat} {p : Packet} (hgood : bodyGood p.words = true)
    (hmsg : hfield p.words 0 47 40 = 0x81) (hrole : (d.laneGroup g).peer = false) :
    d.controlIn g p = d.hello g (hfield p.words 0 55 52) ((p.words.drop 3)[0]?.getD 0) := by
  have hpass : ¬ (!bodyGood p.words) = true := by rw [hgood]; decide
  have hhead : ¬ (d.laneGroup g).peer = true := by rw [hrole]; decide
  simp only [Dev.controlIn, if_neg hpass, if_pos hmsg, if_neg hhead]

/-- R149, R157: a user message that passes its check, of a head in link. -/
theorem Dev.controlIn_of_message {d : Dev} {g : Nat} {p : Packet} (hgood : bodyGood p.words = true)
    (hmsg : 0xC0 ≤ hfield p.words 0 47 40) (hrole : (d.laneGroup g).peer = false)
    (hlinked : (d.groupHeads g).contains (hfield p.words 0 55 52) = true) :
    d.controlIn g p = d.mailIn g (hfield p.words 0 55 52)
      ⟨hfield p.words 0 55 52, hfield p.words 0 47 40, hfield p.words 0 15 0, p.words.drop 3⟩ := by
  have hpass : ¬ (!bodyGood p.words) = true := by rw [hgood]; decide
  have hhello : ¬ hfield p.words 0 47 40 = 0x81 := by omega
  have hbyte : hfield p.words 0 47 40 ≤ 0xFF := Nat.le_of_lt_succ (Nat.mod_lt _ (by decide))
  have huser : (decide (0xC0 ≤ hfield p.words 0 47 40) && decide (hfield p.words 0 47 40 ≤ 0xFF) ||
      ((d.laneGroup g).peer && decide (0x40 ≤ hfield p.words 0 47 40) && decide (hfield p.words 0 47 40 ≤ 0x7F))) = true := by
    rw [decide_eq_true hmsg, decide_eq_true hbyte]; rfl
  have hin : ¬ (!(d.laneGroup g).peer && !(d.groupHeads g).contains (hfield p.words 0 55 52)) = true := by
    rw [hlinked, hrole]; decide
  have hhead : ¬ (d.laneGroup g).peer = true := by rw [hrole]; decide
  simp only [Dev.controlIn, if_neg hpass, if_neg hhello, if_pos huser, if_neg hin, if_neg hhead]

/-- R151: a LINE_SEGMENT of a head in link goes on. -/
theorem Dev.segmentIn_of_link {d : Dev} {g : Nat} {p : Packet} (hrole : (d.laneGroup g).peer = false)
    (hlinked : (d.groupHeads g).contains (segHead p.words).head = true) : d.segmentIn g p = (d, some p) :=
  if_neg (by rw [hrole, hlinked]; decide)

theorem Dev.ingestSegment_of_good {d : Dev} {p : Packet} (hgood : bodyGood p.words = true) (hon : d.ingestOn = true) :
    d.ingestSegment p = d.placeSegment p.words p.injected :=
  (if_neg (by rw [hgood]; decide)).trans (if_pos hon)

theorem Dev.ingestSegment_of_bad {d : Dev} {p : Packet} (hbad : bodyGood p.words = false) :
    d.ingestSegment p = (d.headEvent 160 (segHead p.words).head Reg.SEG_CRC (some Reg.SEG_CRC_FAILS) p.injected).noteLost
      (segHead p.words).head p.injected :=
  if_pos (by rw [hbad]; decide)

/-! A group's words. -/

/-- The packet of the first `len` of some words. -/
def leadPacket (ws altered : List Nat) (len : Nat) : Packet := ⟨ws.take len, altered.any (fun k => decide (k < len))⟩

section
variable {d : Dev} {g : Nat} {ws altered : List Nat} {len : Nat}

theorem Dev.foundIn_of_control (h : hfield (ws.take len) 0 63 56 = 0xC3) :
    d.foundIn g ws altered (.packet 0 len) = d.controlIn g (leadPacket ws altered len) := by
  simp [Dev.foundIn, h, leadPacket]

theorem Dev.foundIn_of_segment (htype : hfield (ws.take len) 0 63 56 ≠ 0xC3) (hrole : (d.laneGroup g).peer = false)
    (hlinked : (d.groupHeads g).contains (segHead (ws.take len)).head = true) :
    d.foundIn g ws altered (.packet 0 len) =
      (d.ingestSegment (leadPacket ws altered len)).headMoved (segHead (ws.take len)).head := by
  have hlead : d.segmentIn g (leadPacket ws altered len) = (d, some (leadPacket ws altered len)) :=
    Dev.segmentIn_of_link hrole hlinked
  simp only [leadPacket] at hlead
  simp [Dev.foundIn, htype, leadPacket, hlead]

end

/-- R145: the unit after a group's words `r` have come and been scanned for packets, before it acts on those. -/
def afterScan (g : Nat) (r : Dev × List Nat × List Nat) : Dev :=
  r.1.setLaneGroup g { r.1.laneGroup g with hunting := (scan (r.2.1.length + 1) 0 (r.1.laneGroup g).hunting r.2.1).2 }

/-- R145: words that are one packet, from the first on, on a group that is up. -/
theorem Dev.linkIn_of_packet {d : Dev} {g pos len : Nat} {intervals : List (List (List Bool))} (hg : g < 6)
    (hup : d.flag Reg.GROUP_UP g = true) {r : Dev × List Nat × List Nat} (hr : d.receiveWords g pos intervals = r)
    (hfound : (scan (r.2.1.length + 1) 0 (r.1.laneGroup g).hunting r.2.1).1 = [.packet 0 len]) :
    d.linkIn g pos intervals = (afterScan g r).foundIn g r.2.1 r.2.2 (.packet 0 len) := by
  have hreceives : ¬ (!d.receives g) = true := by simp [Dev.receives, hup, hg]
  unfold Dev.linkIn
  rw [if_neg hreceives, hr]
  dsimp only
  rw [hfound]
  rfl

/-! Missing lines. -/

/-- R170: the deadline of an external head's next line has passed. -/
theorem Dev.missingLine_of_late {d : Dev} {h last t : Nat} (hon : d.ingestOn = true) (hh : h < 12) (hexpects : d.expects h = true)
    (hexternal : h ≠ 0) (hlast : (d.headS h).last = some last) (hdeadline : d.deadline (lineAdd last 1) = some t) (hlate : t < d.tb) :
    d.missingLine h = d.declare h (lineAdd last 1) := by
  have hdue : ¬ (!(d.ingestOn && decide (h < 12) && d.expects h)) = true := by simp [hon, hh, hexpects]
  have hlost : ((h != 0 || ((d.lineInfo (lineAdd last 1)).map (·.skipped)).getD false) && decide (t < d.tb)) = true := by
    simp [hexternal, hlate]
  simp only [Dev.missingLine, if_neg hdue, hlast, hdeadline, if_pos hlost]

/-- Settles O28: what the group's words are found to be decides where their one packet goes; the row of LINE_SEGMENT and that of
CONTROL are one operation. -/
theorem packetsAct : Obligations.PacketsAct := by
  intro s d goes
  refine ⟨?packet, fun g pos first rest => rfl, ?missing⟩
  case packet =>
    intro g pos first rest len hup r found u hfound w inj h
    have hlink : d.linkIn g pos ((first :: rest).map Vector.toList) = u.foundIn g r.2.1 r.2.2 (.packet 0 len) :=
      Dev.linkIn_of_packet g.isLt hup rfl hfound
    clear_value u r
    refine ⟨fun htype hrole hlinked hon => ?segment, fun htype hgood => ?control⟩
    case segment =>
      have hsegment := hlink.trans (Dev.foundIn_of_segment htype hrole hlinked)
      refine ⟨fun hgood => next_to_congr s (hsegment.trans ?_), fun hbad => next_to_congr s (hsegment.trans ?_)⟩
      · exact congrArg (Dev.headMoved · h) (Dev.ingestSegment_of_good (p := leadPacket r.2.1 r.2.2 len) hgood hon)
      · exact congrArg (Dev.headMoved · h) (Dev.ingestSegment_of_bad (p := leadPacket r.2.1 r.2.2 len) hbad)
    case control =>
      intro head msg payload
      have hcontrol := hlink.trans (Dev.foundIn_of_control htype)
      exact ⟨fun hmsg hrole => next_to_congr s (hcontrol.trans
          (Dev.controlIn_of_hello (p := leadPacket r.2.1 r.2.2 len) hgood hmsg hrole)),
        fun hmsg hrole hlinked => next_to_congr s (hcontrol.trans
          (Dev.controlIn_of_message (p := leadPacket r.2.1 r.2.2 len) hgood hmsg hrole hlinked))⟩
  case missing =>
    intro h last t hon hexpects hexternal hlast hdeadline hlate
    exact next_to_congr s (congrArg (Dev.headMoved · h)
      (Dev.missingLine_of_late hon h.isLt hexpects hexternal hlast hdeadline hlate))

end Sys2Proof.Machine
end

section
/-!
PROOFS. What accepted commands of the sorting path and of the archive do (R183, R220, R266, R290, R321, R402, R403, R483).
-/

namespace Sys2Proof.Machine

@[simp] theorem Dev.begun_win (d : Dev) (f : Form) (e : Entry) (w : Nat) : (d.begun f e).win w = d.win w := by
  obtain ⟨c, o, h⟩ := d.begun_eq f e; rw [h]; rfl

@[simp] theorem Dev.begun_liveAllowed (d : Dev) (f : Form) (e : Entry) : (d.begun f e).liveAllowed = d.liveAllowed := by
  simp only [Dev.liveAllowed, Dev.flag, Dev.begun_get]

/-! RESET_PIPELINE, STORM_CLEAR and COUNTERS_CLEAR (R266, R290, R483). -/

section
variable {e : Entry} {d : Dev} (htest : d.testing 0x20 = false)
include htest

/-- R483: in a run, the data up to the line in progress is flushed, and RESET_PIPELINE waits for that. -/
theorem effResetPipeline_of_run (hrun : (d.arr.running && d.arr.begun) = true) :
    let t := d.cutFade d.lineNow
    effResetPipeline e d =
      ({ t with track := { t.track with
          flushes := t.track.flushes ++ [⟨t.lineNow, false, ⟨e.sq, e.tag.toNat, 0x0105, false⟩⟩] } }, { held := true }) :=
  (if_neg (by rw [htest]; decide)).trans (if_pos hrun)

/-- R483: with no run, or before its first line, there is nothing to wait for. -/
theorem effResetPipeline_of_idle (hidle : (d.arr.running && d.arr.begun) = false) :
    effResetPipeline e d = (d.forgetIdle, { result := 0xFFFFFFFF }) :=
  (if_neg (by rw [htest]; decide)).trans (if_neg (by rw [hidle]; decide))

end

/-- R266: STORM_CLEAR names zones of the front face from byte 12 on, of the back face from byte 14 on. -/
theorem effStormClear_eq (e : Entry) (d : Dev) :
    let named := fun (x : Storm) => (if x.face = 0 then e.inl 12 2 else e.inl 14 2).testBit x.zone
    effStormClear e d =
      ({ d with track := { d.track with
          storms := d.track.storms.map (fun x => if named x then { x with clear := some (x.clear.getD d.newestLine) } else x) } },
        { result := (d.stormZones 0 &&& e.inl 12 2) + 2 ^ 16 * (d.stormZones 1 &&& e.inl 14 2) }) := by
  simp only [effStormClear, apply_ite (e.inl · 2), Nat.mul_comm]

/-- R290: a mask that is not 0 clears the counters it names. -/
theorem effCountersClear_of_some {e : Entry} (d : Dev) (h : e.inl 12 1 ≠ 0) :
    effCountersClear e d =
      (d.clearCounters ((e.inl 12 1).testBit 0) ((e.inl 12 1).testBit 1) ((e.inl 12 1).testBit 2), {}) := by
  simp only [effCountersClear, if_neg h]

/-! VALVE_TEST (R321). -/

section
variable (e : Entry) (d : Dev)

/-- R321: the mapped valves that VALVE_TEST names. -/
def Dev.testValves : List Nat := (d.conf.valves.filter (fun v => e.inl 12 2 ≤ v.id && v.id ≤ e.inl 14 2)).map (·.id)

/-- R321: the windows of a test, a train of pulses on each valve from the next frame on. -/
def Dev.testWins : List ValveWin :=
  let pulse := d.inFrames (e.inl 16 2)
  let gap := d.inFrames (e.inl 18 2)
  (d.testValves e).flatMap (fun v => (List.range (max 1 (e.inl 20 1))).map (fun i =>
    ⟨v, .test, v, v, 0, d.frameNext + i * (pulse + gap), some (d.frameNext + i * (pulse + gap) + pulse), false, false, false⟩))

/-- R321: a window that a new test leaves, any but a test's that has not begun. -/
def Dev.outlastsTest (x : ValveWin) : Bool := !(x.kind == .test && decide (d.frameNext ≤ x.fOpen))

end

/-- R321: a test whose valves, pulse and room are good takes the place of what an earlier one had not begun. -/
theorem effValveTest_of_room {e : Entry} {d : Dev} (hpulse : 10 ≤ e.inl 16 2) (horder : e.inl 12 2 ≤ e.inl 14 2)
    (hlive : d.liveAllowed = true) (hvalves : d.testValves e ≠ [])
    (hroom : (d.eject.wins.filter d.outlastsTest).length + (d.testWins e).length ≤ 16384) :
    let n := max 1 (e.inl 20 1)
    let pulse := d.inFrames (e.inl 16 2)
    let gap := d.inFrames (e.inl 18 2)
    effValveTest e d =
      ((d.dropWins (fun x => !d.outlastsTest x)).putWins (d.testWins e),
        { result := d.frameNext % 2 ^ 32 + 2 ^ 32 * ((d.frameNext + (n - 1) * (pulse + gap) + pulse) % 2 ^ 32) }) := by
  have hnamed : ¬ (decide (e.inl 14 2 < e.inl 12 2) || (d.testValves e).isEmpty) = true := by
    simpa using ⟨horder, hvalves⟩
  have hallowed : ¬ (!d.liveAllowed) = true := by rw [hlive]; decide
  exact (if_neg (Nat.not_lt.2 hpulse)).trans <| (if_neg hnamed).trans <| (if_neg hallowed).trans <|
    if_neg (Nat.not_lt.2 hroom)

/-! TAP_ARM (R220). -/

/-- R220: the first line an arming may select: the next one of the run, if there is one, or the line that the entry gives. -/
def Dev.tapFirst (d : Dev) (e : Entry) : Option Nat :=
  if (e.inl 12 1).testBit 4 then (if d.arr.running && d.arr.begun then some (lineAdd d.lineNow 1) else none) else some (e.inl 24 4)

/-- R220: the arming that TAP_ARM describes. -/
def Dev.tapOf (d : Dev) (e : Entry) : Tap :=
  ⟨e.sel 1 0, e.inl 12 1 % 8, e.inl 13 1, e.inl 14 1 % 64, max 1 (e.inl 15 1), e.inl 16 2, e.inl 18 2, e.inl 20 2, d.tapFirst e,
    !d.arr.running, (if e.inl 28 4 = 0 then none else some (e.inl 28 4)), 0, none⟩

/-- R220: a free channel is armed; no arming was replaced, so RESULT gives the first line alone. -/
theorem effTapArm_of_free {e : Entry} {d : Dev} (harm : (e.inl 12 1).testBit 3 = false)
    (hwin : (d.win (e.inl 14 1)).attached = true)
    (hfree : d.pipe.taps.find? (fun t => t.channel == e.sel 1 0 && t.stop.isNone) = none) :
    effTapArm e d = (({ d with pipe := { d.pipe with taps := d.pipe.taps ++ [d.tapOf e] } }).noteTap (d.tapOf e) true,
      { result := (d.tapFirst e).getD 0xFFFFFFFF }) := by
  simp only [effTapArm, harm, hwin, hfree, Bool.not_true, Bool.false_eq_true, if_false]
  rfl

/-! RING_ATTACH and RING_RELEASE (R402, R403). -/

/-- R402: a window as RING_ATTACH makes it. -/
def Win.attach (x : Win) (e : Entry) : Win :=
  { x with
    attached := true, base := e.inl 12 8, size := e.inl 20 8, overwrite := (e.inl 28 1).testBit 0
    noSnoop := (e.inl 28 1).testBit 1, peer := (e.inl 28 1).testBit 2, wp := 0, rp := 0, ret := 0, tail := 0, rpHeld := 0
    retHeld := 0, placed := [], live := [], retainEn := true }

/-- R402: a window that is free, overlaps no other and fits in what may be attached is attached. -/
theorem effRingAttach_of_free {e : Entry} {d : Dev} (hfree : (d.win (e.sel 5 0)).attached = false)
    (hapart : d.attachedWins.any
      (fun x => decide (x.base < e.inl 12 8 + e.inl 20 8) && decide (e.inl 12 8 < x.base + x.size)) = false)
    (htotal : (d.attachedWins.map (·.size)).foldl (· + ·) (e.inl 20 8) ≤ 2 ^ 42) :
    let t := d.setWin (e.sel 5 0) ((d.win (e.sel 5 0)).attach e)
    effRingAttach e d =
      ({ t with host := { t.host with
          downWindows := t.host.downWindows &&& ~~~BitVec.ofNat 64 (1 <<< e.sel 5 0) } }.noteAttached, {}) :=
  (if_neg (by rw [hfree]; decide)).trans <| (if_neg (by rw [hapart]; decide)).trans <| if_neg (Nat.not_lt.2 htotal)

/-- R403: the records of window `w` not yet published, those placed there and those that wait for it. -/
def Dev.unpublished (d : Dev) (w : Nat) : Nat :=
  let here := fun (rs : List StreamRec) => (rs.filter (fun r => r.win == w)).length
  ((d.win w).placed.filter (fun p => !p.pad)).length + (d.arch.queue.filter (fun r => r.1 == w)).length
    + here d.arch.forecasts + here d.arch.views + here d.arch.taps

/-- R403: the unit without the records that wait for window `w`. -/
def Dev.withoutRecords (d : Dev) (w : Nat) : Dev :=
  let keep := fun (rs : List StreamRec) => rs.filter (fun r => r.win != w)
  { d with arch := { d.arch with
    queue := d.arch.queue.filter (fun r => r.1 != w), forecasts := keep d.arch.forecasts, views := keep d.arch.views
    taps := keep d.arch.taps } }

/-- R403: a released window, with the records it loses counted among its drops. -/
def Win.release (x : Win) (lost : Nat) : Win :=
  { x.detach with drops := sat32 (x.drops + lost), dropped := x.dropped || lost != 0 }

/-- R403: an attached window is released, what is lost of it is reported, and the taps into it end. -/
theorem effRingRelease_of_attached {e : Entry} {d : Dev} (hwin : (d.win (e.sel 5 0)).attached = true) :
    let w := e.sel 5 0
    let lost := d.unpublished w
    let t := ((d.withoutRecords w).setWin w ((d.win w).release lost)).noteAttached
    effRingRelease e d =
      ((if lost = 0 then t else t.orBits Reg.RING_EVENT 1).endTaps (fun p => p.window == w) 3, { result := (d.win w).wp }) :=
  if_neg (by rw [hwin]; decide)

/-! CALIBRATE (R183). -/

/-- R183: the measurement that CALIBRATE begins. -/
def Dev.calibOf (d : Dev) (e : Entry) : Calib :=
  let o := e.inl 12 1
  ⟨o % 4 == 1, o.testBit 4, o.testBit 5, o.testBit 6, (if e.inl 13 1 = 0 then 64 else e.inl 13 1), e.inl 14 2, e.inl 16 1,
    (bitsOf 12 (e.sel 11 0)).map (fun h => ⟨h, 0, 0, 0, []⟩), d.st == .idle && !d.runOn, d.clk.bus⟩

/-- R183: outside ARMED and SORTING, heads that are all expected begin to be measured, in a run of the unit's own if it is idle. -/
theorem effCalibrate_of_expected {e : Entry} {d : Dev} (harmed : d.st ≠ .armed) (hsorting : d.st ≠ .sorting)
    (hheads : (bitsOf 12 (e.sel 11 0)).all d.expects = true) :
    let t := if d.st == .idle && !d.runOn then d.newRun true else d
    effCalibrate e d =
      (({ t with pipe := { t.pipe with calib := some (d.calibOf e) } }).put Reg.CAL_BLOCKS 0, { held := true }) := by
  have hquiet : ¬ (d.st = .armed ∨ d.st = .sorting) := not_or.2 ⟨harmed, hsorting⟩
  have hknown : ¬ (!(bitsOf 12 (e.sel 11 0)).all d.expects) = true := by rw [hheads]; decide
  simp only [effCalibrate, Bool.or_eq_true, decide_eq_true_eq, if_neg hquiet, if_neg hknown]
  rfl

/-! The commands. -/

/-- Settles O7: each command by its effect under the statement's hypotheses; RESET_PIPELINE in a run and CALIBRATE are held, the
others answered. -/
theorem pathCommandsAct : Obligations.PathCommandsAct := by
  intro s e
  refine ⟨?resetRun, ?resetIdle, ?stormClear, ?countersClear, ?valveTest, ?tapArm, ?ringAttach, ?ringRelease, ?calibrate⟩
  case resetRun =>
    intro ha d htest hrun t
    have hbegun : (d.arr.running && d.arr.begun) = true := by rw [Dev.begun_arr, hrun]
    exact next_to_congr s (Dev.hostCommand_holds effResetPipeline ha (effResetPipeline_of_run htest hbegun) rfl)
  case resetIdle =>
    intro ha d htest hidle
    have hnone : (d.arr.running && d.arr.begun) = false := by rw [Dev.begun_arr, hidle]
    exact next_to_congr s (Dev.hostCommand_answers effResetPipeline ha (effResetPipeline_of_idle htest hnone) rfl)
  case stormClear =>
    intro ha d named
    exact next_to_congr s (Dev.hostCommand_answers effStormClear ha (effStormClear_eq e d) rfl)
  case countersClear =>
    intro ha d hmask
    exact next_to_congr s (Dev.hostCommand_answers effCountersClear ha (effCountersClear_of_some d hmask) rfl)
  case valveTest =>
    intro ha d hpulse horder hlive vs n pulse gap ws kept hvalves hroom
    have hallowed : d.liveAllowed = true := by rw [Dev.begun_liveAllowed, hlive]
    exact next_to_congr s (Dev.hostCommand_answers effValveTest ha
      (effValveTest_of_room hpulse horder hallowed hvalves hroom) rfl)
  case tapArm =>
    intro ha d harm hwin hfree first t
    rw [← s.dev.begun_pipe formTapArm e] at hfree
    exact next_to_congr s (Dev.hostCommand_answers effTapArm ha (effTapArm_of_free harm hwin hfree) rfl)
  case ringAttach =>
    intro ha d hfree hapart htotal x t
    exact next_to_congr s (Dev.hostCommand_answers effRingAttach ha (effRingAttach_of_free hfree hapart htotal) rfl)
  case ringRelease =>
    intro ha d hwin x here keep lost a t
    exact next_to_congr s (Dev.hostCommand_answers effRingRelease ha (effRingRelease_of_attached hwin) rfl)
  case calibrate =>
    intro ha d harmed hsorting hheads o own k t
    have hst : d.st = s.dev.st := s.dev.begun_st _ _
    exact next_to_congr s (Dev.hostCommand_holds effCalibrate ha
      (effCalibrate_of_expected (hst ▸ harmed) (hst ▸ hsorting) hheads) rfl)

end Sys2Proof.Machine
end

section
/-!
PROOFS. Faces, evaluations, verdicts, forecasts and valve frames (R237, R274, R277, R281, R293, R299).
-/

namespace Sys2Proof.Machine

/-! FACE_ASSEMBLY (R237 to R259). -/

/-- R246: the indices of a face line's columns. -/
def Dev.faceIndices (d : Dev) (f : Nat) (l : FaceLine) : List (List Nat) :=
  l.cols.map (fun p => (d.confAt l.num).indices f p.vals)

/-- R247: the classes of a face line's columns. -/
def Dev.faceClasses (d : Dev) (f : Nat) (l : FaceLine) : List Nat :=
  List.zipWith (fun p i => (d.confAt l.num).classOf f p i) l.cols (d.faceIndices f l)

/-- R218, R414: the unit once its taps and its line ring have had a face line. -/
def Dev.faceKept (d : Dev) (f : Nat) (l : FaceLine) : Dev := (d.tapFace f l (d.faceClasses f l)).toLineRing f l

/-- R237: a face line for which every head line has come is put together. -/
theorem Dev.faceAssembly_of_ready {d : Dev} {f : Nat} {info : LineInfo} (hnext : d.nextFaceLine f = some info)
    (hready : d.faceReady f info = true) : d.faceAssembly f = d.faceLine f info := by
  simp only [Dev.faceAssembly, hnext, hready, if_true]

/-- A face line on which no objects are tracked is not labelled. -/
theorem Dev.faceLine_of_untracked (d : Dev) (f : Nat) {info : LineInfo} (h : info.tracked = false) :
    let a := d.stormCheck.assemble f info
    d.faceLine f info = (a.1.faceKept f a.2).drainCheck.flushCheck :=
  congrArg (fun t : Dev => t.drainCheck.flushCheck) (if_neg (by rw [h]; decide))

/-- R249: any other is labelled, once the taps and the line ring have had it. -/
theorem Dev.faceLine_of_tracked (d : Dev) (f : Nat) {info : LineInfo} (h : info.tracked = true) :
    let a := d.stormCheck.assemble f info
    d.faceLine f info =
      ((a.1.faceKept f a.2).label f a.2 (a.1.faceClasses f a.2) (a.1.faceIndices f a.2)).drainCheck.flushCheck :=
  congrArg (fun t : Dev => t.drainCheck.flushCheck) (if_pos h)

/-! The classifier's evaluations (R274, R277 to R279, R281). -/

/-- R274: a verdict evaluation that waits and is not late is the next to start. -/
theorem Dev.startEval_of_verdict {d : Dev} {x : Eval}
    (h : d.cls.evals.find? (fun y => !y.running && y.verdict && !y.late d.cycle) = some x) :
    d.startEval = d.setCls (fun c => { c with
      evals := c.evals.map (fun y =>
        if y.seq = x.seq ∧ y.verdict = x.verdict ∧ y.line = x.line then { y with running := true } else y) }) := by
  have hfirst : d.cls.evals.find? (fun y => (!y.running && !(y.verdict && y.late d.cycle)) && y.verdict) = some x := by
    rw [← h]
    congr 1
    funext y
    cases y.running <;> cases y.verdict <;> simp
  simp only [Dev.startEval, hfirst, Bool.and_eq_true, beq_iff_eq, and_assoc]

/-- R274: the verdict evaluation that has waited too long goes, and its object takes the overload verdict. -/
theorem Dev.classOverload_of_late {d : Dev} {x : Eval}
    (h : d.cls.evals.find? (fun y => y.verdict && !y.running && y.late d.cycle) = some x) :
    d.classOverload = ((d.dropEval x).overload x.seq).verdicts := by
  simp only [Dev.classOverload, h]

/-- R272: the unit once evaluation `x` has ended and the errors of its trees are noted. -/
def Dev.evaluated (d : Dev) (x : Eval) : Dev :=
  (d.dropEval x).noteErrors x.seq x.inj ((d.confOf x.gen).evaluate x.words).2

/-- R281: a verdict evaluation's scores become the result of its object. -/
theorem Dev.verdictDone_of_running {d : Dev} {x : Eval} (h : d.cls.evals.find? (fun y => y.running && y.verdict) = some x) :
    let r := (d.confOf x.gen).evaluate x.words
    d.verdictDone = ((d.evaluated x).setResult x.seq ⟨r.1, false, !r.2.isEmpty⟩).verdicts := by
  simp only [Dev.verdictDone, h, Dev.evaluated]

/-- R273: the class and the confidence at which evaluation `x` arrives. -/
def Dev.judged (d : Dev) (x : Eval) : Nat × Nat := Machine.judge ((d.confOf x.gen).evaluate x.words).1

/-- R276: the rule of the class at which evaluation `x` arrives. -/
def Dev.ruleFor (d : Dev) (x : Eval) : Nat := (d.confOf x.gen).rule (d.judged x).1

/-- R277: object `o` issues no forecast: it has issued one, or the rule or the confidence of evaluation `x` allows none. -/
def Dev.NoForecast (d : Dev) (x : Eval) (o : Obj) : Prop :=
  o.forecast ≠ none ∨ (d.ruleFor x).testBit 8 = false ∨ (d.judged x).2 < d.ruleFor x / 2 ^ 16 % 256

/-- R279: the forecast of evaluation `x` meets what firing asks. -/
def Dev.firing (d : Dev) (x : Eval) : Bool :=
  (d.ruleFor x).testBit 9 && shoots (d.ruleFor x % 8) && decide (d.ruleFor x / 2 ^ 24 ≤ (d.judged x).2)

/-- R279, R305: the unit with the windows of the forecast, whether it fires, and whether the window store had no room. -/
def Dev.forecastShot (d : Dev) (x : Eval) : Dev × Bool × Bool :=
  if d.firing x then (d.evaluated x).fireForecast ⟨x.seq, x.face, x.gen, x.line, x.words, [], x.inj⟩
  else (d.evaluated x, false, false)

/-- R277: the unit whose object of evaluation `x` holds its forecast. -/
def Dev.forecastGiven (d : Dev) (x : Eval) : Dev :=
  let p := d.forecastShot x
  p.1.modObj x.seq (fun o => { o with
    forecast := some ⟨x.seq, x.face, (d.judged x).1, (d.judged x).2, x.line, x.gen, fw x.words 1, shoots (d.ruleFor x % 8),
      d.firing x, p.2.1, p.2.2, x.inj⟩ })

/-- R292: the record of that forecast, where `o` is the object. -/
def Dev.forecastRecord (d : Dev) (x : Eval) (o : Obj) : FcRecord :=
  let p := d.forecastShot x
  let t := d.forecastGiven x
  let dry := p.2.1 && t.dryNow ((t.forecastWins [x.seq]).map (·.fOpen))
  ⟨0, 1 + 2 * b2n p.2.1 + 4 * b2n dry + 8 * b2n x.inj + 16 * b2n p.2.2, (d.judged x).1, (d.judged x).2, 0, 0, t.objectId x.seq, 0,
    x.line, t.timeOf x.line, x.gen, o.firstLine, (o.acc.colMin, o.acc.colMax), o.height⟩

/-! What the errors of an evaluation's trees leave of the open objects (R272). -/

theorem Dev.still_track {d t : Dev} (h : t.still = d.still) : t.track = d.track := congrArg (·.2.2.2.2.2.2.1) h

theorem Dev.raise_track (d : Dev) (o : Occ) : (d.raise o).track = d.track := Dev.still_track (d.raise_tells o).1

theorem Dev.obj?_of_track {d t : Dev} (h : t.track = d.track) (seq : Nat) : t.obj? seq = d.obj? seq := by
  rw [Dev.obj?, h, Dev.obj?]

/-- R272: of the objects, the errors of an evaluation change DEPTH_ERR of its own object alone. -/
theorem Dev.noteErrors_track (d : Dev) (seq : Nat) (inj : Bool) (errs : List (Nat × Nat)) :
    (d.noteErrors seq inj errs).track = (if errs.isEmpty then d else d.markDepth seq).track := by
  unfold Dev.noteErrors
  generalize (if errs.isEmpty = true then d else d.markDepth seq) = marked
  induction errs generalizing marked with
  | nil => rfl
  | cons e errs ih => rw [List.foldl_cons, ih, Dev.raise_track, Dev.orBits_track, Dev.put_track, Dev.put_track, Dev.count_track]

theorem Dev.markDepth_obj? (d : Dev) (seq : Nat) :
    (d.markDepth seq).obj? seq = (d.obj? seq).map (fun o => if o.seq == seq then { o with depthErr := true } else o) := by
  have hseq : (fun o : Obj => o.seq == seq) ∘ (fun o => if o.seq == seq then { o with depthErr := true } else o) =
      fun o => o.seq == seq := by
    funext o
    simp only [Function.comp_apply]
    split <;> rfl
  exact List.find?_map.trans (by rw [hseq]; rfl)

theorem Dev.dropEval_obj? (d : Dev) (x : Eval) (seq : Nat) : (d.dropEval x).obj? seq = d.obj? seq := rfl

/-- An object that is not open is not open once the evaluation has ended. -/
theorem Dev.evaluated_obj?_of_none {d : Dev} {x : Eval} (h : d.obj? x.seq = none) : (d.evaluated x).obj? x.seq = none := by
  rw [Dev.evaluated, Dev.obj?_of_track (Dev.noteErrors_track _ _ _ _)]
  split
  · exact h
  · rw [Dev.markDepth_obj?, Dev.dropEval_obj?, h, Option.map_none]

/-- R272: an open object is still open, with DEPTH_ERR as the evaluation leaves it. -/
theorem Dev.evaluated_obj?_of_some {d : Dev} {x : Eval} {o : Obj} (h : d.obj? x.seq = some o) :
    ∃ err, (d.evaluated x).obj? x.seq = some { o with depthErr := err } := by
  rw [Dev.evaluated, Dev.obj?_of_track (Dev.noteErrors_track _ _ _ _)]
  split
  · exact ⟨o.depthErr, h⟩
  · have hseq : (o.seq == x.seq) = true := List.find?_some (p := fun o : Obj => o.seq == x.seq) h
    exact ⟨true, by rw [Dev.markDepth_obj?, Dev.dropEval_obj?, h, Option.map_some, if_pos hseq]⟩

/-! PROVISIONAL_RESULT (R277 to R279, R292). -/

section
variable {d : Dev} {x : Eval} (hrun : d.cls.evals.find? (fun y => y.running && !y.verdict) = some x)
include hrun

/-- R278: the result for an object that has closed in the meantime is discarded. -/
theorem Dev.provisionalResult_of_closed (hobj : d.obj? x.seq = none) : d.provisionalResult = d.evaluated x := by
  have hnone : ((d.dropEval x).noteErrors x.seq x.inj (((d.dropEval x).confOf x.gen).evaluate x.words).2).obj? x.seq = none :=
    Dev.evaluated_obj?_of_none hobj
  simp only [Dev.provisionalResult, hrun, hnone]
  rfl

/-- R277: what comes of the result for an open object. -/
theorem Dev.provisionalResult_of_open {o : Obj} (hobj : d.obj? x.seq = some o) :
    d.provisionalResult =
      if (o.forecast.isSome || !(d.ruleFor x).testBit 8 || decide ((d.judged x).2 < d.ruleFor x / 2 ^ 16 % 256)) = true then
        d.evaluated x
      else (d.forecastGiven x).forecastOut (d.forecastRecord x o) := by
  obtain ⟨err, hopen⟩ := Dev.evaluated_obj?_of_some hobj
  have hsome : ((d.dropEval x).noteErrors x.seq x.inj (((d.dropEval x).confOf x.gen).evaluate x.words).2).obj? x.seq = some _ := hopen
  simp only [Dev.provisionalResult, hrun, hsome]
  rfl

theorem Dev.provisionalResult_of_noForecast {o : Obj} (hobj : d.obj? x.seq = some o) (hno : d.NoForecast x o) :
    d.provisionalResult = d.evaluated x := by
  refine (Dev.provisionalResult_of_open hrun hobj).trans (if_pos ?_)
  simpa only [Dev.NoForecast, Bool.or_eq_true, Bool.not_eq_true', decide_eq_true_eq, or_assoc, Option.isSome_iff_ne_none] using hno

/-- R277, R292: the object's first forecast is given to it and recorded. -/
theorem Dev.provisionalResult_of_forecast {o : Obj} (hobj : d.obj? x.seq = some o) (hfirst : o.forecast = none)
    (hrule : (d.ruleFor x).testBit 8 = true) (hconf : d.ruleFor x / 2 ^ 16 % 256 ≤ (d.judged x).2) :
    d.provisionalResult = (d.forecastGiven x).forecastOut (d.forecastRecord x o) := by
  refine (Dev.provisionalResult_of_open hrun hobj).trans (if_neg ?_)
  rw [hfirst, hrule, decide_eq_false (Nat.not_lt.2 hconf)]
  decide

end

/-! VALVE_FRAME (R299, R307, R317) and RETRACTION_RECORD (R293). -/

/-- R317: comparing returned words leaves the state. -/
theorem Dev.linkCheck_st (d : Dev) (k e : Nat) : (d.linkCheck k e).1.st = d.st := by
  unfold Dev.linkCheck
  dsimp only
  split <;> rfl

theorem Dev.linkChecks_st (d : Dev) (k : Nat) (es : List Nat) : (d.linkChecks k es).1.st = d.st := by
  induction es generalizing d with
  | nil => rfl
  | cons e es ih => exact (ih _).trans (d.linkCheck_st k e)

/-- R316: the valve engines. -/
def Dev.valveEngines (d : Dev) : List Nat := (List.range 16).filter d.valveEngine

/-- R307, R316: the unit with frame `k` composed, and no frame sent by the engines that drive no valves. -/
def Dev.frameComposed (d : Dev) (k : Nat) : Dev :=
  let a := d.compose k
  ((List.range 16).filter (fun e => !a.valveEngines.contains e)).foldl (fun x e => x.setEng e { x.eng e with sent := 0 }) a

/-- R317: frame `k` with the words returned by the valve engines compared; the engines whose links fail. -/
def Dev.frameReturns (d : Dev) (k : Nat) : Dev × List Nat := (d.frameComposed k).linkChecks k (d.compose k).valveEngines

/-- R318: the valve engines that are late at the boundary of frame `k`. -/
def Dev.frameLate (d : Dev) (k : Nat) : List Nat := (d.compose k).valveEngines.filter (fun e => ((d.frameReturns k).1.eng e).late)

/-- R317, R318: the unit once each link that fails and each engine that is late has been acted on. -/
def Dev.frameChecked (d : Dev) (k : Nat) : Dev :=
  (d.frameLate k).foldl Dev.valveStall ((d.frameReturns k).2.foldl Dev.valveLink (d.frameReturns k).1)

/-- R299: at its boundary a frame not yet composed goes to the valve engines, unless what they answer stops the unit. -/
theorem Dev.valveFrame_of_new {d : Dev} (hon : d.ejectOn = true) (hnew : d.eject.frame ≠ some d.frameNow) :
    let k := d.frameNow
    let t := d.frameChecked k
    d.valveFrame =
      ((if (decide ((d.frameComposed k).st ≠ .fault) && decide (t.st = .fault)) = true then t
        else (d.compose k).valveEngines.foldl (fun x e => x.placeFrame k e) t).pulse 2).syncOn 1 := by
  have hdue : ¬ (!d.ejectOn || d.eject.frame == some d.frameNow) = true := by simp [hon, hnew]
  exact if_neg hdue

theorem Dev.frameChecked_of_sound {d : Dev} {k : Nat} (hlinks : (d.frameReturns k).2 = []) (hlate : d.frameLate k = []) :
    d.frameChecked k = (d.frameReturns k).1 := by
  rw [Dev.frameChecked, hlinks, hlate, List.foldl_nil, List.foldl_nil]

/-- R316: where every link answers and no valve engine is late, each valve engine gets its words of the frame. -/
theorem Dev.valveFrame_of_sound {d : Dev} (hon : d.ejectOn = true) (hnew : d.eject.frame ≠ some d.frameNow)
    (hlinks : (d.frameReturns d.frameNow).2 = []) (hlate : d.frameLate d.frameNow = []) :
    let k := d.frameNow
    d.valveFrame =
      (((d.compose k).valveEngines.foldl (fun x e => x.placeFrame k e) (d.frameReturns k).1).pulse 2).syncOn 1 := by
  have hst : (d.frameReturns d.frameNow).1.st = (d.frameComposed d.frameNow).st := Dev.linkChecks_st _ _ _
  have hgoesOn :
      ¬ (decide ((d.frameComposed d.frameNow).st ≠ .fault) && decide ((d.frameReturns d.frameNow).1.st = .fault)) = true := by
    rw [hst]; simp
  refine (Dev.valveFrame_of_new hon hnew).trans ?_
  rw [Dev.frameChecked_of_sound hlinks hlate, if_neg hgoesOn]

/-- R293: the oldest retraction whose frame has latched is placed. -/
theorem Dev.placeRetraction_of_latched {d : Dev} {r : Retraction}
    (h : d.cls.retractions.find? (fun y => d.latched y.frame) = some r) :
    d.placeRetraction = (d.setCls (fun c => { c with retractions := c.retractions.erase r })).objRecord r.bytes := by
  simp only [Dev.placeRetraction, h]

/-- Settles O29: each happening by what it finds, which the clause's hypotheses say. -/
theorem objectsGoOn : Obligations.ObjectsGoOn := by
  intro s d goes
  refine ⟨?face, ?errors, ?start, ?overload, ?verdict, ?provisional, ?frame, ?retraction⟩
  case face =>
    intro f info hnext hready a c idx cls b
    have hline := Dev.faceAssembly_of_ready hnext hready
    exact ⟨fun h => next_to_congr s (hline.trans (d.faceLine_of_untracked f h)),
      fun h => next_to_congr s (hline.trans (d.faceLine_of_tracked f h))⟩
  case errors => exact fun f errs => rfl
  case start => exact fun x h => next_to_congr s (Dev.startEval_of_verdict h)
  case overload => exact fun x h => next_to_congr s (Dev.classOverload_of_late h)
  case verdict => exact fun x h => next_to_congr s (Dev.verdictDone_of_running h)
  case provisional =>
    intro x hrun c r b v rule
    refine ⟨fun hobj => next_to_congr s (Dev.provisionalResult_of_closed hrun hobj), fun o hobj => ⟨fun hno => ?none, ?given⟩⟩
    case none => exact next_to_congr s (Dev.provisionalResult_of_noForecast hrun hobj hno)
    case given =>
      intro hfirst hrule hconf met p t dry
      exact next_to_congr s (Dev.provisionalResult_of_forecast hrun hobj hfirst hrule hconf)
  case frame =>
    intro hfirst hon hnew k a vs b l hlinks hlate
    exact next_to_congr s ((Dev.onEdge_of_first hfirst _).trans (Dev.valveFrame_of_sound hon hnew hlinks hlate))
  case retraction => exact fun r h => next_to_congr s (Dev.placeRetraction_of_latched h)

end Sys2Proof.Machine
end

section
/-!
PROOFS. Programs of the engines (R332, R338, R341, R343), and the accepted commands of engines, timers and the auxiliary sequencer
(R337 to R339, R358, R377).
-/

namespace Sys2Proof.Machine

/-! What comes before a command's effect leaves of the engines. -/

@[simp] theorem Dev.begun_engine (d : Dev) (f : Form) (e : Entry) : (d.begun f e).engine = d.engine := by
  obtain ⟨c, o, h⟩ := d.begun_eq f e; rw [h]

@[simp] theorem Dev.begun_eng (d : Dev) (f : Form) (e : Entry) (n : Nat) : (d.begun f e).eng n = d.eng n := by
  simp only [Dev.eng, Dev.begun_engine]

@[simp] theorem Dev.begun_ejectOn (d : Dev) (f : Form) (e : Entry) : (d.begun f e).ejectOn = d.ejectOn := by
  simp only [Dev.ejectOn, Dev.domainReady, Dev.bitOf, Dev.begun_get]

/-! Bytes and halfwords. -/

theorem leNat_lt (bs : List Byte) : leNat bs < 256 ^ bs.length := by
  induction bs with
  | nil => decide
  | cons b bs ih =>
    have hb := b.isLt
    simp only [leNat, List.length_cons, Nat.pow_succ]
    omega

theorem leAt_lt (bs : List Byte) (off n : Nat) : leAt bs off n < 256 ^ n :=
  Nat.lt_of_lt_of_le (leNat_lt _) (Nat.pow_le_pow_right (by decide) (by simp only [List.length_take]; omega))

/-- R343: the instructions that words of table 10h hold, the lower halfword first. -/
def halvesOf (ws : List Word) : List Nat := ws.flatMap (fun w => [w.toNat % 65536, w.toNat / 65536])

theorem halvesOf_cons (w : Word) (ws : List Word) :
    halvesOf (w :: ws) = w.toNat % 65536 :: w.toNat / 65536 :: halvesOf ws := rfl

/-- R343: instructions packed two to a word are read as they were. -/
theorem halvesOf_packHalves {l : List Nat} (heven : l.length % 2 = 0) (hlt : ∀ a ∈ l, a < 65536) :
    halvesOf (packHalves l) = l := by
  induction l using packHalves.induct with
  | case1 => rfl
  | case2 a => simp at heven
  | case3 a b rest ih =>
    simp only [List.mem_cons, forall_eq_or_imp] at hlt
    obtain ⟨ha, hb, hrest⟩ := hlt
    simp only [List.length_cons] at heven
    have hw : (BitVec.ofNat 32 (a + 65536 * b)).toNat = a + 65536 * b := by
      rw [BitVec.toNat_ofNat]; exact Nat.mod_eq_of_lt (by omega)
    rw [packHalves, halvesOf_cons, hw, ih (by omega) hrest, show (a + 65536 * b) % 65536 = a by omega,
      show (a + 65536 * b) / 65536 = b by omega]

/-! Writes of a program (R338). -/

section
variable {d : Dev} {n off : Nat} {ws : List Word}

theorem Dev.progWrite_of_running (h : (d.eng n).running = true) : d.progWrite n off ws = (d, { status := .notStopped }) := if_pos h

/-- R338: the first illegal instruction is named in ENG_CHECK, and nothing is written. -/
theorem Dev.progWrite_of_illegal {i : Nat} (hstop : (d.eng n).running = false) (hi : i < (halvesOf ws).length)
    (hbad : instrIllegal ((halvesOf ws)[i]?.getD 0) = true)
    (hfirst : ∀ j, j < i → instrIllegal ((halvesOf ws)[j]?.getD 0) = false) :
    d.progWrite n off ws = (d.engCheck n 1 (2 * off + i), badParam 0xFF) := by
  have hfind : (List.range (halvesOf ws).length).find? (fun i => instrIllegal ((halvesOf ws)[i]?.getD 0)) = some i :=
    List.find?_range_eq_some.2 ⟨hbad, List.mem_range.2 hi, fun j hj => by simp [hfirst j hj]⟩
  unfold halvesOf at hfind
  simp only [Dev.progWrite, hstop, hfind, Bool.false_eq_true, if_false]

theorem Dev.progWrite_of_legal_halves (hstop : (d.eng n).running = false) (hlegal : ∀ a ∈ halvesOf ws, instrIllegal a = false) :
    let t := { d.touch with engine := { d.engine with prog := Store.putAll tableDefault d.engine.prog (tableKey 0x10 n off) ws } }
    d.progWrite n off ws = (t.setEng n { t.eng n with loaded := true }, {}) :=
  Dev.progWrite_of_legal hstop fun v hv =>
    ⟨hlegal _ (List.mem_flatMap.2 ⟨v, hv, by simp⟩), hlegal _ (List.mem_flatMap.2 ⟨v, hv, by simp⟩)⟩

end

/-! ENGINE_LOAD (R338, R341). -/

/-- R341: the instructions that an ENGINE_LOAD brings. -/
def programOf (e : Entry) : List Nat := (List.range (e.inl 12 1)).map (fun i => leAt e.data (2 * i) 2)

/-- R341: the instructions that an ENGINE_LOAD writes, with a JMP to itself at each address after its own. -/
def programFilled (e : Entry) : List Nat :=
  programOf e ++ (List.range (64 - e.inl 12 1)).map (fun i => 0x7000 + e.inl 12 1 + i)

theorem programOf_length (e : Entry) : (programOf e).length = e.inl 12 1 := by simp [programOf]

theorem programSize_of_check {e : Entry} {d : Dev} (h : checkEngineLoad e d = none) : e.inl 12 1 ≤ 64 := by
  refine Nat.le_of_not_lt fun hlarge => ?_
  rw [checkEngineLoad, if_pos (by simp only [hlarge, decide_true, Bool.or_true])] at h
  cases h

theorem halvesOf_programFilled {e : Entry} (h : e.inl 12 1 ≤ 64) :
    halvesOf (packHalves (programFilled e)) = programFilled e := by
  refine halvesOf_packHalves ?even fun a ha => ?lt
  case even => simp [programFilled, programOf_length]; omega
  case lt =>
    simp only [programFilled, programOf, List.mem_append, List.mem_map, List.mem_range] at ha
    obtain ⟨i, -, rfl⟩ | ⟨i, hi, rfl⟩ := ha
    · exact leAt_lt _ _ 2
    · omega

theorem programFilled_getElem? {e : Entry} {i : Nat} (hi : i < e.inl 12 1) : (programFilled e)[i]? = (programOf e)[i]? :=
  List.getElem?_append_left (by rwa [programOf_length])

/-- R332: a JMP to any address is legal. -/
theorem instrIllegal_jump {a : Nat} (h : a < 64) : instrIllegal (0x7000 + a) = false := by
  have hall : ∀ a : Fin 64, instrIllegal (0x7000 + a.val) = false := by decide
  exact hall ⟨a, h⟩

theorem programFilled_legal {e : Entry} (h : ∀ a ∈ programOf e, instrIllegal a = false) :
    ∀ a ∈ programFilled e, instrIllegal a = false := by
  intro a ha
  simp only [programFilled, List.mem_append, List.mem_map, List.mem_range] at ha
  obtain ha | ⟨i, hi, rfl⟩ := ha
  · exact h a ha
  · rw [Nat.add_assoc]; exact instrIllegal_jump (by omega)

/-- R338: what an ENGINE_LOAD of good data does is what the write of its program does, and LEN follows a write. -/
theorem effEngineLoad_of_write {e : Entry} {d t : Dev} {r : Reply} (hcrc : crc32c e.data = e.inl 16 4)
    (hw : d.progWrite (e.sel 3 0) 0 (packHalves (programFilled e)) = (t, r)) :
    effEngineLoad e d =
      if r.status = .ok then (t.put Reg.LEN (e.inl 12 1) (e.sel 3 0), { result := e.inl 12 1 }) else (t, r) := by
  unfold programFilled programOf at hw
  simp only [effEngineLoad, hcrc, ne_eq, not_true_eq_false, if_false, hw]
  obtain ⟨status, _⟩ := r
  cases status <;> rfl

/-- R338: the last step of a TABLE_WRITE to table 10h that its engine or its instructions refuse. -/
theorem Dev.applyWrite_of_refused {d t : Dev} {w : TableWrite} {r : Reply} (h : w.table = 0x10)
    (hw : d.progWrite w.inst w.offset w.words = (t, r)) (hr : r.status ≠ .ok) : d.applyWrite w = (t, r) := by
  simp [Dev.applyWrite, h, hw, hr]

/-- Settles O59: a refusal of the program's write is the command's. -/
theorem programsLoadIntoStoppedEngines : Obligations.ProgramsLoadIntoStoppedEngines := by
  refine ⟨?load, ?write⟩
  case load =>
    intro s e ha d hcrc n code
    refine ⟨fun hrun => ?running, fun i hstop hi hbad hfirst => ?illegal⟩
    case running =>
      have hrun' : (d.eng n).running = true := by rwa [Dev.begun_eng]
      exact next_to_congr s (Dev.hostCommand_answers effEngineLoad ha
        (effEngineLoad_of_write hcrc (Dev.progWrite_of_running hrun')) rfl)
    case illegal =>
      have hstop' : (d.eng n).running = false := by rwa [Dev.begun_eng]
      have hhalves := halvesOf_programFilled (programSize_of_check ha.fields)
      have hat {j : Nat} (hj : j < e.inl 12 1) : (halvesOf (packHalves (programFilled e)))[j]? = code[j]? := by
        rw [hhalves, programFilled_getElem? hj]; rfl
      have hlen : i < (halvesOf (packHalves (programFilled e))).length := by
        rw [hhalves, programFilled, List.length_append, programOf_length]; omega
      have hwrite := Dev.progWrite_of_illegal (off := 0) hstop' hlen (by rwa [hat hi])
        fun j hj => by rw [hat (Nat.lt_trans hj hi)]; exact hfirst j hj
      rw [Nat.mul_zero, Nat.zero_add] at hwrite
      exact next_to_congr s (Dev.hostCommand_answers effEngineLoad ha (effEngineLoad_of_write hcrc hwrite) rfl)
  case write =>
    intro s w rest hhalt hw htable d cmd code
    have refused {t : Dev} {r : Reply} (hwrite : d.progWrite w.inst w.offset w.words = (t, r)) (hr : r.status ≠ .ok) :
        exec .tableWriteApply s = .next (s.to (t.finish cmd r)) :=
      exec_tableWriteApply hhalt hw (Dev.applyWrite_of_refused htable hwrite hr)
    exact ⟨fun hrun => refused (Dev.progWrite_of_running hrun) nofun,
      fun i hstop hi hbad hfirst => refused (Dev.progWrite_of_illegal hstop hi hbad hfirst) nofun⟩

/-! The other commands of engines and timers. -/

/-- R339: a start that no check refuses. -/
theorem effEngineStart_of_started {e : Entry} {d t : Dev} (hmask : e.inl 12 2 ≠ 0) (hon : d.ejectOn = true)
    (hstart : d.startEngines (e.inl 12 2) ((e.inl 14 1).testBit 0) ((e.inl 14 1).testBit 1) = .inl t) :
    effEngineStart e d = (t, { result := (e.inl 12 2 - d.runningOf (e.inl 12 2)) + 2 ^ 16 * d.runningOf (e.inl 12 2)
      + t.tb % 2 ^ 32 * 2 ^ 32 }) := by
  simp only [effEngineStart, if_neg hmask, hon, Bool.not_true, Bool.false_eq_true, if_false, hstart, Nat.mul_comm]

/-- R358: the timers of a mask with the configuration that TIMER_CONFIG gives them. -/
def Dev.timersConfigured (d : Dev) (e : Entry) : Dev :=
  (bitsOf 32 (e.inl 12 4)).foldl (fun x t =>
    ((x.setWord (Reg.PRESC.key t) (BitVec.ofNat 32 (e.inl 16 4))).setWord (Reg.ACT_A.key t)
      (BitVec.ofNat 32 (e.inl 20 4))).freeze t) d

theorem effTimerConfig_of_keep {e : Entry} (d : Dev) (h : e.inl 24 1 = 0) :
    effTimerConfig e d = (d.timersConfigured e, { result := e.inl 12 4 }) :=
  if_neg (by rw [h]; decide)

theorem effTimerConfig_of_arm {e : Entry} (d : Dev) (h : e.inl 24 1 = 1) :
    effTimerConfig e d = ((bitsOf 32 (e.inl 12 4)).foldl Dev.arm (d.timersConfigured e),
      { result := e.inl 12 4 + (d.timersConfigured e).tb % 2 ^ 32 * 2 ^ 32 }) :=
  if_pos h

/-! AUX_SEQUENCE (R377). -/

/-- R377: the step words of a sequence, those of page 0A00h or those of the buffer. -/
def Dev.sequenceWords (d : Dev) (e : Entry) : List Word :=
  if e.bufLen = 0 then (List.range (auxSteps e)).map (fun i => d.word (Reg.CHAN.key 0 + i)) else leWords e.data

/-- R377: a sequence that every check passes begins. -/
theorem effAuxSequence_of_start {e : Entry} {d : Dev} (hon : d.auxOn = true) (hstart : (e.inl 12 1).testBit 0 = true)
    (hpass : ∀ i, i < auxSteps e → auxStepCheck (d.flag Reg.AUX_LP) (((d.sequenceWords e)[i]?).getD 0) = none) :
    let x := ((List.range (auxSteps e)).zip (d.sequenceWords e)).foldl (fun y p => y.setWord (Reg.CHAN.key 0 + p.1) p.2)
      ((d.put Reg.CHECK_STEP 0).put Reg.CHECK_CODE_0A00 0)
    let t := (x.put Reg.SEQ_NUM (x.get Reg.SEQ_NUM + 1)).setAux (fun a => { a.await 0 with
      running := true, loop := (e.inl 12 1).testBit 2, steps := auxSteps e, latch := 0, counts := Vector.replicate 24 0 })
    effAuxSequence e d = (t, { result := t.get Reg.SEQ_NUM + t.tb % 2 ^ 32 * 2 ^ 32 }) := by
  have hnone : (List.range (auxSteps e)).findSome? (fun i =>
      (auxStepCheck (d.flag Reg.AUX_LP) (((d.sequenceWords e)[i]?).getD 0)).map (fun c => (i, c))) = none :=
    List.findSome?_eq_none_iff.2 fun i hi => by rw [hpass i (List.mem_range.1 hi)]; rfl
  unfold Dev.sequenceWords at hnone ⊢
  simp only [effAuxSequence, hon, Bool.not_true, Bool.false_eq_true, if_false, hstart, if_true, hnone]

theorem effAuxSequence_of_stop {e : Entry} {d : Dev} (hon : d.auxOn = true) (hstart : (e.inl 12 1).testBit 0 = false)
    (hstop : (e.inl 12 1).testBit 1 = true) :
    effAuxSequence e d = (d.setAux (fun a => { a.await 0 with running := false, latch := 0 }),
      { result := d.get Reg.SEQ_NUM + d.tb % 2 ^ 32 * 2 ^ 32 }) := by
  simp only [effAuxSequence, hon, hstart, hstop, Bool.not_true, Bool.false_eq_true, if_false, if_true]
  rfl

/-- Settles O8: each command by its effect under the statement's hypotheses. -/
theorem engineCommandsAct : Obligations.EngineCommandsAct := by
  intro s e
  refine ⟨?load, ?start, ?stop, ?timers, ?sequence⟩
  case load =>
    intro ha d hcrc hstop n code hlegal ws t
    have hstop' : (d.eng (e.sel 3 0)).running = false := by rwa [Dev.begun_eng]
    have hhalves := halvesOf_programFilled (programSize_of_check ha.fields)
    have hwrite := Dev.progWrite_of_legal_halves (off := 0) hstop'
      (by rw [hhalves]; exact programFilled_legal hlegal)
    exact next_to_congr s (Dev.hostCommand_answers effEngineLoad ha (effEngineLoad_of_write hcrc hwrite) rfl)
  case start =>
    intro t ha d hmask hon hstart
    exact next_to_congr s (Dev.hostCommand_answers effEngineStart ha
      (effEngineStart_of_started hmask (by rwa [Dev.begun_ejectOn]) hstart) rfl)
  case stop => exact fun ha => next_to_congr s (Dev.hostCommand_answers effEngineStop ha rfl rfl)
  case timers =>
    exact fun ha =>
      ⟨fun h => next_to_congr s (Dev.hostCommand_answers effTimerConfig ha (effTimerConfig_of_keep _ h) rfl),
        fun h => next_to_congr s (Dev.hostCommand_answers effTimerConfig ha (effTimerConfig_of_arm _ h) rfl)⟩
  case sequence =>
    intro ha d hon n words
    have hon' : d.auxOn = true := by rwa [Dev.begun_auxOn]
    exact ⟨fun hstart hpass => next_to_congr s
        (Dev.hostCommand_answers effAuxSequence ha (effAuxSequence_of_start hon' hstart hpass) rfl),
      fun hstart hstop => next_to_congr s
        (Dev.hostCommand_answers effAuxSequence ha (effAuxSequence_of_stop hon' hstart hstop) rfl)⟩

end Sys2Proof.Machine
end

section
/-!
PROOFS. What engines do with the instruction they stand at (R327, R328, R333), and what such an instruction leaves alone.
-/

namespace Sys2Proof.Machine

/-! Where an engine stands. -/

section
variable {d : Dev} {n op : Nat}

/-- R333: an instruction is carried out as the tick ends in which its engine stands at it. -/
theorem Dev.atInstr_of_over (hon : d.ejectOn = true) (hover : d.tickOver (d.eng n) = true)
    (hop : instrOp (d.instr n (d.eng n).pc) = op) : d.atInstr n op = some (d.eng n, d.instr n (d.eng n).pc) := by
  simp [Dev.atInstr, hon, hover, hop]

theorem Dev.atInstr_of_early (hover : d.tickOver (d.eng n) = false) : d.atInstr n op = none := by
  simp [Dev.atInstr, hover]

theorem Dev.atStart_of_begun (hon : d.ejectOn = true) (hrun : (d.eng n).running = true)
    (hbegun : (d.eng n).pos / 4096 ≤ d.clk.bus) (hover : d.tickOver (d.eng n) = false)
    (hop : instrOp (d.instr n (d.eng n).pc) = op) : d.atStart n op = some (d.eng n, d.instr n (d.eng n).pc) := by
  simp [Dev.atStart, hon, hrun, hbegun, hover, hop]

end

/-! Pins (R328, R329). -/

/-- Levels driven on pins one after another change the levels alone. -/
theorem Eng.foldl_outs {α : Type} (f : Eng → α → Eng) (hf : ∀ x a, ∃ o, f x a = { x with outs := o }) (l : List α) (x : Eng) :
    ∃ o, l.foldl f x = { x with outs := o } := by
  induction l generalizing x with
  | nil => exact ⟨x.outs, rfl⟩
  | cons a l ih =>
    obtain ⟨o, h⟩ := hf x a
    obtain ⟨o', h'⟩ := ih (f x a)
    exact ⟨o', by rw [List.foldl_cons, h', h]⟩

theorem Dev.outPins_eq (d : Dev) (n : Nat) (x : Eng) : ∃ o, d.outPins n x = { x with outs := o } :=
  Eng.foldl_outs _ (fun _ _ => ⟨_, rfl⟩) _ x

/-- R328: a CLOCK pin that is driven high is low while the clock is, and then only. -/
theorem Dev.windowLevel_of_clock {d : Dev} {n w : Nat} (hrole : d.role n w = 1) (hout : (d.eng n).outs.getLsbD w = true) :
    d.windowLevel n w = !d.clockLow n := by
  simp [Dev.windowLevel, hrole, hout]

/-! The instructions, each as its tick ends. -/

section
variable {d : Dev} {n : Nat} {x : Eng} {i : Nat}

theorem Dev.shiftTick_of_more {w k : Nat} (h : x.bitCount + w < k) :
    d.shiftTick n w k x = d.setEng n { x with pos := x.pos + x.div, div := d.get Reg.DIV n, bitCount := x.bitCount + w } := by
  simp only [Dev.shiftTick, if_pos h, Dev.nextTick, Nat.one_mul]

theorem Dev.shiftTick_of_last {w k : Nat} (h : k ≤ x.bitCount + w) :
    d.shiftTick n w k x = d.stepOn n { x with bitCount := 0 } := if_neg (Nat.not_lt.2 h)

/-- R333: the engine after the bits of one tick of OUT: those out are on its pins, and those in may have been captured. -/
def Dev.outShifted (d : Dev) (n cap : Nat) (x : Eng) (i : Nat) : Eng :=
  { d.outPins n x with
    reg := (shiftBits (d.flag Reg.SHIFT_DIR n) (d.outWidth n) x.reg (if i.testBit 5 then cap else 0)).2
    inCount := if i.testBit 5 then min 32 (x.inCount + d.outWidth n) else x.inCount }

theorem Dev.outShifted_keeps (d : Dev) (n cap : Nat) (x : Eng) (i : Nat) :
    (d.outShifted n cap x i).pos = x.pos ∧ (d.outShifted n cap x i).div = x.div ∧
      (d.outShifted n cap x i).bitCount = x.bitCount := by
  obtain ⟨o, h⟩ := d.outPins_eq n x
  simp only [Dev.outShifted, h, and_self]

theorem Dev.opOut_of_over (h : d.atInstr n 0 = some (x, i)) (cap : Nat) :
    d.opOut n cap = d.shiftTick n (d.outWidth n) (bitsCount i) (d.outShifted n cap x i) := by
  simp only [Dev.opOut, h]; rfl

theorem Dev.opOut_of_start (hover : d.atInstr n 0 = none) (h : d.atStart n 0 = some (x, i)) (cap : Nat) :
    d.opOut n cap = d.setEng n (d.outPins n x) := by
  simp only [Dev.opOut, hover, h]

theorem Dev.opIn_of_over (h : d.atInstr n 1 = some (x, i)) (cap : Nat) :
    d.opIn n cap = d.shiftTick n (d.inWidth n) (bitsCount i) { x with
      reg := (shiftBits (d.flag Reg.SHIFT_DIR n) (d.inWidth n) x.reg cap).2, inCount := min 32 (x.inCount + d.inWidth n) } := by
  simp only [Dev.opIn, h]

theorem Dev.opPull_of_word {w : Word} {rest : List Word} (h : d.atInstr n 2 = some (x, i)) (hpull : x.pull = w :: rest) :
    d.opPull n = d.flow n (d.nextTick n (d.ticksOver x) ({ x with reg := w, inCount := 0, pull := rest }).refill) := by
  simp only [Dev.opPull, h, hpull]

theorem Dev.opPull_of_empty (h : d.atInstr n 2 = some (x, i)) (hpull : x.pull = []) :
    d.opPull n = d.setEng n (d.nextTick n (d.ticksOver x) { x with stall := 2 }) := by
  simp only [Dev.opPull, h, hpull]

theorem Dev.opPush_of_room (h : d.atInstr n 3 = some (x, i)) (hroom : x.push.length < 8) :
    d.opPush n = d.flow n (d.nextTick n (d.ticksOver x)
      { x with push := x.push ++ [pushWord (d.flag Reg.SHIFT_DIR n) x.inCount x.reg], reg := 0, inCount := 0 }) := by
  simp only [Dev.opPush, h, if_neg (Nat.not_le.2 hroom)]

theorem Dev.opPush_of_full (h : d.atInstr n 3 = some (x, i)) (hfull : 8 ≤ x.push.length) :
    d.opPush n = d.setEng n (d.nextTick n (d.ticksOver x) { x with stall := 3 }) := by
  simp only [Dev.opPush, h, if_pos hfull]

theorem Dev.opSet_of_over (h : d.atInstr n 4 = some (x, i)) : d.opSet n = d.stepOn n (d.setPins n i x) := by
  simp only [Dev.opSet, h]

theorem Dev.opSet_of_start (hover : d.atInstr n 4 = none) (h : d.atStart n 4 = some (x, i)) :
    d.opSet n = d.setEng n (d.setPins n i x) := by
  simp only [Dev.opSet, hover, h]

/-- R333: the condition of a JMP holds. -/
def Eng.jumps (x : Eng) (i : Nat) (level : Bool) : Bool :=
  match i / 64 % 8 with
  | 0 => true
  | 1 => x.flag
  | 2 => !x.flag
  | 3 => !x.pull.isEmpty
  | 4 => decide (x.push.length < 8)
  | 5 => level
  | _ => !level

theorem Eng.jumps_iff (x : Eng) (i : Nat) (level : Bool) :
    x.jumps i level = true ↔
      i / 64 % 8 = 0 ∨ (i / 64 % 8 = 1 ∧ x.flag = true) ∨ (i / 64 % 8 = 2 ∧ x.flag = false) ∨ (i / 64 % 8 = 3 ∧ x.pull ≠ []) ∨
        (i / 64 % 8 = 4 ∧ x.push.length < 8) ∨ (i / 64 % 8 = 5 ∧ level = true) ∨ (6 ≤ i / 64 % 8 ∧ level = false) := by
  unfold Eng.jumps
  generalize i / 64 % 8 = cond
  match cond with
  | 0 | 1 | 2 | 3 | 4 | 5 => simp
  | m + 6 => simp

theorem Dev.opJmp_of_over (h : d.atInstr n 7 = some (x, i)) (level : Bool) :
    d.opJmp n level =
      if x.jumps i level then d.setEng n (d.arrive n (d.nextTick n 1 { x with pc := i % 64 })) else d.stepOn n x := by
  simp only [Dev.opJmp, h]; rfl

/-- R333: the ticks of a DELAY that are counted at once. -/
def Dev.delayTicks (d : Dev) (n : Nat) (x : Eng) : Nat := min x.delay (if x.div = d.get Reg.DIV n then d.ticksOver x else 1)

theorem Dev.opDelay_of_over (h : d.atInstr n 8 = some (x, i)) :
    d.opDelay n = if d.delayTicks n x < x.delay
      then d.setEng n (d.nextTick n (d.delayTicks n x) { x with delay := x.delay - d.delayTicks n x })
      else d.flow n (d.nextTick n (d.delayTicks n x) x) := by
  simp only [Dev.opDelay, h]; rfl

end

/-- Settles O31: the instruction an engine stands at by its code, in its tick or as it ends. -/
theorem engineInstructionsAct : Obligations.EngineInstructionsAct := by
  intro s n d x i goes data control
  refine ⟨?clock, fun hon hrun hbegun hearly => ?begun, fun hon hover => ?ends⟩
  case clock =>
    intro w hrole hout m
    rw [Dev.windowLevel_of_clock hrole hout]
    simp only [Dev.clockLow, Bool.not_eq_false', Bool.and_eq_true, decide_eq_true_eq, and_assoc]
    rfl
  case begun =>
    exact ⟨fun cap hop => next_to_congr s
        (Dev.opOut_of_start (Dev.atInstr_of_early hearly) (Dev.atStart_of_begun hon hrun hbegun hearly hop) cap),
      fun hop => next_to_congr s
        (Dev.opSet_of_start (Dev.atInstr_of_early hearly) (Dev.atStart_of_begun hon hrun hbegun hearly hop))⟩
  case ends =>
    have stands {op : Nat} (hop : instrOp i = op) : d.atInstr n op = some (x, i) := Dev.atInstr_of_over hon hover hop
    refine ⟨?out, ?inp, ?pull, ?pullStall, ?push, ?pushStall, ?set, ?jump, ?delay⟩
    case out =>
      intro cap hop w xin z
      have hout : d.opOut n cap = d.shiftTick n w (bitsCount i) z := Dev.opOut_of_over (stands hop) cap
      obtain ⟨hpos, hdiv, hcount⟩ : z.pos = x.pos ∧ z.div = x.div ∧ z.bitCount = x.bitCount := d.outShifted_keeps n cap x i
      rw [← hpos, ← hdiv, ← hcount]
      exact ⟨fun h => next_to_congr s (hout.trans (Dev.shiftTick_of_more h)),
        fun h => next_to_congr s (hout.trans (Dev.shiftTick_of_last h))⟩
    case inp =>
      intro cap hop w z
      have hin : d.opIn n cap = d.shiftTick n w (bitsCount i) z := Dev.opIn_of_over (stands hop) cap
      exact ⟨fun h => next_to_congr s (hin.trans (Dev.shiftTick_of_more h)),
        fun h => next_to_congr s (hin.trans (Dev.shiftTick_of_last h))⟩
    case pull => exact fun w rest hop hpull => next_to_congr s (Dev.opPull_of_word (stands hop) hpull)
    case pullStall => exact fun hop hpull => next_to_congr s (Dev.opPull_of_empty (stands hop) hpull)
    case push => exact fun hop hroom => next_to_congr s (Dev.opPush_of_room (stands hop) hroom)
    case pushStall => exact fun hop hfull => next_to_congr s (Dev.opPush_of_full (stands hop) hfull)
    case set => exact fun hop => next_to_congr s (Dev.opSet_of_over (stands hop))
    case jump =>
      intro level hop go
      have hjmp := Dev.opJmp_of_over (stands hop) level
      have hgo : x.jumps i level = true ↔ go := x.jumps_iff i level
      refine ⟨fun h => next_to_congr s ?_, fun h => next_to_congr s ?_⟩
      · rw [hjmp, if_pos (hgo.2 h), Dev.nextTick, Nat.one_mul]
      · rw [hjmp, if_neg (fun hj => h (hgo.1 hj))]
    case delay =>
      intro hop k
      have hdelay := Dev.opDelay_of_over (stands hop)
      exact ⟨fun h => next_to_congr s (hdelay.trans (if_pos h)),
        fun h => next_to_congr s (hdelay.trans (if_neg (Nat.not_lt.2 h)))⟩

/-! The frame of the instructions that signal nothing. -/

/-- What an instruction that signals nothing comes to: nothing, a change of its engine, or the flow to the next instruction. -/
def Dev.EngineActs (n : Nat) (d t : Dev) : Prop := t = d ∨ ∃ x, t = d.setEng n x ∨ t = d.flow n x

section
variable {d : Dev} {n : Nat}

theorem Dev.engineActs_refl : Dev.EngineActs n d d := .inl rfl

theorem Dev.setEng_acts (x : Eng) : Dev.EngineActs n d (d.setEng n x) := .inr ⟨x, .inl rfl⟩

theorem Dev.flow_acts (x : Eng) : Dev.EngineActs n d (d.flow n x) := .inr ⟨x, .inr rfl⟩

theorem Dev.stepOn_acts (x : Eng) : Dev.EngineActs n d (d.stepOn n x) := Dev.flow_acts _

theorem Dev.shiftTick_acts (w k : Nat) (x : Eng) : Dev.EngineActs n d (d.shiftTick n w k x) := by
  unfold Dev.shiftTick; dsimp only
  split
  · exact Dev.setEng_acts _
  · exact Dev.stepOn_acts _

theorem Dev.opOut_acts (cap : Nat) : Dev.EngineActs n d (d.opOut n cap) := by
  unfold Dev.opOut
  split
  · split
    · exact Dev.engineActs_refl
    · exact Dev.setEng_acts _
  · exact Dev.shiftTick_acts _ _ _

theorem Dev.opIn_acts (cap : Nat) : Dev.EngineActs n d (d.opIn n cap) := by
  unfold Dev.opIn
  split
  · exact Dev.engineActs_refl
  · exact Dev.shiftTick_acts _ _ _

theorem Dev.opPull_acts : Dev.EngineActs n d (d.opPull n) := by
  unfold Dev.opPull
  split
  · exact Dev.engineActs_refl
  · split
    · exact Dev.flow_acts _
    · exact Dev.setEng_acts _

theorem Dev.opPush_acts : Dev.EngineActs n d (d.opPush n) := by
  unfold Dev.opPush
  split
  · exact Dev.engineActs_refl
  · split
    · exact Dev.setEng_acts _
    · exact Dev.flow_acts _

theorem Dev.opSet_acts : Dev.EngineActs n d (d.opSet n) := by
  unfold Dev.opSet
  split
  · split
    · exact Dev.engineActs_refl
    · exact Dev.setEng_acts _
  · exact Dev.stepOn_acts _

theorem Dev.opJmp_acts (level : Bool) : Dev.EngineActs n d (d.opJmp n level) := by
  cases h : d.atInstr n 7 with
  | none => simp only [Dev.opJmp, h]; exact Dev.engineActs_refl
  | some p =>
    rw [Dev.opJmp_of_over h]
    split
    · exact Dev.setEng_acts _
    · exact Dev.stepOn_acts _

theorem Dev.opDelay_acts : Dev.EngineActs n d (d.opDelay n) := by
  cases h : d.atInstr n 8 with
  | none => simp only [Dev.opDelay, h]; exact Dev.engineActs_refl
  | some p =>
    rw [Dev.opDelay_of_over h]
    split
    · exact Dev.setEng_acts _
    · exact Dev.flow_acts _

end

/-- The unit with engine `n` changed alone, and of the parameter words the LOOPS of that engine. -/
structure Dev.EngineMoved (n : Nat) (d t : Dev) : Prop where
  unit : t = { d with params := t.params, engine := t.engine }
  others : ∀ m, m % 16 ≠ n % 16 → t.eng m = d.eng m
  prog : t.engine.prog = d.engine.prog
  released : t.engine.released = d.engine.released
  words : ∀ k, k ≠ Reg.LOOPS.key n → t.word k = d.word k

theorem Dev.setEng_eng (d : Dev) (n m : Nat) (x : Eng) : (d.setEng n x).eng m = if n % 16 = m % 16 then x else d.eng m := by
  simp only [Dev.setEng, Dev.eng, Vector.getElem_set]

section
variable {d t : Dev} {n : Nat}

theorem Dev.EngineMoved.setEng (h : Dev.EngineMoved n d t) (x : Eng) : Dev.EngineMoved n d (t.setEng n x) where
  unit := by rw [h.unit]; rfl
  others m hm := by rw [Dev.setEng_eng, if_neg (Ne.symm hm), h.others m hm]
  prog := h.prog
  released := h.released
  words := h.words

theorem Dev.engineMoved_refl : Dev.EngineMoved n d d := ⟨rfl, fun _ _ => rfl, rfl, rfl, fun _ _ => rfl⟩

theorem Dev.putLoops_moved (h : d.paramsWf) (v : Nat) : Dev.EngineMoved n d (d.put Reg.LOOPS v n) where
  unit := rfl
  others _ _ := rfl
  prog := rfl
  released := rfl
  words k hk := by rw [Dev.put, Dev.setWord_word _ _ _ _ h, if_neg (Ne.symm hk)]

theorem Dev.flow_moved (h : d.paramsWf) (x : Eng) : Dev.EngineMoved n d (d.flow n x) := by
  unfold Dev.flow; dsimp only
  refine .setEng ?_ _
  split
  · exact Dev.putLoops_moved h _
  · exact Dev.engineMoved_refl

theorem Dev.EngineActs.moved (h : Dev.EngineActs n d t) (hw : d.paramsWf) : Dev.EngineMoved n d t := by
  obtain rfl | ⟨x, rfl | rfl⟩ := h
  · exact Dev.engineMoved_refl
  · exact Dev.engineMoved_refl.setEng x
  · exact Dev.flow_moved hw x

end

/-- Settles O49: each of the seven comes to a change of its engine or to the flow, which counts LOOPS. -/
theorem engineInstructionsKeepTheUnit : Obligations.EngineInstructionsKeepTheUnit := by
  intro s t n c hw hc hnext
  have hacts : Dev.EngineActs n s.dev (s.dev.after c) := by
    simp only [List.mem_cons, List.not_mem_nil, or_false] at hc
    obtain ⟨v, rfl | rfl⟩ | ⟨level, rfl⟩ | rfl | rfl | rfl | rfl := hc
    · exact Dev.opOut_acts v
    · exact Dev.opIn_acts v
    · exact Dev.opJmp_acts level
    · exact Dev.opPull_acts
    · exact Dev.opPush_acts
    · exact Dev.opSet_acts
    · exact Dev.opDelay_acts
  rw [exec_eq_after] at hnext
  cases hnext
  have hmoved := hacts.moved hw
  have hn : n.val % 16 = n.val := Nat.mod_eq_of_lt n.isLt
  exact ⟨congrArg s.to hmoved.unit, fun m hm => hmoved.others m (by rwa [hn]), hmoved.prog, hmoved.released, hmoved.words⟩

end Sys2Proof.Machine
end

section
/-!
PROOFS. Engines that compare, signal, wait and meet (R333, R334, R336), and a shorted pin (R331).
-/

namespace Sys2Proof.Machine

/-! CMP and EVENT (R333, R342). -/

section
variable {d : Dev} {n : Nat} {x : Eng} {i : Nat}

/-- R333: what CMP finds: a bit of CMPVAL, or equality under CMP_MASK. -/
def Dev.compares (d : Dev) (n : Nat) (x : Eng) (i : Nat) : Bool :=
  if i.testBit 2 then (d.get Reg.CMPVAL n).testBit (16 * (i / 8 % 2) + x.reg.toNat % 16)
  else (x.reg.toNat ^^^ d.get Reg.CMPVAL n) &&& d.get Reg.CMP_MASK n == 0

/-- R342: an engine's event and its pulse to the timers. -/
def Dev.signals (d : Dev) (n : Nat) : Dev := (d.engineEvent n).timerEvent 3 n

theorem Dev.opCmp_of_equal (h : d.atInstr n 6 = some (x, i)) (hkind : i % 4 = 0) :
    Dev.engineRaised (d.opCmp n) n = d.stepOn n { x with flag := d.compares n x i } := by
  simp only [Dev.opCmp, h, hkind]; rfl

theorem Dev.opCmp_of_unequal (h : d.atInstr n 6 = some (x, i)) (hkind : i % 4 = 1) :
    Dev.engineRaised (d.opCmp n) n = d.stepOn n { x with flag := !d.compares n x i } := by
  simp only [Dev.opCmp, h, hkind]; rfl

theorem Dev.opCmp_of_eventEqual (h : d.atInstr n 6 = some (x, i)) (hkind : i % 4 = 2) :
    Dev.engineRaised (d.opCmp n) n = if d.compares n x i then (d.stepOn n x).signals n else d.stepOn n x := by
  have hcmp : d.opCmp n = if d.compares n x i then ((d.stepOn n x).engineEvent n, true) else (d.stepOn n x, false) := by
    simp only [Dev.opCmp, h, hkind]; rfl
  cases hc : d.compares n x i <;> simp [hcmp, hc, Dev.engineRaised, Dev.signals]

theorem Dev.opCmp_of_eventUnequal (h : d.atInstr n 6 = some (x, i)) (hkind : i % 4 = 3) :
    Dev.engineRaised (d.opCmp n) n = if d.compares n x i then d.stepOn n x else (d.stepOn n x).signals n := by
  have hcmp : d.opCmp n = if !d.compares n x i then ((d.stepOn n x).engineEvent n, true) else (d.stepOn n x, false) := by
    simp only [Dev.opCmp, h, hkind]; rfl
  cases hc : d.compares n x i <;> simp [hcmp, hc, Dev.engineRaised, Dev.signals]

theorem Dev.opEvent_of_over (h : d.atInstr n 9 = some (x, i)) :
    Dev.engineRaised (d.opEvent n) n = (d.stepOn n x).signals n := by
  simp only [Dev.opEvent, h, Dev.engineRaised, if_true, Dev.signals]

end

/-! WAIT (R333, R334). -/

/-- R334: a look at what WAIT `i` waits for finds it. -/
def EngWait.met (k : EngWait) (i : Nat) (level : Bool) : Bool :=
  match i / 1024 % 4 with
  | 0 => level == i.testBit 9
  | 1 => k.prev == some false && level
  | 2 => k.prev == some true && !level
  | _ => k.hit

section
variable {d : Dev} {n : Nat} {k : EngWait}

/-- R334: a look ends the WAIT at the next tick, or is kept for the next look. -/
theorem Dev.waitRelease_of_waiting (hon : d.ejectOn = true) (hrun : (d.eng n).running = true) (hwait : (d.eng n).wait = some k)
    (level : Bool) :
    d.waitRelease n level =
      if k.met (d.instr n (d.eng n).pc) level then d.flow n (d.nextTick n (d.ticksTo (d.eng n)) (d.eng n))
      else d.setEng n { d.eng n with wait := some { k with prev := some level } } := by
  simp only [Dev.waitRelease, Dev.lookWait, hwait, hon, hrun, Bool.and_self, Bool.not_true, Bool.false_eq_true, if_false]; rfl

/-- R334: the first look of a WAIT is a look like the others. -/
theorem Dev.opWait_of_first (hwait : (d.eng n).wait = some k) (hfirst : k.prev = none) (level : Bool) :
    d.opWait n level = d.waitRelease n level := by
  simp only [Dev.opWait, hwait, hfirst, Option.isNone_none, if_true, Dev.waitRelease]

end

/-! SYNC (R336). -/

/-- R336: the running engines of a group that the group's meeting releases. -/
def Dev.groupEngines (d : Dev) (g : Nat) : List Nat :=
  (List.range 16).filter (fun e => (d.eng e).running && d.get Reg.SYNC_GROUP e == g && d.get Reg.SYNC_SRC e == 0)

section
variable {d : Dev} {g : Nat}

/-- R336: a group all of whose running engines stand at SYNC is released. -/
theorem Dev.syncGroup_of_met (hg : 1 ≤ g)
    (hall : ∀ e, e < 16 → (d.eng e).running = true → d.get Reg.SYNC_GROUP e = g → (d.eng e).sync = true) :
    d.syncGroup g = (d.groupEngines g).foldl Dev.release d := by
  have hmember {e : Nat} (he : e < 16) (hrun : ((d.eng e).running && d.get Reg.SYNC_GROUP e == g) = true) :
      (d.eng e).sync = true := by
    simp only [Bool.and_eq_true, beq_iff_eq] at hrun
    exact hall e he hrun.1 hrun.2
  have hmet : ((List.range 16).filter (fun e => (d.eng e).running && d.get Reg.SYNC_GROUP e == g)).all
      (fun e => (d.eng e).sync) = true := by
    simp only [List.all_eq_true, List.mem_filter, List.mem_range]
    exact fun e he => hmember he.1 he.2
  have hits : ((List.range 16).filter (fun e => (d.eng e).running && d.get Reg.SYNC_GROUP e == g)).filter
      (fun e => (d.eng e).sync && d.get Reg.SYNC_SRC e == 0) = d.groupEngines g := by
    rw [List.filter_filter]
    refine List.filter_congr fun e he => ?_
    rw [Bool.and_comm]
    cases hrun : (d.eng e).running && d.get Reg.SYNC_GROUP e == g
    · rfl
    · rw [hmember (List.mem_range.1 he) hrun, Bool.true_and]
  rw [Dev.syncGroup, if_neg (by omega), if_pos hmet, hits]

theorem Dev.opSync_of_group {n : Nat} (hon : d.ejectOn = true) (hrun : (d.eng n).running = true) (hsync : (d.eng n).sync = true)
    (hsrc : d.get Reg.SYNC_SRC n = 0) : d.opSync n = d.syncGroup (d.get Reg.SYNC_GROUP n) := by
  simp [Dev.opSync, hon, hrun, hsync, hsrc]

end

/-! PIN_SHORT (R331). -/

@[simp] theorem Dev.setShort_chan (d : Dev) (p : Nat) (v : Bool) : (d.setShort p v).chan = d.chan := by
  simp only [Dev.setShort, apply_ite Dev.chan, Dev.putBit_chan, ite_self]

theorem Dev.valveEngine_of_chan {d t : Dev} (h : t.chan = d.chan) (e : Nat) : t.valveEngine e = d.valveEngine e := by
  simp only [Dev.valveEngine, Dev.conf, h]

/-- R331: a driven pin that is shorted is released and reported, and a valve engine's stalls it. -/
theorem Dev.pinShort_of_driven {d : Dev} {p e : Nat} (hp : p < 64) (hlevel : d.pinLevel p ≠ none) (hdriver : d.driver p = some e) :
    let t := { d with engine := { d.engine with released := d.engine.released ||| BitVec.ofNat 64 (1 <<< p) } }
    let u := (t.setShort p true).raise { source := 368 + e, inst := e, data := [(1, p)] }
    d.pinShort p = if d.valveEngine e then u.valveStall e else u := by
  intro t u
  have hchan : u.chan = d.chan := by simp only [u, Dev.raise_chan, Dev.setShort_chan]; rfl
  have hdriven : ¬ (decide (64 ≤ p) || (d.pinLevel p).isNone) = true := by
    simpa using ⟨hp, hlevel⟩
  rw [← Dev.valveEngine_of_chan hchan, Dev.pinShort, if_neg hdriven, hdriver]

/-- Settles O32: CMP and EVENT as their tick ends, the looks of WAIT, a group that has met, and a driven pin. -/
theorem enginesMeet : Obligations.EnginesMeet := by
  intro s n d x i goes hon
  refine ⟨?compare, fun hover hop => ?event, ?wait, ?sync, fun p e hlevel hdriver => ?short⟩
  case compare =>
    intro hover hop cmp hit
    have hat : d.atInstr n 6 = some (x, i) := Dev.atInstr_of_over hon hover hop
    refine ⟨fun h => next_to_congr s (Dev.opCmp_of_equal hat h), fun h => next_to_congr s (Dev.opCmp_of_unequal hat h),
      fun h hmiss => ?_, fun h hhit => ?_, fun h hhit => ?_, fun h hmiss => ?_⟩
    · exact next_to_congr s ((Dev.opCmp_of_eventEqual hat h).trans (if_neg (Bool.not_eq_true _ ▸ hmiss)))
    · exact next_to_congr s ((Dev.opCmp_of_eventEqual hat h).trans (if_pos hhit))
    · exact next_to_congr s ((Dev.opCmp_of_eventUnequal hat h).trans (if_pos hhit))
    · exact next_to_congr s ((Dev.opCmp_of_eventUnequal hat h).trans (if_neg (Bool.not_eq_true _ ▸ hmiss)))
  case event => exact next_to_congr s (Dev.opEvent_of_over (Dev.atInstr_of_over hon hover hop))
  case wait =>
    intro k level hrun hwait met t
    have hlook : d.waitRelease n level = t := Dev.waitRelease_of_waiting hon hrun hwait level
    exact ⟨next_to_congr s hlook, fun hfirst => next_to_congr s ((Dev.opWait_of_first hwait hfirst level).trans hlook)⟩
  case sync =>
    intro g hrun hsync hsrc hgroup hg hall its
    have hmet : d.syncGroup g = its.foldl (fun a e => a.flow e (a.clearTicks e (a.eng e))) d := Dev.syncGroup_of_met hg hall
    refine ⟨next_to_congr s ?_, fun h hfirst hh => next_to_congr s ?_⟩
    · exact (Dev.opSync_of_group hon hrun hsync hsrc).trans (hgroup ▸ hmet)
    · rw [Dev.onEdge_of_first hfirst, Dev.releaseGroup, if_pos hon, hh, hmet]
  case short => exact next_to_congr s (Dev.pinShort_of_driven p.isLt hlevel hdriver)

end Sys2Proof.Machine
end

section
/-!
PROOFS. What a timer reaches by an edge, and the halt of a running one (R346, R349 to R351).
-/

namespace Sys2Proof.Machine

/-! Matches and ends (R346, R350). -/

section
variable {d : Dev} {t : Nat}

theorem Dev.matchDue_of_stopped (hrun : (d.tmr t).running = false) (now : Nat) (b : Bool) : d.matchDue now t b = false := by
  simp [Dev.matchDue, hrun]

theorem Dev.endDue_of_stopped (hrun : (d.tmr t).running = false) (now : Nat) : d.endDue now t = false := by
  simp [Dev.endDue, hrun]

/-- R350: a compare that has not been reached does nothing. -/
theorem Dev.matchOne_of_not_due {now : Nat} {b : Bool} (h : d.matchDue now t b = false) (arm : Dev → Nat → Nat → Dev) :
    d.matchOne arm now t b = d := by
  simp [Dev.matchOne, h]

/-- R350: the match of CMPA. -/
theorem Dev.matchOne_of_due_cmpA {now : Nat} (h : d.matchDue now t false = true) (arm : Dev → Nat → Nat → Dev) :
    d.matchOne arm now t false =
      (d.setTmr t { d.tmr t with matchA := true, doneA := true }).timerAct arm ((d.tmr t).edge (d.tmr t).cmpA) t 0 := by
  rw [Dev.matchOne, h]; rfl

/-- R350: the match of CMPB. -/
theorem Dev.matchOne_of_due_cmpB {now : Nat} (h : d.matchDue now t true = true) (arm : Dev → Nat → Nat → Dev) :
    d.matchOne arm now t true =
      (d.setTmr t { d.tmr t with matchB := true, doneB := true }).timerAct arm ((d.tmr t).edge (d.tmr t).cmpB) t 1 := by
  rw [Dev.matchOne, h]; rfl

/-- R350: TIMER_MATCH of one compare is its match, unless CMPA goes before a CMPB that has been reached. -/
theorem Dev.timerMatch_of_alone {b : Bool} (h : b = true → (d.tmr t).cmpB < (d.tmr t).cmpA) :
    d.timerMatch t b = d.matchOne Dev.armChain d.clk.bus t b := by
  refine if_neg fun hboth => ?_
  simp only [Bool.and_eq_true, decide_eq_true_eq] at hboth
  obtain ⟨⟨hb, _⟩, hle⟩ := hboth
  exact absurd (h hb) (Nat.not_lt.2 hle)

/-- R346, R350: a timer that has reached no compare reaches at most its end. -/
theorem Dev.settleTimer_of_no_match {now : Nat} (hA : d.matchDue now t false = false) (hB : d.matchDue now t true = false)
    (arm : Dev → Nat → Nat → Dev) : d.settleTimer arm now t = if d.endDue now t then d.timerEnd arm t else d := by
  have hnone (b : Bool) : d.matchDue now t b = false := by
    cases b
    · exact hA
    · exact hB
  simp only [Dev.settleTimer, Dev.matchOne_of_not_due (hnone _)]

theorem Dev.timerDone_of_due (hend : d.endDue d.clk.bus t = true) (hA : d.matchDue d.clk.bus t false = false)
    (hB : d.matchDue d.clk.bus t true = false) : d.timerDone t = d.timerEnd Dev.armChain t := by
  rw [Dev.timerDone, if_pos hend, Dev.settleTimer_of_no_match hA hB, if_pos hend]

/-! STOP (R349). -/

/-- R349: a timer that has stopped at an edge holds its count. -/
def Timer.halt (x : Timer) (now : Nat) : Timer := { x with running := false, held := some (x.cycles now) }

theorem Timer.halt_counter (x : Timer) (now later : Nat) : (x.halt now).counter later = x.counter now := rfl

/-- R349: STOP of a timer that has reached nothing. -/
theorem Dev.stopTimer_of_nothing_due (hend : d.endDue d.clk.bus t = false) (hA : d.matchDue d.clk.bus t false = false)
    (hB : d.matchDue d.clk.bus t true = false) :
    d.stopTimer t = if (d.tmr t).running then d.setTmr t ((d.tmr t).halt d.clk.bus) else d := by
  have hsettle : d.settleTimer Dev.armChain d.clk.bus t = d := by
    rw [Dev.settleTimer_of_no_match hA hB, hend]; rfl
  simp only [Dev.stopTimer, hsettle, Timer.halt]

theorem Dev.stopTimer_of_stopped (hrun : (d.tmr t).running = false) : d.stopTimer t = d := by
  have hdue := Dev.matchDue_of_stopped hrun d.clk.bus
  rw [Dev.stopTimer_of_nothing_due (Dev.endDue_of_stopped hrun _) (hdue _) (hdue _), hrun]
  rfl

end

/-! CTRL (R356). -/

/-- R36: an aligned write of one word in BAR2. -/
theorem Dev.hostWrite_bar2 {d : Dev} {off : Nat} (v : Nat) (hon : d.memoryOn = true) (halign : off % 4 = 0)
    (hin : off + 4 ≤ 2 ^ 16) : d.hostWrite 2 off 4 v = (d.writeBar2 off (v % 2 ^ 32)).resetCheck := by
  have hsize : ¬ barSize 2 < off + 4 := Nat.not_lt.2 hin
  simp [Dev.hostWrite, Dev.writeReg, hsize, hon, halign]

theorem Dev.writeBar2_ctrl (d : Dev) {t : Nat} (v : Nat) (h : t < 32) : d.writeBar2 (64 * t + 0x28) v = d.writeTimer t 0x28 v := by
  have ht : (64 * t + 0x28) / 64 = t := by omega
  have hoff : (64 * t + 0x28) % 64 = 0x28 := by omega
  rw [Dev.writeBar2, if_pos (by omega), ht, hoff]

/-- R356: a write of CTRL is its ARM, else its STOP. -/
theorem Dev.hostWrite_ctrl {d : Dev} (hon : d.memoryOn = true) (t : Fin 32) {v : Nat} (hv : v < 2 ^ 32) :
    d.hostWrite 2 (64 * t + 0x28) 4 v =
      (if v.testBit 0 then d.arm t else if v.testBit 1 then d.stopTimer t else d).resetCheck := by
  rw [Dev.hostWrite_bar2 v hon (by omega) (by omega), Nat.mod_eq_of_lt hv, d.writeBar2_ctrl v t.isLt]
  rfl

/-- R349: where STOP and ARM are both written, ARM prevails. -/
theorem Dev.hostWrite_ctrl_of_both {d : Dev} (hon : d.memoryOn = true) (t : Fin 32) :
    d.hostWrite 2 (64 * t + 0x28) 4 3 = d.hostArm t := by
  rw [Dev.hostArm, Dev.hostWrite_ctrl hon t (by decide), Dev.hostWrite_ctrl hon t (by decide), if_pos (by decide),
    if_pos (by decide)]

theorem Dev.hostStop_eq {d : Dev} (hon : d.memoryOn = true) (t : Fin 32) : d.hostStop t = (d.stopTimer t).resetCheck := by
  rw [Dev.hostStop, Dev.hostWrite_ctrl hon t (by decide), if_neg (by decide), if_pos (by decide)]

/-- R36: a 32-bit REGISTER_WRITE of CTRL is the host's write of that word. -/
theorem exec_registerWrite_ctrl (s : State) (t : Fin 32) (v : BitVec 64) :
    exec (.registerWrite 2 (BitVec.ofNat 20 (64 * t.val + 0x28)) false v) s =
      .next (s.to (s.dev.hostWrite 2 (64 * t + 0x28) 4 v.toNat)) := by
  have hoff : (BitVec.ofNat 20 (64 * t.val + 0x28)).toNat = 64 * t + 0x28 := by
    rw [BitVec.toNat_ofNat, Nat.mod_eq_of_lt (by omega)]
  simp only [exec, execRegisterWrite, hoff, State.to]
  rfl

/-- Settles O54: the write of CTRL is a STOP, which finds nothing due, or an ARM. -/
theorem stopHaltsTheTimer : Obligations.StopHaltsTheTimer := by
  intro s t hon hreset x off halted
  have hstop {u : Dev} (hu : s.dev.stopTimer t = u) (hpower : u.power = s.dev.power) : exec (.timerStop t) s = .next (s.to u) :=
    next_to_congr s (by rw [Dev.hostStop_eq hon, hu, Dev.resetCheck_of_none (by rw [hpower, hreset])])
  refine ⟨fun hrun hend hA hB => ⟨hstop ?halts rfl, Timer.halt_counter x _⟩, fun hrun => hstop (Dev.stopTimer_of_stopped hrun) rfl,
    exec_registerWrite_ctrl s t 2, ?prevails⟩
  case halts => exact (Dev.stopTimer_of_nothing_due hend hA hB).trans (if_pos hrun)
  case prevails => exact (exec_registerWrite_ctrl s t 3).trans (next_to_congr s (Dev.hostWrite_ctrl_of_both hon t))

end Sys2Proof.Machine
end

section
/-!
PROOFS. The auxiliary sequencer goes on (R366 to R375): a step starts, a conversion and a check end, a calibration ends.
-/

namespace Sys2Proof.Machine

/-! Steps and conversions (R366 to R371). -/

section
variable {d : Dev}

/-- R367: a step whose trigger is IMMEDIATE starts at once. -/
theorem Dev.auxStart_of_immediate (hrun : d.aux.running = true) (hphase : d.aux.phase = .waiting) (hcal : d.aux.fgCal = false)
    (hon : d.auxOn = true) (htrig : d.get Reg.STEP_TRIG d.aux.step = 0) :
    d.auxStart = d.setAux (fun x => { x with
      phase := .converting, hit := false
      left := if d.get Reg.STEP_COUNT d.aux.step = 0 then 32 else d.get Reg.STEP_COUNT d.aux.step
      due := d.clk.bus + 200 * d.auxSettle d.aux.step }) := by
  simp [Dev.auxStart, hrun, hphase, hcal, hon, htrig]

/-- R368: a result without flags that is not the last of its step. -/
theorem Dev.auxResult_of_clean {raw : Int} (hrun : d.aux.running = true) (hphase : d.aux.phase = .converting)
    (hdue : d.aux.due ≤ d.clk.bus) (hleft : 1 < d.aux.left) (hflags : d.auxFlagsOf d.aux.step d.auxChan (auxClamp raw) false = [])
    (hinject : d.aux.inject.filter (fun p => p.1 == d.auxChan) = []) :
    let ch := d.auxChan
    let n := (d.aux.counts[ch % 24]'(Nat.mod_lt _ (by decide)) + 1) % 65536
    let r : AuxResult :=
      ⟨unsigned 32 (auxClamp raw), 1 + 2 ^ 7 * b2n (d.flag Reg.STEP_RANGE d.aux.step) + 2 ^ 8 * d.aux.step, n, d.tb⟩
    d.auxResult raw false = ((d.modResult ch (fun _ => r)).setAux (fun x => { x with
      counts := x.counts.set (ch % 24) n (Nat.mod_lt _ (by decide)), inject := x.inject.filter (fun p => p.1 != ch)
      left := x.left - 1, due := x.due + 200 * odrPeriod (d.get Reg.ODR d.aux.step) })).count Reg.RESULTS := by
  intro ch n r
  have hacts : ¬ (!(d.aux.running && d.aux.phase == .converting && decide (d.aux.due ≤ d.clk.bus))) = true := by
    simp [hrun, hphase, hdue]
  have hmore : d.aux.left - 1 ≠ 0 := by omega
  rw [Dev.auxResult, if_neg hacts]
  simp only [hflags, hinject, List.foldl_nil]
  exact if_neg hmore

/-- R371: the wire is found open where the check conversion differs from the last result by OPEN_PCT or more. -/
theorem Dev.auxCheck_of_openCheck (raw : Int) (hrun : d.aux.running = true) (hdue : d.aux.due ≤ d.clk.bus)
    (hphase : d.aux.phase = .openCheck) :
    d.auxCheck raw =
      (if d.get Reg.OPEN_PCT * 8388608 ≤ 100 * (auxClamp raw - d.auxLast d.auxChan).natAbs then
        (d.modResult d.auxChan (fun r => { r with flags := r.flags ||| 4 })).auxFlag d.auxChan 2 0 else d).auxChecks true := by
  have hacts : ¬ (!(d.aux.running && decide (d.aux.due ≤ d.clk.bus))) = true := by simp [hrun, hdue]
  rw [Dev.auxCheck, if_neg hacts, hphase]
  simp only [decide_eq_true_eq]

end

/-! Calibrations (R374, R375). -/

theorem offsetBad_of_le {m : Int} (h : 200 * m.natAbs ≤ 8388608) : offsetBad m = false := decide_eq_false (Nat.not_lt.2 h)

/-- R374: what a range measured lies beyond 0.5 % of FS or 1 %. -/
def calibrationBad (m : Int × Int) : Bool := offsetBad m.1 || decide (10000 < m.2.natAbs)

theorem calibrationBad_of_le {o g : Int} (ho : 200 * o.natAbs ≤ 8388608) (hg : g.natAbs ≤ 10000) : calibrationBad (o, g) = false := by
  simp [calibrationBad, offsetBad_of_le ho, hg]

theorem calibrationBad_of_lt {o g : Int} (h : 8388608 < 200 * o.natAbs ∨ 10000 < g.natAbs) : calibrationBad (o, g) = true := by
  simpa [calibrationBad, offsetBad] using h

/-- R374: the offset and the gain of a range. -/
def Dev.setRange (d : Dev) (range : Nat) (v : Int × Int) : Dev :=
  d.setAux (fun a => { a with
    offsets := a.offsets.set (range % 2) v.1 (Nat.mod_lt _ (by decide))
    gains := a.gains.set (range % 2) v.2 (Nat.mod_lt _ (by decide)) })

section
variable {d : Dev}

theorem Dev.calibrateRange_of_good {m : Int × Int} (h : calibrationBad m = false) (range : Nat) :
    d.calibrateRange range m = d.setRange range (m.1 * 65536, m.2) := by
  rw [calibrationBad] at h
  simp only [Dev.calibrateRange, h]
  rfl

theorem Dev.calibrateRange_of_bad {m : Int × Int} (h : calibrationBad m = true) (range : Nat) :
    d.calibrateRange range m = (d.setRange range (Config.auxCal range)).auxCalFail range := by
  rw [calibrationBad] at h
  simp only [Dev.calibrateRange, h]
  rfl

/-- Both places of a pair written, one after the other. -/
theorem vector_set_both {α : Type} (v : Vector α 2) (a b : α) : (v.set 0 a).set 1 b = ⟨#[a, b], rfl⟩ := by
  apply Vector.ext
  intro i hi
  obtain rfl | rfl : i = 0 ∨ i = 1 := by omega
  · simp
  · simp

/-- R374: both ranges written leave nothing of the offsets and gains before. -/
theorem Dev.setRange_both (v w : Int × Int) :
    (d.setRange 0 v).setRange 1 w =
      d.setAux (fun x => { x with offsets := ⟨#[v.1, w.1], rfl⟩, gains := ⟨#[v.2, w.2], rfl⟩ }) := by
  rw [← vector_set_both d.aux.offsets v.1 w.1, ← vector_set_both d.aux.gains v.2 w.2]
  rfl

theorem Dev.auxForeground_of_running (h : d.aux.fgCal = true) (m1 m4 : Int × Int) :
    d.auxForeground [m1, m4] =
      ((d.setAux (fun x => { x with fgCal := false, calAt := d.clk.bus })).calibrateRange 0 m1).calibrateRange 1 m4 := by
  rw [Dev.auxForeground, h]; rfl

/-- R375: a calibration that was asked for runs while no sequence does. -/
theorem Dev.auxCalibrates_of_asked (hon : d.auxOn = true) (hfg : d.aux.fgCal = false) (hrun : d.aux.running = false)
    (hnow : d.aux.calNow = true) : d.auxCalibrates = true := by
  simp [Dev.auxCalibrates, hon, hfg, hrun, hnow]

/-- R375: offsets within 0.5 % of FS are applied. -/
theorem Dev.auxBackground_of_good {m1 m4 : Int} (hruns : d.auxCalibrates = true) (h1 : offsetBad m1 = false)
    (h4 : offsetBad m4 = false) :
    d.auxBackground m1 m4 = d.setAux (fun x => { x with
      calAt := d.clk.bus, calNow := false, offsets := ⟨#[auxOffset x.offsets[0] m1, auxOffset x.offsets[1] m4], rfl⟩ }) := by
  rw [Dev.auxBackground, hruns]
  simp only [h1, h4]
  rfl

end

/-- Settles O23: each happening by what it asks of its timer or of the sequencer, which the clause's hypotheses answer. -/
theorem timersAndAuxGoOn : Obligations.TimersAndAuxGoOn := by
  intro s d a goes
  refine ⟨fun t hdue => ?matchA, fun t hdue hlt => ?matchB, fun t hend hA hB => ?done, fun hrun hphase hcal hon htrig => ?start,
    fun raw hrun hphase hdue hleft => ?result, fun raw hrun hdue hphase hlt => ?closed,
    fun raw hrun hdue hphase hle => ?opened, fun o1 g1 o4 g4 hcal => ?foreground, fun m1 m4 hon hfg hrun hnow h1 h4 => ?background⟩
  case matchA => exact next_to_congr s ((Dev.timerMatch_of_alone (b := false) nofun).trans (Dev.matchOne_of_due_cmpA hdue _))
  case matchB => exact next_to_congr s ((Dev.timerMatch_of_alone fun _ => hlt).trans (Dev.matchOne_of_due_cmpB hdue _))
  case done => exact next_to_congr s (Dev.timerDone_of_due hend hA hB)
  case start => exact next_to_congr s (Dev.auxStart_of_immediate hrun hphase hcal hon htrig)
  case result =>
    intro ch code hflags hinject
    exact next_to_congr s (Dev.auxResult_of_clean hrun hphase hdue hleft hflags hinject)
  case closed => exact next_to_congr s (by rw [Dev.auxCheck_of_openCheck raw hrun hdue hphase, if_neg (Nat.not_le.2 hlt)])
  case opened => exact next_to_congr s (by rw [Dev.auxCheck_of_openCheck raw hrun hdue hphase, if_pos hle])
  case foreground =>
    refine ⟨next_to_congr s (Dev.auxForeground_of_running hcal _ _), fun ho1 hg1 ho4 hg4 => ?good, fun hbad => ?bad⟩
    case good =>
      rw [Dev.calibrateRange_of_good (calibrationBad_of_le ho1 hg1),
        Dev.calibrateRange_of_good (calibrationBad_of_le ho4 hg4)]
      exact Dev.setRange_both _ _
    case bad => exact Dev.calibrateRange_of_bad (calibrationBad_of_lt hbad) 0
  case background =>
    exact next_to_congr s
      (Dev.auxBackground_of_good (Dev.auxCalibrates_of_asked hon hfg hrun hnow) (offsetBad_of_le h1) (offsetBad_of_le h4))

end Sys2Proof.Machine
end

section
/-!
PROOFS. The queue is served in order to its end and stays well formed, an event only reports (R491, R493, R494), and THERMAL_STATUS
answers (R469).
-/

namespace Sys2Proof.Machine

/-! The queue. -/

/-- One step with a command in front: the unit after it, and the rest of the queue. -/
theorem stepsFrom_succ_of_pending_cons {s : State} {c : Instr} {rest : List Instr} (n : Nat) (h : s.pending = c :: rest) :
    stepsFrom (n + 1) s = stepsFrom n ⟨rest, s.dev.after c⟩ := by
  rw [stepsFrom, step_of_pending_cons h, exec_eq_after]
  rfl

/-- Settles O35: each command's meaning is its effect on the unit, and the queue stays as it was. -/
theorem everyCommandCompletes : Obligations.EveryCommandCompletes := exec_eq_after

/-- Settles O36, by induction on the commands that wait, for every unit. -/
theorem queueIsServedInOrder : Obligations.QueueIsServedInOrder := by
  rintro ⟨pending, d⟩
  induction pending generalizing d with
  | nil => rfl
  | cons c rest ih =>
    calc stepsFrom (rest.length + 1) ⟨c :: rest, d⟩
      _ = stepsFrom rest.length ⟨rest, d.after c⟩ := stepsFrom_succ_of_pending_cons _ rfl
      _ = .next ⟨[], rest.foldl Dev.after (d.after c)⟩ := ih (d.after c)

/-- Settles O37: a step takes at most the command in front from the queue. -/
theorem queueStaysWellFormed : Obligations.QueueStaysWellFormed := by
  intro s t hwf hs
  cases hq : s.pending with
  | nil =>
    rw [step_of_pending_nil hq] at hs
    cases hs
    exact hwf
  | cons c rest =>
    rw [step_of_pending_cons hq, exec_eq_after] at hs
    cases hs
    rw [State.queueWf, hq, List.all_cons, Bool.and_eq_true] at hwf
    exact hwf.2

/-! Events. -/

/-- Settles O43: what a raised event leaves, latches and keeps, each by its lemma. -/
theorem eventsOnlyReport : Obligations.EventsOnlyReport := fun d o hw =>
  ⟨((d.raise_tells o).2 hw).2, d.raise_latches, raiseDeep_keepsCauses 8 o d, congrArg Prod.fst (d.raise_marks o), d.raise_chan o⟩

/-! THERMAL_STATUS (R469). -/

/-- R55: an entry that fails one of the steps 1 to 7 completes with the reply of that step. -/
theorem Dev.hostCommand_of_refuses {d : Dev} {f : Form} {check : Entry → Dev → Option Nat} {e : Entry} {r : Reply}
    (eff : Entry → Dev → Dev × Reply) (hnext : d.nextSq = some e.sq.val) (h : (d.fetched e.sq).refuses f check e = some r) :
    d.hostCommand f check eff e = (d.fetched e.sq).refused f.op e r := by
  simp only [Dev.hostCommand, hnext, h, ne_eq, not_true_eq_false, if_false]

/-- R55 step 4: a reserved field that is not 0 is refused at its byte, where the steps before let the entry pass. -/
theorem Dev.refuses_of_reserved {d : Dev} {f : Form} {check : Entry → Dev → Option Nat} {e : Entry} {at' : Nat}
    (hcrc : e.crcGood f.code = true) (htag : e.tag.toNat ∉ d.tagsOut) (hunit : e.unit.toNat = d.get Reg.UNIT_ID)
    (h : f.reserved e = some at') : d.refuses f check e = some (badParam at') := by
  simp only [Dev.refuses, hcrc, htag, hunit, h, List.contains_iff_mem, Bool.not_true, Bool.false_eq_true, if_false, ne_eq,
    not_true_eq_false]

/-- R9: an opcode that uses no SELECTOR bit and no inline byte has them reserved. -/
theorem Form.reserved_of_unused {f : Form} {e : Entry} (hsel : f.sel = 0) (hinl : f.inl = [])
    (h : e.selector ≠ 0 ∨ ∃ i, 12 ≤ i ∧ i < 48 ∧ e.inl i 1 ≠ 0) : ∃ at', f.reserved e = some at' := by
  have hselector : e.selector ≠ 0 → e.selector.toNat ≠ 0 := fun hne h0 => hne (BitVec.eq_of_toNat_eq h0)
  simp only [Form.reserved, hsel, hinl, Nat.and_zero, Nat.sub_zero, List.find?_nil, Option.map_none, Option.getD_none]
  by_cases hrsv : e.rsv ≠ 0
  · exact ⟨_, if_pos hrsv⟩
  rw [if_neg hrsv]
  by_cases hs : e.selector.toNat ≠ 0
  · exact ⟨_, if_pos hs⟩
  rw [if_neg hs]
  split
  · exact ⟨_, rfl⟩
  obtain ⟨i, hlo, hhi, hbyte⟩ := h.resolve_left (mt hselector hs)
  split
  · exact ⟨_, rfl⟩
  · next hnone =>
    have hzero := List.find?_eq_none.1 hnone (i - 12) (List.mem_range.2 (by omega))
    rw [Nat.add_sub_cancel' hlo] at hzero
    exact absurd (by simpa using hzero) hbyte

/-- Settles O60: accepted, it is a query (O1); with a byte that is not 0 in a reserved field, step 4 refuses it there. -/
theorem thermalStatusAnswers : Obligations.ThermalStatusAnswers := by
  intro s e d
  refine ⟨?answers, ?refused⟩
  case answers =>
    obtain ⟨-, -, -, -, -, hthermal⟩ := queriesAnswer s e
    exact hthermal
  case refused =>
    intro hnext hcrc htag hunit hfields
    obtain ⟨at', hreserved⟩ := Form.reserved_of_unused (f := formThermalStatus) rfl rfl hfields
    exact ⟨at', next_to_congr s (Dev.hostCommand_of_refuses effThermalStatus hnext
      (Dev.refuses_of_reserved hcrc htag hunit hreserved))⟩

end Sys2Proof.Machine
end

section
/-!
PROOFS. The test access port (R452, R530): what its instructions do, and what they leave alone.
-/

namespace Sys2Proof.Machine

section
variable {d : Dev}

/-- R530: the instruction register after a load, with VSTBY. -/
def Dev.jtagLoaded (d : Dev) (code : Nat) : Dev := d.setJtag (fun j => { j with instruction := code })

@[simp] theorem Dev.jtagLoaded_flag (d : Dev) (code : Nat) (f : Fld) (i : Nat) : (d.jtagLoaded code).flag f i = d.flag f i := rfl

theorem Dev.jtagLoad_of_no_drive (hv : d.power.vstby = true) {code : Nat} (h : drivesPins code = false) :
    d.jtagLoad code = d.jtagLoaded code := by
  simp only [Dev.jtagLoad, hv, h, Bool.false_and, Bool.not_true, Bool.false_eq_true, if_false, Dev.jtagLoaded]

/-- R530: with no run in progress every instruction acts as itself. -/
theorem Dev.jtagLoad_of_idle (hv : d.power.vstby = true) (hrun : d.runOn = false) (code : Nat) :
    d.jtagLoad code = d.jtagLoaded code := by
  simp only [Dev.jtagLoad, hv, hrun, Bool.and_false, Bool.not_true, Bool.false_eq_true, if_false, Dev.jtagLoaded]

/-- R530: during a run an instruction that drives pins acts as BYPASS. -/
theorem Dev.jtagLoad_of_run (hv : d.power.vstby = true) (hrun : d.runOn = true) {code : Nat} (h : drivesPins code = true) :
    d.jtagLoad code = d.jtagLoaded 0xFF := by
  simp only [Dev.jtagLoad, hv, hrun, h, Bool.and_self, Bool.not_true, Bool.false_eq_true, if_false, if_true, Dev.jtagLoaded]

/-- The cells shifted in, and the captured levels shifted out. -/
theorem Dev.scanCells_eq (d : Dev) (cells : List Bool) :
    d.scanCells cells = (({ d with free := d.free + cells.length }).setJtag (fun j => { j with boundary := cells })).send
      (.tdo (maskOf ((List.range cells.length).filter (fun i => Config.pinLevel (d.free + i))))) := by
  have hlevels : (List.range cells.length).filter
      (fun i => (((List.range cells.length).map (fun i => Config.pinLevel (d.free + i)))[i]?).getD false) =
      (List.range cells.length).filter (fun i => Config.pinLevel (d.free + i)) :=
    List.filter_congr fun i hi => by simp [List.mem_range.1 hi]
  simp only [Dev.scanCells, Dev.captureCells, List.length_map, List.length_range, hlevels]

theorem Dev.jtagDrive_of_idle (hv : d.power.vstby = true) (hrun : d.runOn = false) (code : Nat) (cells : List Bool) :
    d.jtagDrive code cells = (d.jtagLoaded code).scanCells cells := by
  have hcode : (d.jtagLoaded code).baro.jtag.instruction = code := rfl
  simp only [Dev.jtagDrive, Dev.jtagLoad_of_idle hv hrun, hcode, hv, decide_true, Bool.and_self, if_true]

/-- R452 step 1: with no refusal less than 1 s ago a challenge comes out. -/
theorem Dev.dbgChallenge_of_free (hv : d.power.vstby = true) (h : d.baro.dbg.refusedUntil ≤ d.clk.bus) :
    d.dbgChallenge =
      (Dev.setDebug { d.jtagLoaded 0x30 with free := d.free + 1 }
        { d.baro.dbg with challenge := some (Config.randomValue d.free, d.clk.bus) }).send
          (.tdo (leNat (d.challengeBytes (Config.randomValue d.free)))) := by
  have hlate : ¬ (d.jtagLoaded 0x30).clk.bus < (d.jtagLoaded 0x30).baro.dbg.refusedUntil := Nat.not_lt.2 h
  simp only [Dev.dbgChallenge, hv, Dev.jtagLoad_of_no_drive hv (code := 0x30) rfl, hlate, Bool.not_true, Bool.false_eq_true,
    if_false]
  rfl

theorem Dev.dbgResponse_of_good (hv : d.power.vstby = true) {sig : List Byte} (h : d.responseGood sig = true) :
    d.dbgResponse sig =
      (((((d.jtagLoaded 0x31).setDebug { d.baro.dbg with challenge := none }).putFlag Reg.DEBUG_OPEN true).logOpen 8 549 0).orBits
        Reg.DEBUG_UNLOCK 1).raise { source := 549 } := by
  have hgood : (d.jtagLoaded 0x31).responseGood sig = true := h
  simp only [Dev.dbgResponse, hv, Dev.jtagLoad_of_no_drive hv (code := 0x31) rfl, hgood, Bool.not_true, Bool.false_eq_true,
    if_false, if_true]
  rfl

theorem Dev.dbgResponse_of_bad (hv : d.power.vstby = true) {sig : List Byte} (h : d.responseGood sig = false) :
    d.dbgResponse sig = (d.jtagLoaded 0x31).setDebug ⟨none, d.clk.bus + 200000000⟩ := by
  have hbad : (d.jtagLoaded 0x31).responseGood sig = false := h
  simp only [Dev.dbgResponse, hv, Dev.jtagLoad_of_no_drive hv (code := 0x31) rfl, hbad, Bool.not_true, Bool.false_eq_true, if_false]
  rfl

theorem Dev.dbgAccess_of_locked (hv : d.power.vstby = true) (h : d.flag Reg.DEBUG_OPEN = false) :
    d.dbgAccess = (d.jtagLoaded 0x32).send (.tdo 0) := by
  simp only [Dev.dbgAccess, hv, Dev.jtagLoad_of_no_drive hv (code := 0x32) rfl, Dev.jtagLoaded_flag, h, Bool.not_true,
    Bool.false_eq_true, if_false]

theorem Dev.dbgAccess_of_open (hv : d.power.vstby = true) (h : d.flag Reg.DEBUG_OPEN = true) :
    d.dbgAccess = Dev.send { d.jtagLoaded 0x32 with free := d.free + 1 } (.tdo (Config.freeValue d.free)) := by
  simp only [Dev.dbgAccess, hv, Dev.jtagLoad_of_no_drive hv (code := 0x32) rfl, Dev.jtagLoaded_flag, h, Bool.not_true,
    Bool.false_eq_true, if_false, if_true]
  rfl

theorem Dev.jtagSample_of_on (hv : d.power.vstby = true) (cells : List Bool) :
    d.jtagSample cells = (d.jtagLoaded 0x02).scanCells cells := by
  rw [Dev.jtagSample, if_pos hv, Dev.jtagLoad_of_no_drive hv rfl]

theorem Dev.jtagIdcode_of_on (hv : d.power.vstby = true) : d.jtagIdcode = (d.jtagLoaded 0x01).send (.tdo d.idcodeWord) := by
  rw [Dev.jtagIdcode, if_pos hv, Dev.jtagLoad_of_no_drive hv rfl]

/-- R530: during a run a drive instruction shifts nothing and leaves BYPASS in the port. -/
theorem Dev.jtagDrive_of_run (hv : d.power.vstby = true) (hrun : d.runOn = true) {code : Nat} (h : drivesPins code = true)
    (hcode : code ≠ 0xFF) (cells : List Bool) : d.jtagDrive code cells = d.jtagLoaded 0xFF := by
  have hother : ¬ (decide ((d.jtagLoaded 0xFF).baro.jtag.instruction = code) && d.power.vstby) = true := by
    simpa using fun hc => absurd hc.symm hcode
  rw [Dev.jtagDrive, Dev.jtagLoad_of_run hv hrun h, if_neg hother]

end

/-- Settles O22: the instruction register takes the code, and each instruction does its own part by its lemma. -/
theorem testPortActs : Obligations.TestPortActs := by
  intro s hv d with' scanned goes
  have scans (code : Nat) (cells : List Bool) : scanned code cells = (d.jtagLoaded code).scanCells cells :=
    (Dev.scanCells_eq _ cells).symm
  refine ⟨fun hrun cells => ⟨?extest, ?pulse, ?train⟩, fun hrun cells => ?inRun, fun cells => ?sample, ?idcode,
    fun hrun => ⟨?clamp, ?highz⟩, ?bypass, fun hfree => ?challenge, fun sig hgood => ?good, fun sig hbad => ?bad,
    fun hlocked => ?locked, fun hopen => ?opened⟩
  case extest => exact next_to_congr s ((Dev.jtagDrive_of_idle hv hrun 0x00 cells).trans (scans _ _).symm)
  case pulse => exact next_to_congr s ((Dev.jtagDrive_of_idle hv hrun 0x08 cells).trans (scans _ _).symm)
  case train => exact next_to_congr s ((Dev.jtagDrive_of_idle hv hrun 0x09 cells).trans (scans _ _).symm)
  case inRun => exact next_to_congr s (Dev.jtagDrive_of_run hv hrun rfl (by decide) cells)
  case sample => exact next_to_congr s ((Dev.jtagSample_of_on hv cells).trans (scans _ _).symm)
  case idcode => exact next_to_congr s (Dev.jtagIdcode_of_on hv)
  case clamp => exact next_to_congr s (Dev.jtagLoad_of_idle hv hrun 0x04)
  case highz => exact next_to_congr s (Dev.jtagLoad_of_idle hv hrun 0x05)
  case bypass => exact next_to_congr s (Dev.jtagLoad_of_no_drive hv rfl)
  case challenge => exact next_to_congr s (Dev.dbgChallenge_of_free hv hfree)
  case good => exact next_to_congr s (Dev.dbgResponse_of_good hv hgood)
  case bad => exact next_to_congr s (Dev.dbgResponse_of_bad hv hbad)
  case locked => exact next_to_congr s (Dev.dbgAccess_of_locked hv hlocked)
  case opened => exact next_to_congr s (Dev.dbgAccess_of_open hv hopen)

/-! The frame. -/

/-- A change of the port's own registers alone, of the free values taken and of what is shifted out. -/
def Dev.Scanned (d t : Dev) : Prop :=
  ∃ j g n o, t = { d with baro := { d.baro with jtag := j, dbg := g }, free := n, out := o }

theorem Dev.Scanned.refl (d : Dev) : d.Scanned d := ⟨d.baro.jtag, d.baro.dbg, d.free, d.out, rfl⟩

theorem Dev.Scanned.trans {a b c : Dev} (h : a.Scanned b) (h' : b.Scanned c) : a.Scanned c := by
  obtain ⟨j, g, n, o, rfl⟩ := h
  obtain ⟨j', g', n', o', rfl⟩ := h'
  exact ⟨j', g', n', o', rfl⟩

theorem Dev.Scanned.ite {d a b : Dev} {c : Prop} [Decidable c] (ha : d.Scanned a) (hb : d.Scanned b) :
    d.Scanned (if c then a else b) := by
  split <;> assumption

theorem Dev.Scanned.eq {d t : Dev} (h : d.Scanned t) :
    t = { d with baro := { d.baro with jtag := t.baro.jtag, dbg := t.baro.dbg }, free := t.free, out := t.out } := by
  obtain ⟨j, g, n, o, rfl⟩ := h
  rfl

theorem Dev.jtagLoad_scanned (d : Dev) (code : Nat) : d.Scanned (d.jtagLoad code) :=
  .ite (.refl d) ⟨_, d.baro.dbg, d.free, d.out, rfl⟩

theorem Dev.scanCells_scanned (d : Dev) (cells : List Bool) : d.Scanned (d.scanCells cells) := ⟨_, d.baro.dbg, _, _, rfl⟩

theorem Dev.send_scanned (d : Dev) (o : Outbound) : d.Scanned (d.send o) := ⟨d.baro.jtag, d.baro.dbg, d.free, _, rfl⟩

theorem Dev.jtagDrive_scanned (d : Dev) (code : Nat) (cells : List Bool) : d.Scanned (d.jtagDrive code cells) := by
  have hload := d.jtagLoad_scanned code
  exact .ite (hload.trans (Dev.scanCells_scanned _ cells)) hload

theorem Dev.jtagSample_scanned (d : Dev) (cells : List Bool) : d.Scanned (d.jtagSample cells) :=
  .ite ((d.jtagLoad_scanned _).trans (Dev.scanCells_scanned _ cells)) (.refl d)

theorem Dev.jtagIdcode_scanned (d : Dev) : d.Scanned d.jtagIdcode :=
  .ite ((d.jtagLoad_scanned _).trans (Dev.send_scanned _ _)) (.refl d)

theorem Dev.dbgChallenge_scanned (d : Dev) : d.Scanned d.dbgChallenge := by
  have given (d : Dev) (x : Debug) (n : Nat) (o : Outbound) : d.Scanned ((Dev.setDebug { d with free := n } x).send o) :=
    ⟨d.baro.jtag, x, n, _, rfl⟩
  have hload := d.jtagLoad_scanned 0x30
  exact .ite (.refl d) (.ite hload (hload.trans (given _ _ _ _)))

theorem Dev.dbgAccess_scanned (d : Dev) : d.Scanned d.dbgAccess := by
  have taken (d : Dev) (n : Nat) : d.Scanned { d with free := n } := ⟨d.baro.jtag, d.baro.dbg, n, d.out, rfl⟩
  have hload := d.jtagLoad_scanned 0x32
  exact .ite (.refl d) (.ite ((hload.trans (taken _ _)).trans (Dev.send_scanned _ _)) (hload.trans (Dev.send_scanned _ _)))

/-- Settles O50: each instruction is a load of the port, and then scans or sends. -/
theorem testPortKeepsTheUnit : Obligations.TestPortKeepsTheUnit := by
  intro s t c hc hnext
  have hscan : s.dev.Scanned (s.dev.after c) := by
    simp only [List.mem_cons, List.not_mem_nil, or_false] at hc
    rcases hc with ⟨cells, rfl | rfl | rfl | rfl⟩ | rfl | rfl | rfl | rfl | rfl | rfl
    · exact s.dev.jtagDrive_scanned 0x00 cells
    · exact s.dev.jtagDrive_scanned 0x08 cells
    · exact s.dev.jtagDrive_scanned 0x09 cells
    · exact s.dev.jtagSample_scanned cells
    · exact s.dev.jtagIdcode_scanned
    · exact s.dev.jtagLoad_scanned 0x04
    · exact s.dev.jtagLoad_scanned 0x05
    · exact s.dev.jtagLoad_scanned 0xFF
    · exact s.dev.dbgChallenge_scanned
    · exact s.dev.dbgAccess_scanned
  rw [exec_eq_after] at hnext
  cases hnext
  exact congrArg s.to hscan.eq

end Sys2Proof.Machine
end

section
/-!
PROOFS. The frame of a record's publication (R407, R419, R420).
-/

namespace Sys2Proof.Machine

section
variable (d : Dev) (w : Nat)

theorem Dev.writeRecord_sends (p : Placed) : ∃ o, d.writeRecord w p = { d with out := o } := by
  have sends (l : List (Nat × List Byte)) (t : Dev) (x : Win) : ∃ o, l.foldl (fun d q => d.send
      (.write w q.1 q.2 d.host.relaxedOrdering (d.host.noSnoop && x.noSnoop && !x.peer))) t = { t with out := o } := by
    induction l generalizing t with
    | nil => exact ⟨t.out, rfl⟩
    | cons q l ih => exact ih (t.send _)
  exact sends _ d (d.win w)

theorem Dev.writeRecords_send (now : List Placed) : ∃ o, now.foldl (fun d p => d.writeRecord w p) d = { d with out := o } := by
  induction now generalizing d with
  | nil => exact ⟨d.out, rfl⟩
  | cons p now ih =>
    obtain ⟨o, hp⟩ := d.writeRecord_sends w p
    obtain ⟨o', hnow⟩ := ih { d with out := o }
    exact ⟨o', by rw [List.foldl_cons, hp, hnow]⟩

/-- R407: a publication changes its window, and not its read pointer or its attachment, and sends; or nothing. -/
theorem Dev.publish_cases : d.publish w = d ∨ ∃ x o, x.rp = (d.win w).rp ∧ x.attached = (d.win w).attached ∧
    d.publish w = { d.setWin w x with out := o } := by
  unfold Dev.publish; dsimp only
  split
  · exact .inl rfl
  · split
    · exact .inl rfl
    · next now rest _ =>
      obtain ⟨o, hsent⟩ := d.writeRecords_send w now
      simp only [hsent]
      refine .inr ⟨_, _, ?_, ?_, rfl⟩ <;> rfl

end

/-- R407: what a publication leaves of the unit and of the windows. -/
theorem Dev.publish_keeps (d : Dev) {w : Nat} (hw : w < 64) :
    let t := d.publish w
    t = { d with arch := { d.arch with wins := t.arch.wins }, out := t.out } ∧ (∀ m, m % 64 ≠ w → t.win m = d.win m) ∧
      (t.win w).rp = (d.win w).rp ∧ (t.win w).attached = (d.win w).attached := by
  intro t
  obtain hsame | ⟨x, o, hrp, hattached, hset⟩ := d.publish_cases w
  · have ht : t = d := hsame
    rw [ht]
    exact ⟨rfl, fun _ _ => rfl, rfl, rfl⟩
  · have ht : t = { d.setWin w x with out := o } := hset
    have hwin (m : Nat) : t.win m = if w % 64 = m % 64 then x else d.win m := by rw [ht]; exact d.setWin_win w m x
    refine ⟨by rw [ht]; rfl, fun m hm => ?_, ?_, ?_⟩
    · rw [hwin, if_neg (by omega)]
    · rw [hwin, if_pos rfl, hrp]
    · rw [hwin, if_pos rfl, hattached]

/-- R407: a record in whose data no error was found is published as it stands. -/
theorem Dev.recordErrors_nil (d : Dev) (w : Nat) : d.recordErrors w [] = d := ite_self d

/-- Settles O51: the errors come first (R419, R420), and the publication after them changes the window and sends. -/
theorem publicationKeepsTheUnit : Obligations.PublicationKeepsTheUnit := by
  have clean (s : State) (w : Fin 64) : exec (.recordPublish ⟨w, []⟩) s = .next (s.to (s.dev.publish w)) :=
    next_to_congr s (congrArg (·.publish w) (s.dev.recordErrors_nil w))
  refine ⟨fun s t w hnext => ?frame, fun s w errs => ?errors⟩
  case frame =>
    rw [clean] at hnext
    cases hnext
    obtain ⟨heq, hothers, hrp, hattached⟩ := s.dev.publish_keeps w.isLt
    exact ⟨congrArg s.to heq, hothers, hrp, hattached⟩
  case errors =>
    rw [clean]
    rfl

end Sys2Proof.Machine
end

section
/-!
PROOFS. Accepted LSYN_CONFIG, LSYN_RAMP, LSYN_PHASE_STEP and TIMEBASE_ALIGN act (R386, R389, R391, R398).
-/

namespace Sys2Proof.Machine

@[simp] theorem Dev.begun_flag (d : Dev) (f : Form) (e : Entry) (g : Fld) (i : Nat) : (d.begun f e).flag g i = d.flag g i := by
  rw [Dev.flag, Dev.begun_get, Dev.flag]

/-- R386: the settings that an LSYN_CONFIG asks for. -/
def lsynWanted (e : Entry) : LsynWant :=
  let o := e.inl 12 1
  ⟨o.testBit 0, o.testBit 1, o.testBit 2, e.inl 16 4, e.inl 24 1 * 2 ^ 24 + e.inl 20 3, e.inl 26 2, e.inl 28 4⟩

theorem effLsynConfig_of_good {e : Entry} {d : Dev} {nf p : Nat} (hrun : d.runOn = false)
    (h : d.lsynCheck (lsynWanted e) = .ok (nf, p)) :
    effLsynConfig e d = (d.lsynWrite (lsynWanted e) nf p, { result := nf + 2 ^ 32 * p }) := by
  rw [lsynWanted] at h
  simp only [effLsynConfig, hrun, h, Bool.false_eq_true, if_false]
  rfl

/-- R389: what a ramp command asks of the next line edge, in place of what was asked before. -/
def Dev.askRamp (d : Dev) (e : Entry) (start : Option (List (Int × Nat))) (cycle : Nat) : Dev :=
  { d.dropAsk with clk := { d.dropAsk.clk with ask := some ⟨start, some ⟨e.sq, e.tag.toNat, 0x0B02, false⟩, none, cycle⟩ } }

section
variable {e : Entry} {d : Dev} (hen : d.flag Reg.LSYN_EN = true) (hsettled : d.flag Reg.LSYN_SETTLED = true)
include hen hsettled

theorem effLsynRamp_of_start {segs : List (Int × Nat)} (hstart : (e.inl 12 1).testBit 0 = true)
    (hprofile : d.rampProfile = some segs) (hsound : d.rampFault d.nf 0 segs = none) :
    effLsynRamp e d =
      (((d.put Reg.CHECK_SEG 0).put Reg.CHECK_CODE_0100 0).askRamp e (some segs) d.cycle, { held := true }) := by
  simp only [effLsynRamp, hen, hsettled, hstart, hprofile, hsound, Bool.and_self, Bool.not_true, Bool.false_eq_true,
    if_false, if_true]
  rfl

theorem effLsynRamp_of_stop (hstop : (e.inl 12 1).testBit 0 = false) :
    effLsynRamp e d = (d.askRamp e none d.cycle, { held := true }) := by
  simp only [effLsynRamp, hen, hsettled, hstop, Bool.and_self, Bool.not_true, Bool.false_eq_true, if_false]
  rfl

theorem effLsynPhaseStep_of_fits {left : Int} (hleft : d.pstepLeft + signed 32 (e.inl 12 4) = left)
    (hstep : phaseFits (signed 32 (e.inl 12 4)) = true) (hfits : phaseFits left = true) :
    effLsynPhaseStep e d = (d.settlePhase left, { result := unsigned 23 left + 2 ^ 32 * ceilDiv left.natAbs 64 }) := by
  subst hleft
  simp only [effLsynPhaseStep, hen, hsettled, hstep, hfits, Bool.and_self, Bool.not_true, Bool.false_eq_true, if_false]

end

theorem phaseFits_of_le {v : Int} (hhi : v ≤ 2097151) (hlo : -2097152 ≤ v) : phaseFits v = true := by simp [phaseFits, hhi, hlo]

theorem effTimebaseAlign_of_query {e : Entry} (d : Dev) (h : e.inl 12 1 % 4 = 0) :
    effTimebaseAlign e d = (d, { result := d.get Reg.TB_ERROR + 2 ^ 32 * d.get Reg.TB_LOCKED }) := by
  simp only [effTimebaseAlign, h]

/-- R398: SET with no run in progress jumps to the value given. -/
theorem effTimebaseAlign_of_set {e : Entry} {d : Dev} (h : e.inl 12 1 % 4 = 1) (hrun : d.runOn = false) :
    effTimebaseAlign e d =
      ((d.tbJump (e.inl 16 8 * 16)).tbMoved, { result := (d.tbJump (e.inl 16 8 * 16)).tbMoved.countTb.tb }) := by
  simp only [effTimebaseAlign, h, hrun, Bool.false_eq_true, if_false]

/-- R398: ADD slews during a run, by at most 65536 counts. -/
theorem effTimebaseAlign_of_add {e : Entry} {d t : Dev} (h : e.inl 12 1 % 4 = 2) (hrun : d.runOn = true)
    (hsmall : (signed 64 (e.inl 16 8)).natAbs ≤ 65536)
    (ht : Dev.tbMoved { d with clk := { d.clk with slew := d.clk.slew + 16 * signed 64 (e.inl 16 8) } } = t) :
    effTimebaseAlign e d = (t, { result := t.countTb.tb }) := by
  subst ht
  simp only [effTimebaseAlign, h, hrun, if_true, if_neg (Nat.not_lt.2 hsmall)]

/-- Settles O9: each command answers, or waits for the line edge, with what its effect makes of the unit once it has begun. -/
theorem clockCommandsAct : Obligations.ClockCommandsAct := by
  intro s e
  refine ⟨?config, ?start, ?stop, ?phase, ?query, ?set, ?add⟩
  case config =>
    intro nf p ha d hrun o w hgood
    exact next_to_congr s (Dev.hostCommand_answers effLsynConfig ha (effLsynConfig_of_good (by simpa using hrun) hgood) rfl)
  case start =>
    intro segs ha d hen hsettled hstart hprofile hsound
    exact next_to_congr s (Dev.hostCommand_holds effLsynRamp ha (effLsynRamp_of_start hen hsettled hstart hprofile hsound) rfl)
  case stop =>
    intro ha d hen hsettled hstop
    exact next_to_congr s (Dev.hostCommand_holds effLsynRamp ha (effLsynRamp_of_stop hen hsettled hstop) rfl)
  case phase =>
    intro ha d hen hsettled left hhi hlo hstepHi hstepLo
    exact next_to_congr s (Dev.hostCommand_answers effLsynPhaseStep ha
      (effLsynPhaseStep_of_fits hen hsettled rfl (phaseFits_of_le hstepHi hstepLo) (phaseFits_of_le hhi hlo)) rfl)
  case query =>
    intro ha d hquery
    exact next_to_congr s (Dev.hostCommand_answers effTimebaseAlign ha (effTimebaseAlign_of_query _ hquery) rfl)
  case set =>
    intro ha d hset hrun
    exact next_to_congr s (Dev.hostCommand_answers effTimebaseAlign ha (effTimebaseAlign_of_set hset (by simpa using hrun)) rfl)
  case add =>
    intro ha d hadd hrun hsmall
    exact next_to_congr s (Dev.hostCommand_answers effTimebaseAlign ha
      (effTimebaseAlign_of_add hadd (by simpa using hrun) hsmall rfl) rfl)

end Sys2Proof.Machine
end

section
/-!
PROOFS. What happens to the reference, the synthesizer and the timebase (R381, R382, R385, R387, R393 to R397).
-/

namespace Sys2Proof.Machine

section
variable {d : Dev}

/-! The reference and the synthesizer. -/

theorem Dev.refLoss_of_present (hhold : d.flag Reg.HOLDOVER = false) (hpll : d.flag Reg.SYSPLL_SETTLED = true) :
    let t := ((d.putFlag Reg.HOLDOVER true).putFlag Reg.REF_PRESENT false).count Reg.REF_LOSSES
    d.refLoss = (Dev.orBits { t with clk := { t.clk with lostAt := d.clk.bus } } Reg.REF_LOSS 1).stopOn { source := 480 } 3 := by
  simp only [Dev.refLoss, hhold, hpll, Bool.not_true, Bool.or_self, Bool.false_eq_true, if_false]
  rfl

theorem Dev.refReturn_of_holdover (hhold : d.flag Reg.HOLDOVER = true) :
    d.refReturn = (((((d.putFlag Reg.HOLDOVER false).putFlag Reg.REF_PRESENT true).orBits Reg.REF_RETURN 1).raise
      { source := 481, data := [(8, d.clk.bus - d.clk.lostAt)] }).clearCause 3).reacquire := by
  simp only [Dev.refReturn, hhold, Bool.not_true, Bool.false_eq_true, if_false]
  rfl

theorem Dev.pllSettled_of_starting (hpll : d.flag Reg.SYSPLL_SETTLED = false) (hstart : d.power.starting = true)
    (hvin : d.power.vin = true) (hv : d.power.vstby = true) (htrip : d.therm.tripLatch = false) :
    let t := (((d.putFlag Reg.SYSPLL_SETTLED true).putFlag Reg.REF_PRESENT true).orBits Reg.DOMAIN_ON 2).orBits Reg.DOMAIN_READY 2
    d.pllSettled = { t with tb := 0, half := false, clk := { t.clk with frac := 0, slew := 0, lastE := 0, lastOut := 0 } } := by
  simp only [Dev.pllSettled, hpll, hstart, hvin, hv, htrip, Bool.not_true, Bool.or_self, Bool.false_eq_true, if_false]

/-- R381, R485: the first domains start once the system PLL has settled. -/
theorem Dev.pllUp_of_settles (hbefore : d.flag Reg.SYSPLL_SETTLED = false)
    (hafter : d.pllSettled.flag Reg.SYSPLL_SETTLED = true) : d.pllUp = d.pllSettled.firstDomains := by
  simp only [Dev.pllUp, hafter, hbefore, Bool.not_false, Bool.and_self, if_true]

theorem Dev.lsynSettled_of_due (hen : d.flag Reg.LSYN_EN = true) (hon : d.domainOn 2 = true)
    (hsettled : d.flag Reg.LSYN_SETTLED = false) (hdue : d.clk.settleFrom + 51200 ≤ d.clk.bus) (hrerun : d.arr.rerun = none) :
    d.lsynSettled = ((d.putFlag Reg.LSYN_SETTLED true).putBit Reg.DOMAIN_READY 2 true).lineEdge := by
  have harr : ((d.putFlag Reg.LSYN_SETTLED true).putBit Reg.DOMAIN_READY 2 true).arr.rerun = none := hrerun
  simp only [Dev.lsynSettled, hen, hon, hsettled, decide_eq_true hdue, harr, Bool.not_false, Bool.and_self, if_true]

/-- R387: with no ramp, none asked for and no phase step left, a line edge makes a trigger due. -/
theorem Dev.lineEdge_of_run (hen : d.flag Reg.LSYN_EN = true) (hsettled : d.flag Reg.LSYN_SETTLED = true)
    (hask : d.clk.ask = none) (hramp : d.clk.ramp = none) (hphase : d.clk.pstep = 0) (hrun : d.arr.running = true)
    (hstop : d.arr.stopping = false) (hsrc : d.trigSrc = 0) : d.lineEdge = { d with arr := { d.arr with due := true } } := by
  have hstep : d.rampStep = d := by simp only [Dev.rampStep, hramp]
  simp only [Dev.lineEdge, hen, hsettled, hphase, hask, hstep, hrun, hstop, hsrc, Bool.and_self, Bool.not_true, Bool.not_false,
    Bool.false_eq_true, beq_self_eq_true, if_false, if_true]

/-! The timebase. -/

theorem Dev.syncinEdge_of_lead (n : Fin 16) (hrole : d.get Reg.TB_ROLE ≠ 1) :
    d.syncinEdge n = { d with clk := { d.clk with scap := d.tb * 16 + n.val } } := by
  have hother : ({ d with clk := { d.clk with scap := d.tb * 16 + n.val } } : Dev).get Reg.TB_ROLE ≠ 1 := hrole
  simp only [Dev.syncinEdge, Nat.mod_eq_of_lt n.isLt, if_pos hother]

/-- R7: a write to one word leaves a field of another as it is. -/
theorem Dev.put_get_of_ne {f g : Fld} {i j : Nat} (hw : d.paramsWf) (hkey : f.key i ≠ g.key j) (v : Nat) :
    (d.put f v i).get g j = d.get g j := by
  rw [Dev.get, Dev.put, Dev.setWord_word _ _ _ _ hw, if_neg hkey, Dev.get]

/-- R396: the pulse that an edge in sixteenths is nearest to, and how far after it the edge came. -/
def Dev.edgeExpect (d : Dev) (cap : Nat) : Int :=
  let log := max 16 d.clk.syncLog
  let t : Int := (cap : Int) - Machine.signed 16 (d.get Reg.CABLE_COMP)
  let grid : Int := (2 ^ (log + 4) : Nat)
  (t + grid / 2) / grid * grid

/-- R396: the error of an edge, in sixteenths. -/
def Dev.edgeError (d : Dev) (cap : Nat) : Int := (cap : Int) - Machine.signed 16 (d.get Reg.CABLE_COMP) - d.edgeExpect cap

/-- R394: the unit with the edge captured. -/
def Dev.edgeCaptured (d : Dev) (cap : Nat) : Dev := { d with clk := { d.clk with scap := cap } }

/-- R397: the unit once an edge is counted and its error noted. -/
def Dev.edgeCounted (d : Dev) (cap : Nat) (e : Int) : Dev :=
  ((d.edgeCaptured cap).count Reg.SYNC_PULSES).put Reg.TB_ERROR (unsigned 32 e)

/-- R396: the unit once an edge is accepted for the pulse expected. -/
def Dev.edgeAccepted (d : Dev) (cap : Nat) (expect e : Int) : Dev :=
  let t := d.edgeCounted cap e
  { t with clk := { t.clk with lastE := (expect / 16).toNat, syncLog := t.get Reg.SYNC_LOG, missRun := 0, acquired := true } }

theorem Dev.edgeCounted_get (hw : d.paramsWf) (cap : Nat) (e : Int) {g : Fld} (hcount : Reg.SYNC_PULSES.key 0 ≠ g.key 0)
    (herror : Reg.TB_ERROR.key 0 ≠ g.key 0) : (d.edgeCounted cap e).get g = d.get g := by
  have hcaptured : (d.edgeCaptured cap).paramsWf := hw
  have hcounted : ((d.edgeCaptured cap).count Reg.SYNC_PULSES).paramsWf := Dev.count_paramsWf _ _ _ _ hcaptured
  rw [Dev.edgeCounted, Dev.put_get_of_ne hcounted herror, Dev.count, Dev.put_get_of_ne hcaptured hcount]
  rfl

theorem Dev.edgeAccepted_get (cap : Nat) (expect e : Int) (g : Fld) :
    (d.edgeAccepted cap expect e).get g = (d.edgeCounted cap e).get g := by
  simp only [Dev.edgeAccepted, Dev.get, Dev.word]

theorem Dev.edgeAccepted_lockRun (cap : Nat) (expect e : Int) : (d.edgeAccepted cap expect e).clk.lockRun = d.clk.lockRun := by
  simp only [Dev.edgeAccepted, Dev.edgeCounted, Dev.put_clk, Dev.count_clk, Dev.edgeCaptured]

theorem Dev.edgeAccepted_runOn (cap : Nat) (expect e : Int) : (d.edgeAccepted cap expect e).runOn = d.runOn := by
  simp only [Dev.edgeAccepted, Dev.edgeCounted, Dev.runOn, Dev.put_arr, Dev.count_arr, Dev.edgeCaptured]

/-- R397: an accepted edge corrects the timebase, by a slew or a jump, and counts towards lock or against it. -/
def Dev.edgeCorrects (d : Dev) (e : Int) : Dev :=
  let tol := d.get Reg.LOCK_TOL
  let moved := if !d.runOn && decide (d.get Reg.JUMP_LIMIT * 16 < e.natAbs) then
      let t := d.tbJump ((d.tb16 : Int) - e).toNat
      { t with clk := { t.clk with lastE := d.clk.lastE } }
    else d.tbSlew e
  if e.natAbs ≤ tol then
    let run := moved.clk.lockRun + 1
    let t := { moved with clk := { moved.clk with lockRun := run } }
    if 8 ≤ run && !t.flag Reg.TB_LOCKED then
      (t.putFlag Reg.TB_LOCKED true).raise { source := 483, data := [(4, t.get Reg.TB_ERROR)] }
    else t
  else
    let t := { moved with clk := { moved.clk with lockRun := 0 } }
    if 4 * tol < e.natAbs then t.tbUnlock else t

theorem Dev.syncinEdge_of_follow (n : Fin 16) (hrole : d.get Reg.TB_ROLE = 1) :
    let cap := d.tb * 16 + n.val
    let e := d.edgeError cap
    d.syncinEdge n =
      if d.clk.acquired && decide (2 ^ max 16 d.clk.syncLog < e.natAbs) then d.edgeCaptured cap
      else (d.edgeAccepted cap (d.edgeExpect cap) e).edgeCorrects e := by
  have hcaptured (cap : Nat) : ¬ (d.edgeCaptured cap).get Reg.TB_ROLE ≠ 1 := not_not_intro hrole
  intro cap e
  simp only [Dev.edgeCaptured] at hcaptured
  simp only [Dev.syncinEdge, Nat.mod_eq_of_lt n.isLt, if_neg (hcaptured _)]
  rfl

/-- R397: an error within the tolerance, and within the jump's limit where no run forbids a jump, is slewed away and counts
towards lock, which the eighth such edge in a row gives. -/
theorem Dev.edgeCorrects_of_locking {e : Int} (hslew : d.runOn = true ∨ e.natAbs ≤ d.get Reg.JUMP_LIMIT * 16)
    (htol : e.natAbs ≤ d.get Reg.LOCK_TOL) (hfew : d.clk.lockRun < 7) :
    d.edgeCorrects e =
      { d.tbSlew e with clk := { (d.tbSlew e).clk with lockRun := d.clk.lockRun + 1 } } := by
  have hno_jump : ¬ (!d.runOn && decide (d.get Reg.JUMP_LIMIT * 16 < e.natAbs)) = true := by
    rcases hslew with hrun | hsmall
    · simp [hrun]
    · simp [hsmall]
  have hrun : (d.tbSlew e).clk.lockRun = d.clk.lockRun := rfl
  have hfew' : ¬ 8 ≤ d.clk.lockRun + 1 := by omega
  simp only [Dev.edgeCorrects, if_neg hno_jump, if_pos htol, hrun, decide_eq_false hfew', Bool.false_and, Bool.false_eq_true,
    if_false]

/-- R394, R397: an accepted edge that counts towards lock. -/
theorem Dev.syncinEdge_of_locking (n : Fin 16) (hw : d.paramsWf) (hrole : d.get Reg.TB_ROLE = 1) :
    let cap := d.tb * 16 + n.val
    let e := d.edgeError cap
    let t := (d.edgeAccepted cap (d.edgeExpect cap) e).tbSlew e
    (d.clk.acquired = false ∨ e.natAbs ≤ 2 ^ max 16 d.clk.syncLog) → (d.runOn = true ∨ e.natAbs ≤ d.get Reg.JUMP_LIMIT * 16) →
    e.natAbs ≤ d.get Reg.LOCK_TOL → d.clk.lockRun < 7 →
    d.syncinEdge n = { t with clk := { t.clk with lockRun := d.clk.lockRun + 1 } } := by
  intro cap e t hnear hslew htol hfew
  have haccepted : ¬ (d.clk.acquired && decide (2 ^ max 16 d.clk.syncLog < e.natAbs)) = true := by
    rcases hnear with hacquired | hnear
    · simp [hacquired]
    · simp [hnear]
  have kept {g : Fld} (hcount : Reg.SYNC_PULSES.key 0 ≠ g.key 0) (herror : Reg.TB_ERROR.key 0 ≠ g.key 0) :
      (d.edgeAccepted cap (d.edgeExpect cap) e).get g = d.get g := by
    rw [Dev.edgeAccepted_get, Dev.edgeCounted_get hw _ _ hcount herror]
  have hlock : (d.edgeAccepted cap (d.edgeExpect cap) e).clk.lockRun = d.clk.lockRun := Dev.edgeAccepted_lockRun _ _ _
  have hslew' : (d.edgeAccepted cap (d.edgeExpect cap) e).runOn = true ∨
      e.natAbs ≤ (d.edgeAccepted cap (d.edgeExpect cap) e).get Reg.JUMP_LIMIT * 16 := by
    rw [kept (by decide) (by decide), Dev.edgeAccepted_runOn]; exact hslew
  have htol' : e.natAbs ≤ (d.edgeAccepted cap (d.edgeExpect cap) e).get Reg.LOCK_TOL := by
    rw [kept (by decide) (by decide)]; exact htol
  have hcorrects := Dev.edgeCorrects_of_locking hslew' htol' (hlock ▸ hfew)
  rw [Dev.syncinEdge_of_follow n hrole, if_neg haccepted, hcorrects, hlock]

theorem Dev.still_clk {t : Dev} (h : t.still = d.still) : t.clk = d.clk := congrArg (·.2.2.2.1) h

theorem Dev.raise_clk (d : Dev) (o : Occ) : (d.raise o).clk = d.clk := Dev.still_clk (d.raise_tells o).1

/-- R396: a pulse missed, the fourth in a row not yet. -/
theorem Dev.syncMiss_of_few (hrole : d.get Reg.TB_ROLE = 1) (hfew : d.clk.missRun < 3) :
    let log := max 16 d.clk.syncLog
    let due := (d.tb - (2 ^ (log - 4) + 1)) / 2 ^ log * 2 ^ log
    d.clk.lastE < due →
    d.syncMiss = ((Dev.count { d with clk := { d.clk with
      lastE := due, syncLog := d.get Reg.SYNC_LOG, missRun := d.clk.missRun + 1 } } Reg.SYNC_MISSES).orBits Reg.SYNC_MISS 1).raise
        { source := 485, limited := true } := by
  intro log due hdue
  have hmissed : ¬ (decide (d.get Reg.TB_ROLE ≠ 1) || decide (due ≤ d.clk.lastE)) = true := by simp [hrole, hdue]
  have hfew' : ¬ 4 ≤ d.clk.missRun + 1 := by omega
  simp only [Dev.syncMiss]
  rw [if_neg hmissed, Dev.raise_clk]
  exact if_neg hfew'

/-- R395: the leader's SYNCOUT gives a pulse. -/
theorem Dev.syncout_of_lead (hrole : d.get Reg.TB_ROLE = 0) (hen : d.flag Reg.SYNCOUT_EN = true) :
    let due := d.tb / 2 ^ max 16 d.clk.syncLog * 2 ^ max 16 d.clk.syncLog
    d.clk.lastOut < due →
    d.syncout = Dev.send { d with clk := { d.clk with lastOut := due, syncLog := d.get Reg.SYNC_LOG } } (.syncout due 16) := by
  intro due hdue
  have hgives : (d.flag Reg.SYNCOUT_EN && (d.get Reg.TB_ROLE == 0 || d.flag Reg.TB_LOCKED)) = true := by simp [hen, hrole]
  simp only [Dev.syncout]
  rw [if_pos hdue, if_pos hrole]
  exact if_pos hgives

end

/-- Settles O21: each happening by what it asks of the unit, which the clause's hypotheses answer; an edge of SYNCIN by the lemmas
of its three steps. -/
theorem clockHappeningsAct : Obligations.ClockHappeningsAct := by
  intro s d goes
  refine ⟨fun hhold hpll => ?refLoss, fun hhold => ?refReturn, fun hpll hstart hvin hv htrip hafter => ?pll,
    fun hen hon hsettled hdue hrerun => ?settled, fun hen hsettled hask hramp hphase hrun hstop hsrc => ?edge,
    fun n hrole => ?lead, fun n => ?follow, ?miss, ?out⟩
  case refLoss => exact next_to_congr s (Dev.refLoss_of_present hhold hpll)
  case refReturn => exact next_to_congr s (Dev.refReturn_of_holdover hhold)
  case pll =>
    exact next_to_congr s ((Dev.pllUp_of_settles hpll hafter).trans
      (congrArg Dev.firstDomains (Dev.pllSettled_of_starting hpll hstart hvin hv htrip)))
  case settled => exact next_to_congr s (Dev.lsynSettled_of_due hen hon hsettled hdue hrerun)
  case edge => exact next_to_congr s (Dev.lineEdge_of_run hen hsettled hask hramp hphase hrun hstop hsrc)
  case lead => exact next_to_congr s (Dev.syncinEdge_of_lead n hrole)
  case follow =>
    intro log t grid expect e seen kept hw hrole hnear hslew htol hfew u
    have hexpect : d.edgeExpect (d.tb * 16 + n.val) = expect := rfl
    have he : d.edgeError (d.tb * 16 + n.val) = e := rfl
    have hseen : d.edgeCounted (d.tb * 16 + n.val) e = seen := rfl
    have hlog : seen.get Reg.SYNC_LOG = d.get Reg.SYNC_LOG := hseen ▸ Dev.edgeCounted_get hw _ _ (by decide) (by decide)
    have hfree : seen.free = d.free := by
      simp only [← hseen, Dev.edgeCounted, Dev.put_free, Dev.count_free, Dev.edgeCaptured]
    have hedge := Dev.syncinEdge_of_locking n hw hrole hnear hslew htol hfew
    rw [he, hexpect, Dev.edgeAccepted, hseen, hlog] at hedge
    clear_value seen
    rw [Dev.tbSlew] at hedge
    refine next_to_congr s (hedge.trans ?_)
    simp only [u, kept, ← hfree]
    rfl
  case miss =>
    intro log due hrole hdue hfew
    exact next_to_congr s (Dev.syncMiss_of_few hrole hfew hdue)
  case out =>
    intro log hdue hrole hen
    exact next_to_congr s (Dev.syncout_of_lead hrole hen hdue)

end Sys2Proof.Machine
end

section
/-!
PROOFS. Accepted FW_STAGE, FW_VERIFY, FW_ACTIVATE and UNLOCK_UNTESTED act (R436 to R440).
-/

namespace Sys2Proof.Machine

@[simp] theorem Dev.begun_windowOpen (d : Dev) (f : Form) (e : Entry) : (d.begun f e).windowOpen = d.windowOpen :=
  d.begun_flag f e _ _

section
variable {e : Entry} {d : Dev}

/-- R438: the staged slot with a chunk in it. -/
def Dev.chunkStaged (d : Dev) (e : Entry) : Dev :=
  let i := slotIndex (e.sel 0 0) (d.stageSlot (e.sel 0 0))
  d.setBaro (fun b => { b with flash := { b.flash with
    slots := b.flash.slots.set i.val (stageChunk b.flash.slots[i] (e.inl 12 4) e.data) i.isLt
    factory := b.flash.factory.set i.val false i.isLt } })

/-- R438: a chunk that follows the last one, fits its slot and is sound, with the flash window open. -/
theorem effFwStage_of_good (hfree : (d.longOp.all (fun o => o.opcode != 0x0D02 && o.opcode != 0x0D03)) = true)
    (hnext : e.inl 12 4 = (if (e.inl 16 1).testBit 0 then 0 else d.get (stagedReg (e.sel 0 0))))
    (hfits : e.inl 12 4 + e.bufLen.toNat ≤ slotSize (e.sel 0 0)) (hcrc : crc32c e.data = e.inl 20 4) (hopen : d.windowOpen = true) :
    effFwStage e d =
      (((d.chunkStaged e).put (stagedReg (e.sel 0 0)) (e.inl 12 4 + e.bufLen.toNat)).putFlag (verifiedReg (e.sel 0 0)) false,
        { result := e.inl 12 4 + e.bufLen.toNat }) := by
  have hfirst : ∀ o, d.longOp = some o → (o.opcode == 0x0D02 || o.opcode == 0x0D03) = false := by
    intro o hop
    simpa [hop, bne] using hfree
  have hwindow : ¬ (!d.windowOpen) = true := by rw [hopen]; decide
  simp only [effFwStage]
  rw [if_neg (not_not_intro hnext), if_neg (Nat.not_lt.2 hfits), if_neg (not_not_intro hcrc), if_neg hwindow]
  split
  · next o hop =>
    simp only [hfirst o hop, Bool.false_eq_true, if_false]
    rfl
  · rfl

/-- R440: the selector copy that will be written, invalid. -/
def Dev.copyErased (d : Dev) : Dev :=
  let i := d.baro.flash.otherCopy
  d.setBaro (fun b => { b with flash := { b.flash with
    sel := b.flash.sel.set i.val { b.flash.sel[i] with valid := false } i.isLt } })

/-- R440: each image asked for is verified, and the pair that would boot matches, or is untested and allowed. -/
theorem effFwActivate_of_good (hbfw : (e.inl 12 1).testBit 0 = true → d.flag Reg.BFW_VERIFIED = true)
    (hsqm : (e.inl 12 1).testBit 1 = true → d.flag Reg.SQM_VERIFIED = true) (hmatch : d.wouldBoot (e.inl 12 1) ≠ some 2)
    (huntested : d.wouldBoot (e.inl 12 1) = some 1 → (e.inl 12 1).testBit 2 = true) (hopen : d.windowOpen = true) :
    effFwActivate e d = (d.copyErased.setChan (fun c => { c with longArgs := [e.inl 12 1] }), { held := true }) := by
  have hverified : ¬ (((e.inl 12 1).testBit 0 && !d.flag Reg.BFW_VERIFIED) ||
      ((e.inl 12 1).testBit 1 && !d.flag Reg.SQM_VERIFIED)) = true := by
    simpa using And.intro hbfw hsqm
  have hallowed : ¬ (decide (d.wouldBoot (e.inl 12 1) = some 1) && !(e.inl 12 1).testBit 2) = true := by simpa using huntested
  simp only [effFwActivate]
  rw [if_neg hverified, if_neg hmatch, if_neg hallowed, if_neg (by rw [hopen]; decide)]
  rfl

/-- R436, R437: the flags that UNLOCK_UNTESTED sets, and its report. -/
def Dev.unlockedBy (d : Dev) (o : Nat) : Dev :=
  let a := if o.testBit 0 then d.putFlag Reg.UNLOCKED true else d
  let b := if o.testBit 1 then a.putFlag Reg.LIVE_OK true else a
  ((b.logOpen 8 0x0D04 0).orBits Reg.UNLOCK 1).raise { source := 550 }

/-- R436: UNLOCK_UNTESTED that names the versions and the stepping which run. -/
theorem effUnlockUntested_of_named {u : Dev} (hpairing : d.get Reg.PAIRING = 1) (hbfw : e.inl 16 4 = d.get Reg.BFW_VERSION)
    (hsqm : e.inl 20 4 = d.get Reg.SQM_VERSION) (hstepping : e.inl 24 1 = d.get Reg.STEPPING)
    (hu : (if (d.unlockedBy (e.inl 12 1)).st = .restricted ∧ (d.unlockedBy (e.inl 12 1)).flag Reg.UNLOCKED = true then
      (d.unlockedBy (e.inl 12 1)).enter .idle 0x0D04 else d.unlockedBy (e.inl 12 1)) = u) :
    effUnlockUntested e d = (u, { result := u.get Reg.UNLOCKED + 2 * u.get Reg.LIVE_OK + 16 * u.st.code }) := by
  have hnamed : ¬ (decide (e.inl 16 4 ≠ d.get Reg.BFW_VERSION) || decide (e.inl 20 4 ≠ d.get Reg.SQM_VERSION) ||
      decide (e.inl 24 1 ≠ d.get Reg.STEPPING)) = true := by simp [hbfw, hsqm, hstepping]
  have hleaves (t v : Dev) : (if (t.st == .restricted && t.flag Reg.UNLOCKED) = true then v else t) =
      if t.st = .restricted ∧ t.flag Reg.UNLOCKED = true then v else t := by
    simp only [Bool.and_eq_true, beq_iff_eq]
  subst hu
  simp only [effUnlockUntested]
  rw [if_neg (not_not_intro hpairing), if_neg hnamed, hleaves]
  rfl

end

/-- Settles O11: each effect on the unit that has begun the command, by the checks that its clause answers. -/
theorem firmwareCommandsAct : Obligations.FirmwareCommandsAct := by
  intro s e
  refine ⟨?stage, ?verify, ?activate, ?unlock⟩
  case stage =>
    intro ha d kind i staged hfree hnext hfits hcrc hopen t
    exact next_to_congr s (Dev.hostCommand_answers effFwStage ha
      (effFwStage_of_good hfree hnext hfits hcrc (by simpa using hopen)) rfl)
  case verify =>
    intro ha d
    exact next_to_congr s (Dev.hostCommand_holds effFwVerify ha rfl rfl)
  case activate =>
    intro ha d o i hbfw hsqm hmatch huntested hopen t
    exact next_to_congr s (Dev.hostCommand_holds effFwActivate ha
      (effFwActivate_of_good hbfw hsqm hmatch huntested (by simpa using hopen)) rfl)
  case unlock =>
    intro ha d hpairing hbfw hsqm hstepping a b t u
    exact next_to_congr s (Dev.hostCommand_answers effUnlockUntested ha
      (effUnlockUntested_of_named hpairing hbfw hsqm hstepping rfl) rfl)

end Sys2Proof.Machine
end

section
/-!
PROOFS. The last steps of long operations: FW_VERIFY_DONE, FW_ACTIVATE_DONE, RECIPE_LOAD_DONE, RECIPE_SAVE_DONE, SELFTEST_DONE and
CALIBRATE_FINAL_STEP (R183, R439, R440, R445, R446, R487).
-/

namespace Sys2Proof.Machine

section
variable {d : Dev} (hgoes : d.baro.halted = false)
include hgoes

/-- A step of a long operation finds it running, and no debugger holding the Barometer. -/
theorem Dev.long_runs {opcode : Nat} (hlong : d.longIs opcode = true) : ¬ (!d.longIs opcode || d.baro.halted) = true := by
  rw [hlong, hgoes]; decide

theorem Dev.fwVerifyDone_of_good {kind : Nat} (hlong : d.longIs 0x0D02 = true) (hargs : d.chan.longArgs = [kind]) (hkind : kind < 2)
    (hfits : (d.baro.flash.image kind (d.stageSlot kind)).fits kind = true) (hsigned : d.signed kind (d.stageSlot kind) = true) :
    let x := d.baro.flash.image kind (d.stageSlot kind)
    let t := (d.putFlag (verifiedReg kind) true).outcomeWith kind x
    d.fwVerifyDone = t.1.finishLong 0x0D02 { result := x.version + x.iface * 2 ^ 32 + t.2 * 2 ^ 48 } := by
  have hfirst : (d.chan.longArgs.head?).getD 0 % 2 = kind := by rw [hargs]; exact Nat.mod_eq_of_lt hkind
  simp only [Dev.fwVerifyDone, if_neg (Dev.long_runs hgoes hlong), hfirst, hfits, hsigned, Bool.not_true, Bool.false_eq_true,
    if_false]

/-- R440: the selector copy that is not in effect, programmed with the slots asked for. -/
def Dev.copyProgrammed (d : Dev) (o : Nat) : Dev :=
  let f := d.baro.flash
  let i := f.otherCopy
  let seq := match f.selected with | some x => (x.seq + 1) % 2 ^ 32 | none => 1
  let n := d.newSlots o
  d.setBaro (fun b => { b with flash := { f with
    sel := f.sel.set i.val ⟨true, seq, n.1, n.2, (f.image 0 n.1).version, (f.image 1 n.2).version⟩ i.isLt } })

theorem Dev.fwActivateDone_of_open {c : Outst} {o : Nat} (hop : d.longOp = some c) (hcode : c.opcode = 0x0D03)
    (hargs : d.chan.longArgs = [o]) (hopen : d.windowOpen = true) (hlater : o.testBit 3 = false) :
    d.fwActivateDone = (d.copyProgrammed o).finishLong 0x0D03
      { result := match d.baro.flash.selected with | some x => (x.seq + 1) % 2 ^ 32 | none => 1 } := by
  have hmask : (d.chan.longArgs.head?).getD 0 = o := by rw [hargs]; rfl
  simp only [Dev.fwActivateDone, hop, hcode, hgoes, hopen, hmask, hlater, ne_eq, not_true_eq_false, decide_false, Bool.or_self,
    Bool.not_true, Bool.false_eq_true, if_false]
  rfl

theorem Dev.fwActivateDone_of_closed (hlong : d.longIs 0x0D03 = true) (hclosed : d.windowOpen = false) :
    d.fwActivateDone = d.refuseWindow.finishLong 0x0D03 { status := .thermalWindow } := by
  unfold Dev.longIs at hlong
  cases hop : d.longOp with
  | none => rw [hop] at hlong; cases hlong
  | some c =>
    rw [hop] at hlong
    have hcode : c.opcode = 0x0D03 := by simpa using hlong
    simp only [Dev.fwActivateDone, hop, hcode, hgoes, hclosed, ne_eq, not_true_eq_false, decide_false, Bool.or_self, Bool.not_false,
      Bool.false_eq_true, if_false, if_true]

theorem Dev.recipeLoadDone_of_committed {slot mask : Nat} {u : Dev} (hlong : d.longIs 0x0106 = true)
    (hargs : d.chan.longArgs = [slot, mask]) :
    let ws := d.baro.flash.recipe slot
    let t := (((sectionsOf (rcp ws 1 / 65536) (ws.drop 16)).getD []).foldl Dev.applyLsyn d).tryCommit 0
    t.2.status = .ok → t.1.startEngines mask true true = .inl u →
    d.recipeLoadDone = (u.logOpen 5 0x0106 0).finishLong 0x0106 { result := t.2.result / 2 ^ 32 % 2 ^ 16 } := by
  intro ws t hok hengines
  have hslot : (d.chan.longArgs.head?).getD 0 = slot := by rw [hargs]; rfl
  have hmask : (d.chan.longArgs[1]?).getD 0 = mask := by rw [hargs]; rfl
  simp only [Dev.recipeLoadDone, if_neg (Dev.long_runs hgoes hlong), hslot, hmask]
  change Dev.finishLong (Dev.logOpen (match t.1.startEngines mask true true with | .inl d => d | .inr _ => t.1) 5 0x0106 _) 0x0106
    (if t.2.status = .ok then _ else _) = _
  rw [hengines, if_pos hok]
  rfl

theorem Dev.recipeSaveDone_of_quiet {slot tries gen : Nat} {t : Dev} (hlong : d.longIs 0x0107 = true)
    (hargs : d.chan.longArgs = [slot, tries, gen]) (hopen : d.windowOpen = true) (huntouched : d.chan.touched = false)
    (hgen : d.conf.gen = gen) (hwritten : d.writeRecipe slot (withCheck (leWords d.chan.longBytes)) = some t) :
    d.recipeSaveDone =
      t.finishLong 0x0107 { result := 4 * (withCheck (leWords d.chan.longBytes)).length + gen * 2 ^ 32 } := by
  have harg (i : Nat) : (d.chan.longArgs[i]?).getD 0 = ([slot, tries, gen][i]?).getD 0 := by rw [hargs]
  have hquiet : ¬ (d.chan.touched || d.conf.gen != gen) = true := by simp [huntouched, hgen]
  simp only [Dev.recipeSaveDone, if_neg (Dev.long_runs hgoes hlong), harg]
  change (if (d.chan.touched || d.conf.gen != gen) = true then _ else _ : Dev) = _
  rw [if_neg hquiet, if_neg (by rw [hopen]; decide)]
  change (match d.writeRecipe slot _ with | none => _ | some d => _ : Dev) = _
  rw [hwritten]
  rfl

theorem Dev.recipeSaveDone_of_touched {slot tries gen : Nat} (hlong : d.longIs 0x0107 = true)
    (hargs : d.chan.longArgs = [slot, tries, gen]) (hfew : tries < 3) (htouched : d.chan.touched = true ∨ d.conf.gen ≠ gen) :
    d.recipeSaveDone = d.captureFor slot (tries + 1) ((d.chan.longBytes.drop 16).take 16) := by
  have harg (i : Nat) : (d.chan.longArgs[i]?).getD 0 = ([slot, tries, gen][i]?).getD 0 := by rw [hargs]
  have hagain : (d.chan.touched || d.conf.gen != gen) = true := by simpa using htouched
  simp only [Dev.recipeSaveDone, if_neg (Dev.long_runs hgoes hlong), harg]
  change (if (d.chan.touched || d.conf.gen != gen) = true then (if 3 ≤ tries then _ else _) else _ : Dev) = _
  rw [if_pos hagain, if_neg (Nat.not_le.2 hfew)]
  rfl

theorem Dev.selftestDone_of_pass {inst : Nat} (code us : Nat) (hlong : d.longIs 0x0C01 = true)
    (hargs : d.chan.longArgs = [0x01, inst]) :
    d.selftestDone true code us =
      ((d.putFlag Reg.ST_PASS true).put Reg.ST_CODE 0).finishLong 0x0C01 { result := 1 + 2 ^ 32 * (us % 2 ^ 32) } := by
  have hid : (d.chan.longArgs.head?).getD 0 = 0x01 := by rw [hargs]; rfl
  simp [Dev.selftestDone, hid, hlong, hgoes, b2n]

end

section
variable {d : Dev} {k : Calib} (hcalib : d.pipe.calib = some k)
include hcalib

/-- R183: a head that still lacks blocks, and whose lines stopped 100 ms ago, ends the calibration. -/
theorem Dev.calibrateFinal_of_timeout
    (hlate : ∃ x ∈ k.heads, x.blocks < k.blocks ∧ max k.since (d.headS x.head).lastTb + 20000000 < d.clk.bus) :
    d.calibrateFinal = d.endCalibrate k { status := .timeout } := by
  have hshort : ((k.heads.filter (fun x => x.blocks < k.blocks)).any (fun x =>
      decide (max k.since (d.headS x.head).lastTb + 20000000 < d.clk.bus))) = true := by
    simpa [List.any_eq_true, List.mem_filter, and_assoc] using hlate
  simp only [Dev.calibrateFinal, hcalib, hshort, if_true]

/-- R184, R185: what the heads' blocks give, one after another. -/
def Dev.calibrated (d : Dev) (k : Calib) : Dev × List (Nat × CalOut) :=
  k.heads.foldl (fun (acc : Dev × List (Nat × CalOut)) x =>
    let o := if k.flat then acc.1.flatOut k x else acc.1.darkOut x
    (o.1, acc.2 ++ [(x.head, o.2)])) (d, [])

/-- R184 to R186: every head has its blocks, none is bright in the dark, and the defects found fit. -/
theorem Dev.calibrateFinal_of_full (hfull : ∀ x ∈ k.heads, k.blocks ≤ x.blocks)
    (hdark : k.flat = false → ∀ x ∈ k.heads, x.bright = false)
    (hroom : ∀ o ∈ (d.calibrated k).2, (d.calibrated k).1.defectsOver k o = false) :
    d.calibrateFinal =
      ((d.calibrated k).1.keepCalibration k (d.calibrated k).2).1.endCalibrate k
        ((d.calibrated k).1.keepCalibration k (d.calibrated k).2).2 := by
  have hnone : k.heads.filter (fun x => x.blocks < k.blocks) = [] := by simpa [List.filter_eq_nil_iff] using hfull
  have hdim : ¬ (!k.flat && k.heads.any CalHead.bright) = true := by simpa using hdark
  have hfits : ¬ ((d.calibrated k).2.any ((d.calibrated k).1.defectsOver k)) = true := by simpa using hroom
  simp only [Dev.calibrateFinal, hcalib, hnone, List.any_nil, List.isEmpty_nil, Bool.not_true, Bool.false_eq_true, if_false,
    if_neg hdim]
  exact if_neg hfits

end

/-- Settles O12: each last step by the state in which its clause finds the operation. -/
theorem longOperationsEnd : Obligations.LongOperationsEnd := by
  intro s d ends hgoes
  refine ⟨fun kind hlong hargs hkind => ?verify, fun c o hop hcode hargs hopen hlater => ?activate,
    fun o hlong hargs hclosed => ?closed, fun slot mask u hlong hargs => ?load,
    fun slot tries gen t hlong hargs hopen huntouched hgen => ?save,
    fun slot tries gen hlong hargs hfew htouched => ?again, fun code us inst hlong hargs => ?selftest,
    fun k hcalib hlate => ?timeout, fun k hcalib hfull hdark => ?calibrate⟩
  case verify =>
    intro slot x hfits hsigned
    exact next_to_congr s (Dev.fwVerifyDone_of_good hgoes hlong hargs hkind hfits hsigned)
  case activate =>
    exact next_to_congr s (congrArg Dev.resetCheck (Dev.fwActivateDone_of_open hgoes hop hcode hargs hopen hlater))
  case closed => exact next_to_congr s (congrArg Dev.resetCheck (Dev.fwActivateDone_of_closed hgoes hlong hclosed))
  case load =>
    intro ws ss t hok hengines
    exact next_to_congr s (Dev.recipeLoadDone_of_committed hgoes hlong hargs hok hengines)
  case save =>
    intro ws hwritten
    exact next_to_congr s (Dev.recipeSaveDone_of_quiet hgoes hlong hargs hopen huntouched hgen hwritten)
  case again => exact next_to_congr s (Dev.recipeSaveDone_of_touched hgoes hlong hargs hfew htouched)
  case selftest => exact next_to_congr s (Dev.selftestDone_of_pass hgoes code.toNat us hlong hargs)
  case timeout => exact next_to_congr s (Dev.calibrateFinal_of_timeout hcalib hlate)
  case calibrate =>
    intro m hroom
    exact next_to_congr s (Dev.calibrateFinal_of_full hcalib hfull hdark hroom)

end Sys2Proof.Machine
end

section
/-!
PROOFS. Supplies and resets act (R426, R473, R474, R479, R482).
-/

namespace Sys2Proof.Machine

section
variable {d : Dev}

theorem Dev.coldStart_of_off (h : d.power.vstby = false) : d.coldStart = d.bootInto .coldStart := by
  rw [Dev.coldStart, if_neg (by rw [h]; decide)]

theorem Dev.vinPowerOn_of_gone (hvin : d.power.vin = false) (hv : d.power.vstby = true) :
    d.vinPowerOn = (d.setPower (fun p => { p with vin := true })).bootInto .vinPowerOn := by
  have hstands : (d.setPower (fun p => { p with vin := true })).power.vstby = true := hv
  simp only [Dev.vinPowerOn, hvin, hstands, Bool.false_eq_true, if_false, if_true]

/-- R473: the unit once VIN is gone: nothing but AON runs, and the failure is counted. -/
def Dev.vinGone (d : Dev) : Dev :=
  { (d.setPower (fun p => { p with vin := false, resetAsk := none, bistHold := false })).powerDown with
    st := UState.boot }.count Reg.POWER_FAILS

theorem Dev.powerFail_of_powered (hvin : d.power.vin = true) (hv : d.power.vstby = true) :
    let f := ((d.vinGone.setPower (fun p => { p with failAt := some d.tb })).markReset 1).takeFree
    d.powerFail = f.1.logOpen 3 608 (Config.freeValue f.2 % 65536) := by
  have hgone : ¬ (!d.power.vin) = true := by rw [hvin]; decide
  have hstands : ¬ (!d.power.vstby) = true := by rw [hv]; decide
  simp only [Dev.powerFail, if_neg hgone, if_neg hstands]
  rfl

theorem Dev.vstbyLoss_of_on (hv : d.power.vstby = true) :
    d.vstbyLoss = (((d.keepAlways (Dev.cold d.baro.flash)).put Reg.DOMAIN_ON 0).put Reg.DOMAIN_READY 0).setPower
      (fun p => { p with vstby := false }) := by
  rw [Dev.vstbyLoss, if_neg (by rw [hv]; decide)]

/-- R479: a low pulse beyond 1 us passes the filter. -/
theorem Dev.resetN_of_long {ns : Nat} (hhigh : d.power.resetLow = false) (hlong : 1000 ≤ ns) :
    d.resetN ns = (d.setPower (fun p => { p with resetLow := true })).warmReset .resetN := by
  have hpasses : ¬ (d.power.resetLow || decide (ns < 100)) = true := by
    simp only [hhigh, Bool.false_or, decide_eq_true_eq]
    omega
  simp only [Dev.resetN, if_neg hpasses, if_pos hlong, if_true]

theorem Dev.resetNRelease_of_low (hlow : d.power.resetLow = true) :
    d.resetNRelease = (d.setPower (fun p => { p with
      resetLow := false, bootAt := if p.starting then d.clk.bus else p.bootAt })).firstDomains := by
  rw [Dev.resetNRelease, if_neg (by rw [hlow]; decide)]

theorem Dev.watchdog_of_running (hgoes : d.baro.halted = false) (hv : d.power.vstby = true) (hrank : d.outranked 3 = false) :
    d.watchdog = ((d.count Reg.WDT_RESETS).setBaro (fun b => { b with
      dogPending := true, dogBoots := if d.power.starting then b.dogBoots + 1 else b.dogBoots })).warmReset .watchdog := by
  have hacts : ¬ (d.baro.halted || !d.power.vstby || d.outranked 3) = true := by rw [hgoes, hv, hrank]; decide
  rw [Dev.watchdog, if_neg hacts]

end

/-- Settles O18: each supply and each reset by the lemma of its own. -/
theorem suppliesAndResetsAct : Obligations.SuppliesAndResetsAct := fun s =>
  ⟨fun hoff => next_to_congr s (Dev.coldStart_of_off hoff),
    fun hvin hv => next_to_congr s (Dev.vinPowerOn_of_gone hvin hv),
    fun hvin hv => next_to_congr s (Dev.powerFail_of_powered hvin hv),
    fun hv => next_to_congr s (Dev.vstbyLoss_of_on hv),
    fun _ hhigh hlong => next_to_congr s (Dev.resetN_of_long hhigh hlong),
    fun hlow => next_to_congr s (Dev.resetNRelease_of_low hlow),
    fun hgoes hv hrank => next_to_congr s (Dev.watchdog_of_running hgoes hv hrank)⟩

end Sys2Proof.Machine
end

section
/-!
PROOFS. Start-up goes on, and domains become ready or fail (R434, R447, R475, R478, R485).
-/

namespace Sys2Proof.Machine

section
variable {d : Dev}

/-! Boot selection and the end of start-up. -/

theorem Dev.bootSelection_of_pair {b : Nat × Bool} {q : Nat} (hstart : d.power.starting = true) (hpulse : d.inPulse = false)
    (hpll : d.flag Reg.SYSPLL_SETTLED = true) (hboot : d.baro.booted = false) (hrom : d.baro.inRom = false)
    (hbfw : d.bootDog.bootBfw = some b) (hsqm : d.bootDog.bootSlot 1 (d.bootDog.namedSlot 1) = some q) :
    d.bootSelection = d.bootDog.bootPair b q := by
  simp only [Dev.bootSelection, hstart, hpulse, hpll, hboot, hrom, hbfw, hsqm, Bool.not_true, Bool.or_self, Bool.false_eq_true,
    if_false]

/-- R485: the state in which start-up leaves BOOT. -/
def Dev.startedState (d : Dev) : UState :=
  if d.get Reg.FAULT_CAUSE ≠ 0 then .fault else if d.get Reg.PAIRING = 1 then .restricted else .idle

/-- R485: the unit that has left BOOT, its start-up over and timed. -/
def Dev.startupTimed (d : Dev) : Dev :=
  let a := d.enter d.startedState 612
  (a.put Reg.STARTUP_MS (sat32 ((a.clk.bus - a.power.bootAt) / 200000))).setPower (fun p => { p with starting := false })

theorem Dev.startupDone_of_passed (hstart : d.power.starting = true) (hboot : d.baro.booted = true)
    (hready : d.get Reg.DOMAIN_READY = d.get Reg.DOMAIN_ON) (htrip : d.therm.tripRec = none) (hst : d.st = .boot) :
    let b := d.startupTimed
    let c := (b.setBaro (fun x => { x with dogBoots := 0 })).raise
      { source := 612, data := [(1, b.get Reg.LAST_RESET), (1, b.st.code)] }
    d.startupDone 0 = c.reportPast.autoBegin.resume.deliverAborted := by
  simp only [Dev.startupDone, hstart, hboot, hready, htrip, hst, ne_eq, not_true_eq_false, decide_false, Bool.not_true,
    Bool.or_self, Bool.false_eq_true, if_false, Nat.zero_mod, if_true]
  rfl

/-! AUTOSTART. -/

/-- R447: step 3 ends once the synthesizer has settled. -/
theorem Dev.autostart_of_settled (hrun : d.get Reg.AS_RESULT = 1) (hgoes : d.baro.halted = false) (hfree : d.autoBusy = false)
    (hstep : d.get Reg.AS_STEP = 3) (hsettled : d.flag Reg.LSYN_SETTLED = true) : d.autostart = d.autoNext 4 := by
  simp only [Dev.autostart, hrun, hgoes, hfree, hstep, hsettled, ne_eq, not_true_eq_false, decide_false, Bool.or_self,
    Bool.false_eq_true, if_false, if_true]

section
variable (hrun : d.get Reg.AS_RESULT = 1) (hgoes : d.baro.halted = false) (hstep : d.get Reg.AS_STEP = 5)
  (hover : d.baro.autoSince + 200000 * d.get Reg.AUTOSTART_HOLD_MS ≤ d.clk.bus)
include hrun hgoes hstep hover

/-- R447: AUTOSTART's hold is over. -/
theorem Dev.autoHold_over : ¬ (decide (d.get Reg.AS_RESULT ≠ 1) || d.baro.halted || decide (d.get Reg.AS_STEP ≠ 5) ||
    decide (d.clk.bus < d.baro.autoSince + 200000 * d.get Reg.AUTOSTART_HOLD_MS)) = true := by
  simp [hrun, hgoes, hstep, hover]

theorem Dev.autoHoldEnd_of_dry (hdry : d.flag Reg.AUTOSTART_LIVE = false) : d.autoHoldEnd = d.put Reg.AS_RESULT 2 := by
  rw [Dev.autoHoldEnd, if_neg (Dev.autoHold_over hrun hgoes hstep hover), if_pos (by rw [hdry]; rfl)]

theorem Dev.autoHoldEnd_of_sorting (hlive : d.flag Reg.AUTOSTART_LIVE = true) (hok : ((d.autoNext 6).autoState .sorting).2 = none) :
    d.autoHoldEnd = ((d.autoNext 6).autoState .sorting).1.put Reg.AS_RESULT 2 := by
  rw [Dev.autoHoldEnd, if_neg (Dev.autoHold_over hrun hgoes hstep hover), if_neg (by rw [hlive]; decide)]
  split
  · next h => rw [h]
  · next h => rw [h] at hok; cases hok

theorem Dev.autoHoldEnd_of_refused {code : Nat} (hlive : d.flag Reg.AUTOSTART_LIVE = true)
    (hfails : ((d.autoNext 6).autoState .sorting).2 = some code) :
    d.autoHoldEnd = ((d.autoNext 6).autoState .sorting).1.autoFail code := by
  rw [Dev.autoHoldEnd, if_neg (Dev.autoHold_over hrun hgoes hstep hover), if_neg (by rw [hlive]; decide)]
  split
  · next h => rw [h] at hfails; cases hfails
  · next h => rw [h] at hfails; cases hfails; rw [h]

end

/-! Domains. -/

/-- R475: a domain that is on becomes ready after its time, the converters and AUX after their calibration. -/
theorem Dev.readyNow_of_due {n : Fin 25} (hlate : 2 < n.val) (hon : d.domainOn n = true) (hready : d.domainReady n = false)
    (hcal : n.val = 4 ∨ n.val = 5 → d.conv.fgMask.testBit n = false) (haux : n.val = 24 → d.aux.fgCal = false)
    (hdue : d.power.onAt[n] + readyTime n ≤ d.clk.bus) : d.readyNow n = (d.putBit Reg.DOMAIN_READY n true).domainWaits := by
  have hsince : d.power.onAt[n.val % 25]'(Nat.mod_lt _ (by decide)) = d.power.onAt[n] := by
    simp only [Nat.mod_eq_of_lt n.isLt, Fin.getElem_fin]
  have hwaits : (n.val == 0 || n.val == 1 || n.val == 2 || ((n.val == 4 || n.val == 5) && d.conv.fgMask.testBit n) ||
      (n.val == 24 && d.aux.fgCal)) = false := by
    have h0 : (n.val == 0) = false := beq_eq_false_iff_ne.2 (by omega)
    have h1 : (n.val == 1) = false := beq_eq_false_iff_ne.2 (by omega)
    have h2 : (n.val == 2) = false := beq_eq_false_iff_ne.2 (by omega)
    simp only [h0, h1, h2, Bool.false_or, Bool.or_eq_false_iff, Bool.and_eq_false_imp, Bool.or_eq_true, beq_iff_eq]
    exact ⟨hcal, haux⟩
  have hnow : ¬ d.clk.bus < d.power.onAt[n] + readyTime n := Nat.not_lt.2 hdue
  have hbound : ¬ 25 ≤ n.val := Nat.not_le.2 n.isLt
  simp only [Dev.readyNow, hsince, hwaits, hon, hready, decide_eq_false hnow, decide_eq_false hbound, Bool.not_true, Bool.or_self,
    Bool.false_eq_true, if_false]

section
variable {n : Fin 25} (hon : d.domainOn n = true)
include hon

/-- R478: the regulator of a domain that no run needs, and not of EJECT, fails: the domain goes off, and an event says so. -/
theorem Dev.domainFails_of_spare (hn : n.val ≠ 0) (hspare : n.val ∉ runDomains) (heject : n.val ≠ 13) :
    d.domainFails n = (((d.switchOff (1 <<< n.val)).orBits Reg.DOMAIN_FAULT (1 <<< n.val)).raise
      { source := 609, inst := n.val, data := [(1, n.val)] }).domainWaits := by
  have hfails : ¬ (decide (n.val = 0) || !d.domainOn n || decide (25 ≤ n.val)) = true := by
    have := n.isLt
    simp [hn, hon]
  have hno : runDomains.contains n.val = false := by simpa using hspare
  have hother : (n.val == 13) = false := beq_eq_false_iff_ne.2 heject
  simp only [Dev.domainFails, if_neg hfails, hno, hother, Bool.false_and, Bool.or_self, Bool.false_eq_true, if_false]

/-- R478: the regulator of a run domain fails: a stopping fault, and the run is over. -/
theorem Dev.domainFails_of_run (hrun : n.val ∈ runDomains) :
    d.domainFails n = (((d.switchOff (1 <<< n.val)).orBits Reg.DOMAIN_FAULT (1 <<< n.val)).stopOn
      { source := 609, inst := n.val, data := [(1, n.val)] } 7).closeRun.domainWaits := by
  have hn : n.val ≠ 0 := fun h => by rw [h] at hrun; exact absurd hrun (by decide)
  have hfails : ¬ (decide (n.val = 0) || !d.domainOn n || decide (25 ≤ n.val)) = true := by
    have := n.isLt
    simp [hn, hon]
  have hstops : runDomains.contains n.val = true := List.contains_iff_mem.2 hrun
  simp only [Dev.domainFails, if_neg hfails, hstops, Bool.true_or, if_true]

end

end

/-- Settles O20: each step of start-up and of AUTOSTART, and each happening of a domain, by the lemma of its own. -/
theorem startUpGoesOn : Obligations.StartUpGoesOn := by
  intro s d goes
  refine ⟨fun b q hstart hpulse hpll hboot hrom hbfw hsqm => ?boot, fun hstart hboot hready htrip hst => ?done,
    fun hrun hgoes hfree hstep hsettled => ?autostart,
    fun hrun hgoes hstep hover => ⟨fun hdry => ?dry, fun hlive => ⟨fun hok => ?sorting, fun code hfails => ?refused⟩⟩,
    fun n hlate hon hready hcal haux hdue => ?ready, fun n hn hon hspare heject => ?spare, fun n hon hrun => ?fault⟩
  case boot => exact next_to_congr s (Dev.bootSelection_of_pair hstart hpulse hpll hboot hrom hbfw hsqm)
  case done => exact next_to_congr s (congrArg Dev.resetCheck (Dev.startupDone_of_passed hstart hboot hready htrip hst))
  case autostart => exact next_to_congr s (Dev.autostart_of_settled hrun hgoes hfree hstep hsettled)
  case dry => exact next_to_congr s (Dev.autoHoldEnd_of_dry hrun hgoes hstep hover hdry)
  case sorting => exact next_to_congr s (Dev.autoHoldEnd_of_sorting hrun hgoes hstep hover hlive hok)
  case refused => exact next_to_congr s (Dev.autoHoldEnd_of_refused hrun hgoes hstep hover hlive hfails)
  case ready => exact next_to_congr s (Dev.readyNow_of_due hlate hon hready hcal haux hdue)
  case spare => exact next_to_congr s (Dev.domainFails_of_spare hon hn hspare heject)
  case fault => exact next_to_congr s (Dev.domainFails_of_run hon hrun)

end Sys2Proof.Machine
end

section
/-!
PROOFS. The Barometer's temperature, its log and its flash steps go on (R427, R449, R450, R455 to R467).
-/

namespace Sys2Proof.Machine

section
variable {d : Dev}

/-! The diode. -/

/-- R455, R456, R462: a sample within the diode's range and below 120 C. -/
theorem Dev.diodeSample_of_cool {r : Int} (hv : d.power.vstby = true) (hsampled : d.therm.sampled = true) (hlo : -880 ≤ r)
    (hhi : r < 1920) :
    d.diodeSample (some r) =
      ((((d.filterTemp r).diodeRange true).judgeWindow false).judge).setTherm (fun t => { t with tripRun := 0 }) := by
  have hrange : (decide (-880 ≤ r) && decide (r ≤ 2400)) = true := by
    simp only [Bool.and_eq_true, decide_eq_true_eq]
    omega
  have hcool (t : Dev) : ¬ (decide (1920 ≤ r) && !t.flag Reg.DIODE_FAULT) = true := by simp [Int.not_le.2 hhi]
  simp only [Dev.diodeSample, hv, hsampled, hrange, if_neg (hcool _), Bool.not_true, Bool.false_eq_true, if_false]
  rfl

/-- R467: a sample that does not arrive is out of range. -/
theorem Dev.diodeSample_of_none (hv : d.power.vstby = true) (hsampled : d.therm.sampled = true) :
    d.diodeSample none = ((d.diodeRange false).judgeWindow false).setTherm (fun t => { t with tripRun := 0 }) := by
  simp only [Dev.diodeSample, hv, hsampled, Bool.not_true, Bool.false_eq_true, if_false]

/-! WARN and HOT. -/

theorem Dev.logOpen_tells (d : Dev) (kind source code : Nat) : d.takeFree.1.Tells (d.logOpen kind source code) :=
  Dev.log_tells _ _ _ _ _ _

theorem Dev.still_therm {t : Dev} (h : t.still = d.still) : t.therm = d.therm := congrArg (·.1.2.2.2.2.2.1) h

theorem Dev.logOpen_therm (d : Dev) (kind source code : Nat) : (d.logOpen kind source code).therm = d.therm :=
  (Dev.still_therm (d.logOpen_tells kind source code).1).trans rfl

theorem Dev.logOpen_st (d : Dev) (kind source code : Nat) : (d.logOpen kind source code).st = d.st :=
  (Dev.still_st (d.logOpen_tells kind source code).1).trans rfl

theorem Dev.thermalEvent_therm (d : Dev) (source : Nat) : (d.thermalEvent source).therm = d.therm :=
  (Dev.still_therm (Dev.raise_tells _ _).1).trans (Dev.logOpen_therm _ _ _ _)

/-- R449, R493: an event of the thermal group leaves every field in whose word nothing is counted or flagged. -/
theorem Dev.thermalEvent_get (hw : d.paramsWf) (source : Nat) {f : Fld} {i : Nat} (hf : ∀ g ∈ reportFields, g.key 0 ≠ f.key i) :
    (d.thermalEvent source).get f i = d.get f i := by
  have hlog := (Dev.logOpen_tells d.takeFree.1 7 source (Config.freeValue d.takeFree.2 % 65536)).2 hw
  rw [Dev.thermalEvent, Dev.thermalLog]
  dsimp only
  rw [Dev.raise_get hlog.1 _ hf, Dev.get, hlog.2.words _ hf, Dev.get]
  rfl

/-- R460: WARN_SEEN is set and reported, and the scrub pauses where it is told to. -/
theorem Dev.hotOn_of_warn (hgoes : d.baro.halted = false) (hboot : d.baro.booted = true) (hwarn : d.therm.warnDue = true)
    (hhot : d.therm.hotDue = false) :
    d.hotOn = ((d.setTherm (fun t => { t with
      warnDue := false, scrubPaused := d.flag Reg.SCRUB_PAUSE && d.flag Reg.WARN })).orBits Reg.WARN_SEEN 1).thermalEvent 576 := by
  simp only [Dev.hotOn, hgoes, hboot, hwarn, Dev.thermalEvent_therm, Dev.orBits_therm, Bool.not_true, Bool.or_self,
    Bool.false_eq_true, if_false]
  exact if_pos (by rw [Dev.setTherm, hhot]; rfl)

/-- R460: HOT_SEEN is set and reported. -/
def Dev.hotSeen (d : Dev) : Dev := ((d.setTherm (fun t => { t with hotDue := false })).orBits Reg.HOT_SEEN 1).thermalEvent 578

theorem Dev.hotSeen_flag (hw : d.paramsWf) : d.hotSeen.flag Reg.HOT = d.flag Reg.HOT := by
  have hset : (d.setTherm (fun t => { t with hotDue := false })).paramsWf := hw
  rw [Dev.flag, Dev.hotSeen, Dev.thermalEvent_get (Dev.orBits_paramsWf _ _ _ _ hset) _ (by decide), Dev.orBits,
    Dev.put_get_of_ne hset (by decide)]
  rfl

/-- R460: the actions of HOT that HOT_ACT chooses, once HOT_SEEN is reported. -/
theorem Dev.hotOn_of_hot (hw : d.paramsWf) (hgoes : d.baro.halted = false) (hboot : d.baro.booted = true)
    (hwarn : d.therm.warnDue = false) (hdue : d.therm.hotDue = true) (hhot : d.flag Reg.HOT = true) :
    let a := d.hotSeen.putFlag Reg.THROTTLED true
    let b := if a.bitOf Reg.HOT_ACT 0 then a.leaveGust else a
    let c := if b.bitOf Reg.HOT_ACT 1 then b.capRate else b
    d.hotOn = c.setTherm (fun t => { t with noChips := c.bitOf Reg.HOT_ACT 2, noTaps := c.bitOf Reg.HOT_ACT 3 }) := by
  have hstill : ¬ (!d.hotSeen.flag Reg.HOT) = true := by rw [Dev.hotSeen_flag hw, hhot]; decide
  simp only [Dev.hotOn, hgoes, hboot, hwarn, hdue, Bool.not_true, Bool.not_false, Bool.or_self, Bool.false_eq_true,
    if_false, if_true]
  exact if_neg hstill

/-! Commits. -/

theorem Dev.tripCommit_of_no_trip (hcan : d.canCommit = true) (htrip : d.therm.tripRec = none) :
    d.tripCommit = d.commitLog.writeReservation := by
  simp only [Dev.tripCommit, hcan, htrip, Bool.not_true, Bool.false_eq_true, if_false]

/-- R466: the trip's entry in the flash, counted there unless it was injected. -/
def Dev.tripStored (d : Dev) (e : LogEntry) : Dev :=
  (d.setBaro (fun b => { b with flash := { b.flash with
    log := trimLog (logInsert e b.flash.log)
    trips := b.flash.trips + (if e.flags.testBit 0 then 0 else 1) } })).setTherm (fun t => { t with tripRec := none })

/-- R466: in TRIPPED the commit of a trip's entry is reported by the next start-up. -/
theorem Dev.tripCommit_of_trip {e : LogEntry} (hcan : d.canCommit = true) (htrip : d.therm.tripRec = some e)
    (hst : d.st = .tripped) :
    d.tripCommit = (((((d.tripStored e).putFlag Reg.TRIP_PENDING false).logOpen 7 581 4).setTherm (fun t => { t with
      commitSeen := true })).commitLog).writeReservation := by
  have hcounts : b2n (!e.flags.testBit 0) = if e.flags.testBit 0 then 0 else 1 := by cases e.flags.testBit 0 <;> rfl
  have htripped : (((d.tripStored e).putFlag Reg.TRIP_PENDING false).logOpen 7 581 4).st = .tripped := by
    rw [Dev.logOpen_st, Dev.putFlag_st, Dev.tripStored, Dev.setTherm_st, Dev.setBaro_st, hst]
  have hlater : ((((d.tripStored e).putFlag Reg.TRIP_PENDING false).logOpen 7 581 4).st == UState.tripped ||
      (((d.tripStored e).putFlag Reg.TRIP_PENDING false).logOpen 7 581 4).st == UState.boot) = true := by rw [htripped]; rfl
  simp only [Dev.tripStored] at hlater ⊢
  simp only [Dev.tripCommit, hcan, htrip, hcounts, Bool.not_true, Bool.false_eq_true, if_false, if_pos hlater]

theorem Dev.logCommit_of_full (hcan : d.canCommit = true) (hfull : 16 ≤ d.baro.logHeld.length) (htrip : d.therm.tripRec = none) :
    d.logCommit = d.commitLog := by
  simp only [Dev.logCommit, hcan, htrip, decide_eq_true hfull, Bool.true_or, Bool.not_true, Option.isSome_none, Bool.or_self,
    Bool.false_eq_true, if_false]

/-! The debugger. -/

theorem Dev.debuggerHalt_of_halt (hgoes : d.baro.halted = false) (hopen : d.flag Reg.DEBUG_OPEN = true) :
    d.debuggerHalt true = (d.setBaro (fun b => { b with halted := true })).freezeAll := by
  simp only [Dev.debuggerHalt, hgoes, hopen, Bool.not_true, Bool.and_false, Bool.or_false, decide_eq_true_eq, Bool.false_eq_true,
    if_false, if_true]

/-- R427: the Barometer goes on with the replies it kept, and with the intake. -/
theorem Dev.debuggerHalt_of_release (hhalted : d.baro.halted = true) :
    let t := (d.setBaro (fun b => { b with halted := false })).freezeAll
    d.debuggerHalt false =
      (t.chan.late.foldl (fun x p => x.finish p.1 p.2) (t.setChan (fun c => { c with late := [] }))).resume := by
  simp only [Dev.debuggerHalt, hhalted, Bool.false_and, Bool.or_false, decide_eq_true_eq, Bool.true_eq_false, Bool.false_eq_true,
    if_false]

end

/-- Settles O24: each step of the Barometer by the lemma of its own; what an event leaves of HOT and of the thermal state decides
that HOT_ON goes on. -/
theorem barometerGoesOn : Obligations.BarometerGoesOn := fun s =>
  ⟨fun _ hv hsampled hlo hhi => next_to_congr s (Dev.diodeSample_of_cool hv hsampled hlo hhi),
    fun hv hsampled => next_to_congr s (Dev.diodeSample_of_none hv hsampled),
    fun hgoes hboot hwarn hhot => next_to_congr s (Dev.hotOn_of_warn hgoes hboot hwarn hhot),
    fun hw hgoes hboot hwarn hdue hhot => next_to_congr s (Dev.hotOn_of_hot hw hgoes hboot hwarn hdue hhot),
    fun hcan htrip => next_to_congr s (Dev.tripCommit_of_no_trip hcan htrip),
    fun _ hcan htrip hst => next_to_congr s (Dev.tripCommit_of_trip hcan htrip hst),
    fun hcan hfull htrip => next_to_congr s (Dev.logCommit_of_full hcan hfull htrip),
    fun hgoes hopen => next_to_congr s (congrArg Dev.resetCheck (Dev.debuggerHalt_of_halt hgoes hopen)),
    fun hhalted => next_to_congr s (congrArg Dev.resetCheck (Dev.debuggerHalt_of_release hhalted))⟩

end Sys2Proof.Machine
end

section
/-!
PROOFS. The configuration fields (R34 to R38, R47): what a write of one sets, what it leaves alone, and what an unmasked vector sends.
-/

namespace Sys2Proof.Machine

/-! The fields. -/

/-- R34 to R38: the host link once a field of configuration space is written, whoever answers; a value that R34 or R35 does not offer
changes nothing. -/
def HostLink.withField (h : HostLink) : ConfigField → HostLink
  | .d0 => { h with d3hot := false }
  | .bar n base => { h with bars := h.bars.set n (base.toNat - base.toNat % barSize (2 * n)) }
  | .aerCorrectable v => { h with aerCorrectable := h.aerCorrectable &&& ~~~v }
  | .aerUncorrectable v => { h with aerUncorrectable := h.aerUncorrectable &&& ~~~v }
  | .memorySpace en => { h with memSpace := en }
  | .maxPayload n => if [128, 256, 512].contains n then { h with maxPayload := n } else h
  | .maxReadRequest n => if [128, 256, 512, 1024, 2048, 4096].contains n then { h with maxReadRequest := n } else h
  | .relaxedOrdering en => { h with relaxedOrdering := en }
  | .noSnoop en => { h with noSnoop := en }
  | .extendedTags en => { h with tagsExt := en }
  | .tags10 en => { h with tags10 := en }
  | .completionTimeout us => if 50 ≤ us && us ≤ 64000000 then { h with cplTimeoutUs := us } else h
  | .msix en mask => { h with msixEnable := en, functionMask := mask }

/-- What no configuration field holds: the negotiated link, the readiness of the function, its tokens and the vectors' table. -/
def HostLink.beyondFields (h : HostLink) : Nat × Nat × Bool × Vector Int 5 × Store :=
  (h.width, h.speed, h.funcReady, h.tokens, h.msixTable)

theorem HostLink.withField_beyondFields (h : HostLink) (f : ConfigField) : (h.withField f).beyondFields = h.beyondFields := by
  have offered (c : Bool) (h' : HostLink) (hsame : h'.beyondFields = h.beyondFields) :
      (if c then h' else h).beyondFields = h.beyondFields := by
    cases c
    · rfl
    · exact hsame
  cases f
  case maxPayload => exact offered _ _ rfl
  case maxReadRequest => exact offered _ _ rfl
  case completionTimeout => exact offered _ _ rfl
  all_goals rfl

/-! CONFIGURATION_WRITE. -/

/-- R47: a host link that is down takes no write. -/
theorem Dev.configWrite_of_down {d : Dev} (hready : d.domainReady 17 = false) (f : ConfigField) : d.configWrite f = d :=
  if_pos (by rw [hready]; rfl)

section
variable {d : Dev} (hready : d.domainReady 17 = true)
include hready

/-- R34: the way back to D0 is always taken. -/
theorem Dev.configWrite_d0 : d.configWrite .d0 = { d with host := d.host.withField .d0 } := if_neg (by rw [hready]; decide)

/-- R47: Configuration Request Retry Status until the function is ready. -/
theorem Dev.configWrite_of_unready {f : ConfigField} (hfunc : d.host.funcReady = false) (hf : f ≠ .d0) :
    d.configWrite f = d.send .retry := by
  have hup : ¬ (!d.domainReady 17) = true := by rw [hready]; decide
  have hretry : (!d.host.funcReady) = true := by rw [hfunc]; rfl
  cases f
  case d0 => exact absurd rfl hf
  all_goals exact (if_neg hup).trans (if_pos hretry)

section
variable (hfunc : d.host.funcReady = true)
include hfunc

/-- R38: a change of MSI-X Enable or Function Mask lets pending messages go. -/
theorem Dev.configWrite_msix (en mask : Bool) :
    d.configWrite (.msix en mask) = ({ d with host := d.host.withField (.msix en mask) } : Dev).sendPending :=
  (if_neg (by rw [hready]; decide)).trans (if_neg (by rw [hfunc]; decide))

/-- R34 to R37: every other field of a ready function is written, and nothing else happens. -/
theorem Dev.configWrite_of_ready {f : ConfigField} (hf : ∀ en mask, f ≠ .msix en mask) :
    d.configWrite f = { d with host := d.host.withField f } := by
  have hup : ¬ (!d.domainReady 17) = true := by rw [hready]; decide
  have hretry : ¬ (!d.host.funcReady) = true := by rw [hfunc]; decide
  have offered (c : Bool) (h : HostLink) :
      (if c then { d with host := h } else d) = { d with host := if c then h else d.host } := by cases c <;> rfl
  cases f
  case msix en mask => exact absurd rfl (hf en mask)
  case d0 => exact if_neg hup
  case maxPayload => exact ((if_neg hup).trans (if_neg hretry)).trans (offered _ _)
  case maxReadRequest => exact ((if_neg hup).trans (if_neg hretry)).trans (offered _ _)
  case completionTimeout => exact ((if_neg hup).trans (if_neg hretry)).trans (offered _ _)
  all_goals exact (if_neg hup).trans (if_neg hretry)

end

end

/-- Settles O17: every field by `HostLink.withField`, with the values of its list taken. -/
theorem configurationWritesAct : Obligations.ConfigurationWritesAct := by
  intro s hready h sets
  refine ⟨next_to_congr s (Dev.configWrite_d0 hready),
    fun f hfunc hf => next_to_congr s (Dev.configWrite_of_unready hready hfunc hf), fun hfunc => ?ready⟩
  case ready =>
    have written (f : ConfigField) {h' : HostLink} (hf : ∀ en mask, f ≠ .msix en mask) (hset : s.dev.host.withField f = h') :
        sets f h' := by
      rw [← hset]
      exact next_to_congr s (Dev.configWrite_of_ready hready hfunc hf)
    refine ⟨fun _ => written _ nofun rfl, fun n base => written _ nofun ?bar, fun _ => written _ nofun rfl,
      fun _ => written _ nofun rfl, fun n hn => written _ nofun (if_pos ?payload), fun n hn => written _ nofun (if_pos ?request),
      fun _ => written _ nofun rfl, fun _ => written _ nofun rfl, fun _ => written _ nofun rfl, fun _ => written _ nofun rfl,
      fun us hlo hhi => written _ nofun (if_pos ?timeout), fun en mask => next_to_congr s (Dev.configWrite_msix hready hfunc en mask)⟩
    case bar => rw [HostLink.withField, ← Nat.div_mul_self_eq_mod_sub_self]
    case payload => simpa using hn
    case request => exact List.contains_iff_mem.2 hn
    case timeout => rw [decide_eq_true hlo, decide_eq_true hhi]; rfl

/-! The frame. -/

/-- R38: pending messages that go out take their pending bits, and nothing else changes. -/
theorem Dev.sendPending_eq (d : Dev) : ∃ pba o, d.sendPending = { d with host := { d.host with pba := pba }, out := o } := by
  refine List.foldlRecOn (motive := fun t : Dev => ∃ pba o, t = { d with host := { d.host with pba := pba }, out := o }) _ _
    ⟨d.host.pba, d.out, rfl⟩ ?_
  rintro t ⟨pba, o, rfl⟩ v -
  exact ⟨_, _, rfl⟩

/-- R34 to R38, R47: a write of a configuration field changes the host link's fields and what is sent. -/
theorem Dev.configWrite_frame (d : Dev) (f : ConfigField) :
    ∃ h o, d.configWrite f = { d with host := h, out := o } ∧ h.beyondFields = d.host.beyondFields := by
  cases hready : d.domainReady 17 with
  | false => exact ⟨d.host, d.out, Dev.configWrite_of_down hready f, rfl⟩
  | true =>
    by_cases hd0 : f = .d0
    · exact ⟨_, d.out, hd0 ▸ Dev.configWrite_d0 hready, HostLink.withField_beyondFields _ _⟩
    cases hfunc : d.host.funcReady with
    | false => exact ⟨d.host, _, Dev.configWrite_of_unready hready hfunc hd0, rfl⟩
    | true =>
      by_cases hmsix : ∃ en mask, f = .msix en mask
      · obtain ⟨en, mask, rfl⟩ := hmsix
        obtain ⟨pba, o, hsent⟩ := ({ d with host := d.host.withField (.msix en mask) } : Dev).sendPending_eq
        exact ⟨_, o, (Dev.configWrite_msix hready hfunc en mask).trans hsent, rfl⟩
      · exact ⟨_, d.out, Dev.configWrite_of_ready hready hfunc fun en mask h => hmsix ⟨en, mask, h⟩,
          HostLink.withField_beyondFields _ _⟩

/-- Settles O48: the frame of `Dev.configWrite`, by what no configuration field holds. -/
theorem configurationWritesKeepTheUnit : Obligations.ConfigurationWritesKeepTheUnit := by
  intro s t f hnext
  obtain ⟨h, o, hwrite, hbeyond⟩ := s.dev.configWrite_frame f
  have hrow : exec (.configurationWrite f) s = .next (s.to { s.dev with host := h, out := o }) := next_to_congr s hwrite
  rw [hrow] at hnext
  cases hnext
  simp only [HostLink.beyondFields, Prod.mk.injEq] at hbeyond
  exact ⟨rfl, hbeyond⟩

end Sys2Proof.Machine
end

section
/-!
PROOFS. The host link's happenings (R43, R45 to R47), and the budget that follows the negotiated link (R43, R44).
-/

namespace Sys2Proof.Machine

/-! What an event leaves of the host link. -/

/-- R491: a flag set and an event raised leave all that reports leave alone. -/
theorem Dev.orBits_raise_still (d : Dev) (f : Fld) (b i : Nat) (o : Occ) : ((d.orBits f b i).raise o).still = d.still :=
  (Dev.raise_tells _ o).1

/-- R37: the budget register reads what the link's width and speed give. -/
theorem Dev.readReg_budget (d : Dev) : (d.readReg 0 0x10).2 = budget d.host.width d.host.speed := rfl

/-- R37, R43: the budget reads the same wherever the link's width and speed are the same. -/
theorem Dev.budget_of_still {d t : Dev} (h : t.still = d.still) :
    budget t.host.width t.host.speed = budget d.host.width d.host.speed := by
  have hlink := congrArg (fun x : HostLink => budget x.width x.speed) (Dev.still_host h)
  exact hlink

/-! The happenings. -/

/-- R45: what a host-link reset takes away before the state may change. -/
def Dev.linkLost (d : Dev) (kind : Nat) : Dev :=
  let a := { d with host := { d.host with linkResets := min 0xFFFF (d.host.linkResets + 1), inReset := true, resetKind := kind } }
  let b := (((a.configDefaults.orphan).dropQueues).clearRoutes.detachAll).disarm
  { b with host := { b.host with d3hot := decide (kind = 4) } }

section
variable {d : Dev}

theorem Dev.hostReset_of_on (kind : Nat) (hon : d.domainOn 17 = true) (hrank : d.outranked 5 = false) :
    d.hostReset kind =
      let t := d.linkLost kind
      if !t.host.autonomous && (t.st == .armed || t.st == .sorting) then t.moveTo .hold 1 else t :=
  if_neg (by rw [hon, hrank]; decide)

section
variable (hready : d.domainReady 17 = true) (hd0 : d.host.d3hot = false)
include hready hd0

theorem Dev.functionReady_of_reset (hreset : d.host.inReset = true) :
    d.functionReady =
      ((({ d with host := { d.host with funcReady := true, inReset := false } } : Dev).orBits Reg.LINK_RESET 1).raise
        { source := 1, data := [(1, d.host.resetKind), (1, d.st.code)] }) :=
  (if_neg (by rw [hready, hd0, hreset]; simp)).trans (if_pos hreset)

theorem Dev.functionReady_of_power_on (hreset : d.host.inReset = false) (hfunc : d.host.funcReady = false) :
    d.functionReady = { d with host := { d.host with funcReady := true } } := by
  have hsame : ({ d.host with funcReady := true } : HostLink) = { d.host with funcReady := true, inReset := false } := by
    rw [← hreset]
  rw [hsame]
  exact (if_neg (by rw [hready, hd0, hreset, hfunc]; decide)).trans (if_neg (by rw [hreset]; decide))

end

theorem Dev.linkRetrain_of_link {width speed : Nat} (hon : d.domainOn 17 = true) (hwidth : width ∈ [1, 4, 8, 16]) (hlow : speed ≠ 0)
    (hhigh : speed ≤ 4) :
    d.linkRetrain width speed =
      ((({ d with host := { d.host with width := width, speed := speed } } : Dev).orBits Reg.LINK_RETRAIN 1).raise
        { source := 2, data := [(1, width), (1, speed), (2, budget width speed)] }) := by
  refine if_neg ?_
  rw [hon, List.contains_iff_mem.2 hwidth]
  simp [hlow, hhigh]

end

/-- Settles O19: each happening by its lemma; what an event leaves of the link decides what it then reads. -/
theorem linkHappeningsAct : Obligations.LinkHappeningsAct := by
  intro s hon d
  refine ⟨?reset, ?ready, fun hready hd0 hreset hfunc => ?powerOn, ?retrain⟩
  case reset =>
    intro kind hrank a b t
    obtain ⟨hst, hauto, hmem, hqueues, hwins, hroutes⟩ := a.linkReset (decide (kind.val = 4))
    exact ⟨next_to_congr s (congrArg Dev.resetCheck (Dev.hostReset_of_on kind hon hrank)), hst, hauto, hmem, hqueues,
      fun w _ => hwins w, hroutes⟩
  case ready =>
    intro hready hd0 hreset t u
    have hstill : u.still = t.still := t.orBits_raise_still _ _ _ _
    have hfunc := congrArg HostLink.funcReady (Dev.still_host hstill)
    exact ⟨next_to_congr s (Dev.functionReady_of_reset hready hd0 hreset), hfunc,
      Dev.raise_latches _ (show 1 < 1024 by decide), hstill⟩
  case powerOn => exact next_to_congr s (Dev.functionReady_of_power_on hready hd0 hreset hfunc)
  case retrain =>
    intro width speed hwidth hspeed t u
    have hstill : u.still = t.still := t.orBits_raise_still _ _ _ _
    have hle : speed.val ≤ 4 := Nat.le_of_lt_succ speed.isLt
    exact ⟨next_to_congr s (Dev.linkRetrain_of_link hon hwidth hspeed hle), u.readReg_budget.trans (Dev.budget_of_still hstill),
      Dev.raise_latches _ (show 2 < 1024 by decide), hstill⟩

/-! The budget (R43, R44). -/

/-- R43: 24 GB/s for sixteen lanes, by the efficiency of the speed in thousandths. -/
theorem budget_of_efficiency {speed e : Nat} (width : Nat) (h : (speed, e) ∈ [(4, 1000), (3, 500), (2, 254), (1, 127)]) :
    24000 * width * e / (16 * 1000) = budget width speed := by
  have hbudget : budget width speed = 1500 * width * e / 1000 := by
    simp only [List.mem_cons, Prod.mk.injEq, List.not_mem_nil, or_false] at h
    rcases h with ⟨rfl, rfl⟩ | ⟨rfl, rfl⟩ | ⟨rfl, rfl⟩ | ⟨rfl, rfl⟩ <;> rfl
  calc 24000 * width * e / (16 * 1000) = 16 * (1500 * width * e) / (16 * 1000) := by ring_nf
    _ = 1500 * width * e / 1000 := Nat.mul_div_mul_left _ _ (by decide)
    _ = budget width speed := hbudget.symm

/-- R44: the unit once each class has its share of a microsecond's budget `b`, and what waited has left. -/
def Dev.metered (d : Dev) (b : Nat) : Dev :=
  let t := { d with host := { d.host with
    tokens := Vector.ofFn (fun i : Fin 5 => ((refillBuckets d.host.tokens.toList [1000, 250, 500, b, b] b)[i.val]?).getD 0) } }
  (((t.drainQueue d.arch.queue.length).drainAll .forecast).drainAll .view).drainAll .tap

/-- R44: the classes are metered against the budget in effect. -/
theorem Dev.refillTokens_eq (d : Dev) : d.refillTokens = d.metered (budget d.host.width d.host.speed) := rfl

/-- Settles O53: an event leaves the link's width and speed, which give the budget that the register reads and the refill shares. -/
theorem budgetFollowsTheLink : Obligations.BudgetFollowsTheLink := by
  intro s t width speed _ hon hwidth hspeed hnext e he b
  have hle : speed.val ≤ 4 := Nat.le_of_lt_succ speed.isLt
  have hrow := next_to_congr s (Dev.linkRetrain_of_link hon hwidth hspeed hle)
  have hnow : budget t.dev.host.width t.dev.host.speed = b := by
    cases hnext.symm.trans hrow
    exact (Dev.budget_of_still (Dev.orBits_raise_still _ _ _ _ _)).trans (budget_of_efficiency width he).symm
  have hrefill : t.dev.refillTokens = t.dev.metered b := by rw [t.dev.refillTokens_eq, hnow]
  exact ⟨t.dev.readReg_budget.trans hnow, next_to_congr t hrefill⟩

end Sys2Proof.Machine
end

section
/-!
PROOFS. The archive goes on (R44, R407, R413, R415, R420): publication, refill, snapshots, chips, and the line store's scrub.
-/

namespace Sys2Proof.Machine

/-! Publication (R407). -/

/-- R39, R40: what has been sent in `a`, and the writes of a record behind it, with the window and the host link as they stand in `d`. -/
def Dev.sendRecord (d : Dev) (w : Nat) (a : Dev) (p : Placed) : Dev :=
  let x := d.win w
  (writePieces d.host.maxPayload p.bytes.length (x.base + p.start % x.size) p.bytes).foldl
    (fun a t => a.send (.write w t.1 t.2 d.host.relaxedOrdering (d.host.noSnoop && x.noSnoop && !x.peer))) a

/-- What is sent while the host link stays the same may be written with that link. -/
theorem Dev.foldl_send_of_host {α : Type} (g : HostLink → α → Outbound) {h : HostLink} (l : List α) {a : Dev} (ha : a.host = h) :
    l.foldl (fun a t => a.send (g a.host t)) a = l.foldl (fun a t => a.send (g h t)) a := by
  induction l generalizing a with
  | nil => rfl
  | cons t l ih =>
    rw [List.foldl_cons, List.foldl_cons, ← ha]
    exact ha ▸ ih (a := a.send (g a.host t)) ha

theorem Dev.writeRecord_eq_sendRecord {d a : Dev} {w : Nat} (p : Placed) (hhost : a.host = d.host) (harch : a.arch = d.arch) :
    a.writeRecord w p = d.sendRecord w a p := by
  have hwin : a.win w = d.win w := by rw [Dev.win, harch, Dev.win]
  have hsends := Dev.foldl_send_of_host (fun h t => .write w t.1 t.2 h.relaxedOrdering (h.noSnoop && (d.win w).noSnoop && !(d.win w).peer))
    (writePieces d.host.maxPayload p.bytes.length ((d.win w).base + p.start % (d.win w).size) p.bytes) hhost
  rw [Dev.writeRecord, hwin, hhost]
  exact hsends

/-- R407: the records published together go out with the window and the host link as publication finds them. -/
theorem Dev.foldl_writeRecord {d : Dev} {w : Nat} (now : List Placed) {a : Dev} (hhost : a.host = d.host) (harch : a.arch = d.arch) :
    now.foldl (fun a p => a.writeRecord w p) a = now.foldl (d.sendRecord w) a := by
  induction now generalizing a with
  | nil => rfl
  | cons p now ih =>
    obtain ⟨o, hsent⟩ := a.writeRecord_sends w p
    rw [List.foldl_cons, List.foldl_cons, ← Dev.writeRecord_eq_sendRecord p hhost harch]
    exact ih (by rw [hsent]; exact hhost) (by rw [hsent]; exact harch)

/-- R407: the window of which a record is published, its write pointer moved past it. -/
theorem Dev.publish_of_next {d : Dev} {w : Nat} {now rest : List Placed} (hopen : d.winOpen w = true)
    (hnext : nextPlaced (d.win w).placed = some (now, rest)) :
    d.publish w =
      let x := d.win w
      let wp := x.wp + (now.map (·.len)).foldl (· + ·) 0
      ((now.foldl (d.sendRecord w) d).setWin w { x with
        wp := wp, placed := rest, live := x.live ++ now.map (fun p => (p.start, p.len)), records := sat32 (x.records + 1) }).send
          (.wp w wp) := by
  simp only [Dev.publish, hopen, hnext, Bool.not_true, Bool.false_eq_true, if_false, Dev.foldl_writeRecord now (d := d) rfl rfl]

/-! Snapshots (R413). -/

section
variable {d : Dev} {r : SnapReq} {rest : List SnapReq} (hsnaps : d.arch.snaps = r :: rest)
include hsnaps

theorem Dev.snapshot_of_off (hoff : d.flag Reg.SNAP_EN = false) : d.snapshot = { d with arch := { d.arch with snaps := rest } } := by
  rw [Dev.snapshot, hsnaps]
  exact if_pos (congrArg Bool.not hoff)

theorem Dev.snapshot_of_on (hen : d.flag Reg.SNAP_EN = true) :
    d.snapshot =
      let t := { d with arch := { d.arch with snaps := rest } }
      t.archive .snap (d.get Reg.SNAP_WINDOW) (t.snapRecord r) := by
  rw [Dev.snapshot, hsnaps]
  exact if_neg (ne_true_of_eq_false (congrArg Bool.not hen))

end

/-! Chips (R415). -/

/-- R415: the object's record, and the notice, where its chip cannot be had. -/
def Dev.chipGone (d : Dev) (x : HeldRec) (v : Nat) : Dev :=
  ((d.objRecord (x.bytes v 2)).chipUnavailable x.seq x.inj).releaseRecords

section
variable {d t a : Dev} {x : HeldRec} {v : Nat} (hdue : d.cls.held.find? (fun y => y.chip && d.chipDue y) = some x)
  (hdigest : d.heldDigest x = (t, some v))
include hdue hdigest

theorem Dev.stageChip_of_no_chip (hchip : (t.dropHeld x).chip x v = (a, none)) : d.stageChip = a.chipGone x v := by
  simp only [Dev.stageChip, hdue, hdigest, hchip]
  rfl

section
variable {bytes : List Byte} (hchip : (t.dropHeld x).chip x v = (a, some bytes)) (hen : a.flag Reg.CHIP_EN = true)
  (hopen : a.winOpen (a.get Reg.CHIP_WINDOW) = true) (hcool : a.therm.noChips = false)
include hchip hen hopen hcool

theorem Dev.stageChip_of_no_budget (hpoor : a.affords .chip bytes.length = false) : d.stageChip = (a.chipGone x v).lostBudget := by
  simp only [Dev.stageChip, hdue, hdigest, hchip, hen, hopen, hcool, hpoor, Bool.and_self, Bool.not_true, Bool.not_false, Bool.or_self,
    Bool.false_eq_true, if_false, if_true]
  rfl

/-- R415: a chip within its class's budget is staged behind its object's record, if its window takes it. -/
theorem Dev.stageChip_of_budget (hrich : a.affords .chip bytes.length = true) :
    d.stageChip =
      let u := (a.objRecord (x.bytes v 1)).stream .chip (a.get Reg.CHIP_WINDOW) bytes
      if u.2 then (u.1.count Reg.CHIPS_WRITTEN).releaseRecords else a.chipGone x v := by
  simp only [Dev.stageChip, hdue, hdigest, hchip, hen, hopen, hcool, hrich, Bool.and_self, Bool.not_true, Bool.or_self,
    Bool.false_eq_true, if_false]
  rcases (a.objRecord (x.bytes v 1)).stream .chip (a.get Reg.CHIP_WINDOW) bytes with ⟨u, _ | _⟩ <;> rfl

end

end

/-! The line store (R420). -/

section
variable {d : Dev} (p : Nat) (hstore : d.domainReady 15 = true) (hport : d.domainReady 16 = true) (hpaused : d.therm.scrubPaused = false)
include hstore hport hpaused

/-- R420: a scrub that goes on notes how far it has come. -/
theorem Dev.scrub_of_clean : d.scrub p none = d.put Reg.SCRUB_PASS (min p 99) := by
  simp only [Dev.scrub, Dev.storeOn, hstore, hport, hpaused, Bool.and_self, Bool.not_true, Bool.or_self, Bool.false_eq_true, if_false]

/-- R420: an error that the scrub found is counted and raised behind its progress. -/
theorem Dev.scrub_of_error (corrected : Bool) (addr : Nat) :
    d.scrub p (some (corrected, addr)) = (d.put Reg.SCRUB_PASS (min p 99)).storeError corrected addr := by
  simp only [Dev.scrub, Dev.storeOn, hstore, hport, hpaused, Bool.and_self, Bool.not_true, Bool.or_self, Bool.false_eq_true, if_false]

end

/-- Settles O30: each step of the archive by its lemma; a publication behind errors is that of O51. -/
theorem archiveGoesOn : Obligations.ArchiveGoesOn := by
  intro s d goes
  refine ⟨?publish, fun w errs => publicationKeepsTheUnit.2 s w errs, next_to_congr s d.refillTokens_eq, ?snapshot, ?chip, ?scrub⟩
  case publish =>
    intro w now rest hopen hnext x wp relaxed snoop sent
    exact next_to_congr s ((congrArg (·.publish w) (d.recordErrors_nil w)).trans (Dev.publish_of_next hopen hnext))
  case snapshot =>
    intro r rest hsnaps t
    exact ⟨fun hoff => next_to_congr s (Dev.snapshot_of_off hsnaps hoff), fun hen => next_to_congr s (Dev.snapshot_of_on hsnaps hen)⟩
  case chip =>
    intro x v hdue hdigest a w u gone
    have hheld : d.heldDigest x = ((d.heldDigest x).1, some v) := Prod.ext rfl hdigest
    refine ⟨fun hnone => ?unchipped, fun bytes hbytes hen hopen hcool => ?chipped⟩
    case unchipped => exact next_to_congr s (Dev.stageChip_of_no_chip hdue hheld (Prod.ext rfl hnone))
    case chipped =>
      have hchip : ((d.heldDigest x).1.dropHeld x).chip x v = (a.1, some bytes) := Prod.ext rfl hbytes
      have staged := Dev.stageChip_of_budget hdue hheld hchip hen hopen hcool
      exact ⟨fun hpoor => next_to_congr s (Dev.stageChip_of_no_budget hdue hheld hchip hen hopen hcool hpoor),
        fun hrich hfull => next_to_congr s ((staged hrich).trans (if_neg (ne_true_of_eq_false hfull))),
        fun hrich hplaced => next_to_congr s ((staged hrich).trans (if_pos hplaced))⟩
  case scrub =>
    intro p hstore hport hpaused
    exact ⟨next_to_congr s (Dev.scrub_of_clean p hstore hport hpaused), fun a =>
      ⟨next_to_congr s (Dev.scrub_of_error p hstore hport hpaused true a.toNat),
        next_to_congr s (Dev.scrub_of_error p hstore hport hpaused false a.toNat)⟩⟩

end Sys2Proof.Machine
end

section
/-!
PROOFS. Entries that do not execute (R35, R52, R54, R55, R62): failed checks, unlisted opcodes, reads that time out, and entries that
are not next.
-/

namespace Sys2Proof.Machine

section
variable {d : Dev} {e : Entry}

/-- R55 step 1: an entry whose ENTRY_CRC fails is turned away, whatever else it holds. -/
theorem Dev.refuses_of_bad_crc (f : Form) (extra : Entry → Dev → Option Nat) (hcrc : e.crcGood f.code = false) :
    d.refuses f extra e = some { status := .checkFail, detail := 1 } := by
  rw [Dev.refuses, hcrc]
  rfl

/-- R55: what step 1 turns away is reported. -/
theorem Dev.refused_of_checkFail (op : Nat) {r : Reply} (h : r.status = .checkFail) :
    d.refused op e r = (d.noteEntryCheck e).turnAway e.sq e.tag.toNat op r := by rw [Dev.refused, if_pos h]

theorem Dev.refused_of_not_checkFail (op : Nat) {r : Reply} (h : r.status ≠ .checkFail) :
    d.refused op e r = d.turnAway e.sq e.tag.toNat op r := by rw [Dev.refused, if_neg h]

/-- R52: an entry that is not the next one fetched changes nothing. -/
theorem Dev.hostCommand_of_not_next (f : Form) (extra : Entry → Dev → Option Nat) (eff : Entry → Dev → Dev × Reply)
    (h : d.nextSq ≠ some e.sq.val) : d.hostCommand f extra eff e = d := by rw [Dev.hostCommand, if_pos h]

/-- R52: of a queue that is fetched from next, no FENCE waits. -/
theorem Dev.fenced_of_nextSq {q : Nat} (hnext : d.nextSq = some q) : (d.sq q).fenced = none := by
  have hfetch := Dev.canFetch_of_nextSq hnext
  rw [Dev.canFetch, Bool.and_eq_true] at hfetch
  exact Option.isNone_iff_eq_none.1 hfetch.2

section
variable (hnext : d.nextSq = some e.sq.val)
include hnext

/-- R55 step 1. -/
theorem Dev.entryCheck_of_bad_crc {opcode : Nat} (hcrc : e.crcGood opcode = false) :
    d.entryCheck opcode e =
      ((d.fetched e.sq).noteEntryCheck e).turnAway e.sq e.tag.toNat 0 { status := .checkFail, detail := 1 } := by
  have hbad := Dev.refuses_of_bad_crc (d := d.fetched e.sq) { code := opcode, managed := false, states := stAll } noCheck hcrc
  rw [Dev.entryCheck, if_neg (ne_true_of_eq_false hcrc), Dev.hostCommand, if_neg (not_not_intro hnext)]
  simp only [hbad]
  exact Dev.refused_of_checkFail _ rfl

/-- R55 step 3. -/
theorem Dev.badOpcode_of_unlisted {opcode : Nat} (hcrc : e.crcGood opcode = true) (hop : opcode ∉ opcodes)
    (htag : e.tag.toNat ∉ (d.fetched e.sq).tagsOut) :
    d.badOpcode opcode e = (d.fetched e.sq).turnAway e.sq e.tag.toNat 0 { status := .badOpcode } := by
  have hunlisted : opcodes.contains opcode = false := by simpa using hop
  have hfree : (d.fetched e.sq).tagsOut.contains e.tag.toNat = false := by simpa using htag
  simp only [Dev.badOpcode, hunlisted, hnext, hcrc, hfree, ne_eq, not_true_eq_false, decide_false, Bool.or_self, Bool.not_true,
    Bool.false_eq_true, if_false]
  exact Dev.refused_of_not_checkFail _ nofun

end

/-- R35: the read of the next entry of a queue times out. -/
theorem Dev.fetchTimeout_of_next {q : Nat} (hnext : d.nextSq = some q) :
    d.fetchTimeout q = (d.setSq q { d.sq q with ready := false, err := true }).noteTimeout q 0xFFFF := by
  rw [Dev.fetchTimeout, if_neg (not_not_intro hnext)]

/-- R35, R58: the buffer of a command that passes the checks times out. -/
theorem Dev.bufferTimeout_of_accepts {f : Form} {check : Entry → Dev → Option Nat} (h : d.Accepts f check e) (hbuf : f.buf = true)
    (hlen : e.bufLen ≠ 0) :
    d.bufferTimeout f check e = ((d.begun f e).noteTimeout e.sq e.tag.toNat).reply f e { status := .timeout } := by
  have hreads : ¬ (!f.buf || decide (e.bufLen = 0)) = true := by
    rw [hbuf, decide_eq_false hlen]; decide
  have hfree : (e.fence && (d.fetched e.sq).busySq e.sq) = false := by
    cases hfence : e.fence
    · rfl
    · rw [Dev.fetched_busySq, h.fence hfence]; rfl
  simp only [Dev.bufferTimeout, if_neg hreads, Dev.fenced_of_nextSq h.next, h.next, h.refuses, hfree, Option.map_none, reduceCtorEq,
    ne_eq, not_true_eq_false, Bool.false_eq_true, if_false]
  rfl

end

/-- Settles O14: each kind of entry by its lemma; FENCE by `Dev.hostCommand_of_fence`. -/
theorem entriesThatDoNotExecute : Obligations.EntriesThatDoNotExecute := by
  intro s e op d
  refine ⟨fun hnext hcrc => ?badCrc, fun hnext hcrc hop htag => ?unlisted, fun q hnext => ?fetch,
    fun f check hform h hbuf hlen => ?buffer, fun hnext hpass hfence hbusy => ?fence, fun hnext => ?other⟩
  case badCrc => exact next_to_congr s (Dev.entryCheck_of_bad_crc hnext hcrc)
  case unlisted => exact next_to_congr s (Dev.badOpcode_of_unlisted hnext hcrc hop htag)
  case fetch => exact next_to_congr s (Dev.fetchTimeout_of_next hnext)
  case buffer =>
    have hrow : s.dev.cplTimeout e.sq (some (op.toNat, e)) = s.dev.bufferTimeout f check e := by
      simp only [Dev.cplTimeout, hform, ne_eq, not_true_eq_false, if_false]
    exact next_to_congr s (hrow.trans (Dev.bufferTimeout_of_accepts h hbuf hlen))
  case fence => exact next_to_congr s (Dev.hostCommand_of_fence effNop hnext hfence hbusy hpass)
  case other => exact next_to_congr s (Dev.hostCommand_of_not_next formNop noCheck effNop hnext)

end Sys2Proof.Machine
end

section
/-!
PROOFS. The host's accesses of any size (R36, R47).
-/

namespace Sys2Proof.Machine

section
variable {d : Dev} {bar off size : Nat} (hon : d.memoryOn = true) (hin : off + size ≤ barSize bar)
include hon hin

/-- R36: an aligned write of one word. -/
theorem Dev.hostWrite_word (v : Nat) (hsize : size = 4) (halign : off % 4 = 0) :
    d.hostWrite bar off size v = d.writeReg bar off (v % 2 ^ 32) := by
  subst hsize
  simp [Dev.hostWrite, Nat.not_lt.2 hin, hon, halign]

/-- R36: an aligned write of two words writes the high one first. -/
theorem Dev.hostWrite_pair {v : Nat} (hsize : size = 8) (halign : off % 8 = 0) (hv : v < 2 ^ 64) :
    d.hostWrite bar off size v = (d.writeReg bar (off + 4) (v / 2 ^ 32)).writeReg bar off (v % 2 ^ 32) := by
  subst hsize
  have hhigh : v / 2 ^ 32 % 2 ^ 32 = v / 2 ^ 32 := Nat.mod_eq_of_lt (Nat.div_lt_of_lt_mul (by omega))
  have hwrites : d.hostWrite bar off 8 v = (d.writeReg bar (off + 4) (v / 2 ^ 32 % 2 ^ 32)).writeReg bar off (v % 2 ^ 32) := by
    simp [Dev.hostWrite, Nat.not_lt.2 hin, hon, halign]
  rw [hwrites, hhigh]

variable (hsize : 0 < size)
include hsize

/-- R36: a write that is neither raises BAR_ACCESS and writes nothing. -/
theorem Dev.hostWrite_of_misaligned (v : Nat) (hword : ¬ (size = 4 ∧ off % 4 = 0)) (hpair : ¬ (size = 8 ∧ off % 8 = 0)) :
    d.hostWrite bar off size v = d.noteBarAccess bar off := by
  simp [Dev.hostWrite, Nat.not_lt.2 hin, hon, hword, hpair, Nat.ne_of_gt hsize]

/-- R36: a read within a word. -/
theorem Dev.hostRead_within (hword : off % 4 + size ≤ 4) :
    d.hostRead bar off size =
      (d.readReg bar (off - off % 4)).1.send
        (.read ((d.readReg bar (off - off % 4)).2 >>> (8 * (off % 4)) % 2 ^ (8 * size))) := by
  have hpair : size ≠ 8 := by omega
  simp [Dev.hostRead, Nat.not_lt.2 hin, hon, hword, hpair, Nat.ne_of_gt hsize]

/-- R36: a read that crosses a word, and is no aligned one of two, raises BAR_ACCESS and returns 0. -/
theorem Dev.hostRead_of_crossing (hword : 4 < off % 4 + size) (hpair : ¬ (size = 8 ∧ off % 8 = 0)) :
    d.hostRead bar off size = (d.noteBarAccess bar off).send (.read 0) := by
  simp [Dev.hostRead, Nat.not_lt.2 hin, hon, Nat.not_le.2 hword, hpair, Nat.ne_of_gt hsize]

end

/-- Settles O16: each access by its size and alignment. -/
theorem accessesAct : Obligations.AccessesAct := by
  intro s bar off size v hon hsize hin d
  refine ⟨fun h4 halign => ⟨next_to_congr s ?_, next_to_congr s ?_⟩, fun h8 halign => ⟨next_to_congr s ?_, next_to_congr s ?_⟩,
    fun hword hpair => next_to_congr s (Dev.hostWrite_of_misaligned hon hin hsize _ hword hpair),
    fun hword => next_to_congr s (Dev.hostRead_within hon hin hsize hword),
    fun hword hpair => next_to_congr s (Dev.hostRead_of_crossing hon hin hsize hword hpair)⟩
  · exact Dev.hostWrite_word hon hin _ h4 halign
  · exact Dev.hostWrite_word (size := 4) hon (by omega) _ rfl halign
  · exact Dev.hostWrite_pair hon hin h8 halign v.isLt
  · exact Dev.hostWrite_pair (size := 8) hon (by omega) rfl halign v.isLt

end Sys2Proof.Machine
end

section
/-!
PROOFS. What a write or a read of a register's row does (R38, R47, R49 to R53, R340, R349, R353, R408, R494 to R497).
-/

namespace Sys2Proof.Machine

/-! The words that the rows of queues and of the ring write (R49, R497). -/

theorem b2n_le (b : Bool) : b2n b ≤ 1 := by cases b <;> decide

theorem b2n_eq_one (b : Bool) : decide (b2n b = 1) = b := by cases b <;> rfl

/-- R49, R497: the control word of a submission queue, or of the event ring, which names no completion queue. -/
def ctlWord (en : Bool) (cqid size : Nat) : Nat := 2 ^ 31 * b2n en + 2 ^ 16 * cqid + size

/-- R49: the control word of a completion queue. -/
def cqWord (en irq : Bool) (vector size : Nat) : Nat := 2 ^ 31 * b2n en + 2 ^ 30 * b2n irq + 2 ^ 24 * vector + size

section
variable {link size : Nat} (en irq : Bool)

theorem ctlWord_fields (hlink : link < 64) (hsize : size < 4096) :
    let v := ctlWord en link size
    v < 2 ^ 32 ∧ v.testBit 31 = en ∧ v / 2 ^ 16 % 64 = link ∧ v % 4096 = size := by
  have hen := b2n_le en
  refine ⟨by unfold ctlWord; omega, ?_, by unfold ctlWord; omega, by unfold ctlWord; omega⟩
  rw [Nat.testBit_eq_decide_div_mod_eq, show ctlWord en link size / 2 ^ 31 % 2 = b2n en by unfold ctlWord; omega, b2n_eq_one]

theorem cqWord_fields (hlink : link < 64) (hsize : size < 4096) :
    let v := cqWord en irq link size
    v < 2 ^ 32 ∧ v.testBit 31 = en ∧ v.testBit 30 = irq ∧ v / 2 ^ 24 % 64 = link ∧ v % 4096 = size := by
  have hen := b2n_le en
  have hirq := b2n_le irq
  refine ⟨by unfold cqWord; omega, ?_, ?_, by unfold cqWord; omega, by unfold cqWord; omega⟩
  · rw [Nat.testBit_eq_decide_div_mod_eq, show cqWord en irq link size / 2 ^ 31 % 2 = b2n en by unfold cqWord; omega, b2n_eq_one]
  · rw [Nat.testBit_eq_decide_div_mod_eq, show cqWord en irq link size / 2 ^ 30 % 2 = b2n irq by unfold cqWord; omega, b2n_eq_one]

end

/-! Queues (R50). -/

section
variable {d : Dev} {n v : Nat}

theorem Dev.writeSqCtl_of_enable (hoff : (d.sq n).enable = false) (hen : v.testBit 31 = true) (hsize : v % 4096 ≠ 0) {q : Nat}
    (hq : (if n % 64 = 0 then 0 else v / 2 ^ 16 % 64) = q) (hready : (d.cq q).ready = true) :
    d.writeSqCtl n v =
      (if q = d.cqOf n then d else d.keepCq n).setSq n { d.sq n with
        size := v % 4096, cqid := q, enable := true, ready := true, err := false, head := 0, tail := 0 } := by
  have hkept : ((if q = d.cqOf n then d else d.keepCq n).cq q).ready = true := by
    split
    · exact hready
    · exact hready
  simp only [Dev.writeSqCtl, hoff, hen, hq, hsize, hkept, Bool.not_true, Bool.false_eq_true, if_false]

theorem Dev.writeSqCtl_of_disable (hon : (d.sq n).enable = true) (hdis : v.testBit 31 = false) :
    d.writeSqCtl n v = d.setSq n { d.sq n with enable := false, ready := false } := by
  simp only [Dev.writeSqCtl, hon, hdis, Bool.false_eq_true, if_false, if_true]

theorem Dev.writeCqCtl_of_enable (hoff : (d.cq n).enable = false) (hen : v.testBit 31 = true) (hsize : v % 4096 ≠ 0) :
    d.writeCqCtl n v =
      ((d.setCq n { d.cq n with
        irqEn := v.testBit 30, vector := v / 2 ^ 24 % 64, size := v % 4096, enable := true, ready := true, err := false, head := 0
        tail := 0, phase := true, waiting := [] }).evalVectors []).deliverAborted := by
  simp only [Dev.writeCqCtl, hoff, hen, hsize, Bool.not_true, Bool.false_eq_true, if_false]

theorem Dev.writeCqCtl_of_disable (hon : (d.cq n).enable = true) (hdis : v.testBit 31 = false) (hfree : d.cqInUse n = false)
    (hirq : v.testBit 30 = (d.cq n).irqEn) (hvector : v / 2 ^ 24 % 64 = (d.cq n).vector) :
    d.writeCqCtl n v = ((d.setCq n { d.cq n with enable := false, ready := false }).evalVectors []).deliverAborted := by
  simp only [Dev.writeCqCtl, hon, hdis, hfree, hirq, hvector, Bool.or_self, Bool.false_eq_true, if_false, if_true]

end

/-! Events (R494 to R497). -/

section
variable {d : Dev}

/-- RING_EN of a route is as written (R494). -/
theorem routeWord_getLsbD_zero (v : Word) : (BitVec.ofNat 32 (v.toNat &&& 0xBF000007)).getLsbD 0 = v.getLsbD 0 := by
  simp

/-- R494: the unit with a source's route written. -/
def Dev.withRoute (d : Dev) (n : Nat) (v : Word) : Dev :=
  { d with ev := { d.ev with route := Store.put routeDefault d.ev.route n (BitVec.ofNat 32 (v.toNat &&& 0xBF000007)) } }

section
variable {n : Nat} {v : Word} (hn : isSource n = true)
include hn

/-- R494, R495: a route written by which its source does not newly join the ring with an event that stands. -/
theorem Dev.writeRoute_of_stays (hstays : ((d.route n).getLsbD 0 || !v.getLsbD 0 || !d.ev.cause.getLsbD n) = true) :
    d.writeRoute n v.toNat =
      (d.withRoute n v).evalVectors (d.vectorsOf n (n + 1) ++ (d.withRoute n v).vectorsOf n (n + 1)) := by
  have hjoins : (!(d.route n).getLsbD 0 && v.getLsbD 0 && d.ev.cause.getLsbD n) = false := by
    rw [← Bool.not_eq_true', ← hstays]
    simp only [Bool.not_and, Bool.not_not]
  simp only [Dev.writeRoute, hn, routeWord_getLsbD_zero, hjoins, Bool.not_true, Bool.false_eq_true, if_false]
  rfl

/-- R496: a source that joins the ring with an event that stands is replayed. -/
theorem Dev.writeRoute_of_joins (hold : (d.route n).getLsbD 0 = false) (hnew : v.getLsbD 0 = true)
    (hcause : d.ev.cause.getLsbD n = true) :
    d.writeRoute n v.toNat =
      let t := (d.withRoute n v).replay n
      t.evalVectors (d.vectorsOf n (n + 1) ++ t.vectorsOf n (n + 1)) := by
  simp only [Dev.writeRoute, hn, routeWord_getLsbD_zero, hold, hnew, hcause, Bool.not_true, Bool.not_false, Bool.and_self,
    Bool.false_eq_true, if_false, if_true]
  rfl

end

theorem Dev.writeEvrCtl_of_enable {v : Nat} (hoff : d.ev.ringEnable = false) (hen : v.testBit 31 = true) (hsize : v % 4096 ≠ 0) :
    d.writeEvrCtl v = { d with ev := { d.ev with
      ringSize := v % 4096, ringEnable := true, ringReady := true, ringErr := false, ringTail := 0, ringHead := 0
      ringPhase := true } } := by
  simp only [Dev.writeEvrCtl, hoff, hen, hsize, Bool.not_true, Bool.false_eq_true, if_false]

theorem Dev.writeEvrCtl_of_disable {v : Nat} (hon : d.ev.ringEnable = true) (hdis : v.testBit 31 = false) :
    d.writeEvrCtl v = { d with ev := { d.ev with ringEnable := false, ringReady := false } } := by
  simp only [Dev.writeEvrCtl, hon, hdis, Bool.false_eq_true, if_false, if_true]

theorem Dev.writeEvrHead_of_le {v : Nat} (hon : d.ev.ringEnable = true) (hv : v % 4096 ≤ d.ev.ringSize) :
    d.writeEvrHead v = { d with ev := { d.ev with ringHead := v % 4096 } } := by
  simp only [Dev.writeEvrHead, hon, Nat.not_lt.2 hv, Bool.not_true, decide_false, Bool.or_self, Bool.false_eq_true, if_false]

end

/-! The read pointer of a window (R408). -/

@[simp] theorem Dev.setWin_setWin (d : Dev) (w : Nat) (x y : Win) : (d.setWin w x).setWin w y = d.setWin w y := by
  simp only [Dev.setWin, Vector.set_set]

@[simp] theorem Dev.setWin_win_same (d : Dev) (w : Nat) (x : Win) : (d.setWin w x).win w = x := by rw [Dev.setWin_win, if_pos rfl]

theorem Dev.writeRp_of_between {d : Dev} {w v : Nat} (hattached : (d.win w).attached = true) (hlo : (d.win w).rp ≤ v)
    (hhi : v ≤ (d.win w).wp) :
    d.writeRp w v = d.setWin w { d.win w with rp := v, live := (d.win w).live.filter (fun r => decide (v < r.1 + r.2)) } := by
  simp only [Dev.writeRp, hattached, hlo, hhi, decide_true, Bool.and_self, Bool.not_true, Bool.false_eq_true, if_false, if_true]

/-! Captures (R353), and the FIFOs of engines (R340). -/

@[simp] theorem Dev.setTmr_setTmr (d : Dev) (t : Nat) (x y : Timer) : (d.setTmr t x).setTmr t y = d.setTmr t y := by
  simp only [Dev.setTmr, Vector.set_set]

@[simp] theorem Dev.setTmr_tmr_same (d : Dev) (t : Nat) (x : Timer) : (d.setTmr t x).tmr t = x := by
  simp only [Dev.setTmr, Dev.tmr, Vector.getElem_set_self]

theorem Dev.readCapLo_of_none {d : Dev} {t : Nat} (hnext : (d.tmr t).capNext = none) :
    d.readCapLo t =
      (d.setTmr t { d.tmr t with pairOpen := true, capHi := (d.tmr t).cap / 2 ^ 32 }, (d.tmr t).cap % 2 ^ 32) := by
  simp only [Dev.readCapLo, hnext]

/-- R353: a read of the pair returns the capture whole, and closes the pair. -/
theorem Dev.readCapHi_of_capLo {d : Dev} {t : Nat} (hnext : (d.tmr t).capNext = none) :
    (d.readCapLo t).1.readCapHi t =
      (d.setTmr t { d.tmr t with pairOpen := false, newCap := false, capHi := (d.tmr t).cap / 2 ^ 32 }, (d.tmr t).cap / 2 ^ 32) := by
  simp only [Dev.readCapLo_of_none hnext, Dev.readCapHi, Dev.setTmr_tmr_same, Dev.setTmr_setTmr, if_true]

section
variable {d : Dev} {n : Nat} (hfree : d.valveEngine n = false)
include hfree

theorem Dev.pullData_of_room (v : Word) (hroom : (d.eng n).pull.length < 8) :
    d.pullData n v = d.setEng n { d.eng n with pull := (d.eng n).pull ++ [v] } := by
  simp only [Dev.pullData, hfree, Nat.not_le.2 hroom, Bool.false_eq_true, if_false]

theorem Dev.pullData_of_full (v : Word) (hfull : 8 ≤ (d.eng n).pull.length) :
    d.pullData n v = d.setEng n { d.eng n with pullOvf := true } := by
  simp only [Dev.pullData, hfree, hfull, Bool.false_eq_true, if_false, if_true]

theorem Dev.pushData_of_cons {w : Word} {rest : List Word} (hpush : (d.eng n).push = w :: rest) :
    d.pushData n = (d.setEng n { d.eng n with push := rest }, w.toNat) := by
  simp only [Dev.pushData, hfree, hpush, Bool.false_eq_true, if_false]

theorem Dev.pushData_of_nil (hpush : (d.eng n).push = []) :
    d.pushData n = (d.setEng n { d.eng n with pushUnder := true }, 0) := by
  simp only [Dev.pushData, hfree, hpush, Bool.false_eq_true, if_false]

end

/-! The rows by their registers (R36, R49, R340, R356, R423, R497, R506). -/

section
variable (d : Dev) {n : Nat} (v : Nat)

theorem Dev.writeBar0_cqCtl (h : n < 64) : d.writeBar0 (0x2018 + 64 * n) v = d.writeCqCtl n v := by
  have hn : (0x2018 + 64 * n - 0x2000) / 64 = n := by omega
  have hoff : (0x2018 + 64 * n) % 64 = 0x18 := by omega
  rw [Dev.writeBar0, if_neg (by omega), if_neg (by simp; omega), if_pos (by simp; omega), hn, hoff]
  rfl

theorem Dev.writeBar2_pull (h : n < 16) : d.writeBar2 (0x1000 + 256 * n) v = d.pullData n (BitVec.ofNat 32 v) := by
  have hn : (0x1000 + 256 * n - 0x1000) / 256 = n := by omega
  have hoff : (0x1000 + 256 * n) % 256 = 0 := by omega
  rw [Dev.writeBar2, if_neg (by omega), if_pos (by simp; omega), hn, hoff]
  rfl

theorem Dev.readReg_push (h : n < 16) : d.readReg 2 (0x1004 + 256 * n) = d.pushData n := by
  have hn : (0x1004 + 256 * n - 0x1000) / 256 = n := by omega
  have hoff : (0x1004 + 256 * n) % 256 = 4 := by omega
  rw [Dev.readReg, Dev.readBar2, if_neg (by omega), if_neg (by omega), if_pos (by simp; omega), hn, hoff]
  rfl

theorem Dev.readReg_timer {off : Nat} (h : n < 32) (hoff : off < 64) : d.readReg 2 (64 * n + off) = d.readTimer n off := by
  have hn : (64 * n + off) / 64 = n := by omega
  have hmod : (64 * n + off) % 64 = off := by omega
  rw [Dev.readReg, Dev.readBar2, if_pos (by omega), hn, hmod]

end

section
variable {d : Dev} (hon : d.memoryOn = true)
include hon

theorem Dev.sqTail_row (n : Fin 64) (v : Word) : d.sqTail n v.toNat = (d.writeSqTail n v.toNat).resetCheck := by
  rw [Dev.sqTail, Dev.hostWrite_bar0 _ hon (by omega) (by omega), Nat.mod_eq_of_lt v.isLt, d.writeBar0_sqTail _ n.isLt]

theorem Dev.cqHead_row (n : Fin 64) (v : Word) : d.cqHead n v.toNat = (d.writeCqHead n v.toNat).resetCheck := by
  rw [Dev.cqHead, Dev.hostWrite_bar0 _ hon (by omega) (by omega), Nat.mod_eq_of_lt v.isLt, d.writeBar0_cqHead _ n.isLt]

theorem Dev.sqEnable_row (n cqid : Fin 64) (size : BitVec 12) :
    d.sqEnable n cqid size.toNat = (d.writeSqCtl n (ctlWord true cqid size.toNat)).resetCheck := by
  have hword : 2 ^ 31 + 2 ^ 16 * (cqid.val % 64) + size.toNat % 4096 = ctlWord true cqid size.toNat := by
    rw [Nat.mod_eq_of_lt cqid.isLt, Nat.mod_eq_of_lt size.isLt]; rfl
  rw [Dev.sqEnable, hword, Dev.hostWrite_bar0 _ hon (by omega) (by omega), d.writeBar0_sqCtl _ n.isLt,
    Nat.mod_eq_of_lt (ctlWord_fields true cqid.isLt size.isLt).1]

theorem Dev.sqDisable_row (n : Fin 64) (hcq : d.cqOf n < 64) (hsize : (d.sq n).size < 4096) :
    d.sqDisable n = (d.writeSqCtl n (ctlWord false (d.cqOf n) (d.sq n).size)).resetCheck := by
  have hword : 2 ^ 16 * d.cqOf n + (d.sq n).size = ctlWord false (d.cqOf n) (d.sq n).size := by simp [ctlWord, b2n]
  rw [Dev.sqDisable, hword, Dev.hostWrite_bar0 _ hon (by omega) (by omega), d.writeBar0_sqCtl _ n.isLt,
    Nat.mod_eq_of_lt (ctlWord_fields false hcq hsize).1]

theorem Dev.cqEnable_row (n vector : Fin 64) (irqEn : Bool) (size : BitVec 12) :
    d.cqEnable n irqEn vector size.toNat = (d.writeCqCtl n (cqWord true irqEn vector size.toNat)).resetCheck := by
  have hword : 2 ^ 31 + 2 ^ 30 * b2n irqEn + 2 ^ 24 * (vector.val % 64) + size.toNat % 4096 = cqWord true irqEn vector size.toNat := by
    rw [Nat.mod_eq_of_lt vector.isLt, Nat.mod_eq_of_lt size.isLt]; rfl
  rw [Dev.cqEnable, hword, Dev.hostWrite_bar0 _ hon (by omega) (by omega), d.writeBar0_cqCtl _ n.isLt,
    Nat.mod_eq_of_lt (cqWord_fields true irqEn vector.isLt size.isLt).1]

theorem Dev.cqDisable_row (n : Fin 64) (hvector : (d.cq n).vector < 64) (hsize : (d.cq n).size < 4096) :
    d.cqDisable n = (d.writeCqCtl n (cqWord false (d.cq n).irqEn (d.cq n).vector (d.cq n).size)).resetCheck := by
  have hword : 2 ^ 30 * b2n (d.cq n).irqEn + 2 ^ 24 * (d.cq n).vector + (d.cq n).size =
      cqWord false (d.cq n).irqEn (d.cq n).vector (d.cq n).size := by
    simp only [cqWord, b2n, Bool.false_eq_true, if_false, Nat.mul_zero, Nat.zero_add]
  rw [Dev.cqDisable, hword, Dev.hostWrite_bar0 _ hon (by omega) (by omega), d.writeBar0_cqCtl _ n.isLt,
    Nat.mod_eq_of_lt (cqWord_fields false (d.cq n).irqEn hvector hsize).1]

theorem Dev.hostCause_row (g : Fin 32) (v : Word) : d.hostCause g v.toNat = (d.writeCause g v.toNat).resetCheck := by
  rw [Dev.hostCause, Dev.hostWrite_bar0 _ hon (by omega) (by omega), Nat.mod_eq_of_lt v.isLt,
    d.writeBar0_events _ (by omega) (by omega), d.writeEvents_cause _ g.isLt]

theorem Dev.hostMask_row (g : Fin 32) (v : Word) : d.hostMask g v.toNat = (d.writeMask g v.toNat).resetCheck := by
  rw [Dev.hostMask, Dev.hostWrite_bar0 _ hon (by omega) (by omega), Nat.mod_eq_of_lt v.isLt,
    d.writeBar0_events _ (by omega) (by omega), d.writeEvents_mask _ g.isLt]

theorem Dev.hostRoute_row (n : Fin 1024) (v : Word) : d.hostRoute n v.toNat = (d.writeRoute n v.toNat).resetCheck := by
  rw [Dev.hostRoute, Dev.hostWrite_bar0 _ hon (by omega) (by omega), Nat.mod_eq_of_lt v.isLt,
    d.writeBar0_events _ (by omega) (by omega), d.writeEvents_route _ n.isLt]

theorem Dev.evrEnable_row (en : Bool) (size : BitVec 12) :
    d.evrEnable en size.toNat = (d.writeEvrCtl (ctlWord en 0 size.toNat)).resetCheck := by
  have hword : 2 ^ 31 * b2n en + size.toNat % 4096 = ctlWord en 0 size.toNat := by rw [Nat.mod_eq_of_lt size.isLt]; rfl
  rw [Dev.evrEnable, hword, Dev.hostWrite_bar0 _ hon (by decide) (by decide), d.writeBar0_events _ (by decide) (by decide),
    Nat.mod_eq_of_lt (ctlWord_fields en (by decide) size.isLt).1]
  rfl

theorem Dev.evrHead_row (v : Word) : d.evrHead v.toNat = (d.writeEvrHead v.toNat).resetCheck := by
  rw [Dev.evrHead, Dev.hostWrite_bar0 _ hon (by decide) (by decide), Nat.mod_eq_of_lt v.isLt,
    d.writeBar0_events _ (by decide) (by decide)]
  rfl

/-- R408: RP_LO alone, with no high half held for it. -/
theorem Dev.hostRp_row_low (w : Fin 64) (v : Nat) (hheld : (d.win w).rpHeld = 0) :
    d.hostRp w false v = (d.writeRp w (v % 2 ^ 32)).resetCheck := by
  have hlow : d.writeWin w 8 (v % 2 ^ 32) = d.writeRp w (v % 2 ^ 32) := by
    change d.writeRp w (v % 2 ^ 32 % 2 ^ 32 + (d.win w).rpHeld * 2 ^ 32) = _
    rw [hheld, Nat.mod_mod, Nat.zero_mul, Nat.add_zero]
  rw [Dev.hostRp, if_neg (by decide), Dev.hostWrite_bar0 _ hon (by omega) (by omega),
    show 0x8008 + 64 * w.val = 0x8000 + 64 * w.val + 8 by omega, d.writeBar0_win _ w.isLt (by decide), hlow]

/-- R408: both halves in one write, the high one first. -/
theorem Dev.hostRp_row_both (hreset : d.power.resetAsk = none) (w : Fin 64) (v : BitVec 64) :
    d.hostRp w true v.toNat = ((d.setWin w { d.win w with rpHeld := v.toNat / 2 ^ 32 }).writeRp w v.toNat).resetCheck := by
  have hhi : v.toNat / 2 ^ 32 % 2 ^ 32 = v.toNat / 2 ^ 32 := Nat.mod_eq_of_lt (Nat.div_lt_of_lt_mul (by have := v.isLt; omega))
  have hhigh : d.writeWin w 0xC (v.toNat / 2 ^ 32) = d.setWin w { d.win w with rpHeld := v.toNat / 2 ^ 32 } := by
    change d.setWin w { d.win w with rpHeld := v.toNat / 2 ^ 32 % 2 ^ 32 } = _
    rw [hhi]
  have hsame (x : Win) : (d.setWin w x).resetCheck = d.setWin w x := Dev.resetCheck_of_none hreset
  have hlow (t : Dev) (hheld : (t.win w).rpHeld = v.toNat / 2 ^ 32) : t.writeWin w 8 (v.toNat % 2 ^ 32) = t.writeRp w v.toNat := by
    change t.writeRp w (v.toNat % 2 ^ 32 % 2 ^ 32 + (t.win w).rpHeld * 2 ^ 32) = _
    rw [hheld, Nat.mod_mod, Nat.mod_add_div']
  rw [Dev.hostRp, if_pos rfl, Dev.hostWrite_bar0_both _ hon (by omega) (by omega), hhi,
    show 0x8008 + 64 * w.val + 4 = 0x8000 + 64 * w.val + 0xC by omega,
    show 0x8008 + 64 * w.val = 0x8000 + 64 * w.val + 8 by omega, d.writeBar0_win _ w.isLt (by decide), hhigh,
    hsame, Dev.writeBar0_win _ _ w.isLt (by decide), hlow _ (by rw [Dev.setWin_win_same])]

theorem Dev.hostArm_row (t : Fin 32) : d.hostArm t = (d.arm t).resetCheck := by
  rw [Dev.hostArm, Dev.hostWrite_ctrl hon t (by decide), if_pos (by decide)]

theorem Dev.hostPull_row (n : Fin 16) (v : Word) : d.hostPull n v.toNat = (d.pullData n v).resetCheck := by
  rw [Dev.hostPull, Dev.hostWrite_bar2 _ hon (by omega) (by omega), Nat.mod_eq_of_lt v.isLt, d.writeBar2_pull _ n.isLt,
    BitVec.ofNat_toNat, BitVec.setWidth_eq]

/-- R36: a read of one word answers it. -/
theorem Dev.hostRead_word {bar off : Nat} (halign : off % 4 = 0) (hin : off + 4 ≤ barSize bar) :
    d.hostRead bar off 4 = (d.readReg bar off).1.send (.read ((d.readReg bar off).2 % 2 ^ 32)) := by
  rw [Dev.hostRead_within hon hin (by decide) (by omega), halign]
  rfl

/-- R36: an aligned read of two words answers both, the low one read first. -/
theorem Dev.hostRead_pair {bar off : Nat} (halign : off % 8 = 0) (hin : off + 8 ≤ barSize bar) :
    d.hostRead bar off 8 =
      let lo := d.readReg bar off
      let hi := lo.1.readReg bar (off + 4)
      hi.1.send (.read (lo.2 + hi.2 * 2 ^ 32)) := by
  simp [Dev.hostRead, Nat.not_lt.2 hin, hon, halign]

theorem Dev.hostPush_row (n : Fin 16) : d.hostPush n = (d.pushData n).1.send (.read ((d.pushData n).2 % 2 ^ 32)) := by
  have hin : 0x1004 + 256 * n.val + 4 ≤ barSize 2 := by change _ ≤ 2 ^ 16; omega
  rw [Dev.hostPush, Dev.hostRead_word hon (by omega) hin, d.readReg_push n.isLt]

section
variable (t : Fin 32) (hnext : (d.tmr t).capNext = none)
include hnext

theorem Dev.hostCap_row_low :
    d.hostCap t false =
      (d.setTmr t { d.tmr t with pairOpen := true, capHi := (d.tmr t).cap / 2 ^ 32 }).send (.read ((d.tmr t).cap % 2 ^ 32)) := by
  have hin : 64 * t.val + 8 + 4 ≤ barSize 2 := by change _ ≤ 2 ^ 16; omega
  have hlow : d.readReg 2 (64 * t + 8) = d.readCapLo t := d.readReg_timer t.isLt (by decide)
  rw [Dev.hostCap, if_neg (by decide), Dev.hostRead_word hon (by omega) hin, hlow, Dev.readCapLo_of_none hnext]
  simp only [Nat.mod_mod]

theorem Dev.hostCap_row_both :
    d.hostCap t true =
      (d.setTmr t { d.tmr t with pairOpen := false, newCap := false, capHi := (d.tmr t).cap / 2 ^ 32 }).send
        (.read (d.tmr t).cap) := by
  have hin : 64 * t.val + 8 + 8 ≤ barSize 2 := by change _ ≤ 2 ^ 16; omega
  have hlow : d.readReg 2 (64 * t + 8) = d.readCapLo t := d.readReg_timer t.isLt (by decide)
  have hhigh (u : Dev) : u.readReg 2 (64 * t + 8 + 4) = u.readCapHi t := u.readReg_timer (off := 0xC) t.isLt (by decide)
  rw [Dev.hostCap, if_pos rfl, Dev.hostRead_pair hon (by omega) hin]
  simp only [hlow, hhigh, Dev.readCapHi_of_capLo hnext]
  rw [Dev.readCapLo_of_none hnext, Nat.mod_add_div']

end

/-- R38: a vector is unmasked by its Vector Control word. -/
theorem Dev.msixUnmask_row (v : Fin 64) :
    d.msixUnmask (some v.val) =
      ({ d with host := { d.host with
        msixTable := Store.put msixDefault d.host.msixTable (4 * v + 3) 0 } } : Dev).sendPending.resetCheck := by
  have hin : 16 * v.val + 12 + 4 ≤ barSize 4 := by change _ ≤ 2 ^ 13; omega
  have hk : (16 * v.val + 12) / 4 = 4 * v + 3 := by omega
  have hmask : (4 * v.val + 3) % 4 = 3 := by omega
  have hreg : d.writeReg 4 (16 * v + 12) (0 % 2 ^ 32) = (d.writeBar4 (16 * v + 12) 0).resetCheck := rfl
  rw [Dev.msixUnmask, Dev.hostWrite_word hon hin 0 rfl (by omega), hreg, Dev.writeBar4, if_pos (by omega), hk, Dev.writeMsix, hmask]
  rfl

end

/-- Settles O15: each row by the write or the read of its register, and that by the register's rule. -/
theorem registerRowsAct : Obligations.RegisterRowsAct := by
  intro s hon d wrote
  have row {t t' : Dev} (hrow : t = t'.resetCheck) {u : Dev} (hrule : t' = u) :
      Host.Outcome.next (φ := Fault) (ρ := Refusal) (s.to t) = .next (s.to u.resetCheck) :=
    next_to_congr s (hrow.trans (congrArg Dev.resetCheck hrule))
  refine ⟨?sqTail, ?sqTailAbove, ?cqHead, ?sqEnable, ?sqDisable, ?cqEnable, ?cqDisable, ?cause, ?mask, ?route, ?routeJoins, ?evrEnable,
    ?evrDisable, ?evrHead, ?rpLow, ?rpBoth, ?arm, ?stopRunning, ?stop, ?pull, ?pullFull, ?push, ?pushEmpty, ?capLow, ?capBoth,
    ?unmaskVector, ?unmaskFunction⟩
  case sqTail =>
    intro n v hen hv
    refine row (Dev.sqTail_row hon n v) ?_
    rw [Dev.writeSqTail_eq, if_neg (ne_false_of_eq_true hen), if_neg (Nat.not_lt.2 hv)]
  case sqTailAbove =>
    intro n v hen hv
    refine row (Dev.sqTail_row hon n v) ?_
    rw [Dev.writeSqTail_eq, if_neg (ne_false_of_eq_true hen), if_pos hv]
  case cqHead =>
    intro n v hen hv
    refine row (Dev.cqHead_row hon n v) ?_
    rw [Dev.writeCqHead_eq, if_neg (ne_false_of_eq_true hen), if_neg (Nat.not_lt.2 hv)]
  case sqEnable =>
    intro n cqid size hoff hsize q hready a
    obtain ⟨-, hset, hlink, hlen⟩ := ctlWord_fields true cqid.isLt size.isLt
    have hq : (if n.val % 64 = 0 then 0 else ctlWord true cqid size.toNat / 2 ^ 16 % 64) = q := by rw [Nat.mod_eq_of_lt n.isLt, hlink]
    have hne : ctlWord true cqid size.toNat % 4096 ≠ 0 := by
      rw [hlen]; exact fun h => hsize (BitVec.eq_of_toNat_eq h)
    refine row (Dev.sqEnable_row hon n cqid size) ?_
    rw [Dev.writeSqCtl_of_enable hoff hset hne hq hready, hlen]
  case sqDisable =>
    intro n hen hsize hcq
    have hlink : d.cqOf n < 64 := by
      unfold Dev.cqOf
      split
      · decide
      · exact hcq
    exact row (Dev.sqDisable_row hon n hlink hsize) (Dev.writeSqCtl_of_disable hen (ctlWord_fields false hlink hsize).2.1)
  case cqEnable =>
    intro n irqEn vector size hoff hsize
    obtain ⟨-, hset, hirq, hvector, hlen⟩ := cqWord_fields true irqEn vector.isLt size.isLt
    have hne : cqWord true irqEn vector size.toNat % 4096 ≠ 0 := by
      rw [hlen]; exact fun h => hsize (BitVec.eq_of_toNat_eq h)
    refine row (Dev.cqEnable_row hon n vector irqEn size) ?_
    rw [Dev.writeCqCtl_of_enable hoff hset hne, hirq, hvector, hlen]
  case cqDisable =>
    intro n hen hfree hsize hvec
    obtain ⟨-, hclear, hirq, hvector, -⟩ := cqWord_fields false (d.cq n).irqEn hvec hsize
    exact row (Dev.cqDisable_row hon n hvec hsize) (Dev.writeCqCtl_of_disable hen hclear hfree hirq hvector)
  case cause =>
    intro g v keep
    refine row (Dev.hostCause_row hon g v) ?_
    simp only [Dev.writeCause, Nat.mod_eq_of_lt v.isLt]
    rfl
  case mask => exact fun g v => row (Dev.hostMask_row hon g v) rfl
  case route =>
    intro n v hn hstays t
    exact row (Dev.hostRoute_row hon n v) (Dev.writeRoute_of_stays hn hstays)
  case routeJoins =>
    intro n v hn hold hnew hcause t
    exact row (Dev.hostRoute_row hon n v) (Dev.writeRoute_of_joins hn hold hnew hcause)
  case evrEnable =>
    intro size hoff hsize
    obtain ⟨-, hset, -, hlen⟩ := ctlWord_fields true (link := 0) (by decide) size.isLt
    have hne : ctlWord true 0 size.toNat % 4096 ≠ 0 := by
      rw [hlen]; exact fun h => hsize (BitVec.eq_of_toNat_eq h)
    refine row (Dev.evrEnable_row hon true size) ?_
    rw [Dev.writeEvrCtl_of_enable hoff hset hne, hlen]
  case evrDisable =>
    intro size hen
    exact row (Dev.evrEnable_row hon false size)
      (Dev.writeEvrCtl_of_disable hen (ctlWord_fields false (link := 0) (by decide) size.isLt).2.1)
  case evrHead => exact fun v hen hv => row (Dev.evrHead_row hon v) (Dev.writeEvrHead_of_le hen hv)
  case rpLow =>
    exact fun w v hattached hheld hlo hhi => row (Dev.hostRp_row_low hon w v.toNat hheld) (Dev.writeRp_of_between hattached hlo hhi)
  case rpBoth =>
    intro w v hreset hattached hlo hhi
    refine next_to_congr s ((Dev.hostRp_row_both hon hreset w v).trans ?_)
    rw [Dev.writeRp_of_between (by rw [Dev.setWin_win_same]; exact hattached) (by rw [Dev.setWin_win_same]; exact hlo)
      (by rw [Dev.setWin_win_same]; exact hhi), Dev.setWin_win_same, Dev.setWin_setWin]
    exact Dev.resetCheck_of_none hreset
  case arm => exact fun t => next_to_congr s (Dev.hostArm_row hon t)
  case stopRunning =>
    exact fun t hrun hend hA hB => row (Dev.hostStop_eq hon t) ((Dev.stopTimer_of_nothing_due hend hA hB).trans (if_pos hrun))
  case stop => exact fun t => next_to_congr s (Dev.hostStop_eq hon t)
  case pull => exact fun n v hfree hroom => row (Dev.hostPull_row hon n v) (Dev.pullData_of_room hfree v hroom)
  case pullFull => exact fun n v hfree hfull => row (Dev.hostPull_row hon n v) (Dev.pullData_of_full hfree v hfull)
  case push =>
    intro n w rest hfree hpush
    refine next_to_congr s ((Dev.hostPush_row hon n).trans ?_)
    rw [Dev.pushData_of_cons hfree hpush, Nat.mod_eq_of_lt w.isLt]
  case pushEmpty =>
    intro n hfree hpush
    refine next_to_congr s ((Dev.hostPush_row hon n).trans ?_)
    rw [Dev.pushData_of_nil hfree hpush]
    rfl
  case capLow => exact fun t hnext => next_to_congr s (Dev.hostCap_row_low hon t hnext)
  case capBoth => exact fun t hnext => next_to_congr s (Dev.hostCap_row_both hon t hnext)
  case unmaskVector => exact fun v => next_to_congr s (Dev.msixUnmask_row hon v)
  case unmaskFunction => exact fun hfunc => next_to_congr s (if_pos hfunc)

end Sys2Proof.Machine
end
